-- ==== Sys2Proof/Word.lean ====
section
/-! DEFINITION. The byte of the serial line and the sixteen-member store used for the terminals. -/

namespace Sys2Proof

/-- One byte of a frame (R196). -/
abbrev Byte := BitVec 8

/-- A terminal, T1 to T16 counted from 0 (R15). -/
abbrev Terminal := Fin 16

/-- The sixteen terminals in order. -/
def allTerminals : List Terminal :=
  [0, 1, 2, 3, 4, 5, 6, 7, 8, 9, 10, 11, 12, 13, 14, 15]

end Sys2Proof
end

