-- ==== Sys2Proof/Syntax.lean ====
section
/-! DEFINITION. The commands of the part: one constructor of Instr per row of spec/opcode_table.json. The operands of a
request are the fields of its frame as R209 encodes them, valid or not: what the owning unit refuses it refuses itself. -/

namespace Sys2Proof

/-- The six analog channels, in the order of the parameter table (R205, R211). -/
inductive AnalogChannel where
  | dischargeP | intakeP | mainHead | reserveHead | pumpTemp | supplyV
deriving DecidableEq, Repr

/-- The three pulse channels (R8). -/
inductive PulseChannel where
  | engineSpeed | roadSpeed | dischargeFlow
deriving DecidableEq, Repr

/-- The two tanks (R125). -/
inductive Tank where
  | main | reserve
deriving DecidableEq, Repr

/-- The five valve roles, in the order of the parameter table (R166, R211). -/
inductive ValveRole where
  | mainValve | reserveValve | mainFill | reserveFill | recircValve
deriving DecidableEq, Repr

/-- The outputs that take pulses (R179). -/
inductive PulsedOutput where
  | primer
  | general (t : Terminal)
deriving DecidableEq, Repr

/-- One value for each analog channel. -/
structure Analog (α : Type) where
  dischargeP : α
  intakeP : α
  mainHead : α
  reserveHead : α
  pumpTemp : α
  supplyV : α
deriving DecidableEq, Repr

/-- One record of a WRITE_ASSIGNMENT request (R20), as its bytes give it. -/
structure AssignmentField where
  terminal : Byte
  role : Byte
  polarity : Byte
  q : Byte
  safePresent : Byte
  safe : Byte
deriving DecidableEq, Repr

/-- One point of a WRITE_VOLUME_TABLE request (R128): level in mm, volume in L. -/
structure PointField where
  level : BitVec 16
  volume : BitVec 16
deriving DecidableEq, Repr

/-- The 39 request kinds of R210 with the parameter fields each carries. -/
inductive Request where
  | identify
  | readMeasurements
  | readStatus (sect : Byte)
  | readInputs
  | readTotals
  | readTanks
  | readTrend (start : BitVec 16) (count : Byte)
  | readLinkErrors
  | readParam (ident : Byte)
  | writeParam (ident : Byte) (value : BitVec 32)
  | writeAssignment (records : List AssignmentField)
  | readAssignment
  | writeLockout (kind : Byte) (modes : Byte) (conds : BitVec 24)
  | readLockout (kind : Byte)
  | writeVolumeTable (tank : Byte) (points : List PointField)
  | readVolumeTable (tank : Byte)
  | panelFlags (clears : List Byte) (sets : List Byte)
  | engage (kind : Byte)
  | disengage
  | changeKind (kind : Byte)
  | clearFault (target : Byte)
  | setPressure (value : BitVec 16)
  | setSpeed (value : BitVec 16)
  | step (direction : Byte)
  | idle
  | setSupply (source : Byte)
  | useReserve
  | fillStart (tank : Byte)
  | fillStop (tank : Byte)
  | recirc (setting : Byte)
  | silence
  | setOutput (terminal : Byte) (setting : Byte)
  | pulseOutput (terminal : Byte) (duration : BitVec 16)
  | resetTotal (totaliser : Byte)
  | setTime (value : BitVec 32) (resolution : Byte)
  | noticeMask (disables : List Byte) (enables : List Byte)
  | holdReports
  | resumeReports
  | resetPart
deriving DecidableEq, Repr

/-- The commands: the 84 rows of the table. A request row carries the tag of its frame (R196). -/
inductive Instr where
  | powerOn
  | powerLoss
  | partRestart
  | frameComplete (check : Byte)
  | framingError
  | frameGapTimeout
  | frameSent
  | supervisionTimeout
  | analogScan (codes : Analog (BitVec 12))
  | inputSample (levels : BitVec 16)
  | pulseInput (ch : PulseChannel)
  | gateComplete
  | governorPeriod
  | timeTagTick
  | trendSample
  | riseTimerExpiry
  | fallTimerExpiry
  | recoveryTimerExpiry
  | tripTimerExpiry
  | voltageTimerExpiry
  | precheckTimerExpiry
  | feedbackTimerExpiry
  | driveSettleExpiry
  | rampTimerExpiry
  | releaseTimerExpiry
  | startUpWindowExpiry
  | pulseLossTimerExpiry
  | attemptTimerExpiry
  | primeTimerExpiry
  | primerLimitExpiry
  | switchSettleExpiry
  | lossTimerExpiry
  | limiterActivityExpiry
  | tankSettleExpiry (tank : Tank)
  | cycleTimerExpiry (tank : Tank)
  | safetyTimerExpiry (tank : Tank)
  | hotTimerExpiry
  | noFlowTimerExpiry
  | flowReturnExpiry
  | dryRunTimerExpiry
  | travelTimerExpiry (valve : ValveRole)
  | retryPauseExpiry (valve : ValveRole)
  | pulseCountdownEnd (output : PulsedOutput)
  | alarmBlink
  | identify (tag : Byte)
  | readMeasurements (tag : Byte)
  | readStatus (tag : Byte) (sect : Byte)
  | readInputs (tag : Byte)
  | readTotals (tag : Byte)
  | readTanks (tag : Byte)
  | readTrend (tag : Byte) (start : BitVec 16) (count : Byte)
  | readLinkErrors (tag : Byte)
  | readParam (tag : Byte) (ident : Byte)
  | writeParam (tag : Byte) (ident : Byte) (value : BitVec 32)
  | writeAssignment (tag : Byte) (records : List AssignmentField)
  | readAssignment (tag : Byte)
  | writeLockout (tag : Byte) (kind : Byte) (modes : Byte) (conds : BitVec 24)
  | readLockout (tag : Byte) (kind : Byte)
  | writeVolumeTable (tag : Byte) (tank : Byte) (points : List PointField)
  | readVolumeTable (tag : Byte) (tank : Byte)
  | panelFlags (tag : Byte) (clears : List Byte) (sets : List Byte)
  | engage (tag : Byte) (kind : Byte)
  | disengage (tag : Byte)
  | changeKind (tag : Byte) (kind : Byte)
  | clearFault (tag : Byte) (target : Byte)
  | setPressure (tag : Byte) (value : BitVec 16)
  | setSpeed (tag : Byte) (value : BitVec 16)
  | step (tag : Byte) (direction : Byte)
  | idle (tag : Byte)
  | setSupply (tag : Byte) (source : Byte)
  | useReserve (tag : Byte)
  | fillStart (tag : Byte) (tank : Byte)
  | fillStop (tag : Byte) (tank : Byte)
  | recirc (tag : Byte) (setting : Byte)
  | silence (tag : Byte)
  | setOutput (tag : Byte) (terminal : Byte) (setting : Byte)
  | pulseOutput (tag : Byte) (terminal : Byte) (duration : BitVec 16)
  | resetTotal (tag : Byte) (totaliser : Byte)
  | setTime (tag : Byte) (value : BitVec 32) (resolution : Byte)
  | noticeMask (tag : Byte) (disables : List Byte) (enables : List Byte)
  | holdReports (tag : Byte)
  | resumeReports (tag : Byte)
  | resetPart (tag : Byte)
  | byteReceived (b : Byte)
deriving DecidableEq, Repr

/-- The request a request row carries, with the tag of its frame; none for an event row. -/
def Instr.request? : Instr → Option (Byte × Request)
  | .identify tag => some (tag, .identify)
  | .readMeasurements tag => some (tag, .readMeasurements)
  | .readStatus tag n => some (tag, .readStatus n)
  | .readInputs tag => some (tag, .readInputs)
  | .readTotals tag => some (tag, .readTotals)
  | .readTanks tag => some (tag, .readTanks)
  | .readTrend tag f n => some (tag, .readTrend f n)
  | .readLinkErrors tag => some (tag, .readLinkErrors)
  | .readParam tag n => some (tag, .readParam n)
  | .writeParam tag n v => some (tag, .writeParam n v)
  | .writeAssignment tag rs => some (tag, .writeAssignment rs)
  | .readAssignment tag => some (tag, .readAssignment)
  | .writeLockout tag k ms cs => some (tag, .writeLockout k ms cs)
  | .readLockout tag k => some (tag, .readLockout k)
  | .writeVolumeTable tag t ps => some (tag, .writeVolumeTable t ps)
  | .readVolumeTable tag t => some (tag, .readVolumeTable t)
  | .panelFlags tag cs ss => some (tag, .panelFlags cs ss)
  | .engage tag k => some (tag, .engage k)
  | .disengage tag => some (tag, .disengage)
  | .changeKind tag k => some (tag, .changeKind k)
  | .clearFault tag x => some (tag, .clearFault x)
  | .setPressure tag v => some (tag, .setPressure v)
  | .setSpeed tag v => some (tag, .setSpeed v)
  | .step tag d => some (tag, .step d)
  | .idle tag => some (tag, .idle)
  | .setSupply tag x => some (tag, .setSupply x)
  | .useReserve tag => some (tag, .useReserve)
  | .fillStart tag t => some (tag, .fillStart t)
  | .fillStop tag t => some (tag, .fillStop t)
  | .recirc tag x => some (tag, .recirc x)
  | .silence tag => some (tag, .silence)
  | .setOutput tag t x => some (tag, .setOutput t x)
  | .pulseOutput tag t n => some (tag, .pulseOutput t n)
  | .resetTotal tag x => some (tag, .resetTotal x)
  | .setTime tag v r => some (tag, .setTime v r)
  | .noticeMask tag ds es => some (tag, .noticeMask ds es)
  | .holdReports tag => some (tag, .holdReports)
  | .resumeReports tag => some (tag, .resumeReports)
  | .resetPart tag => some (tag, .resetPart)
  | .powerOn | .powerLoss | .partRestart | .frameComplete _ | .framingError | .frameGapTimeout | .frameSent
  | .supervisionTimeout | .analogScan _ | .inputSample _ | .pulseInput _ | .gateComplete | .governorPeriod
  | .timeTagTick | .trendSample | .riseTimerExpiry | .fallTimerExpiry | .recoveryTimerExpiry | .tripTimerExpiry
  | .voltageTimerExpiry | .precheckTimerExpiry | .feedbackTimerExpiry | .driveSettleExpiry | .rampTimerExpiry
  | .releaseTimerExpiry | .startUpWindowExpiry | .pulseLossTimerExpiry | .attemptTimerExpiry | .primeTimerExpiry
  | .primerLimitExpiry | .switchSettleExpiry | .lossTimerExpiry | .limiterActivityExpiry | .tankSettleExpiry _
  | .cycleTimerExpiry _ | .safetyTimerExpiry _ | .hotTimerExpiry | .noFlowTimerExpiry | .flowReturnExpiry
  | .dryRunTimerExpiry | .travelTimerExpiry _ | .retryPauseExpiry _ | .pulseCountdownEnd _ | .alarmBlink
  | .byteReceived _ => none

end Sys2Proof
end

