-- ==== Sys2Proof/WellFormed.lean ====
section
/-! DEFINITION. Which commands can exist: the fields of a request fit the 253 parameter bytes of one frame (R196), each
list counted by one byte (R209). Every other operand is bounded by its type. -/

namespace Sys2Proof

/-- The greatest number of parameter bytes of a frame (R196). -/
def maxParams : Nat := 253

/-- How many parameter bytes a request's fields take under R209. -/
def Request.size : Request → Nat
  | .readStatus _ | .readParam _ | .readLockout _ | .readVolumeTable _ | .engage _ | .changeKind _ | .clearFault _
  | .step _ | .setSupply _ | .fillStart _ | .fillStop _ | .recirc _ | .resetTotal _ => 1
  | .setPressure _ | .setSpeed _ | .setOutput _ _ => 2
  | .readTrend _ _ | .pulseOutput _ _ => 3
  | .writeParam _ _ | .writeLockout _ _ _ | .setTime _ _ => 5
  | .writeAssignment rs => 1 + 6 * rs.length
  | .writeVolumeTable _ ps => 2 + 4 * ps.length
  | .panelFlags cs ss => 2 + (cs.length + ss.length)
  | .noticeMask ds es => 2 + (ds.length + es.length)
  | .identify | .readMeasurements | .readInputs | .readTotals | .readTanks | .readLinkErrors | .readAssignment
  | .disengage | .idle | .useReserve | .silence | .holdReports | .resumeReports | .resetPart => 0

/-- A request one frame can carry. -/
def Request.wellFormed (r : Request) : Bool := r.size ≤ maxParams

/-- A command that can reach the part. -/
def Instr.wellFormed (i : Instr) : Bool :=
  match i.request? with
  | some (_, r) => r.wellFormed
  | none => true

end Sys2Proof
end

