-- ==== Sys2Proof/Decode.lean ====
section
/-! DEFINITION. Reading commands: decodeTableWord over the table's bits (the table gives none), and the parameter bytes of
the 39 request kinds both ways (R200, R209, R210). -/

namespace Sys2Proof

/-- The command a word spells by the table's bits: no row of spec/opcode_table.json carries bits, so none. -/
def decodeTableWord (_nbits _w : Nat) : Option Instr := none

/-! ### The parameter bytes of a request (R209) -/

/-- Two bytes, most significant first. -/
def bytes16 (x : BitVec 16) : List Byte := [x.extractLsb' 8 8, x.extractLsb' 0 8]

/-- Three bytes, most significant first. -/
def bytes24 (x : BitVec 24) : List Byte := [x.extractLsb' 16 8, x.extractLsb' 8 8, x.extractLsb' 0 8]

/-- Four bytes, most significant first. -/
def bytes32 (x : BitVec 32) : List Byte :=
  [x.extractLsb' 24 8, x.extractLsb' 16 8, x.extractLsb' 8 8, x.extractLsb' 0 8]

/-- A list's count byte. -/
def countByte (n : Nat) : Byte := BitVec.ofNat 8 n

/-- A list of one-byte members. -/
def listBytes (l : List Byte) : List Byte := countByte l.length :: l

/-- A record of a WRITE_ASSIGNMENT request. -/
def assignmentBytes (r : AssignmentField) : List Byte := [r.terminal, r.role, r.polarity, r.q, r.safePresent, r.safe]

/-- A point of a WRITE_VOLUME_TABLE request. -/
def pointBytes (p : PointField) : List Byte := bytes16 p.level ++ bytes16 p.volume

/-- The kind code of a request (R210). -/
def Request.code : Request → Byte
  | .identify => 1
  | .readMeasurements => 2
  | .readStatus _ => 3
  | .readInputs => 4
  | .readTotals => 5
  | .readTanks => 6
  | .readTrend _ _ => 7
  | .readLinkErrors => 8
  | .readParam _ => 9
  | .writeParam _ _ => 10
  | .writeAssignment _ => 11
  | .readAssignment => 12
  | .writeLockout _ _ _ => 13
  | .readLockout _ => 14
  | .writeVolumeTable _ _ => 15
  | .readVolumeTable _ => 16
  | .panelFlags _ _ => 17
  | .engage _ => 18
  | .disengage => 19
  | .changeKind _ => 20
  | .clearFault _ => 21
  | .setPressure _ => 22
  | .setSpeed _ => 23
  | .step _ => 24
  | .idle => 25
  | .setSupply _ => 26
  | .useReserve => 27
  | .fillStart _ => 28
  | .fillStop _ => 29
  | .recirc _ => 30
  | .silence => 31
  | .setOutput _ _ => 32
  | .pulseOutput _ _ => 33
  | .resetTotal _ => 34
  | .setTime _ _ => 35
  | .noticeMask _ _ => 36
  | .holdReports => 37
  | .resumeReports => 38
  | .resetPart => 39

/-- The parameter bytes of a request (R209). -/
def Request.params : Request → List Byte
  | .readStatus x | .readParam x | .readLockout x | .readVolumeTable x | .engage x | .changeKind x | .clearFault x
  | .step x | .setSupply x | .fillStart x | .fillStop x | .recirc x | .resetTotal x => [x]
  | .setPressure v | .setSpeed v => bytes16 v
  | .readTrend start n => bytes16 start ++ [n]
  | .writeParam n v => n :: bytes32 v
  | .writeAssignment rs => countByte rs.length :: rs.flatMap assignmentBytes
  | .writeLockout k ms cs => k :: ms :: bytes24 cs
  | .writeVolumeTable t ps => t :: countByte ps.length :: ps.flatMap pointBytes
  | .panelFlags cs ss => listBytes cs ++ listBytes ss
  | .setOutput t x => [t, x]
  | .pulseOutput t n => t :: bytes16 n
  | .setTime v r => bytes32 v ++ [r]
  | .noticeMask ds es => listBytes ds ++ listBytes es
  | .identify | .readMeasurements | .readInputs | .readTotals | .readTanks | .readLinkErrors | .readAssignment
  | .disengage | .idle | .useReserve | .silence | .holdReports | .resumeReports | .resetPart => []

/-! ### Reading a request (R200) -/

/-- What a taken frame's kind and parameters say (R200). -/
inductive Parsed where
  | unknownKind
  | badLength
  | request (r : Request)
deriving DecidableEq, Repr

/-- A request if the bytes agree with its kind, or a bad length. -/
def Parsed.ofOption : Option Request → Parsed
  | some r => .request r
  | none => .badLength

/-- No parameters. -/
def parseNone (r : Request) : List Byte → Option Request
  | [] => some r
  | _ => none

/-- One byte. -/
def parseOne (f : Byte → Request) : List Byte → Option Request
  | [a] => some (f a)
  | _ => none

/-- Two bytes. -/
def parseTwo (f : Byte → Byte → Request) : List Byte → Option Request
  | [a, b] => some (f a b)
  | _ => none

/-- A two-byte number. -/
def parseWord (f : BitVec 16 → Request) : List Byte → Option Request
  | [a, b] => some (f (a ++ b))
  | _ => none

/-- A byte and a two-byte number. -/
def parseByteWord (f : Byte → BitVec 16 → Request) : List Byte → Option Request
  | [a, b, c] => some (f a (b ++ c))
  | _ => none

/-- A two-byte number and a byte. -/
def parseWordByte (f : BitVec 16 → Byte → Request) : List Byte → Option Request
  | [a, b, c] => some (f (a ++ b) c)
  | _ => none

/-- A byte and a four-byte number. -/
def parseByteLong (f : Byte → BitVec 32 → Request) : List Byte → Option Request
  | [a, b, c, d, e] => some (f a (b ++ c ++ d ++ e))
  | _ => none

/-- A four-byte number and a byte. -/
def parseLongByte (f : BitVec 32 → Byte → Request) : List Byte → Option Request
  | [a, b, c, d, e] => some (f (a ++ b ++ c ++ d) e)
  | _ => none

/-- A guarded kind, a set of modes and a set of conditions (R43). -/
def parseLockout : List Byte → Option Request
  | [k, ms, a, b, c] => some (.writeLockout k ms (a ++ b ++ c))
  | _ => none

/-- The records of a WRITE_ASSIGNMENT request. -/
def parseRecords : List Byte → Option (List AssignmentField)
  | [] => some []
  | t :: r :: p :: q :: x :: y :: rest => (parseRecords rest).map (⟨t, r, p, q, x, y⟩ :: ·)
  | _ => none

/-- The points of a WRITE_VOLUME_TABLE request. -/
def parsePoints : List Byte → Option (List PointField)
  | [] => some []
  | a :: b :: c :: d :: rest => (parsePoints rest).map (⟨a ++ b, c ++ d⟩ :: ·)
  | _ => none

/-- A list as long as its count byte states. -/
def ofCount {α : Type} (n : Byte) (l : Option (List α)) : Option (List α) :=
  l.filter fun x => x.length == n.toNat

/-- WRITE_ASSIGNMENT (R20). -/
def parseAssignment : List Byte → Option Request
  | n :: rest => (ofCount n (parseRecords rest)).map .writeAssignment
  | [] => none

/-- WRITE_VOLUME_TABLE (R128). -/
def parseTable : List Byte → Option Request
  | t :: n :: rest => (ofCount n (parsePoints rest)).map (.writeVolumeTable t)
  | _ => none

/-- The second of two lists. -/
def parseSecond (f : List Byte → Request) : List Byte → Option Request
  | n :: rest => if rest.length = n.toNat then some (f rest) else none
  | [] => none

/-- Two lists of one-byte members (R36, R186). -/
def parseLists (f : List Byte → List Byte → Request) : List Byte → Option Request
  | n :: rest => if n.toNat ≤ rest.length then parseSecond (f (rest.take n.toNat)) (rest.drop n.toNat) else none
  | [] => none

/-- A taken frame's kind and parameters read (R200): a kind that is none of the 39 comes before its length. -/
def parseRequest (kind : Byte) (ps : List Byte) : Parsed :=
  match kind.toNat with
  | 1 => .ofOption (parseNone .identify ps)
  | 2 => .ofOption (parseNone .readMeasurements ps)
  | 3 => .ofOption (parseOne .readStatus ps)
  | 4 => .ofOption (parseNone .readInputs ps)
  | 5 => .ofOption (parseNone .readTotals ps)
  | 6 => .ofOption (parseNone .readTanks ps)
  | 7 => .ofOption (parseWordByte .readTrend ps)
  | 8 => .ofOption (parseNone .readLinkErrors ps)
  | 9 => .ofOption (parseOne .readParam ps)
  | 10 => .ofOption (parseByteLong .writeParam ps)
  | 11 => .ofOption (parseAssignment ps)
  | 12 => .ofOption (parseNone .readAssignment ps)
  | 13 => .ofOption (parseLockout ps)
  | 14 => .ofOption (parseOne .readLockout ps)
  | 15 => .ofOption (parseTable ps)
  | 16 => .ofOption (parseOne .readVolumeTable ps)
  | 17 => .ofOption (parseLists .panelFlags ps)
  | 18 => .ofOption (parseOne .engage ps)
  | 19 => .ofOption (parseNone .disengage ps)
  | 20 => .ofOption (parseOne .changeKind ps)
  | 21 => .ofOption (parseOne .clearFault ps)
  | 22 => .ofOption (parseWord .setPressure ps)
  | 23 => .ofOption (parseWord .setSpeed ps)
  | 24 => .ofOption (parseOne .step ps)
  | 25 => .ofOption (parseNone .idle ps)
  | 26 => .ofOption (parseOne .setSupply ps)
  | 27 => .ofOption (parseNone .useReserve ps)
  | 28 => .ofOption (parseOne .fillStart ps)
  | 29 => .ofOption (parseOne .fillStop ps)
  | 30 => .ofOption (parseOne .recirc ps)
  | 31 => .ofOption (parseNone .silence ps)
  | 32 => .ofOption (parseTwo .setOutput ps)
  | 33 => .ofOption (parseByteWord .pulseOutput ps)
  | 34 => .ofOption (parseOne .resetTotal ps)
  | 35 => .ofOption (parseLongByte .setTime ps)
  | 36 => .ofOption (parseLists .noticeMask ps)
  | 37 => .ofOption (parseNone .holdReports ps)
  | 38 => .ofOption (parseNone .resumeReports ps)
  | 39 => .ofOption (parseNone .resetPart ps)
  | _ => .unknownKind

end Sys2Proof
end

