-- ==== Sys2Proof/Config.lean ====
section
/-! DEFINITION. The free values of the model: what the spec leaves open and the part goes on after. The fixed tables of the
part stand in Machine/Tables.lean. -/

namespace Sys2Proof

/-- The free choices of the n-th command (log entry 5): the keys by which units that act "in either order" are put in
order, and the values the spec gives no number for. It has no body, so nothing can be proved of what it holds. -/
opaque Config.freeChoices : Nat → List Nat

end Sys2Proof
end

