-- ==== Sys2Proof/Machine/Names.lean ====
section
/-! DEFINITION. The names the spec draws its states, causes, roles and kinds from, each type in the order in which the rule
that defines it first names them: a name's code on the line is that position (R209, R211). -/

namespace Sys2Proof.Machine

/-- Channel health (R4). -/
inductive Health where
  | ok | stale | failed
deriving DecidableEq, Repr

/-- Terminal roles, in the order of the role table of chapter 1. -/
inductive Role where
  | parkBrake | neutral | rollSelect | panelStop | ptoFb | mainValveFb | reserveValveFb | recircFb | generalIn
  | ptoClutch | mainValve | reserveValve | mainFill | reserveFill | recircValve | primer | alarm | generalOut
deriving DecidableEq, Repr

/-- Terminal polarity (R15). -/
inductive Polarity where
  | activeHigh | activeLow
deriving DecidableEq, Repr

/-- Safe states (R15, R181). -/
inductive SafeState where
  | hold | off | on
deriving DecidableEq, Repr

/-- Operating modes, by their codes (R200). -/
inductive OpMode where
  | road | pumpStationary | pumpRoll | rollOverspeed | motionTrip
deriving DecidableEq, Repr

/-- Causes of MODE_CHANGED (R33). -/
inductive ModeCause where
  | ptoEngaged | changeKind | moving | parkBrake | neutral | overspeed | speedRecovered | overspeedTrip | ptoReleased
deriving DecidableEq, Repr

/-- The 19 conditions in listing order (R37). -/
inductive Condition where
  | parkBrakeSet | inNeutral | still | rollSelected | engineAtIdle | voltageOk | supplyIsTank | tankAvailable
  | noPtoFault | noDryRun | stopClear | panelFlag (n : Fin 8)
deriving DecidableEq, Repr

/-- The ten guarded kinds in the order of R40. -/
inductive GuardedKind where
  | engageStationary | engageRoll | changeToRoll | changeToStationary | raiseSetpoint | supplyHydrant | supplyDraft
  | useReserve | fillStart | generalOutput
deriving DecidableEq, Repr

/-- PTO states (R47). -/
inductive PtoState where
  | disengaged | precheck | shifting | settle | engaged | rampdown | releasing | fault
deriving DecidableEq, Repr

/-- Engagement kinds (R47). -/
inductive Kind where
  | stationary | roll
deriving DecidableEq, Repr

/-- How an engagement or a valve's arrival was confirmed (R47, R166). -/
inductive Confirmation where
  | confirmed | unconfirmed
deriving DecidableEq, Repr

/-- Release causes (R47). -/
inductive ReleaseCause where
  | operator | rollDeselect | motion | overheatIdle | panelStop | conditions
deriving DecidableEq, Repr

/-- Drive fault causes (R47). -/
inductive DriveFault where
  | noFeedback | lostFeedback | stuck | stuckAtStart
deriving DecidableEq, Repr

/-- Causes of ENGAGE_ABORTED (R67). -/
inductive AbortCause where
  | engineSpeed | conditions | operator | panelStop | motion | rollDeselect | overheatIdle
deriving DecidableEq, Repr

/-- Override kinds, highest rank first (R85). -/
inductive OverrideKind where
  | sensorFallback | priming | switchover
deriving DecidableEq, Repr

/-- A governor mode with its setpoint: kPa in PRESSURE, rpm in SPEED, none in IDLE (R69). -/
inductive Setting where
  | idle
  | pressure (kPa : Nat)
  | speed (rpm : Nat)
deriving DecidableEq, Repr

/-- The governing source (R69, R211). -/
inductive Source where
  | shadow
  | over (k : OverrideKind)
deriving DecidableEq, Repr

/-- The ceiling sources in the order of R69. -/
inductive CeilingSource where
  | profile | mode | supply | thermal | drive
deriving DecidableEq, Repr

/-- Supply states (R97). -/
inductive SupplyState where
  | idle | tank | hydrantQualifying | hydrant | draftPriming | draft | switching | noSupply
deriving DecidableEq, Repr

/-- Supply phases (R97). -/
inductive Phase where
  | closingOther | openingTarget | settling | closingTank | priming
deriving DecidableEq, Repr

/-- Reasons of a failed qualification attempt (R108). -/
inductive AttemptReason where
  | sensor | range | unsteady | weak
deriving DecidableEq, Repr

/-- How a hydrant's floor was found (R110). -/
inductive FloorCause where
  | autoFloor | fixedFloor
deriving DecidableEq, Repr

/-- Outcomes of a supply loss (R118). -/
inductive LossOutcome where
  | switchover | reserve | none
deriving DecidableEq, Repr

/-- Causes of PRIME_FAILED (R114). -/
inductive PrimeCause where
  | timeout | operatorIdle | operator | valve | disengage | ptoReleased
deriving DecidableEq, Repr

/-- Causes of SUPPLY_EXHAUSTED (R102). -/
inductive ExhaustCause where
  | tankEmpty | valveFault
deriving DecidableEq, Repr

/-- Tank level states (R125). -/
inductive LevelState where
  | full | normal | low | empty | unknown
deriving DecidableEq, Repr

/-- Causes of estimating (R125). -/
inductive EstimateCause where
  | moving | headFailed
deriving DecidableEq, Repr

/-- Fill stages (R125). -/
inductive FillStage where
  | off | bulk | topoff | fullHold | suspended | timeout
deriving DecidableEq, Repr

/-- Phases of the top-off cycle (R125). -/
inductive CyclePhase where
  | openPhase | closedPhase
deriving DecidableEq, Repr

/-- Causes of FILL_STAGE (R146). -/
inductive FillCause where
  | request | volume | permissionLost | permissionReturned | stop
deriving DecidableEq, Repr

/-- The six parts of a fill permission (R139). -/
inductive PermissionPart where
  | ptoEngaged | supplyHydrantOrDraft | still | notEstimating | levelKnown | tankValveNotOpen
deriving DecidableEq, Repr

/-- Thermal zones (R153). -/
inductive Zone where
  | normal | warm | hot
deriving DecidableEq, Repr

/-- Causes of THERMAL_ZONE (R156). -/
inductive ZoneCause where
  | temperature | sensorFailed | sensorRecovered
deriving DecidableEq, Repr

/-- Valve states (R166). -/
inductive ValveState where
  | atClosed | opening | atOpen | closing | fault
deriving DecidableEq, Repr

/-- Valve fault causes (R166). -/
inductive ValveFault where
  | noOpen | stuckOpen
deriving DecidableEq, Repr

/-- Recirculation causes (R176). -/
inductive RecircCause where
  | thermal | noFlow | operator
deriving DecidableEq, Repr

/-- Alarm causes, in the order of the table of chapter 8. -/
inductive AlarmCause where
  | motion | stop | dryRun | overheat | exhausted | ptoFault | warm | limiter | lowTank | link | voltage | valve
deriving DecidableEq, Repr

/-- How the alarm sounds (R177). -/
inductive AlarmPattern where
  | silent | steady | intermittent
deriving DecidableEq, Repr

/-- The totalisers (R147). -/
inductive Totaliser where
  | incident | run
deriving DecidableEq, Repr

/-- The overflow flags of a totaliser (R147). -/
inductive TotalFlag where
  | math | logical
deriving DecidableEq, Repr

/-- The causes of a start (R206). -/
inductive StartCause where
  | powerOn | request
deriving DecidableEq, Repr

/-- Link states (R203). -/
inductive LinkState where
  | awaitingHost | linkUp | linkLost
deriving DecidableEq, Repr

/-- Result words by their codes (R200). -/
inductive Result where
  | ok | adjusted | deferred | refused | busy | badState | badValue | unknownKind | gone
deriving DecidableEq, Repr

/-- The 32 notice kinds by their codes (R210). -/
inductive NoticeKind where
  | started | modeChanged | engageDone | engageAborted | disengageDone | driveFault | supplyQualified | supplyRejected
  | supplyLost | switchoverDone | primeDone | primeFailed | supplyExhausted | limiterActive | overrideChanged
  | tankState | fillStage | fillTimeout | reconciled | totalOverflow | thermalZone | dryRun | overheatIdle | valveFault
  | valveInterlock | channelFault | channelRecovered | inputChanged | voltageLow | panelStop | trendHalf | linkRestored
deriving DecidableEq, Repr

/-- What a notice is about (R184, R211). -/
inductive Subject where
  | analog (c : AnalogChannel)
  | terminal (t : Terminal)
  | tank (t : Tank)
  | valve (v : ValveRole)
  | totaliser (t : Totaliser)
  | override (k : OverrideKind)
deriving DecidableEq, Repr

/-- The state, mode, zone, stage or phase a notice names (R184). -/
inductive StateName where
  | mode (m : OpMode)
  | pto (p : PtoState)
  | supply (x : SupplyState)
  | phase (p : Phase)
  | level (l : LevelState)
  | stage (f : FillStage)
  | zone (z : Zone)
  | valve (v : ValveState)
  | health (h : Health)
  | qualified (asserted : Bool)
  | source (x : Source)
deriving DecidableEq, Repr

/-- The cause a notice names (R184). -/
inductive CauseName where
  | start (c : StartCause)
  | mode (c : ModeCause)
  | confirmation (c : Confirmation)
  | abort (c : AbortCause)
  | release (c : ReleaseCause)
  | driveFault (c : DriveFault)
  | ptoState (p : PtoState)
  | floor (c : FloorCause)
  | attempt (c : AttemptReason)
  | loss (c : LossOutcome)
  | prime (c : PrimeCause)
  | exhausted (c : ExhaustCause)
  | supplyState (x : SupplyState)
  | overrideBegan
  | overrideEnded
  | fill (c : FillCause)
  | reconLarge
  | reconWithin
  | totalFlag (f : TotalFlag)
  | zone (c : ZoneCause)
  | overheatRelease
  | overheatHold
  | valveFault (c : ValveFault)
  | blockedBy (v : ValveRole)
deriving DecidableEq, Repr

/-- Every role in code order. -/
def allRoles : List Role :=
  [.parkBrake, .neutral, .rollSelect, .panelStop, .ptoFb, .mainValveFb, .reserveValveFb, .recircFb, .generalIn,
   .ptoClutch, .mainValve, .reserveValve, .mainFill, .reserveFill, .recircValve, .primer, .alarm, .generalOut]

/-- Every operating mode in code order. -/
def allModes : List OpMode := [.road, .pumpStationary, .pumpRoll, .rollOverspeed, .motionTrip]

/-- The eight panel flags in order. -/
def allFlags : List (Fin 8) := [0, 1, 2, 3, 4, 5, 6, 7]

/-- The 19 conditions in listing order (R37). -/
def allConditions : List Condition :=
  [.parkBrakeSet, .inNeutral, .still, .rollSelected, .engineAtIdle, .voltageOk, .supplyIsTank, .tankAvailable,
   .noPtoFault, .noDryRun, .stopClear] ++ allFlags.map .panelFlag

/-- The guarded kinds in the order of R40. -/
def allGuardedKinds : List GuardedKind :=
  [.engageStationary, .engageRoll, .changeToRoll, .changeToStationary, .raiseSetpoint, .supplyHydrant, .supplyDraft,
   .useReserve, .fillStart, .generalOutput]

/-- Override kinds, highest rank first (R85). -/
def allOverrides : List OverrideKind := [.sensorFallback, .priming, .switchover]

/-- Recirculation causes in the order of R176. -/
def allRecircCauses : List RecircCause := [.thermal, .noFlow, .operator]

/-- Alarm causes in the order of the table of chapter 8. -/
def allAlarmCauses : List AlarmCause :=
  [.motion, .stop, .dryRun, .overheat, .exhausted, .ptoFault, .warm, .limiter, .lowTank, .link, .voltage, .valve]

/-- Notice kinds in code order (R210). -/
def allNoticeKinds : List NoticeKind :=
  [.started, .modeChanged, .engageDone, .engageAborted, .disengageDone, .driveFault, .supplyQualified, .supplyRejected,
   .supplyLost, .switchoverDone, .primeDone, .primeFailed, .supplyExhausted, .limiterActive, .overrideChanged,
   .tankState, .fillStage, .fillTimeout, .reconciled, .totalOverflow, .thermalZone, .dryRun, .overheatIdle, .valveFault,
   .valveInterlock, .channelFault, .channelRecovered, .inputChanged, .voltageLow, .panelStop, .trendHalf, .linkRestored]

/-- Channels in the order of the parameter table. -/
def allAnalog : List AnalogChannel := [.dischargeP, .intakeP, .mainHead, .reserveHead, .pumpTemp, .supplyV]

/-- Pulse channels in the order of R211. -/
def allPulse : List PulseChannel := [.engineSpeed, .roadSpeed, .dischargeFlow]

/-- Valve roles in the order of R166. -/
def allValves : List ValveRole := [.mainValve, .reserveValve, .mainFill, .reserveFill, .recircValve]

/-- The six parts of a fill permission in the order of R139. -/
def allPermissionParts : List PermissionPart :=
  [.ptoEngaged, .supplyHydrantOrDraft, .still, .notEstimating, .levelKnown, .tankValveNotOpen]

end Sys2Proof.Machine
end

