-- ==== Sys2Proof/Machine/Tables.lean ====
section
/-! DEFINITION. The fixed tables of the part: the parameter table (R205), the lockout table's fixed fields and defaults
(R40), the default assignment (R15) and the default volume tables (R126). -/

namespace Sys2Proof.Machine

/-- One row of the parameter table (R205). -/
structure ParamRow where
  dflt : Int
  least : Int
  greatest : Int
  disengagedOnly : Bool
deriving DecidableEq, Repr

/-- Identities 1 to 21 of R205: channel scaling, filter shifts and pulse constants. -/
def paramsSense : List ParamRow :=
  [⟨0, 0, 4000, true⟩, ⟨-100, -100, 2000, true⟩, ⟨0, 0, 3000, true⟩, ⟨0, 0, 3000, true⟩, ⟨-40, -40, 150, true⟩,
   ⟨0, 0, 360, true⟩,
   ⟨4000, 0, 4000, true⟩, ⟨2000, -100, 2000, true⟩, ⟨3000, 0, 3000, true⟩, ⟨3000, 0, 3000, true⟩,
   ⟨150, -40, 150, true⟩, ⟨360, 0, 360, true⟩,
   ⟨2, 0, 5, false⟩, ⟨2, 0, 5, false⟩, ⟨5, 0, 5, false⟩, ⟨5, 0, 5, false⟩, ⟨4, 0, 5, false⟩, ⟨3, 0, 5, false⟩,
   ⟨120, 1, 200, true⟩, ⟨8000, 1000, 60000, true⟩, ⟨300, 10, 50000, true⟩]

/-- Identities 22 to 35 of R205: mode, drive and governor. -/
def paramsDrive : List ParamRow :=
  [⟨350, 100, 600, false⟩, ⟨80, 30, 150, false⟩, ⟨900, 600, 1200, false⟩, ⟨2000, 500, 5000, true⟩, ⟨2, 1, 3, true⟩,
   ⟨1000, 100, 1000, false⟩, ⟨10, 1, 50, false⟩, ⟨25, 1, 100, false⟩, ⟨24, 0, 255, false⟩, ⟨4, 0, 63, false⟩,
   ⟨8, 0, 255, false⟩, ⟨2, 0, 63, false⟩, ⟨1100, 900, 1500, false⟩, ⟨700, 300, 1400, false⟩]

/-- Identities 36 to 51 of R205: supply and tanks. -/
def paramsWater : List ParamRow :=
  [⟨-20, -60, 50, false⟩, ⟨-60, -80, -20, false⟩, ⟨140, 50, 400, false⟩, ⟨1, 0, 1, false⟩, ⟨60, 20, 80, false⟩,
   ⟨20, 5, 100, false⟩, ⟨45, 10, 90, false⟩, ⟨1, 0, 1, false⟩, ⟨0, 0, 1, false⟩,
   ⟨95, 1, 99, false⟩, ⟨90, 1, 99, false⟩, ⟨85, 1, 99, false⟩, ⟨25, 1, 99, false⟩, ⟨5, 1, 99, false⟩,
   ⟨20, 1, 60, false⟩, ⟨5, 1, 15, false⟩]

/-- Identities 52 to 64 of R205: thermal, travel times, trend and supervision. -/
def paramsRest : List ParamRow :=
  [⟨60, 40, 80, false⟩, ⟨75, 60, 95, false⟩, ⟨750, 500, 1000, false⟩, ⟨300, 0, 750, false⟩, ⟨20, 5, 100, false⟩,
   ⟨0, 0, 1, false⟩,
   ⟨8, 1, 30, false⟩, ⟨8, 1, 30, false⟩, ⟨8, 1, 30, false⟩, ⟨8, 1, 30, false⟩, ⟨8, 1, 30, false⟩,
   ⟨10, 1, 60, false⟩, ⟨1000, 200, 5000, false⟩]

/-- The parameter table of R205, identities 1 to 64 in order. -/
def paramTable : List ParamRow := paramsSense ++ paramsDrive ++ paramsWater ++ paramsRest

/-- The row of an identity, none where the table has none (R204). -/
def paramRow (ident : Nat) : Option ParamRow :=
  if ident = 0 then none else paramTable[ident - 1]?

/-- The fixed maximum of permitted modes (R40). -/
def fixedModes : GuardedKind → List OpMode
  | .engageStationary | .engageRoll => [.road]
  | .changeToRoll | .supplyHydrant | .supplyDraft | .fillStart => [.pumpStationary]
  | .changeToStationary => [.pumpRoll]
  | .raiseSetpoint => [.pumpStationary, .pumpRoll]
  | .useReserve => [.pumpStationary, .pumpRoll, .rollOverspeed]
  | .generalOutput => allModes

/-- The fixed conditions, in listing order (R40). -/
def fixedConditions : GuardedKind → List Condition
  | .engageStationary => [.parkBrakeSet, .still, .engineAtIdle, .noPtoFault, .stopClear]
  | .engageRoll => [.rollSelected, .engineAtIdle, .tankAvailable, .noPtoFault, .stopClear]
  | .changeToRoll => [.rollSelected, .supplyIsTank, .tankAvailable]
  | .changeToStationary => [.parkBrakeSet, .still]
  | .raiseSetpoint => [.noDryRun]
  | .supplyHydrant | .fillStart => [.still]
  | .supplyDraft => [.still, .supplyIsTank]
  | .useReserve | .generalOutput => []

/-- The default additions (R40). -/
def defaultAdditions : GuardedKind → List Condition
  | .engageStationary => [.inNeutral, .voltageOk]
  | .engageRoll => [.voltageOk]
  | .changeToStationary => [.inNeutral]
  | _ => []

/-- The default role of each terminal, T1 to T16 (R15). -/
def defaultRoles : List Role :=
  [.parkBrake, .neutral, .ptoFb, .rollSelect, .panelStop, .mainValveFb, .reserveValveFb, .generalIn,
   .ptoClutch, .mainValve, .reserveValve, .mainFill, .reserveFill, .recircValve, .primer, .alarm]

/-- A role that is general may stand in any number of records; every other role is dedicated (R15). -/
def isDedicated : Role → Bool
  | .generalIn | .generalOut => false
  | _ => true

/-- The direction of a role (the role table of chapter 1). -/
def isInputRole : Role → Bool
  | .parkBrake | .neutral | .rollSelect | .panelStop | .ptoFb | .mainValveFb | .reserveValveFb | .recircFb
  | .generalIn => true
  | _ => false

/-- The default volume tables (R126): points of level in mm and volume in L. -/
def defaultTable : Tank → List (Nat × Nat)
  | .main => [(0, 0), (1000, 2000)]
  | .reserve => [(0, 0), (600, 600)]

/-- The critical alarm causes; the others are warnings (chapter 8). -/
def isCritical : AlarmCause → Bool
  | .motion | .stop | .dryRun | .overheat | .exhausted | .ptoFault => true
  | _ => false

end Sys2Proof.Machine
end

