-- ==== Sys2Proof/Machine/Blocks.lean ====
section
/-! DEFINITION. The records each unit of the part keeps, as plain data. -/

namespace Sys2Proof.Machine

/-- A running timer: its period and how much of it has passed, in ms. A stopped timer is an absent one. -/
structure Timer where
  period : Nat
  elapsed : Nat
deriving DecidableEq, Repr

/-- One value for each pulse channel. -/
structure PerPulse (α : Type) where
  engineSpeed : α
  roadSpeed : α
  dischargeFlow : α
deriving DecidableEq, Repr

/-- One value for each tank. -/
structure PerTank (α : Type) where
  main : α
  reserve : α
deriving DecidableEq, Repr

/-- One value for each valve role. -/
structure PerValve (α : Type) where
  mainValve : α
  reserveValve : α
  mainFill : α
  reserveFill : α
  recircValve : α
deriving DecidableEq, Repr

/-- One value for each guarded kind (R40). -/
structure PerKind (α : Type) where
  engageStationary : α
  engageRoll : α
  changeToRoll : α
  changeToStationary : α
  raiseSetpoint : α
  supplyHydrant : α
  supplyDraft : α
  useReserve : α
  fillStart : α
  generalOutput : α
deriving DecidableEq, Repr

/-! ### Sense Unit (R1 to R14) -/

/-- A channel record of chapter 1. `good`: a good value has been published since start-up (R4). -/
structure ChannelRecord where
  filtered : Option Int
  published : Int
  health : Health
  outRun : Nat
  inRun : Nat
  good : Bool
deriving DecidableEq, Repr

/-- A pulse channel (R8, R9): `completed` oldest first, `quiet` for health QUIET. -/
structure PulseRecord where
  current : Nat
  completed : List Nat
  quiet : Bool
  value : Nat
deriving DecidableEq, Repr

/-- The measurement set (R12). -/
structure MeasurementSet where
  values : Analog Int
  health : Analog Health
  pulse : PerPulse Nat
  quiet : PerPulse Bool
  scan : Nat
deriving DecidableEq, Repr

/-- The Sense Unit. -/
structure Sense where
  channels : Analog ChannelRecord
  pulses : PerPulse PulseRecord
  remainder : Nat
  front : MeasurementSet
  back : MeasurementSet
deriving DecidableEq, Repr

/-! ### Terminal Unit (R15 to R23) -/

/-- A record of the assignment table (R15). -/
structure AssignRecord where
  role : Role
  polarity : Polarity
  q : Nat
  safe : Option SafeState
deriving DecidableEq, Repr

/-- The input state of a terminal (R16); `sample` is the level of the most recent sample, high being true. -/
structure InputState where
  asserted : Bool
  sample : Option Bool
  counter : Nat
deriving DecidableEq, Repr

/-- The Terminal Unit. -/
structure Terminals where
  assignment : Vector AssignRecord 16
  inputs : Vector InputState 16
deriving DecidableEq, Repr

/-! ### Interlock Unit (R24 to R46) -/

/-- The two written fields of a lockout entry (R40). -/
structure LockoutEntry where
  modes : List OpMode
  conds : List Condition
deriving DecidableEq, Repr

/-- The Interlock Unit. `conditions` holds the conditions true at the last evaluation (R39); `engineAtIdle` is the
comparison made at the last published set (R34). -/
structure Interlock where
  moving : Bool
  rise : Option Timer
  fall : Option Timer
  mode : OpMode
  ceiling : Nat
  recovery : Option Timer
  trip : Option Timer
  voltageOk : Bool
  voltage : Option Timer
  flags : List (Fin 8)
  lockout : PerKind LockoutEntry
  engineAtIdle : Bool
  conditions : List Condition
deriving DecidableEq, Repr

/-! ### Drive Engagement Unit (R47 to R68) -/

/-- The engagement record of R47 with the unit's timers. -/
structure Drive where
  pto : PtoState
  kind : Option Kind
  confirmation : Option Confirmation
  release : Option ReleaseCause
  fault : Option DriveFault
  tries : Nat
  lastTries : Nat
  lifetime : Nat
  clutch : Bool
  precheck : Option Timer
  feedback : Option Timer
  settle : Option Timer
  ramp : Option Timer
  releasing : Option Timer
  window : Option Timer
deriving DecidableEq, Repr

/-! ### Pressure Governor (R69 to R96) -/

/-- The five ceiling inputs (R70). -/
structure Ceilings where
  profile : Nat
  mode : Nat
  supply : Nat
  thermal : Nat
  drive : Nat
deriving DecidableEq, Repr

/-- The governor record of R69. `acc` is A, `demand` is D, `frozen` is the pulse-loss state FROZEN. -/
structure Governor where
  shadow : Setting
  active : Setting
  overrides : List OverrideKind
  captured : Option Nat
  source : Source
  acc : Int
  demand : Nat
  reseed : Bool
  ceiling : Nat
  binding : CeilingSource
  frozen : Bool
  loss : Option Timer
  inputs : Ceilings
deriving DecidableEq, Repr

/-! ### Supply Unit (R97 to R124) -/

/-- A qualification window (R107). -/
structure Window where
  count : Nat
  sum : Int
  least : Int
  greatest : Int
  failed : Bool
deriving DecidableEq, Repr

/-- The supply record of R97. `limit` is L, `below` the below-floor flag, `switchFrom` the state SWITCHING was entered
from (R120), `targetStuck` whether SETTLING was entered on a target in FAULT STUCK_OPEN (R121). -/
structure Supply where
  state : SupplyState
  selected : Tank
  phase : Option Phase
  floor : Int
  hydrant : Option Int
  limit : Nat
  below : Bool
  lossLatch : Bool
  attempts : Nat
  lastReason : Option AttemptReason
  switchHeld : Bool
  primeHeld : Bool
  attempt : Option Timer
  prime : Option Timer
  primerLimit : Option Timer
  settle : Option Timer
  loss : Option Timer
  activity : Option Timer
  window : Window
  switchFrom : SupplyState
  targetStuck : Bool
deriving DecidableEq, Repr

/-! ### Tank Unit (R125 to R152) -/

/-- A reconciliation record (R138). -/
structure Reconciliation where
  estimate : Nat
  measured : Nat
  difference : Int
  cause : EstimateCause
  large : Bool
deriving DecidableEq, Repr

/-- A safety timer: elapsed fill time in half milliseconds, so that half rate is exact (R144), and its limit in ms. -/
structure SafetyTimer where
  elapsedHalves : Nat
  limit : Nat
deriving DecidableEq, Repr

/-- A tank record (R125). `estimating` holds the cause while the tank is estimating; `estimate` is in mL. -/
structure TankRecord where
  level : Int
  headKnown : Bool
  volume : Option Nat
  table : List (Nat × Nat)
  state : LevelState
  estimating : Option EstimateCause
  frozen : Option Nat
  estimate : Option Nat
  settle : Option Timer
  stage : FillStage
  suspendedFrom : Option FillStage
  safety : Option SafetyTimer
  phase : Option CyclePhase
  cycle : Option Timer
  fillOpen : Bool
  recon : Option Reconciliation
deriving DecidableEq, Repr

/-- A totaliser (R147): the reported value is a function of the accumulator. -/
structure Total where
  acc : Nat
  math : Bool
  logical : Bool
deriving DecidableEq, Repr

/-- The two totalisers. -/
structure Totals where
  incident : Total
  run : Total
deriving DecidableEq, Repr

/-! ### Thermal Monitor (R153 to R165) -/

/-- The thermal record of R153; the thermal ceiling is a function of it (R157). -/
structure Thermal where
  zone : Zone
  unknown : Bool
  overheat : Bool
  hot : Option Timer
  noFlow : Option Timer
  flowReturn : Option Timer
  dry : Option Timer
  noFlowHeld : Bool
  thermalHeld : Bool
  latch : Bool
  operator : Bool
deriving DecidableEq, Repr

/-! ### Output Unit (R166 to R183) -/

/-- An actuator record (R166); the drive is a function of the state and the retry pause. -/
structure Actuator where
  openCmd : Bool
  state : ValveState
  confirmation : Confirmation
  tries : Nat
  retry : Option Timer
  travel : Option Timer
  fault : Option ValveFault
deriving DecidableEq, Repr

/-- The panel alarm (R177). -/
structure Alarm where
  causes : List AlarmCause
  silenced : List AlarmCause
  pattern : AlarmPattern
  drive : Bool
  blink : Option Timer
deriving DecidableEq, Repr

/-- A switched output (R179): its drive and its pulse countdown. -/
structure OutputRecord where
  drive : Bool
  countdown : Option Nat
deriving DecidableEq, Repr

/-- The primer and one general output record per terminal. -/
structure Outputs where
  primer : OutputRecord
  general : Vector OutputRecord 16
deriving DecidableEq, Repr

/-! ### Notice Unit (R184 to R195) -/

/-- The optional fields of a notice record (R184). -/
structure NoticeBody where
  subject : Option Subject := none
  old : Option StateName := none
  new : Option StateName := none
  value : Option Int := none
  second : Option Int := none
  cause : Option CauseName := none
  conds : Option (List Condition) := none
deriving DecidableEq, Repr

/-- A notice record (R184). -/
structure Notice where
  tag : Nat
  kind : NoticeKind
  body : NoticeBody
  overrun : Bool
deriving DecidableEq, Repr

/-- The notice queue, oldest first, the disabled masks, the pressure flag and the QUEUE_PRESSURE frames offered. -/
structure Notices where
  queue : List Notice
  disabled : List NoticeKind
  pressure : Bool
  offers : List Nat
deriving DecidableEq, Repr

/-- The time tag (R190). -/
structure Clock where
  tag : Nat
  resolution : Nat
  period : Timer
deriving DecidableEq, Repr

/-- A trend record (R191). -/
structure TrendRecord where
  index : Nat
  tag : Nat
  discharge : Int
  intake : Int
  flow : Nat
  engine : Nat
  demand : Nat
  mainVolume : Option Nat
  reserveVolume : Option Nat
  temperature : Int
  mode : OpMode
  pto : PtoState
  supply : SupplyState
deriving DecidableEq, Repr

/-- The trend ring, in order of taking, with its sample timer, fast capture count, read marker and TREND_HALF flag. -/
structure Trend where
  ring : List TrendRecord
  nextIndex : Nat
  sample : Timer
  fast : Nat
  marker : Option Nat
  armed : Bool
deriving DecidableEq, Repr

/-! ### Link Unit (R196 to R208) -/

/-- The bytes gathered after the start byte, in order, and the running inter-byte gap (R197). -/
structure Receiver where
  bytes : List Byte
  gap : Timer
deriving DecidableEq, Repr

/-- A valid frame (R196): its kind, tag and parameters. -/
structure Frame where
  kind : Byte
  tag : Byte
  params : List Byte
deriving DecidableEq, Repr

/-- A reply (R200): kind, tag, result and body. -/
structure Reply where
  kind : Byte
  tag : Byte
  result : Result
  body : List Byte
deriving DecidableEq, Repr

/-- The request in hand (R199). -/
structure InHand where
  kind : Byte
  tag : Byte
deriving DecidableEq, Repr

/-- A frame being sent (R201). A NOTICE frame carries its record as it stood when the frame began, the notice frame count
as its tag, and whether the record still stands in the queue (R187). -/
inductive TxFrame where
  | reply (r : Reply)
  | pressure (count : Nat)
  | notice (n : Notice) (tag : Nat) (queued : Bool)
deriving DecidableEq, Repr

/-- The Link Unit but for the transmitter and the parameter store. -/
structure Link where
  rx : Option Receiver
  buffer : List Frame
  inHand : Option InHand
  resetTaken : Bool
  reply : Option Reply
  framing : Nat
  check : Nat
  overrun : Nat
  state : LinkState
  supervision : Option Timer
  hold : Bool
  noticeCount : Nat
  lostMs : Nat
  startCause : StartCause
deriving DecidableEq, Repr

end Sys2Proof.Machine
end

