-- ==== Sys2Proof/Machine/Start.lean ====
section
/-! DEFINITION. The state each unit starts in, at power-on and after RESET_PART. -/

namespace Sys2Proof.Machine

/-- The default value of a parameter identity (R204). -/
def paramDefault (ident : Nat) : Int :=
  match paramRow ident with
  | some r => r.dflt
  | none => 0

/-- Every parameter at its default (R204). -/
def startParams : Vector Int 64 := Vector.ofFn fun i => paramDefault (i.val + 1)

/-- A channel at start-up (R14): health OK, f absent, both runs 0, the zero value published. -/
def startChannel (zero : Int) : ChannelRecord :=
  { filtered := none, published := zero, health := .ok, outRun := 0, inRun := 0, good := false }

/-- A pulse channel at start-up (R14). -/
def startPulse : PulseRecord :=
  { current := 0, completed := List.replicate 10 0, quiet := true, value := 0 }

/-- The measurement set both buffers hold at start-up (R14). -/
def startSet : MeasurementSet :=
  { values := ⟨0, -100, 0, 0, -40, 0⟩
    health := ⟨.ok, .ok, .ok, .ok, .ok, .ok⟩
    pulse := ⟨0, 0, 0⟩
    quiet := ⟨true, true, true⟩
    scan := 0 }

/-- The Sense Unit at start-up (R14). -/
def startSense : Sense :=
  { channels := ⟨startChannel 0, startChannel (-100), startChannel 0, startChannel 0, startChannel (-40),
      startChannel 0⟩
    pulses := ⟨startPulse, startPulse, startPulse⟩
    remainder := 0
    front := startSet
    back := startSet }

/-- The default record of a terminal (R15): ACTIVE_HIGH, Q = 5, no safe state. -/
def startRecord (t : Terminal) : AssignRecord :=
  { role := defaultRoles.getD t.val .generalIn, polarity := .activeHigh, q := 5, safe := none }

/-- An input state not yet sampled (R22, R23). -/
def freshInput : InputState := { asserted := false, sample := none, counter := 0 }

/-- The Terminal Unit at start-up (R23). -/
def startTerminals : Terminals :=
  { assignment := Vector.ofFn startRecord, inputs := Vector.replicate 16 freshInput }

/-- The default entry of a guarded kind (R40). -/
def defaultEntry (k : GuardedKind) : LockoutEntry :=
  { modes := fixedModes k
    conds := allConditions.filter fun c => c ∈ fixedConditions k || c ∈ defaultAdditions k }

/-- The lockout table at its defaults (R40). -/
def startLockout : PerKind LockoutEntry :=
  ⟨defaultEntry .engageStationary, defaultEntry .engageRoll, defaultEntry .changeToRoll,
   defaultEntry .changeToStationary, defaultEntry .raiseSetpoint, defaultEntry .supplyHydrant,
   defaultEntry .supplyDraft, defaultEntry .useReserve, defaultEntry .fillStart, defaultEntry .generalOutput⟩

/-- The Interlock Unit at start-up (R45). `conditions` lists what holds of the start state (log entry 19). -/
def startInterlock : Interlock :=
  { moving := false, rise := none, fall := none, mode := .road, ceiling := 0, recovery := none, trip := none
    voltageOk := false, voltage := none, flags := [], lockout := startLockout, engineAtIdle := true
    conditions := [.still, .engineAtIdle, .tankAvailable, .noPtoFault, .noDryRun, .stopClear] }

/-- The Drive Engagement Unit at start-up (R65): the start-up window runs. -/
def startDrive : Drive :=
  { pto := .disengaged, kind := none, confirmation := none, release := none, fault := none, tries := 0, lastTries := 0
    lifetime := 0, clutch := false, precheck := none, feedback := none, settle := none, ramp := none
    releasing := none, window := some ⟨500, 0⟩ }

/-- The Governor at start-up (R96). The ceiling inputs last read are the ceilings as they stand (log entry 20). -/
def startGovernor : Governor :=
  { shadow := .idle, active := .idle, overrides := [], captured := none, source := .shadow, acc := 0, demand := 0
    reseed := false, ceiling := 0, binding := .drive, frozen := false, loss := none
    inputs := ⟨1000, 0, 0, 1000, 0⟩ }

/-- An empty qualification window (R107). -/
def emptyWindow : Window := { count := 0, sum := 0, least := 0, greatest := 0, failed := false }

/-- The Supply Unit at start-up (R124). The intake floor is not used in IDLE (log entry 20). -/
def startSupply : Supply :=
  { state := .idle, selected := .main, phase := none, floor := -20, hydrant := none, limit := 1000, below := false
    lossLatch := false, attempts := 0, lastReason := none, switchHeld := false, primeHeld := false, attempt := none
    prime := none, primerLimit := none, settle := none, loss := none, activity := none, window := emptyWindow
    switchFrom := .idle, targetStuck := false }

/-- A tank at start-up (R152). -/
def startTank (t : Tank) : TankRecord :=
  { level := 0, headKnown := false, volume := none, table := defaultTable t, state := .unknown, estimating := none
    frozen := none, estimate := none, settle := none, stage := .off, suspendedFrom := none, safety := none
    phase := none, cycle := none, fillOpen := false, recon := none }

/-- A totaliser at zero (R147, R152). -/
def zeroTotal : Total := { acc := 0, math := false, logical := false }

/-- The Thermal Monitor at start-up (R165). -/
def startThermal : Thermal :=
  { zone := .normal, unknown := false, overheat := false, hot := none, noFlow := none, flowReturn := none, dry := none
    noFlowHeld := false, thermalHeld := false, latch := false, operator := false }

/-- An actuator at start-up (R182). -/
def startActuator : Actuator :=
  { openCmd := false, state := .atClosed, confirmation := .unconfirmed, tries := 0, retry := none, travel := none
    fault := none }

/-- The alarm at start-up (R182). -/
def startAlarm : Alarm := { causes := [], silenced := [], pattern := .silent, drive := false, blink := none }

/-- An output that is OFF with no countdown (R182). -/
def outputOff : OutputRecord := { drive := false, countdown := none }

/-- The primer and the general outputs at start-up (R182). -/
def startOutputs : Outputs := { primer := outputOff, general := Vector.replicate 16 outputOff }

/-- The STARTED record (R207). -/
def startedNotice (c : StartCause) : Notice :=
  { tag := 0, kind := .started, body := { cause := some (.start c) }, overrun := false }

/-- The Notice Unit at start-up (R195, R207): STARTED is the first record. -/
def startNotices (c : StartCause) : Notices :=
  { queue := [startedNotice c], disabled := [.inputChanged], pressure := false, offers := [] }

/-- The time tag at start-up (R190). -/
def startClock : Clock := { tag := 0, resolution := 10, period := ⟨10, 0⟩ }

/-- The trend ring at start-up (R191, R193): the first record comes after one default trend interval. -/
def startTrend : Trend :=
  { ring := [], nextIndex := 0, sample := ⟨10000, 0⟩, fast := 0, marker := none, armed := true }

/-- The Link Unit at start-up (R207). -/
def startLink (c : StartCause) : Link :=
  { rx := none, buffer := [], inHand := none, resetTaken := false, reply := none, framing := 0, check := 0
    overrun := 0, state := .awaitingHost, supervision := none, hold := false, noticeCount := 0, lostMs := 0
    startCause := c }

/-- STARTED is delivered at once (R207): its NOTICE frame is the one being sent. -/
def startTx (c : StartCause) : Option TxFrame := some (.notice (startedNotice c) 0 true)

end Sys2Proof.Machine
end

