-- ==== Sys2Proof/Machine/State.lean ====
section
/-! DEFINITION. The state of the part, the reasons a step can stop, and the state after reset. -/

namespace Sys2Proof.Machine

/-- Everything the spec gives the part, the queue of commands waiting, and the model's own free choices: `choiceCount`
counts the commands run, `choices` is what is left of the free choices of the command being run (log entry 5). -/
structure State where
  sense : Sense
  terminals : Terminals
  interlock : Interlock
  drive : Drive
  governor : Governor
  supply : Supply
  tanks : PerTank TankRecord
  totals : Totals
  thermal : Thermal
  valves : PerValve Actuator
  recirc : List RecircCause
  alarm : Alarm
  outputs : Outputs
  notices : Notices
  clock : Clock
  trend : Trend
  link : Link
  tx : Option TxFrame
  params : Vector Int 64
  powered : Bool
  choiceCount : Nat
  choices : List Nat
  pending : List Instr
deriving DecidableEq, Repr

/-- No command stops the part: the spec gives every row an effect in every state, and FAULT states are states of the part.
The type has no constructor, so no step can end in one. -/
inductive Fault where
deriving DecidableEq

/-- Why a command has no meaning. -/
inductive Refusal where
  /-- Raised by exec's arm of a command that has no meaning yet. Safe: the run stops. -/
  | notModelled (mnemonic : String)
  /-- Raised by a request row whose fields do not fit the 253 parameter bytes of a frame (R196, log entry 23): no such
  frame can reach the part. Safe: the run stops. -/
  | frameTooLong
deriving DecidableEq, Repr

/-- The part as it starts, with the given cause (R207 and the start-up rule of each unit). -/
def State.start (c : StartCause) : State :=
  { sense := startSense
    terminals := startTerminals
    interlock := startInterlock
    drive := startDrive
    governor := startGovernor
    supply := startSupply
    tanks := ⟨startTank .main, startTank .reserve⟩
    totals := ⟨zeroTotal, zeroTotal⟩
    thermal := startThermal
    valves := ⟨startActuator, startActuator, startActuator, startActuator, startActuator⟩
    recirc := []
    alarm := startAlarm
    outputs := startOutputs
    notices := startNotices c
    clock := startClock
    trend := startTrend
    link := startLink c
    tx := startTx c
    params := startParams
    powered := true
    choiceCount := 0
    choices := []
    pending := [] }

/-- The part right after power-on, nothing waiting (R207). -/
def State.reset : State := State.start .powerOn

end Sys2Proof.Machine
end

