-- ==== Sys2Proof/Machine/Ops.lean ====
section
/-! DEFINITION. The operations every unit is written over: changing one block of the state, reading parameters, published
measurements and terminal roles, timers, arithmetic, the qualification of an input, and the free order of units that act in
either order. -/

namespace Sys2Proof.Machine

/-! ### One block changed -/

/-- The state with the Sense Unit changed and all else as it stands. -/
def State.modSense (s : State) (f : Sense → Sense) : State := { s with sense := f s.sense }

/-- The state with the Terminal Unit changed and all else as it stands. -/
def State.modTerminals (s : State) (f : Terminals → Terminals) : State := { s with terminals := f s.terminals }

/-- The state with the Interlock Unit changed and all else as it stands. -/
def State.modInterlock (s : State) (f : Interlock → Interlock) : State := { s with interlock := f s.interlock }

/-- The state with the Drive Engagement Unit changed and all else as it stands. -/
def State.modDrive (s : State) (f : Drive → Drive) : State := { s with drive := f s.drive }

/-- The state with the Governor changed and all else as it stands. -/
def State.modGovernor (s : State) (f : Governor → Governor) : State := { s with governor := f s.governor }

/-- The state with the Supply Unit changed and all else as it stands. -/
def State.modSupply (s : State) (f : Supply → Supply) : State := { s with supply := f s.supply }

/-- The state with the tank records changed and all else as it stands. -/
def State.modTanks (s : State) (f : PerTank TankRecord → PerTank TankRecord) : State := { s with tanks := f s.tanks }

/-- The state with the totalisers changed and all else as it stands. -/
def State.modTotals (s : State) (f : Totals → Totals) : State := { s with totals := f s.totals }

/-- The state with the Thermal Monitor changed and all else as it stands. -/
def State.modThermal (s : State) (f : Thermal → Thermal) : State := { s with thermal := f s.thermal }

/-- The state with the actuator records changed and all else as it stands. -/
def State.modValves (s : State) (f : PerValve Actuator → PerValve Actuator) : State := { s with valves := f s.valves }

/-- The state with the recirculation cause set changed and all else as it stands. -/
def State.modRecirc (s : State) (f : List RecircCause → List RecircCause) : State := { s with recirc := f s.recirc }

/-- The state with the panel alarm changed and all else as it stands. -/
def State.modAlarm (s : State) (f : Alarm → Alarm) : State := { s with alarm := f s.alarm }

/-- The state with the primer and general outputs changed and all else as it stands. -/
def State.modOutputs (s : State) (f : Outputs → Outputs) : State := { s with outputs := f s.outputs }

/-- The state with the notice queue changed and all else as it stands. -/
def State.modNotices (s : State) (f : Notices → Notices) : State := { s with notices := f s.notices }

/-- The state with the time tag changed and all else as it stands. -/
def State.modClock (s : State) (f : Clock → Clock) : State := { s with clock := f s.clock }

/-- The state with the trend ring changed and all else as it stands. -/
def State.modTrend (s : State) (f : Trend → Trend) : State := { s with trend := f s.trend }

/-- The state with the Link Unit changed and all else as it stands. -/
def State.modLink (s : State) (f : Link → Link) : State := { s with link := f s.link }

/-- The state with the transmitter changed and all else as it stands. -/
def State.modTx (s : State) (f : Option TxFrame → Option TxFrame) : State := { s with tx := f s.tx }

/-- The state with the parameter store changed and all else as it stands. -/
def State.modParams (s : State) (f : Vector Int 64 → Vector Int 64) : State := { s with params := f s.params }

/-- The state with what is left of the command's free choices changed and all else as it stands. -/
def State.modChoices (s : State) (f : List Nat → List Nat) : State := { s with choices := f s.choices }
/-! ### Members by name -/

/-- The value of a channel. -/
def getAnalog {α : Type} (a : Analog α) : AnalogChannel → α
  | .dischargeP => a.dischargeP
  | .intakeP => a.intakeP
  | .mainHead => a.mainHead
  | .reserveHead => a.reserveHead
  | .pumpTemp => a.pumpTemp
  | .supplyV => a.supplyV

/-- The values with one channel's replaced. -/
def setAnalog {α : Type} (a : Analog α) (c : AnalogChannel) (x : α) : Analog α :=
  match c with
  | .dischargeP => { a with dischargeP := x }
  | .intakeP => { a with intakeP := x }
  | .mainHead => { a with mainHead := x }
  | .reserveHead => { a with reserveHead := x }
  | .pumpTemp => { a with pumpTemp := x }
  | .supplyV => { a with supplyV := x }

/-- A function of each channel's value. -/
def mapAnalog {α β : Type} (f : α → β) (a : Analog α) : Analog β :=
  ⟨f a.dischargeP, f a.intakeP, f a.mainHead, f a.reserveHead, f a.pumpTemp, f a.supplyV⟩

/-- The value of a pulse channel. -/
def getPulse {α : Type} (a : PerPulse α) : PulseChannel → α
  | .engineSpeed => a.engineSpeed
  | .roadSpeed => a.roadSpeed
  | .dischargeFlow => a.dischargeFlow

/-- The values with one pulse channel's replaced. -/
def setPulse {α : Type} (a : PerPulse α) (c : PulseChannel) (x : α) : PerPulse α :=
  match c with
  | .engineSpeed => { a with engineSpeed := x }
  | .roadSpeed => { a with roadSpeed := x }
  | .dischargeFlow => { a with dischargeFlow := x }

/-- The value of a tank. -/
def getTank {α : Type} (a : PerTank α) : Tank → α
  | .main => a.main
  | .reserve => a.reserve

/-- The values with one tank's replaced. -/
def setTank {α : Type} (a : PerTank α) (t : Tank) (x : α) : PerTank α :=
  match t with
  | .main => { a with main := x }
  | .reserve => { a with reserve := x }

/-- The value of a valve role. -/
def getValve {α : Type} (a : PerValve α) : ValveRole → α
  | .mainValve => a.mainValve
  | .reserveValve => a.reserveValve
  | .mainFill => a.mainFill
  | .reserveFill => a.reserveFill
  | .recircValve => a.recircValve

/-- The values with one valve role's replaced. -/
def setValve {α : Type} (a : PerValve α) (v : ValveRole) (x : α) : PerValve α :=
  match v with
  | .mainValve => { a with mainValve := x }
  | .reserveValve => { a with reserveValve := x }
  | .mainFill => { a with mainFill := x }
  | .reserveFill => { a with reserveFill := x }
  | .recircValve => { a with recircValve := x }

/-- The value of a guarded kind. -/
def getKind {α : Type} (a : PerKind α) : GuardedKind → α
  | .engageStationary => a.engageStationary
  | .engageRoll => a.engageRoll
  | .changeToRoll => a.changeToRoll
  | .changeToStationary => a.changeToStationary
  | .raiseSetpoint => a.raiseSetpoint
  | .supplyHydrant => a.supplyHydrant
  | .supplyDraft => a.supplyDraft
  | .useReserve => a.useReserve
  | .fillStart => a.fillStart
  | .generalOutput => a.generalOutput

/-- The values with one guarded kind's replaced. -/
def setKind {α : Type} (a : PerKind α) (k : GuardedKind) (x : α) : PerKind α :=
  match k with
  | .engageStationary => { a with engageStationary := x }
  | .engageRoll => { a with engageRoll := x }
  | .changeToRoll => { a with changeToRoll := x }
  | .changeToStationary => { a with changeToStationary := x }
  | .raiseSetpoint => { a with raiseSetpoint := x }
  | .supplyHydrant => { a with supplyHydrant := x }
  | .supplyDraft => { a with supplyDraft := x }
  | .useReserve => { a with useReserve := x }
  | .fillStart => { a with fillStart := x }
  | .generalOutput => { a with generalOutput := x }

/-- The other tank. -/
def otherTank : Tank → Tank
  | .main => .reserve
  | .reserve => .main

/-- A tank's tank-to-pump valve. -/
def tankValve : Tank → ValveRole
  | .main => .mainValve
  | .reserve => .reserveValve

/-- A tank's fill valve. -/
def fillValve : Tank → ValveRole
  | .main => .mainFill
  | .reserve => .reserveFill

/-- A tank's head channel. -/
def headChannel : Tank → AnalogChannel
  | .main => .mainHead
  | .reserve => .reserveHead

/-- A tank's record. -/
def State.tank (s : State) (t : Tank) : TankRecord := getTank s.tanks t

/-- A tank's record changed. -/
def State.modTank (s : State) (t : Tank) (f : TankRecord → TankRecord) : State :=
  s.modTanks fun a => setTank a t (f (getTank a t))

/-- A valve's actuator record. -/
def State.valve (s : State) (v : ValveRole) : Actuator := getValve s.valves v

/-- A valve's actuator record changed. -/
def State.modValve (s : State) (v : ValveRole) (f : Actuator → Actuator) : State :=
  s.modValves fun a => setValve a v (f (getValve a v))

/-! ### Arithmetic of the conventions (spec/00_scope.md, 1.4) -/

/-- Clamped to lo..hi: a value below lo becomes lo and a value above hi becomes hi. -/
def clampTo (lo hi v : Int) : Int := if v < lo then lo else if hi < v then hi else v

/-- The quotient rounded to nearest, halves away from zero, for a positive divisor. -/
def roundQuotient (n : Int) (d : Nat) : Int :=
  if 0 ≤ n then (2 * n + d) / (2 * d) else -((2 * -n + d) / (2 * d))

/-- A counter that stops at its greatest value. -/
def countUp (greatest n : Nat) : Nat := if n < greatest then n + 1 else greatest

/-! ### Sets kept in a listing order -/

/-- The members of the listing that are in the set or are the one added. -/
def insertIn {α : Type} [DecidableEq α] (listing : List α) (x : α) (l : List α) : List α :=
  listing.filter fun y => y = x || y ∈ l

/-- The set without one member. -/
def removeFrom {α : Type} [DecidableEq α] (x : α) (l : List α) : List α := l.filter fun y => y ≠ x

/-! ### Timers -/

/-- A timer started afresh for its full period. -/
def startTimer (ms : Nat) : Option Timer := some ⟨ms, 0⟩

/-- A timer started if it is not running. -/
def runTimer (ms : Nat) : Option Timer → Option Timer
  | some t => some t
  | none => some ⟨ms, 0⟩

/-- A timer that runs while a condition holds: started if it is not running, or stopped. -/
def timerWhile (holds : Bool) (ms : Nat) (t : Option Timer) : Option Timer :=
  if holds then runTimer ms t else none

/-! ### Parameters (R205), by identity -/

/-- The stored value of an identity. -/
def State.param (s : State) (ident : Nat) : Int := s.params[ident - 1]?.getD 0

/-- The stored value of an identity whose range holds no negative value. -/
def State.paramNat (s : State) (ident : Nat) : Nat := (s.param ident).toNat

/-- A channel's place in the parameter table (R205), 0 to 5. -/
def channelIndex : AnalogChannel → Nat
  | .dischargeP => 0
  | .intakeP => 1
  | .mainHead => 2
  | .reserveHead => 3
  | .pumpTemp => 4
  | .supplyV => 5

/-- Zero value of a channel. -/
def zeroValue (s : State) (c : AnalogChannel) : Int := s.param (1 + channelIndex c)
/-- Full value of a channel. -/
def fullValue (s : State) (c : AnalogChannel) : Int := s.param (7 + channelIndex c)
/-- Filter shift of a channel. -/
def filterShift (s : State) (c : AnalogChannel) : Nat := s.paramNat (13 + channelIndex c)
/-- Pulses per engine revolution. -/
def pulsesPerRev (s : State) : Nat := s.paramNat 19
/-- Pulses per kilometre. -/
def pulsesPerKm (s : State) : Nat := s.paramNat 20
/-- K, pulses per 100 L. -/
def flowConstant (s : State) : Nat := s.paramNat 21
/-- The roll ceiling. -/
def rollCeiling (s : State) : Nat := s.paramNat 22
/-- The roll limit. -/
def rollLimit (s : State) : Nat := s.paramNat 23
/-- The engage limit. -/
def engageLimit (s : State) : Nat := s.paramNat 24
/-- The feedback time in ms. -/
def feedbackTime (s : State) : Nat := s.paramNat 25
/-- The maximum tries. -/
def maxTries (s : State) : Nat := s.paramNat 26
/-- The profile ceiling. -/
def profileCeiling (s : State) : Nat := s.paramNat 27
/-- The rise limit. -/
def riseLimit (s : State) : Nat := s.paramNat 28
/-- The fall limit. -/
def fallLimit (s : State) : Nat := s.paramNat 29
/-- The prime speed. -/
def primeSpeed (s : State) : Nat := s.paramNat 34
/-- The switchover pressure. -/
def switchoverPressure (s : State) : Nat := s.paramNat 35
/-- The tank floor. -/
def tankFloor (s : State) : Int := s.param 36
/-- The draft floor. -/
def draftFloor (s : State) : Int := s.param 37
/-- The hydrant floor. -/
def hydrantFloor (s : State) : Int := s.param 38
/-- Auto floor enabled. -/
def autoFloor (s : State) : Bool := s.param 39 == 1
/-- The drop percent. -/
def dropPercent (s : State) : Int := s.param 40
/-- The limiter step. -/
def limiterStep (s : State) : Nat := s.paramNat 41
/-- The primer limit in s. -/
def primerLimit (s : State) : Nat := s.paramNat 42
/-- Auto switchover enabled. -/
def autoSwitchover (s : State) : Bool := s.param 43 == 1
/-- Auto-reserve enabled. -/
def autoReserve (s : State) : Bool := s.param 44 == 1
/-- The BULK limit in ms (R144). -/
def bulkLimit (s : State) : Nat := s.paramNat 50 * 60000
/-- The TOPOFF limit in ms (R144). -/
def topoffLimit (s : State) : Nat := s.paramNat 51 * 60000
/-- The warm threshold. -/
def warmThreshold (s : State) : Int := s.param 52
/-- The hot threshold. -/
def hotThreshold (s : State) : Int := s.param 53
/-- The warm ceiling. -/
def warmCeiling (s : State) : Nat := s.paramNat 54
/-- The hot ceiling. -/
def hotCeiling (s : State) : Nat := s.paramNat 55
/-- The no-flow threshold. -/
def noFlowThreshold (s : State) : Nat := s.paramNat 56
/-- Overheat release enabled. -/
def overheatRelease (s : State) : Bool := s.param 57 == 1
/-- A valve's travel time in ms (R166). -/
def travelTime (s : State) (v : ValveRole) : Nat :=
  1000 * match v with
    | .mainValve => s.paramNat 58
    | .reserveValve => s.paramNat 59
    | .mainFill => s.paramNat 60
    | .reserveFill => s.paramNat 61
    | .recircValve => s.paramNat 62
/-- The trend interval in ms (R191). -/
def trendInterval (s : State) : Nat := s.paramNat 63 * 1000
/-- The supervision timeout in ms. -/
def supervisionTimeout (s : State) : Nat := s.paramNat 64

/-! ### The newest published set (R12) -/

/-- A channel's published value. -/
def State.published (s : State) (c : AnalogChannel) : Int := getAnalog s.sense.front.values c
/-- A channel's published health. -/
def State.healthOf (s : State) (c : AnalogChannel) : Health := getAnalog s.sense.front.health c
/-- The published engine speed. -/
def State.engineSpeed (s : State) : Nat := s.sense.front.pulse.engineSpeed
/-- The published road speed. -/
def State.roadSpeed (s : State) : Nat := s.sense.front.pulse.roadSpeed
/-- The published flow. -/
def State.flow (s : State) : Nat := s.sense.front.pulse.dischargeFlow

/-! ### Terminals by role (R15, R18) -/

/-- The terminal a dedicated role stands on, none where it stands in no record. -/
def State.terminalOf (s : State) (r : Role) : Option Terminal :=
  allTerminals.find? fun t => s.terminals.assignment[t].role == r

/-- The qualified state of an input role, none where the role is absent (R18). -/
def State.qualified (s : State) (r : Role) : Option Bool :=
  (s.terminalOf r).map fun t => s.terminals.inputs[t].asserted

/-- An input role reads asserted; an absent one does not (R18). -/
def State.asserted (s : State) (r : Role) : Bool := s.qualified r == some true

/-! ### Qualification (R16) -/

/-- A level turned into ASSERTED or NOT_ASSERTED by a polarity (R15, R16). -/
def assertedBy (p : Polarity) (high : Bool) : Bool :=
  match p with
  | .activeHigh => high
  | .activeLow => !high

/-- An input state after a sample (R16). -/
def sampleInput (r : AssignRecord) (high : Bool) (i : InputState) : InputState :=
  let x := assertedBy r.polarity high
  if x = i.asserted then { i with sample := some high, counter := 0 }
  else if i.counter + 1 < r.q then { i with sample := some high, counter := i.counter + 1 }
  else { asserted := x, sample := some high, counter := 0 }

/-- A terminal's input state set. -/
def setInput (t : Terminal) (i : InputState) (s : State) : State :=
  s.modTerminals fun x => { x with inputs := x.inputs.set t i }

/-! ### Units that act in either order (log entry 5) -/

/-- Insertion by key, after the entries of the same key. -/
def insertByKey {α : Type} (x : Nat × α) : List (Nat × α) → List (Nat × α)
  | [] => [x]
  | y :: ys => if y.1 ≤ x.1 then y :: insertByKey x ys else x :: y :: ys

/-- Each member with its key; a missing key is 0. -/
def withKeys {α : Type} : List Nat → List α → List (Nat × α)
  | _, [] => []
  | [], x :: xs => (0, x) :: withKeys [] xs
  | k :: ks, x :: xs => (k, x) :: withKeys ks xs

/-- The members in the order of their keys. Every order of the members is the order of some keys. -/
def arrange {α : Type} (keys : List Nat) (l : List α) : List α :=
  ((withKeys keys l).foldl (fun acc x => insertByKey x acc) []).map (·.2)

/-- Several acts of one step, taken in a free order. -/
def runInOrder (acts : List (State → State)) (s : State) : State :=
  (arrange s.choices acts).foldl (fun t f => f t) (s.modChoices (·.drop acts.length))

/-- Both tanks' acts, in a free order. -/
def forTanks (f : Tank → State → State) (s : State) : State := runInOrder [f .main, f .reserve] s

/-- The state with the free choices of its next command at hand. -/
def State.fresh (s : State) : State :=
  { s with choices := Config.freeChoices s.choiceCount, choiceCount := s.choiceCount + 1 }

end Sys2Proof.Machine
end

