-- ==== Sys2Proof/Machine/Notices.lean ====
section
/-! DEFINITION. Recording a notice (R184 to R189), fast capture (R192) and the trend ring (R191, R193). -/

namespace Sys2Proof.Machine

/-- The greatest number of records the queue holds (R187). -/
def queueCapacity : Nat := 32

/-- The queue holding this many records under HOLD sets the pressure flag (R189). -/
def pressureLevel : Nat := 16

/-- The oldest record marked: records older than it were discarded unsent (R187). -/
def markOldest : List Notice → List Notice
  | [] => []
  | n :: ns => { n with overrun := true } :: ns

/-- A record joins the newest end; at 32 records the oldest is first discarded and the next oldest marked (R187). -/
def joinQueue (n : Notice) (q : List Notice) : List Notice :=
  if q.length < queueCapacity then q ++ [n] else markOldest (q.drop 1) ++ [n]

/-- A record discarded while its frame is being sent is not removed a second time (R187). -/
def unqueueSent : Option TxFrame → Option TxFrame
  | some (.notice n t _) => some (.notice n t false)
  | x => x

/-- QUEUE_PRESSURE is offered once in a hold, when the queue holds 16 or more (R189). -/
def checkPressure (s : State) : State :=
  if s.link.hold = true ∧ s.notices.pressure = false ∧ pressureLevel ≤ s.notices.queue.length then
    s.modNotices fun n => { n with pressure := true, offers := n.offers ++ [n.queue.length] }
  else s

/-- The kind's mask is enabled (R186). -/
def maskEnabled (s : State) (k : NoticeKind) : Bool := k ∉ s.notices.disabled

/-- A stamped record joins the queue. -/
def enqueue (n : Notice) (s : State) : State :=
  let t := if s.notices.queue.length < queueCapacity then s else s.modTx unqueueSent
  checkPressure (t.modNotices fun x => { x with queue := joinQueue n x.queue })

/-- A block records a notice (R185): discarded if the mask is disabled, else stamped and queued. -/
def record (k : NoticeKind) (b : NoticeBody) (s : State) : State :=
  if maskEnabled s k then enqueue { tag := s.clock.tag, kind := k, body := b, overrun := false } s else s

/-- A protective event starts or extends fast capture (R192), whatever the masks. -/
def protectiveEvent (s : State) : State :=
  s.modTrend fun t => { t with fast := 30, sample := if t.fast = 0 then ⟨1000, 0⟩ else t.sample }

/-! ### The trend ring -/

/-- The greatest number of records the ring holds (R191). -/
def ringCapacity : Nat := 256

/-- The records from an index onward, in order; none if the index is not in the ring. -/
def recordsFrom (ring : List TrendRecord) (index : Nat) : List TrendRecord :=
  ring.dropWhile fun r => r.index ≠ index

/-- The unread count (R193): the records newer than the marker's, or all of them where the marker names none. The marker is an
index: after a whole turn of it, a new record of that index is taken as the marker's (log entry 40). -/
def unreadCount (t : Trend) : Nat :=
  match t.marker with
  | none => t.ring.length
  | some m =>
    match recordsFrom t.ring m with
    | [] => t.ring.length
    | _ :: newer => newer.length

/-- TREND_HALF is recorded when the unread count is 128 or more while the flag is armed (R193). -/
def checkTrendHalf (s : State) : State :=
  if s.trend.armed = true ∧ 128 ≤ unreadCount s.trend then
    record .trendHalf { value := some (unreadCount s.trend : Int) } (s.modTrend fun t => { t with armed := false })
  else s

/-- The snapshot of R191. -/
def snapshot (s : State) : TrendRecord :=
  { index := s.trend.nextIndex
    tag := s.clock.tag
    discharge := s.published .dischargeP
    intake := s.published .intakeP
    flow := s.flow
    engine := s.engineSpeed
    demand := s.governor.demand
    mainVolume := s.tanks.main.volume
    reserveVolume := s.tanks.reserve.volume
    temperature := s.published .pumpTemp
    mode := s.interlock.mode
    pto := s.drive.pto
    supply := s.supply.state }

/-- A record joins the ring; at 256 records the oldest leaves (R191). -/
def joinRing (r : TrendRecord) (ring : List TrendRecord) : List TrendRecord :=
  (if ring.length < ringCapacity then ring else ring.drop 1) ++ [r]

/-- The sample timer expires (R191, R192): a record is taken, fast capture counts down, and the timer starts again at
1 s while it lasts and at the trend interval otherwise. -/
def takeSample (s : State) : State :=
  let fast := s.trend.fast - 1
  checkTrendHalf <| s.modTrend fun t =>
    { t with
      ring := joinRing (snapshot s) t.ring
      nextIndex := (t.nextIndex + 1) % 65536
      fast := fast
      sample := ⟨if fast = 0 then trendInterval s else 1000, 0⟩ }

end Sys2Proof.Machine
end

