-- ==== Sys2Proof/Machine/Flags.lean ====
section
/-! DEFINITION. The flags and sets that several units read: the alarm cause set (R177), the ceilings (R70), the conditions
(R37) and the lockout judgement (R42). -/

namespace Sys2Proof.Machine

/-! ### The panel alarm (R177) -/

/-- The pattern the two sets call for (R177): it sounds while a cause is not silenced, steady if any cause is critical. -/
def patternFor (causes silenced : List AlarmCause) : AlarmPattern :=
  if causes.all (· ∈ silenced) then .silent
  else if causes.any isCritical then .steady
  else .intermittent

/-- The pattern set afresh after a change of either set (R177): an intermittent pattern that goes on is not restarted. -/
def setPattern (a : Alarm) : Alarm :=
  match patternFor a.causes a.silenced with
  | .silent => { a with pattern := .silent, drive := false, blink := none }
  | .steady => { a with pattern := .steady, drive := true, blink := none }
  | .intermittent =>
    if a.pattern = .intermittent then a
    else { a with pattern := .intermittent, drive := true, blink := startTimer 500 }

/-- An owner adds a cause; one already present changes nothing (R177). -/
def addAlarm (c : AlarmCause) (s : State) : State :=
  if c ∈ s.alarm.causes then s
  else s.modAlarm fun a => setPattern { a with causes := insertIn allAlarmCauses c a.causes }

/-- An owner removes a cause, which leaves the silenced set as well; an absent one changes nothing (R177). -/
def removeAlarm (c : AlarmCause) (s : State) : State :=
  if c ∈ s.alarm.causes then
    s.modAlarm fun a =>
      setPattern { a with causes := removeFrom c a.causes, silenced := removeFrom c a.silenced }
  else s

/-! ### The ceilings (R70) -/

/-- The drive ceiling (R48). -/
def driveCeiling (s : State) : Nat := if s.drive.pto = .engaged then 1000 else 0

/-- The supply states in which the limiter is evaluated and L is the supply ceiling (R98, R115). -/
def limiterRuns : SupplyState → Bool
  | .tank | .hydrantQualifying | .hydrant | .draft | .switching => true
  | .idle | .draftPriming | .noSupply => false

/-- The supply ceiling (R98). -/
def supplyCeiling (s : State) : Nat :=
  match s.supply.state with
  | .idle | .noSupply => 0
  | .draftPriming => 1000
  | .tank | .hydrantQualifying | .hydrant | .draft | .switching => s.supply.limit

/-- The thermal ceiling (R157): the first value of the list whose condition holds. -/
def thermalCeiling (s : State) : Nat :=
  if s.thermal.latch then 0
  else if s.thermal.overheat then 0
  else match s.thermal.zone with
    | .hot => hotCeiling s
    | .warm => warmCeiling s
    | .normal => 1000

/-- The five ceiling inputs as they stand (R70). -/
def ceilings (s : State) : Ceilings :=
  { profile := profileCeiling s, mode := s.interlock.ceiling, supply := supplyCeiling s, thermal := thermalCeiling s
    drive := driveCeiling s }

/-- The least of the profile, mode, supply and thermal ceilings (R70). -/
def leastCeiling (c : Ceilings) : Nat := min (min c.profile c.mode) (min c.supply c.thermal)

/-- The composed ceiling C (R70): 0 where the drive ceiling is 0. -/
def composedCeiling (c : Ceilings) : Nat := if c.drive = 0 then 0 else leastCeiling c

/-- The binding ceiling (R70): DRIVE, or the first source that holds the least value. -/
def bindingCeiling (c : Ceilings) : CeilingSource :=
  if c.drive = 0 then .drive
  else if c.profile = leastCeiling c then .profile
  else if c.mode = leastCeiling c then .mode
  else if c.supply = leastCeiling c then .supply
  else .thermal

/-- The ceiling read and reported as R70 states. -/
def readCeilings (c : Ceilings) (g : Governor) : Governor :=
  { g with ceiling := composedCeiling c, binding := bindingCeiling c, inputs := c }

/-- A ceiling lowered below the demand takes the demand down to it at once (R71); a ceiling that stands at or above the
demand changes nothing, the inputs last read included (R96, log entry 36). -/
def clipDemand (s : State) : State :=
  let c := ceilings s
  if leastCeiling c < s.governor.demand then
    s.modGovernor fun g => readCeilings c { g with demand := leastCeiling c }
  else s

/-! ### Conditions (R37) -/

/-- A condition as the state of its owner has it (R37). ENGINE_AT_IDLE is the comparison made at the last published set
(R34, log entry 16), also in a report made within a set before that set's own comparison (log entry 47). -/
def conditionHolds (s : State) : Condition → Bool
  | .parkBrakeSet => s.asserted .parkBrake
  | .inNeutral => s.asserted .neutral
  | .still => !s.interlock.moving
  | .rollSelected => s.asserted .rollSelect
  | .engineAtIdle => s.interlock.engineAtIdle
  | .voltageOk => s.interlock.voltageOk
  | .supplyIsTank => s.supply.state == .tank
  | .tankAvailable => (s.tank s.supply.selected).state != .empty
  | .noPtoFault => s.drive.pto != .fault
  | .noDryRun => !s.thermal.latch
  | .stopClear => !s.asserted .panelStop
  | .panelFlag n => n ∈ s.interlock.flags

/-- The conditions that hold, in listing order. -/
def trueConditions (s : State) : List Condition := allConditions.filter (conditionHolds s)

/-- The lockout entry of a guarded kind (R40). -/
def State.entry (s : State) (k : GuardedKind) : LockoutEntry := getKind s.interlock.lockout k

/-- The required conditions of an entry that do not hold, in listing order (R39, R42). -/
def failingConditions (s : State) (k : GuardedKind) : List Condition :=
  allConditions.filter fun c => c ∈ (s.entry k).conds && !conditionHolds s c

/-- What a judgement finds (R42). -/
inductive Judgement where
  | passed
  | wrongMode (m : OpMode)
  | failing (l : List Condition)
deriving DecidableEq, Repr

/-- The judgement of a guarded kind (R42): the mode first, then every required condition. -/
def judge (s : State) (k : GuardedKind) : Judgement :=
  if s.interlock.mode ∉ (s.entry k).modes then .wrongMode s.interlock.mode
  else match failingConditions s k with
    | [] => .passed
    | l => .failing l

/-- The entry an engagement kind is judged against (R50). -/
def engageEntry : Kind → GuardedKind
  | .stationary => .engageStationary
  | .roll => .engageRoll

/-- The condition set evaluated, with no report (R39: outside PRECHECK, SHIFTING and SETTLE nothing is handed on). -/
def refreshConditions (s : State) : State := s.modInterlock fun i => { i with conditions := trueConditions s }

/-! ### Which tank feeds the pump (R134) -/

/-- The feeding tank (R134). -/
def feedingTank (s : State) : Option Tank :=
  match s.supply.state, s.supply.phase with
  | .tank, _ => some s.supply.selected
  | .switching, some .openingTarget | .switching, some .settling => some s.supply.selected
  | _, _ => none

end Sys2Proof.Machine
end

