-- ==== Sys2Proof/Machine/Valves.lean ====
section
/-! DEFINITION. The Output Unit: actuator records and their travel (R166 to R173), the recirculation cause set (R176),
switched outputs and pulses (R179), and what each terminal carries (R19, R183). -/

namespace Sys2Proof.Machine

/-- A valve's feedback role (R166); the fill valves carry none. -/
def feedbackRole : ValveRole → Option Role
  | .mainValve => some .mainValveFb
  | .reserveValve => some .reserveValveFb
  | .recircValve => some .recircFb
  | .mainFill | .reserveFill => none

/-- A valve's feedback: absent where its role is not assigned (R18). -/
def feedback (s : State) (v : ValveRole) : Option Bool := (feedbackRole v).bind s.qualified

/-- The drive of an actuator (R166): ENERGISED in OPENING outside the retry pause and in AT_OPEN. -/
def actuatorDrive (a : Actuator) : Bool :=
  match a.state with
  | .opening => a.retry.isNone
  | .atOpen => true
  | .atClosed | .closing | .fault => false

/-- The record of a valve that has arrived: timers stopped, try count 0. -/
def arrived (st : ValveState) (c : Confirmation) (a : Actuator) : Actuator :=
  { a with state := st, confirmation := c, tries := 0, retry := none, travel := none }

/-- Entry to OPENING (R168): a feedback already ASSERTED takes the valve as open at once. -/
def enterOpening (v : ValveRole) (s : State) : State :=
  if feedback s v = some true then s.modValve v (arrived .atOpen .confirmed)
  else s.modValve v fun a =>
    { a with state := .opening, tries := 1, retry := none, travel := startTimer (travelTime s v) }

/-- Entry to CLOSING (R169). -/
def enterClosing (v : ValveRole) (s : State) : State :=
  s.modValve v fun a =>
    { a with state := .closing, tries := 0, retry := none, travel := startTimer (travelTime s v) }

/-- Travel toward a command, begun or reversed (R167, R171). -/
def beginTravel (v : ValveRole) (isOpen : Bool) (s : State) : State :=
  if isOpen then enterOpening v s else enterClosing v s

/-- A command that is carried out (R167): one equal to the command in force has no effect; in FAULT it is stored and the
valve does not move. -/
def carryOut (v : ValveRole) (isOpen : Bool) (s : State) : State :=
  if (s.valve v).openCmd = isOpen then s
  else
    let t := s.modValve v fun a => { a with openCmd := isOpen }
    if (s.valve v).state = .fault then t else beginTravel v isOpen t

/-- Some actuator record is in FAULT. -/
def anyValveFault (s : State) : Bool := allValves.any fun v => (s.valve v).state == .fault

/-- Entry to FAULT (R172), up to the report to the owner. -/
def enterValveFault (v : ValveRole) (c : ValveFault) (s : State) : State :=
  addAlarm .valve <|
  record .valveFault
    { subject := some (.valve v), old := some (.valve (s.valve v).state), new := some (.valve .fault)
      cause := some (.valveFault c) } <|
  s.modValve v fun a => { a with state := .fault, tries := 0, retry := none, travel := none, fault := some c }

/-- Expiry of a valve's travel timer (R168, R169). -/
def expireTravel (v : ValveRole) (s : State) : State :=
  if (s.valve v).travel.isNone then s
  else match (s.valve v).state, feedback s v with
    | .opening, none => s.modValve v (arrived .atOpen .unconfirmed)
    | .opening, some _ =>
      if (s.valve v).tries = 1 then s.modValve v fun a => { a with travel := none, retry := startTimer 1000 }
      else enterValveFault v .noOpen s
    | .closing, none => s.modValve v (arrived .atClosed .unconfirmed)
    | .closing, some false => s.modValve v (arrived .atClosed .confirmed)
    | .closing, some true => enterValveFault v .stuckOpen s
    | _, _ => s

/-- Expiry of a valve's retry pause (R168): the second try. -/
def expireRetry (v : ValveRole) (s : State) : State :=
  if (s.valve v).retry.isNone then s
  else s.modValve v fun a => { a with tries := 2, retry := none, travel := startTimer (travelTime s v) }

/-- A qualified change of a valve's feedback (R168, R169, R170). -/
def feedbackChange (v : ValveRole) (asserted : Bool) (s : State) : State :=
  match (s.valve v).state, asserted with
  | .opening, true => s.modValve v (arrived .atOpen .confirmed)
  | .closing, false => s.modValve v (arrived .atClosed .confirmed)
  | .atOpen, false => enterOpening v s
  | .atClosed, true => enterClosing v s
  | _, _ => s

/-- A taken CLEAR_FAULT of a valve (R173): the state is set from what can be seen, and travel begins at once where it does
not match the command in force. -/
def clearValveFault (v : ValveRole) (s : State) : State :=
  let seen : ValveState × Confirmation :=
    match feedback s v with
    | some true => (.atOpen, .confirmed)
    | some false => (.atClosed, .confirmed)
    | none => (if (s.valve v).openCmd then .atOpen else .atClosed, .unconfirmed)
  let t := s.modValve v fun a => { arrived seen.1 seen.2 a with fault := none }
  let u := if anyValveFault t then t else removeAlarm .valve t
  if ((s.valve v).openCmd = true) = (seen.1 = .atOpen) then u else beginTravel v (s.valve v).openCmd u

/-! ### Recirculation (R176) -/

/-- A recirculation cause is added; the valve is commanded OPEN as the set ceases to be empty (R176). -/
def addRecirc (c : RecircCause) (s : State) : State :=
  if c ∈ s.recirc then s
  else
    let t := s.modRecirc (insertIn allRecircCauses c)
    if s.recirc = [] then carryOut .recircValve true t else t

/-- A recirculation cause is removed; the valve is commanded CLOSED as the set becomes empty (R176). -/
def removeRecirc (c : RecircCause) (s : State) : State :=
  if c ∈ s.recirc then
    let t := s.modRecirc (removeFrom c)
    if t.recirc = [] then carryOut .recircValve false t else t
  else s

/-! ### Switched outputs (R179) -/

/-- A pulse of N ms: 0 turns the output OFF, 65,535 energises it continuously (R179). -/
def pulsed (n : Nat) : OutputRecord :=
  if n = 0 then { drive := false, countdown := none }
  else if n = 65535 then { drive := true, countdown := none }
  else { drive := true, countdown := some n }

/-- The Supply Unit commands PRIMER (R179). -/
def setPrimer (on : Bool) (s : State) : State :=
  s.modOutputs fun o => { o with primer := pulsed (if on then 65535 else 0) }

/-- A general output's record set. -/
def setGeneral (t : Terminal) (r : OutputRecord) (s : State) : State :=
  s.modOutputs fun o => { o with general := o.general.set t r }

/-- A pulse countdown reaches 0 (R179). -/
def endPulse (o : PulsedOutput) (s : State) : State :=
  match o with
  | .primer => if s.outputs.primer.countdown.isNone then s else s.modOutputs fun x => { x with primer := outputOff }
  | .general t => if s.outputs.general[t].countdown.isNone then s else setGeneral t outputOff s

/-- The safe state of a GENERAL_OUT terminal is applied (R181). -/
def applySafeState (t : Terminal) (s : State) : State :=
  let r := s.terminals.assignment[t]
  if r.role = .generalOut then
    match r.safe with
    | some .off => setGeneral t outputOff s
    | some .on => setGeneral t { drive := true, countdown := none } s
    | some .hold | none => s
  else s

/-! ### Pins (R19, R183) -/

/-- The command an output role gives its terminal (R19). -/
def roleDrive (s : State) (t : Terminal) : Role → Bool
  | .ptoClutch => s.drive.clutch
  | .mainValve => actuatorDrive s.valves.mainValve
  | .reserveValve => actuatorDrive s.valves.reserveValve
  | .mainFill => actuatorDrive s.valves.mainFill
  | .reserveFill => actuatorDrive s.valves.reserveFill
  | .recircValve => actuatorDrive s.valves.recircValve
  | .primer => s.outputs.primer.drive
  | .alarm => s.alarm.drive
  | .generalOut => s.outputs.general[t].drive
  | _ => false

/-- Whether a terminal is driven ENERGISED: with no power every output is OFF (R183). -/
def terminalDrive (s : State) (t : Terminal) : Bool := s.powered && roleDrive s t s.terminals.assignment[t].role

/-- The level an output terminal is driven to (R19): the polarity names the level of ENERGISED. -/
def terminalLevel (s : State) (t : Terminal) : Bool :=
  match s.terminals.assignment[t].polarity with
  | .activeHigh => terminalDrive s t
  | .activeLow => !terminalDrive s t

/-- THROTTLE_OUT in mV (R183): 0.5 V plus 4 mV for each permille of demand, and off with no power. -/
def throttleOut (s : State) : Nat := if s.powered then 500 + 4 * s.governor.demand else 0

end Sys2Proof.Machine
end

