-- ==== Sys2Proof/Machine/Fill.lean ====
section
/-! DEFINITION. Filling (R139 to R146) and the tank-to-pump valves with their pair interlocks (R174, R175). -/

namespace Sys2Proof.Machine

/-! ### Thresholds (R131) -/

/-- A tank's capacity (R126): the volume of the last point of its table. -/
def capacity (s : State) (t : Tank) : Nat := ((s.tank t).table.getLast?.map (·.2)).getD 0

/-- A percentage of a tank's capacity in whole litres, truncated (R131). -/
def percentOf (s : State) (t : Tank) (percent : Nat) : Nat := capacity s t * percent / 100

/-- The full threshold in L. -/
def fullAt (s : State) (t : Tank) : Nat := percentOf s t (s.paramNat 45)
/-- The top-off threshold in L. -/
def topoffAt (s : State) (t : Tank) : Nat := percentOf s t (s.paramNat 46)
/-- The refill threshold in L. -/
def refillAt (s : State) (t : Tank) : Nat := percentOf s t (s.paramNat 47)
/-- The low threshold in L. -/
def lowAt (s : State) (t : Tank) : Nat := percentOf s t (s.paramNat 48)
/-- The empty threshold in L. -/
def emptyAt (s : State) (t : Tank) : Nat := percentOf s t (s.paramNat 49)
/-- The hysteresis in L. -/
def hysteresis (s : State) (t : Tank) : Nat := percentOf s t 2

/-! ### The fill valve command (R174) -/

/-- The Tank Unit commands a tank's fill valve. An open is not carried out while the tank's own tank-to-pump valve is
commanded open: VALVE_INTERLOCK is recorded and the command stays CLOSED (R174, R175). -/
def commandFill (t : Tank) (isOpen : Bool) (s : State) : State :=
  if isOpen = true ∧ (s.valve (tankValve t)).openCmd = true then
    record .valveInterlock
      { subject := some (.valve (fillValve t)), cause := some (.blockedBy (tankValve t)) } <|
    s.modTank t fun r => { r with fillOpen := false }
  else carryOut (fillValve t) isOpen (s.modTank t fun r => { r with fillOpen := isOpen })

/-! ### The stages (R141 to R143) -/

/-- The record of FILL_STAGE (R146). -/
def recordStage (t : Tank) (old : FillStage) (c : FillCause) (s : State) : State :=
  record .fillStage
    { subject := some (.tank t), old := some (.stage old), new := some (.stage (s.tank t).stage)
      value := (s.tank t).volume.map Int.ofNat, cause := some (.fill c) } s

/-- The valve and cycle of BULK, the safety timer given (R141). -/
def runBulk (t : Tank) (safety : Option SafetyTimer) (s : State) : State :=
  commandFill t true <| s.modTank t fun r =>
    { r with stage := .bulk, suspendedFrom := none, safety := safety, phase := none, cycle := none }

/-- The valve and cycle of TOPOFF, the safety timer given: the cycle starts from OPEN_PHASE (R142). -/
def runTopoff (t : Tank) (safety : Option SafetyTimer) (s : State) : State :=
  commandFill t true <| s.modTank t fun r =>
    { r with
      stage := .topoff, suspendedFrom := none, safety := safety, phase := some .openPhase, cycle := startTimer 2000 }

/-- Entry to BULK (R141). -/
def enterBulk (t : Tank) (s : State) : State := runBulk t (some ⟨0, bulkLimit s⟩) s

/-- Entry to TOPOFF (R142). -/
def enterTopoff (t : Tank) (s : State) : State := runTopoff t (some ⟨0, topoffLimit s⟩) s

/-- A stage in which the fill valve is closed and neither timer runs. -/
def closeFill (t : Tank) (st : FillStage) (s : State) : State :=
  commandFill t false <| s.modTank t fun r =>
    { r with stage := st, suspendedFrom := none, safety := none, phase := none, cycle := none }

/-- Entry to FULL_HOLD (R143). -/
def enterFullHold (t : Tank) (s : State) : State := closeFill t .fullHold s

/-- The stage a start chooses by volume (R140, step 5). -/
def stageByVolume (s : State) (t : Tank) : FillStage :=
  let v := (s.tank t).volume.getD 0
  if v < topoffAt s t then .bulk else if v < fullAt s t then .topoff else .fullHold

/-- Entry to a stage afresh. -/
def enterStage (t : Tank) (st : FillStage) (s : State) : State :=
  match st with
  | .bulk => enterBulk t s
  | .topoff => enterTopoff t s
  | .fullHold => enterFullHold t s
  | .off | .suspended | .timeout => s

/-- TOPOFF at an evaluation of the level state (R142): a volume at or above full ends it. -/
def evaluateTopoff (t : Tank) (s : State) : State :=
  if fullAt s t ≤ (s.tank t).volume.getD 0 then recordStage t .topoff .volume (enterFullHold t s) else s

/-- The stage machine at an evaluation of the level state (R141, R142, R143). -/
def evaluateFill (t : Tank) (s : State) : State :=
  match (s.tank t).stage, (s.tank t).volume with
  | .bulk, some v =>
    if topoffAt s t ≤ v then evaluateTopoff t (recordStage t .bulk .volume (enterTopoff t s)) else s
  | .topoff, some _ => evaluateTopoff t s
  | .fullHold, some v => if v < refillAt s t then recordStage t .fullHold .volume (enterBulk t s) else s
  | _, _ => s

/-! ### Permission (R139, R145) -/

/-- One part of a tank's fill permission (R139). -/
def permissionPart (s : State) (t : Tank) : PermissionPart → Bool
  | .ptoEngaged => s.drive.pto == .engaged
  | .supplyHydrantOrDraft => s.supply.state == .hydrant || s.supply.state == .draft
  | .still => !s.interlock.moving
  | .notEstimating => (s.tank t).estimating.isNone
  | .levelKnown => (s.tank t).state != .unknown
  | .tankValveNotOpen => !(s.valve (tankValve t)).openCmd

/-- The fill permission (R139): all six parts hold. -/
def fillPermission (s : State) (t : Tank) : Bool := allPermissionParts.all (permissionPart s t)

/-- The permission is lost in BULK, TOPOFF or FULL_HOLD (R145). -/
def suspendFill (t : Tank) (s : State) : State :=
  let old := (s.tank t).stage
  recordStage t old .permissionLost <| commandFill t false <| s.modTank t fun r =>
    { r with stage := .suspended, suspendedFrom := some old, phase := none, cycle := none }

/-- The stage a suspended fill resumes in (R145). -/
def resumeStage (s : State) (t : Tank) : FillStage :=
  if (s.tank t).suspendedFrom = some .fullHold ∧ refillAt s t ≤ (s.tank t).volume.getD 0 then .fullHold
  else stageByVolume s t

/-- The permission holds again in SUSPENDED (R145): a stage resumed keeps its held safety timer, another starts afresh. -/
def resumeFill (t : Tank) (s : State) : State :=
  let st := resumeStage s t
  recordStage t .suspended .permissionReturned <|
    if (s.tank t).suspendedFrom = some st then
      match st with
      | .bulk => runBulk t (s.tank t).safety s
      | .topoff => runTopoff t (s.tank t).safety s
      | _ => enterStage t st s
    else enterStage t st s

/-- The permission evaluated (R139) and its loss or return acted on (R145). -/
def reviewFill (t : Tank) (s : State) : State :=
  match (s.tank t).stage with
  | .bulk | .topoff | .fullHold => if fillPermission s t then s else suspendFill t s
  | .suspended => if fillPermission s t then resumeFill t s else s
  | .off | .timeout => s

/-- Both tanks' permissions evaluated. -/
def reviewFills (s : State) : State := forTanks reviewFill s

/-! ### The tank-to-pump valves (R174) -/

/-- A forced closing of a tank's fill valve, reported to the Tank Unit (R174, R175). -/
def forceFillClosed (t : Tank) (s : State) : State :=
  if (s.valve (fillValve t)).openCmd then
    (carryOut (fillValve t) false s).modTank t fun r => { r with fillOpen := false }
  else s

/-- The Supply Unit commands a tank-to-pump valve (R174). An open is not carried out while the other tank's is commanded
open; otherwise the tank's own fill valve is first commanded closed. A change of the command reaches the Tank Unit, which
evaluates the fill permission (R139, R175). -/
def commandTankValve (t : Tank) (isOpen : Bool) (s : State) : State :=
  if isOpen then
    if (s.valve (tankValve (otherTank t))).openCmd then
      record .valveInterlock
        { subject := some (.valve (tankValve t)), cause := some (.blockedBy (tankValve (otherTank t))) } s
    else reviewFill t (carryOut (tankValve t) true (forceFillClosed t s))
  else reviewFill t (carryOut (tankValve t) false s)

/-- Both tank-to-pump valves commanded CLOSED. -/
def closeTankValves (s : State) : State := commandTankValve .reserve false (commandTankValve .main false s)

/-! ### Requests and timers of a fill -/

/-- Expiry of the cycle timer (R142). -/
def expireCycle (t : Tank) (s : State) : State :=
  if (s.tank t).cycle.isNone then s
  else match (s.tank t).phase with
    | some .openPhase =>
      commandFill t false (s.modTank t fun r => { r with phase := some .closedPhase, cycle := startTimer 3000 })
    | some .closedPhase =>
      commandFill t true (s.modTank t fun r => { r with phase := some .openPhase, cycle := startTimer 2000 })
    | none => s

/-- The elapsed fill time reaches its limit (R144). -/
def expireSafety (t : Tank) (s : State) : State :=
  match (s.tank t).stage with
  | .bulk | .topoff =>
    record .fillTimeout
      { subject := some (.tank t), old := some (.stage (s.tank t).stage), new := some (.stage .timeout)
        value := (s.tank t).volume.map Int.ofNat } <|
    closeFill t .timeout s
  | .off | .fullHold | .suspended | .timeout => s

/-- The stage becomes OFF (R146); a stop in OFF changes nothing. -/
def stopFill (t : Tank) (s : State) : State :=
  if (s.tank t).stage = .off then s
  else recordStage t (s.tank t).stage .stop (closeFill t .off s)

end Sys2Proof.Machine
end

