-- ==== Sys2Proof/Machine/Governor.lean ====
section
/-! DEFINITION. The Pressure Governor: setpoints (R79), the override set and the active pair (R85 to R90), sensor fallback
(R91, R92), the engine pulse loss watch (R93, R94), and the period computation (R72 to R78). -/

namespace Sys2Proof.Machine

/-! ### Setpoints (R79) -/

/-- A pressure setpoint as it would be stored: 300..2400 on a step of 5. -/
def storedPressure (v : Nat) : Nat := (min (max v 300) 2400 + 2) / 5 * 5

/-- A speed setpoint as it would be stored: 700..3000 on a step of 25. -/
def storedSpeed (v : Nat) : Nat := (min (max v 700) 3000 + 12) / 25 * 25

/-- The setpoint of a setting, absent in IDLE. -/
def Setting.value? : Setting → Option Nat
  | .idle => none
  | .pressure p => some p
  | .speed r => some r

/-- A shadow write that is a raise (R80): it leaves IDLE, changes the mode, or lifts the setpoint. -/
def isRaise : Setting → Setting → Bool
  | .idle, .pressure _ | .idle, .speed _ => true
  | .pressure _, .speed _ | .speed _, .pressure _ => true
  | .pressure p, .pressure q => p < q
  | .speed p, .speed q => p < q
  | _, .idle => false

/-! ### The active pair (R86, R87, R90) -/

/-- The governing source (R86): the highest-ranked override while the shadow is not IDLE, and otherwise the shadow. -/
def governingSource (g : Governor) : Source :=
  if g.shadow = .idle then .shadow
  else match allOverrides.find? (· ∈ g.overrides) with
    | some k => .over k
    | none => .shadow

/-- The pair an override forms as it becomes governing (R87). -/
def formPair (s : State) (g : Governor) : OverrideKind → Setting
  | .sensorFallback => .speed (g.captured.getD 700)
  | .priming => .speed (primeSpeed s)
  | .switchover =>
    match g.shadow with
    | .pressure p => .pressure (min p (switchoverPressure s))
    | x => x

/-- The active pair derived afresh (R86): an override that goes on governing keeps the pair it formed. -/
def derivedPair (s : State) (g : Governor) : Setting :=
  match governingSource g with
  | .shadow => g.shadow
  | .over k => if g.source = .over k then g.active else formPair s g k

/-- The changes that call for a reseed (R90): of the pair or of the source, the active mode not IDLE before and after. -/
def needsReseed (g : Governor) (act : Setting) (src : Source) : Bool :=
  g.active != .idle && act != .idle && (act != g.active || src != g.source)

/-- What a derivation does to a freeze (R94): a pair that stays SPEED keeps it and calls for a reseed. A freeze that began
after the active mode had left SPEED ends at the next derivation that finds PRESSURE or IDLE (log entry 35). -/
def deriveFreeze (g : Governor) : Governor :=
  if g.frozen then
    match g.active with
    | .speed _ => { g with reseed := true }
    | .pressure _ => { g with frozen := false, reseed := true }
    | .idle => { g with frozen := false }
  else g

/-- The derivation made after every change of the shadow and of the override set (R86). -/
def derivePair (s : State) : State :=
  s.modGovernor fun g =>
    let act := derivedPair s g
    let src := governingSource g
    deriveFreeze { g with active := act, source := src, reseed := g.reseed || needsReseed g act src }

/-- The shadow written and the active pair derived. -/
def writeShadow (x : Setting) (s : State) : State := s.modGovernor fun g => { g with shadow := x }

/-! ### The override set (R85, R88) -/

/-- The record of OVERRIDE_CHANGED (R88). -/
def recordOverride (k : OverrideKind) (before : Source) (c : CauseName) (s : State) : State :=
  record .overrideChanged
    { subject := some (.override k), old := some (.source before), new := some (.source s.governor.source)
      value := s.governor.active.value?.map Int.ofNat, cause := some c } s

/-- An order to begin an override (R85): discarded while the PTO is not ENGAGED, nothing for a kind in the set. -/
def beginOverride (k : OverrideKind) (s : State) : State :=
  if s.drive.pto = .engaged ∧ k ∉ s.governor.overrides then
    recordOverride k s.governor.source .overrideBegan <|
      derivePair (s.modGovernor fun g => { g with overrides := insertIn allOverrides k g.overrides })
  else s

/-- An order to end an override (R85); the captured speed goes with SENSOR_FALLBACK (R92). -/
def endOverride (k : OverrideKind) (s : State) : State :=
  if k ∈ s.governor.overrides then
    recordOverride k s.governor.source .overrideEnded <|
      derivePair (s.modGovernor fun g =>
        { g with
          overrides := removeFrom k g.overrides
          captured := if k = .sensorFallback then none else g.captured })
  else s

/-- Entry to ENGAGED and exit from it (R95). C and the binding ceiling stand until the next period. -/
def governorReset (s : State) : State :=
  s.modGovernor fun g =>
    { g with
      shadow := .idle, active := .idle, overrides := [], captured := none, source := .shadow, acc := 0, demand := 0
      reseed := false, frozen := false, loss := none }

/-! ### Sensor fallback (R91, R92) -/

/-- The captured speed (R91): rounded to the nearest multiple of 25 and clamped to 700..3000. -/
def capturedSpeed (rpm : Nat) : Nat := min (max ((rpm + 12) / 25 * 25) 700) 3000

/-- The shadow mode is PRESSURE. -/
def Setting.isPressure : Setting → Bool
  | .pressure _ => true
  | .idle | .speed _ => false

/-- The mode is SPEED. -/
def Setting.isSpeed : Setting → Bool
  | .speed _ => true
  | .idle | .pressure _ => false

/-- The test of R91, made at each published set and at each shadow write that leaves the shadow in PRESSURE. -/
def tryFallback (s : State) : State :=
  if s.drive.pto = .engaged ∧ s.governor.shadow.isPressure = true ∧ s.healthOf .dischargeP = .failed
      ∧ .sensorFallback ∉ s.governor.overrides then
    beginOverride .sensorFallback
      (s.modGovernor fun g => { g with captured := some (capturedSpeed s.engineSpeed) })
  else s

/-- Sensor fallback at a published set (R91, R92). -/
def publishFallback (s : State) : State :=
  if s.healthOf .dischargeP = .ok then endOverride .sensorFallback s else tryFallback s

/-! ### Engine pulse loss (R93, R94) -/

/-- The four conditions of the pulse-loss watch (R93). -/
def losingPulses (s : State) : Bool :=
  s.drive.pto == .engaged && s.governor.active.isSpeed && s.sense.front.quiet.engineSpeed &&
    decide (300 ≤ s.governor.demand)

/-- The pulse-loss watch at a published set (R93), and the end of a freeze as the pulses return (R94). -/
def publishPulseLoss (s : State) : State :=
  if s.governor.frozen then
    if s.sense.front.quiet.engineSpeed then s
    else s.modGovernor fun g => { g with frozen := false, reseed := true }
  else s.modGovernor fun g => { g with loss := timerWhile (losingPulses s) 2000 g.loss }

/-- Expiry of the pulse-loss timer (R93). -/
def expirePulseLoss (s : State) : State :=
  if s.governor.loss.isNone then s else s.modGovernor fun g => { g with frozen := true, loss := none }

/-! ### The period (R72 to R78) -/

/-- The accumulator's clamp. -/
def clampAcc (a : Int) : Int := clampTo (-262144) 262143 a

/-- Kp, Ki, the setpoint and the measured value of a computed period (R74, R75); none in IDLE. -/
def controlInputs (s : State) : Option (Int × Int × Int × Int) :=
  match s.governor.active with
  | .idle => none
  | .pressure p => some (s.param 30, s.param 31, p, s.published .dischargeP)
  | .speed r => some (s.param 32, s.param 33, r, s.engineSpeed)

/-- The error (R74). -/
def controlError (setpoint measured : Int) : Int := clampTo (-1000) 1000 (setpoint - measured)

/-- The proportional term (R75). -/
def pTerm (kp e : Int) : Int := (kp * e).tdiv 16

/-- The accumulator before the candidate is formed: reseeded where a reseed is pending (R90). -/
def seededAcc (g : Governor) (p : Int) : Int :=
  if g.reseed then clampAcc (((g.demand : Int) - p) * 256) else g.acc

/-- The limits in their order (R76). -/
def limitDemand (previous rise fall ceiling : Nat) (raw : Int) : Nat :=
  (clampTo 0 ceiling (max (min raw (previous + rise)) ((previous : Int) - fall))).toNat

/-- The integral decision (R77): the candidate is discarded where a limit holds the demand on the side of the error. -/
def decideAcc (before candidate raw : Int) (demand : Nat) (e : Int) : Int :=
  if raw ≠ demand ∧ (raw - demand).sign = e.sign then before else candidate

/-- Stages 4 to 9 of a period in PRESSURE or SPEED (R74 to R78), the ceiling read. -/
def computePeriod (s : State) (kp ki setpoint measured : Int) (g : Governor) : Governor :=
  let e := controlError setpoint measured
  let p := pTerm kp e
  let before := seededAcc g p
  let candidate := clampAcc (before + ki * e)
  let raw := p + candidate.tdiv 256
  let d := limitDemand g.demand (riseLimit s) (fallLimit s) g.ceiling raw
  { g with demand := d, acc := decideAcc before candidate raw d e, reseed := false }

/-- One governor period (R72): the ceiling, the freeze, the active mode, and the computation. -/
def governPeriod (s : State) : State :=
  let c := ceilings s
  s.modGovernor fun g0 =>
    let g := readCeilings c g0
    if c.drive = 0 then { g with demand := 0, acc := 0, loss := none }
    else if g.frozen then { g with demand := min g.demand g.ceiling }
    else match controlInputs s with
      | none => { g with demand := min (g.demand - fallLimit s) g.ceiling, acc := 0, reseed := false }
      | some (kp, ki, setpoint, measured) => computePeriod s kp ki setpoint measured g

end Sys2Proof.Machine
end

