-- ==== Sys2Proof/Machine/Interlock.lean ====
section
/-! DEFINITION. The operating modes (R26 to R33), the clutch sequence outside ENGAGED (R50 to R66), and the report of
condition changes to it (R39, R55). -/

namespace Sys2Proof.Machine

/-! ### The operating mode -/

/-- The modes in which the pump is driven (chapter 2). -/
def isPumping : OpMode → Bool
  | .pumpStationary | .pumpRoll | .rollOverspeed => true
  | .road | .motionTrip => false

/-- The mode ceiling as a mode is entered (R26): the slide of ROLL_OVERSPEED starts from the present value (R29). -/
def entryCeiling (s : State) : OpMode → Nat
  | .road | .motionTrip => 0
  | .pumpStationary => 1000
  | .pumpRoll => rollCeiling s
  | .rollOverspeed => s.interlock.ceiling

/-- A change of mode (R26, R30, R33): the ceiling is set, the overspeed timers stop and MODE_CHANGED is recorded; the
entry into MOTION_TRIP is a protective event (R192), and a lowered ceiling clips the demand (R71). -/
def setMode (m : OpMode) (c : ModeCause) (s : State) : State :=
  let t := s.modInterlock fun i =>
    { i with mode := m, ceiling := entryCeiling s m, recovery := none, trip := none }
  let u := record .modeChanged
    { old := some (.mode s.interlock.mode), new := some (.mode m), cause := some (.mode c) } t
  clipDemand (if m = .motionTrip then protectiveEvent u else u)

/-- A trip without its order (R28): the alarm, the mode and the notice. -/
def tripMode (c : ModeCause) (s : State) : State := setMode .motionTrip c (addAlarm .motion s)

/-- The report that the PTO has left ENGAGED (R32). -/
def modeOnExit (s : State) : State := if isPumping s.interlock.mode then setMode .road .ptoReleased s else s

/-- The report that the PTO has reached DISENGAGED (R32). -/
def modeOnDisengaged (s : State) : State :=
  if s.interlock.mode = .motionTrip then removeAlarm .motion (setMode .road .ptoReleased s) else s

/-! ### The clutch sequence outside ENGAGED -/

/-- The states in which the clutch is energised (R48). -/
def clutchDriven : PtoState → Bool
  | .shifting | .engaged | .rampdown => true
  | .disengaged | .precheck | .settle | .releasing | .fault => false

/-- A change of PTO state (R48): the clutch drive follows it and the timers of the state left stop; the start-up window
ends as DISENGAGED is left (R65). -/
def toPto (p : PtoState) (d : Drive) : Drive :=
  { d with
    pto := p, clutch := clutchDriven p, precheck := none, feedback := none, settle := none, ramp := none
    releasing := none, window := if p = .disengaged then d.window else none }

/-- STOP leaves the alarm in DISENGAGED and FAULT while PANEL_STOP is not asserted (R60). -/
def reviewStop (s : State) : State :=
  if (s.drive.pto = .disengaged ∨ s.drive.pto = .fault) ∧ s.asserted .panelStop = false then removeAlarm .stop s
  else s

/-- The fields that are absent, and the try counter 0, in DISENGAGED (R59, R64). -/
def driveIdle (d : Drive) : Drive :=
  { toPto .disengaged d with kind := none, confirmation := none, release := none, fault := none, tries := 0 }

/-- RELEASING ends in DISENGAGED (R59): value 0 is confirmed, 1 is ended by time. -/
def endRelease (value : Int) (s : State) : State :=
  modeOnDisengaged <| reviewStop <|
  record .disengageDone
    { old := some (.pto .releasing), new := some (.pto .disengaged), value := some value
      cause := s.drive.release.map .release } <|
  s.modDrive driveIdle

/-- A PTO_FB found or become NOT_ASSERTED in RELEASING confirms the release (R59). -/
def confirmRelease (s : State) : State :=
  if s.drive.pto = .releasing ∧ s.qualified .ptoFb = some false then endRelease 0 s else s

/-- RELEASING as it is entered (R59), before the release is confirmed or the transition handed on. -/
def startRelease (c : ReleaseCause) (s : State) : State :=
  s.modDrive fun d => { toPto .releasing d with release := some c, releasing := startTimer 3000 }

/-- An engagement abandoned from PRECHECK, SHIFTING or SETTLE (R55, R60, R61, R62). -/
def abortEngagement (a : AbortCause) (c : ReleaseCause) (conds : Option (List Condition)) (s : State) : State :=
  confirmRelease <|
  record .engageAborted
    { old := some (.pto s.drive.pto), new := some (.pto .releasing), cause := some (.abort a), conds := conds } <|
  startRelease c s

/-- Entry to FAULT (R63), up to the hand-on of an exit from ENGAGED. -/
def enterDriveFault (c : DriveFault) (s : State) : State :=
  refreshConditions <| reviewStop <| protectiveEvent <| addAlarm .ptoFault <|
  record .driveFault
    { old := some (.pto s.drive.pto), new := some (.pto .fault), cause := some (.driveFault c) } <|
  s.modDrive fun d => { toPto .fault d with fault := some c, release := none, confirmation := none }

/-- The effect of a panel stop outside ENGAGED, its notice apart (R60). -/
def stopOutsideEngaged (s : State) : State :=
  match s.drive.pto with
  | .precheck | .shifting | .settle => abortEngagement .panelStop .panelStop none (addAlarm .stop s)
  | .rampdown => confirmRelease (startRelease .panelStop (addAlarm .stop s))
  | .releasing => addAlarm .stop s
  | .disengaged | .fault | .engaged => s

/-! ### Condition changes (R39, R55) -/

/-- A condition report (R55): STOP_CLEAR in its list is a panel stop; ENGINE_AT_IDLE alone does not fail PRECHECK. -/
def conditionReport (l : List Condition) (s : State) : State :=
  if .stopClear ∈ l then stopOutsideEngaged s
  else match s.drive.pto with
    | .precheck => if l.all (· == .engineAtIdle) then s else abortEngagement .conditions .conditions (some l) s
    | .shifting | .settle => if l = [] then s else abortEngagement .conditions .conditions (some l) s
    | .disengaged | .engaged | .rampdown | .releasing | .fault => s

/-- The PTO states in which condition changes are handed on (R39). -/
def engaging : PtoState → Bool
  | .precheck | .shifting | .settle => true
  | .disengaged | .engaged | .rampdown | .releasing | .fault => false

/-- An event that can change a condition (R39): the set is evaluated and a change is handed on while the clutch is being
shifted. -/
def conditionEvent (s : State) : State :=
  if trueConditions s = s.interlock.conditions then s
  else
    let t := refreshConditions s
    if engaging s.drive.pto then
      match s.drive.kind with
      | some k => conditionReport (failingConditions t (engageEntry k)) t
      | none => t
    else t

end Sys2Proof.Machine
end

