-- ==== Sys2Proof/Machine/Supply.lean ====
section
/-! DEFINITION. The Supply Unit: supply states and ceilings (R97, R98), tank feed and switching (R99 to R105, R119 to
R121), hydrant qualification (R107 to R111), priming (R112 to R114), the intake limiter (R115, R116) and supply loss
(R117, R118). -/

namespace Sys2Proof.Machine

/-! ### The warning LOW_TANK (R133) -/

/-- LOW_TANK stands while the PTO is ENGAGED and the selected tank is LOW or EMPTY (R133). -/
def reviewLowTank (s : State) : State :=
  let st := (s.tank s.supply.selected).state
  if s.drive.pto = .engaged ∧ (st = .low ∨ st = .empty) then addAlarm .lowTank s else removeAlarm .lowTank s

/-! ### The limiter ceiling (R98, R116) -/

/-- The activity timer after a change of L (R116): started as L falls below 1000, stopped as it returns. -/
def activityAfter (before after : Nat) (t : Option Timer) : Option Timer :=
  if after < 1000 then (if before < 1000 then t else startTimer 5000) else none

/-- L set (R115, R116): a return to 1000 takes LIMITER out of the alarm and clears the loss latch (R117); a lowering
reaches the demand at once (R71). -/
def setLimit (l : Nat) (s : State) : State :=
  let t := s.modSupply fun x =>
    { x with
      limit := l, activity := activityAfter x.limit l x.activity, lossLatch := if l < 1000 then x.lossLatch else false }
  clipDemand (if l < 1000 then t else removeAlarm .limiter t)

/-- The intake floor of a state (R98); HYDRANT keeps the one set at qualification. Where R98 uses none the record keeps the
last one (log entry 37). -/
def floorOf (s : State) : SupplyState → Int
  | .tank | .hydrantQualifying | .switching => tankFloor s
  | .draft => draftFloor s
  | .idle | .hydrant | .draftPriming | .noSupply => s.supply.floor

/-! ### A change of supply state (R98, R123) -/

/-- The supply record in a state: the timers the state does not run stop, Ps stays only in HYDRANT, the loss latch is
cleared (R117). -/
def supplyIn (st : SupplyState) (ph : Option Phase) (floor : Int) (x : Supply) : Supply :=
  { x with
    state := st
    phase := ph
    floor := floor
    hydrant := if st = .hydrant then x.hydrant else none
    below := if limiterRuns st then x.below else false
    lossLatch := false
    attempt := if st = .hydrantQualifying then x.attempt else none
    prime := none
    primerLimit := none
    settle := none
    loss := none }

/-- A supply state entered (R97, R98): L is reset where the limiter does not run, EXHAUSTED goes as NO_SUPPLY is left
(R103), the dry-run timer stops in DRAFT_PRIMING (R161), and the change is handed to the Governor, the Interlock Unit
and the Tank Unit (R123). -/
def setSupply (st : SupplyState) (ph : Option Phase) (s : State) : State :=
  let t := s.modSupply (supplyIn st ph (floorOf s st))
  let t := if limiterRuns st then t else setLimit 1000 t
  let t := if st = .noSupply then t else removeAlarm .exhausted t
  let t := if st = .draftPriming then t.modThermal fun x => { x with dry := none } else t
  reviewFills (conditionEvent (clipDemand t))

/-- The selected tank changes (R104): handed to the Interlock Unit and the Tank Unit. -/
def selectTank (t : Tank) (s : State) : State :=
  if s.supply.selected = t then s
  else reviewLowTank (conditionEvent (s.modSupply fun x => { x with selected := t }))

/-! ### The SWITCHOVER override -/

/-- SWITCHOVER is begun where the unit does not hold it (R102, R118). -/
def beginSwitchover (s : State) : State :=
  if s.supply.switchHeld then s
  else beginOverride .switchover (s.modSupply fun x => { x with switchHeld := true })

/-- SWITCHOVER is ended where the unit holds it (R102, R120). -/
def endSwitchover (s : State) : State :=
  if s.supply.switchHeld then endOverride .switchover (s.modSupply fun x => { x with switchHeld := false }) else s

/-! ### NO_SUPPLY, switching and tank feed -/

/-- Entry to NO_SUPPLY (R102). -/
def enterNoSupply (c : ExhaustCause) (s : State) : State :=
  let t := setSupply .noSupply none (endSwitchover (closeTankValves s))
  addAlarm .exhausted <|
  record .supplyExhausted
    { subject := some (.tank t.supply.selected), old := some (.supply s.supply.state), new := some (.supply .noSupply)
      cause := some (.exhausted c) } t

/-- SETTLING (R119), entered on a target that has arrived or on one in FAULT STUCK_OPEN (R121). -/
def startSettling (stuck : Bool) (s : State) : State :=
  s.modSupply fun x => { x with phase := some .settling, settle := startTimer 5000, targetStuck := stuck }

/-- What the target's valve, as it stands, does to OPENING_TARGET (R119, R121). -/
def judgeTarget (s : State) : State :=
  let a := s.valve (tankValve s.supply.selected)
  match a.state, a.fault with
  | .atOpen, _ => startSettling false s
  | .fault, some .noOpen => enterNoSupply .valveFault s
  | .fault, _ => startSettling true s
  | _, _ => s

/-- OPENING_TARGET (R119). -/
def openTarget (s : State) : State :=
  judgeTarget (commandTankValve s.supply.selected true (s.modSupply fun x => { x with phase := some .openingTarget }))

/-- What the other tank's valve, as it stands, does to CLOSING_OTHER (R119, R121). -/
def judgeOther (s : State) : State :=
  let a := s.valve (tankValve (otherTank s.supply.selected))
  match a.state, a.fault with
  | .atClosed, _ => openTarget s
  | .fault, some .stuckOpen => enterNoSupply .valveFault s
  | .fault, _ => openTarget s
  | _, _ => s

/-- SWITCHING with the state it was entered from (R119, R120); a switch redirected keeps its own. -/
def markSwitching (s : State) : State :=
  setSupply .switching (some .closingOther) <|
    s.modSupply fun x => { x with switchFrom := if x.state = .switching then x.switchFrom else x.state }

/-- The switch from CLOSING_OTHER on (R119). -/
def beginSwitch (s : State) : State :=
  judgeOther (commandTankValve (otherTank s.supply.selected) false (markSwitching s))

/-- The empty-tank decision (R102). -/
def emptyTankDecision (s : State) : State :=
  if s.supply.selected = .main ∧ autoReserve s = true ∧ s.tanks.reserve.state ≠ .empty then
    beginSwitch (beginSwitchover (selectTank .reserve s))
  else enterNoSupply .tankEmpty s

/-- The selected tank is EMPTY. -/
def selectedEmpty (s : State) : Bool := (s.tank s.supply.selected).state == .empty

/-- Entry to SWITCHING (R119): a target that is EMPTY makes the empty-tank decision before any valve is commanded. -/
def enterSwitching (s : State) : State :=
  if selectedEmpty s then emptyTankDecision (markSwitching s) else beginSwitch s

/-- The selected tank's valve commanded OPEN in TANK (R100): a fault NO_OPEN that the command finds is reported again and
exhausts the supply (R101, R172). -/
def feedFromTank (s : State) : State :=
  let v := tankValve s.supply.selected
  let t := commandTankValve s.supply.selected true s
  if (s.valve v).openCmd = false ∧ (t.valve v).openCmd = true ∧ (t.valve v).state = .fault
      ∧ (t.valve v).fault = some .noOpen then
    enterNoSupply .valveFault t
  else t

/-- The return to tank feed (R100). -/
def returnToTank (s : State) : State :=
  if selectedEmpty s then emptyTankDecision s
  else if (s.valve (tankValve (otherTank s.supply.selected))).openCmd = false then feedFromTank (setSupply .tank none s)
  else enterSwitching s

/-- The cause of SWITCHOVER_DONE (R120, R121): a target that stood in FAULT STUCK_OPEN is UNCONFIRMED, whatever has become
of the fault since. -/
def switchCause (s : State) : Confirmation :=
  let a := s.valve (tankValve s.supply.selected)
  if s.supply.targetStuck = true ∨ a.state = .fault then .unconfirmed else a.confirmation

/-- Expiry of the settle timer (R120). -/
def expireSettle (s : State) : State :=
  if s.supply.settle.isNone then s
  else
    record .switchoverDone
      { subject := some (.tank s.supply.selected), old := some (.supply s.supply.switchFrom)
        new := some (.supply .tank), cause := some (.confirmation (switchCause s)) } <|
    endSwitchover (setSupply .tank none s)

/-! ### Hydrant qualification (R107 to R110) -/

/-- Entry to HYDRANT_QUALIFYING (R107). -/
def startQualifying (s : State) : State :=
  setSupply .hydrantQualifying none <| s.modSupply fun x =>
    { x with attempts := 0, lastReason := none, attempt := startTimer 2000, window := emptyWindow }

/-- A published set joins the window (R107). -/
def joinWindow (p : Int) (failed : Bool) (w : Window) : Window :=
  { count := w.count + 1
    sum := w.sum + p
    least := if w.count = 0 then p else min w.least p
    greatest := if w.count = 0 then p else max w.greatest p
    failed := w.failed || failed }

/-- The window at a published set (R107). -/
def publishWindow (s : State) : State :=
  if s.supply.attempt.isSome then
    s.modSupply fun x =>
      { x with window := joinWindow (s.published .intakeP) (s.healthOf .intakeP == .failed) x.window }
  else s

/-- The mean of a window, truncated (R108). -/
def windowMean (w : Window) : Int := w.sum.tdiv w.count

/-- The floor computed from Ps (R109): rounded down to a multiple of 5 where auto floor is enabled. It is not clamped: from
Ps above 1000 kPa at the default drop it passes the 400 kPa that R97 gives as the field's greatest value (log entry 48). -/
def qualifiedFloor (s : State) (ps : Int) : Int :=
  if autoFloor s then max (hydrantFloor s) (ps - (ps * dropPercent s).tdiv 100) / 5 * 5 else hydrantFloor s

/-- The reason an attempt fails, none where it succeeds (R108). -/
def attemptFailure (s : State) (w : Window) : Option AttemptReason :=
  if w.failed = true ∨ w.count = 0 then some .sensor
  else if w.least < 100 ∨ 1200 < w.greatest then some .range
  else if 20 < w.greatest - w.least then some .unsteady
  else if windowMean w < qualifiedFloor s (windowMean w) + 20 then some .weak
  else none

/-- The seventh failure (R110). -/
def rejectHydrant (r : AttemptReason) (s : State) : State :=
  returnToTank <|
  record .supplyRejected { value := some 7, cause := some (.attempt r) } <|
  s.modSupply fun x => { x with attempt := none }

/-- A failed attempt (R108). -/
def failAttempt (r : AttemptReason) (s : State) : State :=
  let t := s.modSupply fun x => { x with attempts := min (x.attempts + 1) 7, lastReason := some r }
  if t.supply.attempts < 7 then t.modSupply fun x => { x with window := emptyWindow, attempt := startTimer 2000 }
  else rejectHydrant r t

/-- A successful attempt (R110). -/
def qualifyHydrant (ps : Int) (s : State) : State :=
  let f := qualifiedFloor s ps
  record .supplyQualified
    { value := some ps, second := some f, cause := some (.floor (if autoFloor s then .autoFloor else .fixedFloor)) } <|
  setSupply .hydrant none <| closeTankValves <|
  s.modSupply fun x => { x with attempt := none, hydrant := some ps, floor := f }

/-- Expiry of the attempt timer (R108). -/
def expireAttempt (s : State) : State :=
  if s.supply.attempt.isNone then s
  else match attemptFailure s s.supply.window with
    | some r => failAttempt r s
    | none => qualifyHydrant (windowMean s.supply.window) s

/-! ### Draft priming (R112 to R114) -/

/-- Phase PRIMING (R113). -/
def startPriming (s : State) : State :=
  beginOverride .priming <| setPrimer true <| s.modSupply fun x =>
    { x with phase := some .priming, primerLimit := startTimer (primerLimit s * 1000), primeHeld := true }

/-- PRIMING is ended where the unit holds it (R113, R114). -/
def endPriming (s : State) : State :=
  if s.supply.primeHeld then endOverride .priming (s.modSupply fun x => { x with primeHeld := false }) else s

/-- The record of PRIME_FAILED (R114). -/
def recordPrimeFailed (c : PrimeCause) (ph : Option Phase) (s : State) : State :=
  record .primeFailed { old := ph.map .phase, cause := some (.prime c) } s

/-- A prime abandoned for a cause other than the PTO's (R114). -/
def abandonPrime (c : PrimeCause) (s : State) : State :=
  returnToTank <| recordPrimeFailed c s.supply.phase <| endPriming <| setPrimer false <|
  s.modSupply fun x => { x with primerLimit := none, prime := none }

/-- A tank valve that holds the tank on the intake in CLOSING_TANK (R112). -/
def stuckOpen (a : Actuator) : Bool := a.state == .fault && a.fault == some .stuckOpen

/-- A tank valve that counts as closed in CLOSING_TANK (R112). -/
def standsClosed (a : Actuator) : Bool := a.state == .atClosed || (a.state == .fault && a.fault == some .noOpen)

/-- CLOSING_TANK judged on the two valves as they stand (R112). -/
def judgeClosingTank (s : State) : State :=
  if stuckOpen s.valves.mainValve || stuckOpen s.valves.reserveValve then abandonPrime .valve s
  else if standsClosed s.valves.mainValve && standsClosed s.valves.reserveValve then startPriming s
  else s

/-- A taken SET_SUPPLY DRAFT (R112). -/
def startDraft (s : State) : State :=
  judgeClosingTank (closeTankValves (setSupply .draftPriming (some .closingTank) s))

/-- The prime test (R113). -/
def primeTest (s : State) : Bool :=
  decide (s.published .intakeP ≤ -10) && decide (150 ≤ s.published .dischargeP) &&
    s.healthOf .intakeP != .failed && s.healthOf .dischargeP != .failed

/-- The prime test at a published set (R113). -/
def publishPrime (s : State) : State :=
  if s.supply.phase = some .priming then
    s.modSupply fun x => { x with prime := timerWhile (primeTest s) 1000 x.prime }
  else s

/-- Expiry of the prime timer (R113): the pump is primed. -/
def expirePrime (s : State) : State :=
  if s.supply.prime.isNone then s
  else
    let ran : Nat := (s.supply.primerLimit.map (·.elapsed)).getD 0 / 1000
    record .primeDone { value := some (ran : Int) } <|
    setSupply .draft none <| endPriming <| setPrimer false s

/-- Expiry of the primer limit timer (R114). -/
def expirePrimerLimit (s : State) : State :=
  if s.supply.primerLimit.isNone then s else abandonPrime .timeout s

/-! ### The limiter and supply loss (R115 to R118) -/

/-- The limiter's table (R115). -/
def evaluateLimiter (s : State) : State :=
  let p := s.published .intakeP
  let f := floorOf s s.supply.state
  let s := s.modSupply fun x => { x with floor := f }
  if s.healthOf .intakeP = .failed then s
  else if p < f then
    setLimit (if s.supply.below then s.supply.limit - limiterStep s else s.governor.demand)
      (s.modSupply fun x => { x with below := true })
  else
    let t := s.modSupply fun x => { x with below := false }
    if p < f + 20 then t else setLimit (min (s.supply.limit + max (limiterStep s / 2) 1) 1000) t

/-- The conditions of the loss timer (R117). -/
def losingSupply (s : State) : Bool :=
  (s.supply.state == .hydrant || s.supply.state == .draft) && !s.supply.lossLatch &&
    s.healthOf .intakeP != .failed && decide (s.published .intakeP < s.supply.floor - 30) &&
    decide (s.supply.limit ≤ 100)

/-- The limiter and the loss watch at a governor period (R115, R117). -/
def limiterPeriod (s : State) : State :=
  if limiterRuns s.supply.state then
    let t := evaluateLimiter s
    t.modSupply fun x => { x with loss := timerWhile (losingSupply t) 3000 x.loss }
  else s

/-- The outcome of a loss (R118). -/
def lossOutcome (s : State) : LossOutcome :=
  if autoSwitchover s = true ∧ selectedEmpty s = false then .switchover
  else if autoSwitchover s = true ∧ s.supply.selected = .main ∧ autoReserve s = true
      ∧ s.tanks.reserve.state ≠ .empty then .reserve
  else .none

/-- The outcome carried out (R118). -/
def actOnLoss (o : LossOutcome) (s : State) : State :=
  match o with
  | .switchover => enterSwitching (beginSwitchover s)
  | .reserve => enterSwitching (beginSwitchover (selectTank .reserve s))
  | .none => s

/-- The loss timer's expiry as the unit takes it (R117). -/
def takeLoss (s : State) : State :=
  if s.supply.loss.isNone then s
  else
    actOnLoss (lossOutcome s) <| protectiveEvent <|
    record .supplyLost
      { old := some (.supply s.supply.state), value := some (s.published .intakeP)
        cause := some (.loss (lossOutcome s)) } <|
    s.modSupply fun x => { x with loss := none, lossLatch := true }

/-! ### A tank valve and a fill valve opened together (R145) -/

/-- A free choice of two orders (log entry 5). -/
def freeBit (s : State) : Bool := s.choices.headD 0 % 2 == 1

/-- A timer that has run its period: its expiry falls at this instant. -/
def isDue (t : Option Timer) : Bool := t.any fun x => decide (x.period ≤ x.elapsed)

/-- The Supply Unit's command to open a tank's valve and the Tank Unit's to open the same tank's fill valve reach the Output
Unit together (R145, log entry 41). `turn` is the Tank Unit's act up to its command, `switch` the Supply Unit's act. Where
the tank valve's command is taken first the fill valve's is not carried out, and VALVE_INTERLOCK is recorded (R174); the
other order is that of the two acts as commands of their own, of which `alone` is the one in hand. -/
def openTogether (t : Tank) (turn switch : State → State) (alone s : State) : State :=
  let u := switch (turn s)
  if freeBit s = true ∧ (s.valve (tankValve t)).openCmd = false ∧ (u.valve (tankValve t)).openCmd = true then
    commandFill t true u
  else alone

/-- The top-off cycle of a tank is due to open its fill valve (R142). -/
def cycleDue (s : State) (t : Tank) : Bool :=
  (s.tank t).stage == .topoff && (s.tank t).phase == some .closedPhase && isDue (s.tank t).cycle && fillPermission s t

/-- The cycle's return to OPEN_PHASE, before its command (R142). -/
def turnCycle (t : Tank) (s : State) : State :=
  s.modTank t fun r => { r with phase := some .openPhase, cycle := startTimer 2000 }

/-- The tank whose tank-to-pump valve the change from s to u commands open. -/
def openedTank (s u : State) : Option Tank :=
  [Tank.main, .reserve].find? fun t => !(s.valve (tankValve t)).openCmd && (u.valve (tankValve t)).openCmd

/-- An act of the Supply Unit that may open a tank's valve, with a top-off cycle of the tank it opens, RESERVE where it turns
to RESERVE, that falls together with it. -/
def switchWithCycle (switch : State → State) (s : State) : State :=
  match openedTank s (switch s) with
  | some t => if cycleDue s t then openTogether t (turnCycle t) switch (switch s) s else switch s
  | none => switch s

/-- Expiry of the loss timer (R117, R145). -/
def expireLoss (s : State) : State := switchWithCycle takeLoss s

/-- Expiry of the limiter activity timer (R116). -/
def expireActivity (s : State) : State :=
  if s.supply.activity.isNone then s
  else
    addAlarm .limiter <|
    record .limiterActive { value := some s.supply.floor, cause := some (.supplyState s.supply.state) } <|
    s.modSupply fun x => { x with activity := none }

/-! ### Reports from other units -/

/-- A change of a tank's level state (R101, R103, R111, R121). -/
def supplyOnLevel (t : Tank) (old : LevelState) (s : State) : State :=
  if t ≠ s.supply.selected then s
  else match s.supply.state with
    | .tank | .switching => if selectedEmpty s then emptyTankDecision s else s
    | .hydrantQualifying => if selectedEmpty s then closeTankValves s else s
    | .noSupply => if old = .empty ∧ selectedEmpty s = false then returnToTank s else s
    | .idle | .hydrant | .draftPriming | .draft => s

/-- The target's valve reported in FAULT NO_OPEN (R101, R121). -/
def noOpenFault (a : Actuator) : Bool := a.state == .fault && a.fault == some .noOpen

/-- A report of a tank-to-pump valve (R101, R112, R119, R121). -/
def supplyOnValve (t : Tank) (s : State) : State :=
  let a := s.valve (tankValve t)
  match s.supply.state with
  | .tank => if t = s.supply.selected ∧ noOpenFault a = true then enterNoSupply .valveFault s else s
  | .switching =>
    if t = s.supply.selected then
      if s.supply.phase = some .openingTarget then judgeTarget s
      else if noOpenFault a then enterNoSupply .valveFault s
      else s
    else if s.supply.phase = some .closingOther then judgeOther s
    else s
  | .draftPriming => if s.supply.phase = some .closingTank then judgeClosingTank s else s
  | .idle | .hydrantQualifying | .hydrant | .draft | .noSupply => s

/-- A report of any valve: the Supply Unit receives those of the tank-to-pump valves (R175). -/
def reportValve (v : ValveRole) (s : State) : State :=
  match v with
  | .mainValve => supplyOnValve .main s
  | .reserveValve => supplyOnValve .reserve s
  | .mainFill | .reserveFill | .recircValve => s

/-- A valve moved by the Output Unit itself, and the report of the change to its owner (R175): a record whose state and
fault stand as they were is not reported. -/
def reportAfter (v : ValveRole) (move : State → State) (s : State) : State :=
  let t := move s
  if (t.valve v).state = (s.valve v).state ∧ (t.valve v).fault = (s.valve v).fault then t else reportValve v t

/-- The PTO has reached ENGAGED (R99). -/
def supplyEnterEngaged (s : State) : State := returnToTank (selectTank .main s)

/-- The cause of PRIME_FAILED as the PTO leaves ENGAGED (R114). -/
def exitPrimeCause (s : State) : PrimeCause := if s.drive.release = some .operator then .disengage else .ptoReleased

/-- The PTO has left ENGAGED (R99): no end orders are sent. -/
def supplyLeaveEngaged (s : State) : State :=
  let t := if s.supply.state = .draftPriming then recordPrimeFailed (exitPrimeCause s) s.supply.phase s else s
  let t := selectTank .main (setPrimer false (closeTankValves t))
  setSupply .idle none <| t.modSupply fun x =>
    { x with attempts := 0, lastReason := none, switchHeld := false, primeHeld := false }

end Sys2Proof.Machine
end

