-- ==== Sys2Proof/Machine/Tanks.lean ====
section
/-! DEFINITION. The Tank Unit: measured volume (R127), level states (R130 to R133), estimating (R135 to R138) and the
totalisers (R147). -/

namespace Sys2Proof.Machine

/-! ### Volume (R127) -/

/-- The volume a table gives for a level (R127). -/
def tableVolume : List (Nat × Nat) → Nat → Nat
  | [], _ => 0
  | [p], _ => p.2
  | p :: q :: rest, h =>
    if h < p.1 then p.2
    else if h < q.1 then p.2 + (q.2 - p.2) * (h - p.1) / (q.1 - p.1)
    else tableVolume (q :: rest) h

/-- The measured volume of a tank (R127). -/
def measuredVolume (s : State) (t : Tank) : Nat := tableVolume (s.tank t).table (s.tank t).level.toNat

/-! ### Level states (R132, R133) -/

/-- The entry state of a volume (R132). A small capacity can put full at the litre of empty or of low: EMPTY is
taken first, then LOW, then FULL (log entry 38). -/
def entryLevel (s : State) (t : Tank) (v : Nat) : LevelState :=
  if v ≤ emptyAt s t then .empty
  else if v ≤ lowAt s t then .low
  else if fullAt s t ≤ v then .full
  else .normal

/-- The band in which a present state is kept (R132). -/
def levelKept (s : State) (t : Tank) (v : Nat) : LevelState → Bool
  | .empty => v ≤ emptyAt s t + hysteresis s t
  | .low => emptyAt s t < v && v ≤ lowAt s t + hysteresis s t
  | .normal => lowAt s t < v && v < fullAt s t
  | .full => fullAt s t - hysteresis s t ≤ v
  | .unknown => false

/-- The level state a tank's volume calls for (R132). -/
def nextLevel (s : State) (t : Tank) : LevelState :=
  match (s.tank t).volume with
  | none => .unknown
  | some v => if levelKept s t v (s.tank t).state then (s.tank t).state else entryLevel s t v

/-- The level state without hysteresis, after a table write (R128). -/
def freshLevel (s : State) (t : Tank) : LevelState :=
  match (s.tank t).volume with
  | none => .unknown
  | some v => entryLevel s t v

/-- FULL_HOLD turned to BULK by a volume below refill (R143), before its command. -/
def turnToBulk (t : Tank) (s : State) : State :=
  recordStage t .fullHold .volume <| s.modTank t fun r =>
    { r with stage := .bulk, suspendedFrom := none, safety := some ⟨0, bulkLimit s⟩, phase := none, cycle := none }

/-- FULL_HOLD turns to BULK at the moment a supply loss may open the tank (R145). -/
def bulkWithLoss (s : State) (t : Tank) : Bool :=
  (s.tank t).stage == .fullHold && (s.tank t).volume.any (fun v => decide (v < refillAt s t)) && fillPermission s t &&
    isDue s.supply.loss

/-- The stage machine at an evaluation of the level state, with a supply loss that falls together with it (R145). -/
def evaluateStage (t : Tank) (s : State) : State :=
  if bulkWithLoss s t then openTogether t (turnToBulk t) takeLoss (evaluateFill t s) s else evaluateFill t s

/-- A change of level state (R133): TANK_STATE is recorded, then the receivers act in a free order, and LOW_TANK
follows. -/
def changeLevel (t : Tank) (st : LevelState) (s : State) : State :=
  let old := (s.tank t).state
  let u := s.modTank t fun r => { r with state := st }
  let u := record .tankState
    { subject := some (.tank t), old := some (.level old), new := some (.level st)
      value := if st = .unknown then none else (s.tank t).volume.map Int.ofNat } u
  reviewLowTank (runInOrder [supplyOnLevel t old, conditionEvent, fun x => reviewFill t (evaluateStage t x)] u)

/-- An evaluation of the level state that comes to st (R132): the stage machine sees it either way (R141 to R143). -/
def setLevel (t : Tank) (st : LevelState) (s : State) : State :=
  if (s.tank t).state = st then evaluateStage t s else changeLevel t st s

/-- The level state evaluated under R132. -/
def evaluateLevel (t : Tank) (s : State) : State := setLevel t (nextLevel s t) s

/-! ### Estimating (R135 to R138) -/

/-- A tank begins estimating (R135); one already estimating does not begin again. -/
def beginEstimate (t : Tank) (c : EstimateCause) (s : State) : State :=
  if (s.tank t).estimating.isSome then s
  else reviewFill t <| s.modTank t fun r =>
    { r with estimating := some c, frozen := r.volume, estimate := r.volume.map (· * 1000), settle := none }

/-- The published set as a tank takes it (R130). -/
def takeLevel (t : Tank) (s : State) : State :=
  let u := s.modTank t fun r =>
    { r with
      level := s.published (headChannel t)
      headKnown := r.headKnown || s.healthOf (headChannel t) == .ok }
  if (u.tank t).estimating.isNone ∧ (u.tank t).headKnown = true then
    evaluateLevel t (u.modTank t fun r => { r with volume := some (measuredVolume u t) })
  else u

/-- The settle timer of an estimating tank (R137): it runs while the vehicle is STILL and the head channel OK. -/
def reviewSettle (t : Tank) (s : State) : State :=
  if (s.tank t).estimating.isSome then
    s.modTank t fun r =>
      { r with settle := timerWhile (!s.interlock.moving && s.healthOf (headChannel t) == .ok) 10000 r.settle }
  else s

/-- A published set (R130, R135, R137). -/
def publishTank (t : Tank) (s : State) : State :=
  let u := takeLevel t s
  reviewSettle t (if s.healthOf (headChannel t) = .failed then beginEstimate t .headFailed u else u)

/-- A change of the motion state (R135, R137, R139). -/
def motionTank (t : Tank) (s : State) : State :=
  reviewFill t (reviewSettle t (if s.interlock.moving then beginEstimate t .moving s else s))

/-- A gate's increment on an estimating tank (R136); `feeding` is the feeding tank as the gate completes. -/
def gateTank (feeding : Option Tank) (inc : Nat) (t : Tank) (s : State) : State :=
  if (s.tank t).estimating.isNone then s
  else match (s.tank t).estimate with
    | none => s
    | some e =>
      let e := if feeding = some t then e - inc else e
      evaluateLevel t (s.modTank t fun r => { r with estimate := some e, volume := some (e / 1000) })

/-- The reconciliation record of a tank (R138). -/
def reconcile (s : State) (t : Tank) (e measured : Nat) (c : EstimateCause) : Reconciliation :=
  { estimate := e / 1000
    measured := measured
    difference := (measured : Int) - (e / 1000 : Nat)
    cause := c
    large := decide (percentOf s t 10 < ((measured : Int) - (e / 1000 : Nat)).natAbs) }

/-- The reconciliation record an ending estimate forms, none where the tank has no estimate (R137, R138). -/
def endingRecord (s : State) (t : Tank) : Option Reconciliation :=
  match (s.tank t).estimate, (s.tank t).estimating with
  | some e, some c => some (reconcile s t e (measuredVolume s t) c)
  | _, _ => none

/-- RECONCILED (R138). -/
def recordReconciled (t : Tank) (r : Option Reconciliation) (s : State) : State :=
  match r with
  | none => s
  | some r =>
    record .reconciled
      { subject := some (.tank t), value := some r.difference
        cause := some (if r.large then .reconLarge else .reconWithin) } s

/-- Expiry of a tank's settle timer (R137); the permission is reviewed after the level (log entry 22), and the notices of both
come before RECONCILED (log entry 39). -/
def expireTankSettle (t : Tank) (s : State) : State :=
  if (s.tank t).settle.isNone then s
  else
    let rec? := endingRecord s t
    let u := s.modTank t fun r =>
      { r with
        headKnown := true, recon := rec?.orElse fun _ => r.recon, estimating := none, frozen := none, estimate := none
        settle := none, volume := some (measuredVolume s t) }
    recordReconciled t rec? (reviewFill t (evaluateLevel t u))

/-! ### The totalisers (R147) -/

/-- The greatest value of an accumulator. -/
def totalMax : Nat := 68719476735

/-- The greatest reported value. -/
def reportMax : Nat := 4294967295

/-- The reported value (R147). -/
def reported (x : Total) : Nat := min x.acc reportMax

/-- A totaliser's record. -/
def getTotal (x : Totals) : Totaliser → Total
  | .incident => x.incident
  | .run => x.run

/-- The totalisers with one replaced. -/
def setTotal (x : Totals) (k : Totaliser) (v : Total) : Totals :=
  match k with
  | .incident => { x with incident := v }
  | .run => { x with run := v }

/-- A totaliser after an increment (R147). -/
def addVolume (inc : Nat) (x : Total) : Total :=
  let acc := min (x.acc + inc) totalMax
  { acc := acc, math := x.math || decide (reportMax < acc), logical := x.logical || decide (acc = totalMax) }

/-- TOTAL_OVERFLOW at the rise of a flag (R147). -/
def recordOverflow (k : Totaliser) (f : TotalFlag) (before after : Bool) (s : State) : State :=
  if before = false ∧ after = true then
    record .totalOverflow
      { subject := some (.totaliser k), value := some (reported (getTotal s.totals k) : Int)
        cause := some (.totalFlag f) } s
  else s

/-- A gate's increment added to a totaliser (R147). -/
def addTotal (k : Totaliser) (inc : Nat) (s : State) : State :=
  let old := getTotal s.totals k
  let new := addVolume inc old
  recordOverflow k .logical old.logical new.logical <|
  recordOverflow k .math old.math new.math <|
  s.modTotals fun x => setTotal x k new

/-- The increment of a completed gate handed to the Tank Unit (R136, R147), its parts in a free order. -/
def takeIncrement (inc : Nat) (s : State) : State :=
  let f := feedingTank s
  runInOrder [addTotal .incident inc, addTotal .run inc, gateTank f inc .main, gateTank f inc .reserve] s

end Sys2Proof.Machine
end

