-- ==== Sys2Proof/Machine/Thermal.lean ====
section
/-! DEFINITION. The Thermal Monitor: zones and overheat idle (R154 to R158), the no-flow watch (R160), the dry-run watch
(R161 to R163) and the operator's recirculation (R164). -/

namespace Sys2Proof.Machine

/-! ### Zones (R154 to R156) -/

/-- The entry zone of a temperature (R154). -/
def entryZone (s : State) (t : Int) : Zone :=
  if hotThreshold s ≤ t then .hot else if warmThreshold s ≤ t then .warm else .normal

/-- The band in which a zone is kept (R154). -/
def zoneKept (s : State) (t : Int) : Zone → Bool
  | .normal => t < warmThreshold s
  | .warm => warmThreshold s - 5 ≤ t && t < hotThreshold s
  | .hot => hotThreshold s - 5 ≤ t

/-- The zone a temperature calls for from a present zone (R154). -/
def nextZone (s : State) (present : Zone) (t : Int) : Zone :=
  if zoneKept s t present then present else entryZone s t

/-- Overheat idle ends (R158). -/
def endOverheat (s : State) : State :=
  if s.thermal.overheat then removeAlarm .overheat (s.modThermal fun x => { x with overheat := false }) else s

/-- A change of zone (R156). A change made by a temperature ends overheat idle as HOT is left (R158). -/
def setZone (z : Zone) (c : ZoneCause) (s : State) : State :=
  let old := s.thermal.zone
  if old = z then s
  else
    let t := record .thermalZone
      { subject := some (.analog .pumpTemp), old := some (.zone old), new := some (.zone z)
        value := some (s.published .pumpTemp), cause := some (.zone c) } s
    let t := clipDemand <| t.modThermal fun x =>
      { x with
        zone := z, thermalHeld := z != .normal
        hot := if z = .hot ∧ s.drive.pto = .engaged then startTimer 60000 else none }
    let t := if z = .normal then removeAlarm .warm (removeRecirc .thermal t) else addAlarm .warm (addRecirc .thermal t)
    if old = .hot ∧ c ≠ .sensorFailed then endOverheat t else t

/-- The zone at a published set (R154, R155); a recovery that finds the casing below HOT ends overheat idle (log
entry 18). -/
def publishZone (s : State) : State :=
  let t := s.published .pumpTemp
  match s.healthOf .pumpTemp with
  | .failed => setZone .warm .sensorFailed (s.modThermal fun x => { x with unknown := true })
  | .ok =>
    if s.thermal.unknown then
      let u := setZone (nextZone s .warm t) .sensorRecovered (s.modThermal fun x => { x with unknown := false })
      if u.thermal.zone = .hot then u else endOverheat u
    else setZone (nextZone s s.thermal.zone t) .temperature s
  | .stale => setZone (nextZone s s.thermal.zone t) .temperature s

/-- Expiry of the hot timer up to its disengage order (R158). -/
def raiseOverheat (s : State) : State :=
  let t := clipDemand (s.modThermal fun x => { x with overheat := true, hot := none })
  addAlarm .overheat <|
  record .overheatIdle
    { value := some (s.published .pumpTemp)
      cause := some (if overheatRelease s then .overheatRelease else .overheatHold) } t

/-! ### No-flow churn (R160) -/

/-- The no-flow watch at a published set (R160). -/
def publishNoFlow (s : State) : State :=
  if s.drive.pto = .engaged then
    s.modThermal fun x =>
      if x.noFlowHeld then
        { x with
          noFlow := none
          flowReturn := timerWhile (decide (noFlowThreshold s + 10 ≤ s.flow)) 10000 x.flowReturn }
      else
        { x with noFlow := timerWhile (decide (s.flow < noFlowThreshold s)) 120000 x.noFlow, flowReturn := none }
  else s

/-- Expiry of the no-flow timer (R160). -/
def expireNoFlow (s : State) : State :=
  if s.thermal.noFlow.isNone then s
  else addRecirc .noFlow (s.modThermal fun x => { x with noFlow := none, noFlowHeld := true })

/-- NOFLOW is given up (R160). -/
def dropNoFlow (s : State) : State :=
  let t := s.modThermal fun x => { x with noFlow := none, flowReturn := none, noFlowHeld := false }
  if s.thermal.noFlowHeld then removeRecirc .noFlow t else t

/-- Expiry of the flow-return timer (R160). -/
def expireFlowReturn (s : State) : State := if s.thermal.flowReturn.isNone then s else dropNoFlow s

/-! ### Dry run (R161 to R163) -/

/-- The dry-run condition (R161). -/
def runningDry (s : State) : Bool :=
  s.drive.pto == .engaged && s.supply.state != .draftPriming && !s.thermal.latch &&
    decide (200 ≤ s.governor.demand) && s.healthOf .dischargeP != .failed &&
    decide (s.published .dischargeP < 100) && decide (s.flow < noFlowThreshold s)

/-- The dry-run watch at a published set (R161). -/
def publishDryRun (s : State) : State :=
  s.modThermal fun x => { x with dry := timerWhile (runningDry s) 30000 x.dry }

/-- Expiry of the dry-run timer (R162). -/
def expireDryRun (s : State) : State :=
  if s.thermal.dry.isNone then s
  else
    let t := clipDemand (s.modThermal fun x => { x with latch := true, dry := none })
    conditionEvent <| protectiveEvent <| addAlarm .dryRun <|
    record .dryRun { value := some (s.published .dischargeP), second := some (s.flow : Int) } t

/-- The dry-run latch is cleared (R163). -/
def clearDryRun (s : State) : State :=
  if s.thermal.latch then conditionEvent (removeAlarm .dryRun (s.modThermal fun x => { x with latch := false })) else s

/-! ### Recirculation (R164) and the PTO -/

/-- RECIRC ON or OFF carried out (R164). -/
def operatorRecirc (on : Bool) (s : State) : State :=
  let t := s.modThermal fun x => { x with operator := on }
  if on then addRecirc .operator t else removeRecirc .operator t

/-- Entry to ENGAGED (R158): a casing already HOT starts the hot timer. -/
def thermalEnterEngaged (s : State) : State :=
  if s.thermal.zone = .hot then s.modThermal fun x => { x with hot := startTimer 60000 } else s

/-- Exit from ENGAGED (R158, R160, R161, R163). -/
def thermalLeaveEngaged (s : State) : State :=
  clearDryRun (endOverheat (dropNoFlow (s.modThermal fun x => { x with hot := none, dry := none })))

end Sys2Proof.Machine
end

