-- ==== Sys2Proof/Machine/Engage.lean ====
section
/-! DEFINITION. The Drive Engagement Unit: entry to and exit from ENGAGED and their hand-on (R49, R56 to R58), the clutch
sequence (R50 to R53), orders and panel stops (R60, R62), and the mode machine's part in them (R27 to R32). -/

namespace Sys2Proof.Machine

/-! ### Exit from ENGAGED (R49) -/

/-- The Tank Unit's part of an entry to or exit from ENGAGED (R133, R139). -/
def tanksOnPto (s : State) : State := reviewFills (reviewLowTank s)

/-- A timer's expiry falls at this instant: the timer has run its period, or its row waits in the queue. -/
def expiresNow (t : Option Timer) (row : Instr) (s : State) : Bool := t.isSome && (isDue t || decide (row ∈ s.pending))

/-- A change of the motion state (R25), its users in a free order: conditions, the mode machine, which trips in
PUMP_STATIONARY as the state becomes MOVING (R28), and the two tanks. -/
def changeMotion (moving : Bool) (trip : ModeCause → State → State) (s : State) : State :=
  let users := fun x : State => if moving = true ∧ x.interlock.mode = .pumpStationary then trip .moving x else x
  runInOrder [conditionEvent, users, motionTank .main, motionTank .reserve]
    (s.modInterlock fun i => { i with moving := moving, rise := none, fall := none })

/-- The levels of a row of the queue that samples the inputs. -/
def inputLevels : Instr → Option (BitVec 16)
  | .inputSample levels => some levels
  | _ => none

/-- The levels of the first sample that waits in the queue. -/
def waitingSample (s : State) : Option (BitVec 16) := s.pending.findSome? inputLevels

/-- A terminal's input state after the first sample that waits in the queue, as it stands where none waits. -/
def sampledNext (s : State) (t : Terminal) : InputState :=
  let i := s.terminals.inputs[t]
  match waitingSample s with
  | some levels => sampleInput s.terminals.assignment[t] (levels.getLsbD t.val) i
  | none => i

/-- The cause of the trip that the loss of an input role makes in PUMP_STATIONARY (R28). -/
def lossCause : Role → Option ModeCause
  | .parkBrake => some .parkBrake
  | .neutral => some .neutral
  | .rollSelect | .panelStop | .ptoFb | .mainValveFb | .reserveValveFb | .recircFb | .generalIn | .ptoClutch | .mainValve
  | .reserveValve | .mainFill | .reserveFill | .recircValve | .primer | .alarm | .generalOut => none

/-- The trip that the waiting sample of a terminal makes in PUMP_STATIONARY (R28): its PARK_BRAKE or NEUTRAL is lost. -/
def lossNow (s : State) (t : Terminal) : Option ModeCause :=
  if s.terminals.inputs[t].asserted = true ∧ (sampledNext s t).asserted = false then
    lossCause s.terminals.assignment[t].role
  else none

/-- The trip of R28 that the rise timer makes, its order apart. -/
def tripByMotion (s : State) : State :=
  if s.interlock.mode = .pumpStationary ∧ expiresNow s.interlock.rise .riseTimerExpiry s then changeMotion true tripMode s
  else s

/-- The trip of R30 that the trip timer makes, its order apart. -/
def tripByOverspeed (s : State) : State :=
  if s.interlock.mode = .rollOverspeed ∧ expiresNow s.interlock.trip .tripTimerExpiry s then tripMode .overspeedTrip s
  else s

/-- The trip of R28 that a terminal's waiting sample makes, its order apart. -/
def tripByInput (t : Terminal) (s : State) : State :=
  match s.interlock.mode, lossNow s t with
  | .pumpStationary, some c => tripMode c (conditionEvent (setInput t (sampledNext s t) s))
  | _, _ => s

/-- A trip event falls together with an exit from ENGAGED (R28, R30). `sample` says whether a sample that waits in the queue
counts: it does not where the exit is itself the work of a sample, which is then the sample of this instant. -/
def tripsNow (sample : Bool) (s : State) : Bool :=
  match s.interlock.mode with
  | .pumpStationary =>
    expiresNow s.interlock.rise .riseTimerExpiry s || sample && allTerminals.any fun t => (lossNow s t).isSome
  | .rollOverspeed => expiresNow s.interlock.trip .tripTimerExpiry s
  | .road | .pumpRoll | .motionTrip => false

/-- The trips that may fall together with an exit from ENGAGED. -/
def tripActs (sample : Bool) : List (State → State) :=
  [tripByMotion, tripByOverspeed] ++ if sample then allTerminals.map tripByInput else []

/-- A trip event that falls together with an exit from ENGAGED (R32, log entry 49). A free bit says whether it is taken
before the report of the exit; its disengage order then finds the Drive Engagement Unit out of ENGAGED and changes
nothing. -/
def tripTogether (sample : Bool) (s : State) : State :=
  if freeBit s = true ∧ tripsNow sample s = true then runInOrder (tripActs sample) s else s

/-- The exit from ENGAGED handed to the blocks that follow the PTO, in a free order (R49), after a trip that is taken before
it (R32). -/
def handExit (sample : Bool) (s : State) : State :=
  runInOrder [modeOnExit, governorReset, supplyLeaveEngaged, thermalLeaveEngaged, tanksOnPto] (tripTogether sample s)

/-- RAMPDOWN ends as the engine is at or below the engage limit (R58). -/
def endRampIfIdle (s : State) : State :=
  if s.drive.pto = .rampdown ∧ s.engineSpeed ≤ engageLimit s then
    match s.drive.release with
    | some c => confirmRelease (startRelease c s)
    | none => s
  else s

/-- ENGAGED left for RAMPDOWN (R58): the exit is handed on, and the engine speed is compared at entry. -/
def enterRampdown (c : ReleaseCause) (s : State) : State :=
  endRampIfIdle <| handExit true <|
  s.modDrive fun d => { toPto .rampdown d with release := some c, ramp := startTimer 3000 }

/-- The cause of ENGAGE_ABORTED an order or a request gives (R61, R62). -/
def abortCauseOf : ReleaseCause → AbortCause
  | .operator => .operator
  | .rollDeselect => .rollDeselect
  | .motion => .motion
  | .overheatIdle => .overheatIdle
  | .panelStop => .panelStop
  | .conditions => .conditions

/-- A disengage order (R62), and what a taken DISENGAGE does (R61). -/
def disengageOrder (c : ReleaseCause) (s : State) : State :=
  match s.drive.pto with
  | .engaged => enterRampdown c s
  | .precheck | .shifting | .settle => abortEngagement (abortCauseOf c) c none s
  | .disengaged | .rampdown | .releasing | .fault => s

/-- A motion trip with its order (R28). -/
def tripAndOrder (c : ModeCause) (s : State) : State := disengageOrder .motion (tripMode c s)

/-- Entry to FAULT (R63), the exit handed on where it leaves ENGAGED, as a sample that has lost PTO_FB does (R57). -/
def driveFault (c : DriveFault) (s : State) : State :=
  let t := enterDriveFault c s
  if s.drive.pto = .engaged then handExit false t else t

/-- The effect of a panel stop, the work of a sample, its notice apart (R60). -/
def stopEffect (s : State) : State :=
  if s.drive.pto = .engaged then
    confirmRelease (handExit false (startRelease .panelStop (addAlarm .stop s)))
  else stopOutsideEngaged s

/-- PANEL_STOP has become ASSERTED (R60, R67). -/
def panelStopAsserted (s : State) : State :=
  stopEffect <|
  record .panelStop { new := some (.qualified true), cause := some (.ptoState s.drive.pto) } s

/-! ### Entry to ENGAGED (R27, R56) -/

/-- The entry check of PUMP_STATIONARY (R27): MOVING is given where both hold. -/
def checkStationary (s : State) : State :=
  if s.interlock.mode ≠ .pumpStationary then s
  else if s.interlock.moving then tripMode .moving s
  else if s.asserted .parkBrake = false then tripMode .parkBrake s
  else s

/-- The mode of an engagement kind entered (R27). -/
def enterKindMode (k : Kind) (c : ModeCause) (s : State) : State :=
  match k with
  | .stationary => checkStationary (setMode .pumpStationary c s)
  | .roll => setMode .pumpRoll c s

/-- The Interlock Unit's part of an entry to ENGAGED (R27). -/
def modeOnEngaged (s : State) : State :=
  match s.drive.kind with
  | some k => enterKindMode k .ptoEngaged s
  | none => s

/-- The entry to ENGAGED handed on, in a free order (R49). -/
def handEntry (s : State) : State :=
  runInOrder [modeOnEngaged, governorReset, supplyEnterEngaged, thermalEnterEngaged, tanksOnPto] s

/-- The order of a trip made at the entry reaches the unit after the hand-on (log entry 15). -/
def orderIfTripped (s : State) : State :=
  if s.interlock.mode = .motionTrip then disengageOrder .motion s else s

/-- The engagement record on entry to ENGAGED (R56). -/
def engagedRecord (c : Confirmation) (d : Drive) : Drive :=
  { toPto .engaged d with
    lastTries := d.tries, tries := 0, lifetime := countUp 65535 d.lifetime, confirmation := some c }

/-- Entry to ENGAGED from SHIFTING (R56). -/
def enterEngaged (c : Confirmation) (s : State) : State :=
  orderIfTripped <| handEntry <|
  record .engageDone
    { old := some (.pto .shifting), new := some (.pto .engaged), value := some (s.drive.tries : Int)
      cause := some (.confirmation c) } <|
  s.modDrive (engagedRecord c)

/-! ### The sequence (R50 to R53, R59) -/

/-- Entry to SHIFTING (R52): a PTO_FB already ASSERTED engages at once. -/
def enterShifting (s : State) : State :=
  let t := s.modDrive fun d =>
    { toPto .shifting d with tries := d.tries + 1, feedback := startTimer (feedbackTime s) }
  if t.qualified .ptoFb = some true then enterEngaged .confirmed t else t

/-- A taken ENGAGE (R50, R51): a PTO_FB found ASSERTED on entry to PRECHECK is FAULT STUCK. -/
def startEngagement (k : Kind) (s : State) : State :=
  let t := s.modDrive fun d => { toPto .precheck d with kind := some k, tries := 0, precheck := startTimer 3000 }
  if t.qualified .ptoFb = some true then driveFault .stuck t else t

/-- A published set as the unit takes it (R51, R58). -/
def publishDrive (s : State) : State :=
  if s.drive.pto = .precheck ∧ s.engineSpeed ≤ engageLimit s then enterShifting s else endRampIfIdle s

/-- Expiry of the precheck timer (R51). -/
def expirePrecheck (s : State) : State :=
  if s.drive.precheck.isNone then s
  else modeOnDisengaged <| reviewStop <|
    record .engageAborted
      { old := some (.pto .precheck), new := some (.pto .disengaged), cause := some (.abort .engineSpeed) } <|
    s.modDrive driveIdle

/-- Expiry of the feedback timer (R52, R53). -/
def expireFeedback (s : State) : State :=
  if s.drive.feedback.isNone then s
  else if s.qualified .ptoFb = none then enterEngaged .unconfirmed s
  else if s.drive.tries < maxTries s then s.modDrive fun d => { toPto .settle d with settle := startTimer 1000 }
  else driveFault .noFeedback s

/-- Expiry of the settle timer (R53). -/
def expireDriveSettle (s : State) : State := if s.drive.settle.isNone then s else enterShifting s

/-- Expiry of the ramp timer (R58). -/
def expireRamp (s : State) : State :=
  match s.drive.ramp, s.drive.release with
  | some _, some c => confirmRelease (startRelease c s)
  | _, _ => s

/-- Expiry of the release timer (R59). -/
def expireRelease (s : State) : State :=
  if s.drive.releasing.isNone then s
  else match s.qualified .ptoFb with
    | some true => driveFault .stuck s
    | some false => endRelease 0 s
    | none => endRelease 1 s

/-- Expiry of the start-up window (R65). -/
def expireWindow (s : State) : State := s.modDrive fun d => { d with window := none }

/-- A qualified change of PTO_FB (R51, R52, R57, R59, R65, R66). -/
def ptoFeedbackChange (asserted : Bool) (s : State) : State :=
  match s.drive.pto, asserted with
  | .precheck, true => driveFault .stuck s
  | .shifting, true => enterEngaged .confirmed s
  | .engaged, false => driveFault .lostFeedback s
  | .releasing, false => endRelease 0 s
  | .disengaged, true => if s.drive.window.isSome then driveFault .stuckAtStart s else s
  | _, _ => s

/-- A taken CLEAR_FAULT for the drive (R64). -/
def clearDriveFault (s : State) : State :=
  conditionEvent <| modeOnDisengaged <| reviewStop <| removeAlarm .ptoFault <| s.modDrive driveIdle

/-! ### Motion and road speed (R24, R25, R28 to R31) -/

/-- A change of the motion state (R25), with the order of the trip it makes (R28). -/
def setMoving (moving : Bool) : State → State := changeMotion moving tripAndOrder

/-- Expiry of the rise timer (R24). -/
def expireRise (s : State) : State := if s.interlock.rise.isNone then s else setMoving true s

/-- Expiry of the fall timer (R24). -/
def expireFall (s : State) : State := if s.interlock.fall.isNone then s else setMoving false s

/-- Motion at a published set (R24). -/
def publishMotion (s : State) : State :=
  s.modInterlock fun i =>
    if i.moving then { i with rise := none, fall := timerWhile (decide (s.roadSpeed < 10)) 2000 i.fall }
    else { i with rise := timerWhile (decide (20 ≤ s.roadSpeed)) 1000 i.rise, fall := none }

/-- The overspeed timers at a published set in ROLL_OVERSPEED (R30). -/
def overspeedTimers (s : State) : State :=
  s.modInterlock fun i =>
    { i with
      recovery := timerWhile (decide (s.roadSpeed + 10 ≤ rollLimit s)) 1000 i.recovery
      trip := timerWhile (decide (rollLimit s + 50 < s.roadSpeed)) 2000 i.trip }

/-- Road speed at a published set (R29, R30). -/
def publishRoll (s : State) : State :=
  match s.interlock.mode with
  | .pumpRoll => if rollLimit s < s.roadSpeed then setMode .rollOverspeed .overspeed s else s
  | .rollOverspeed => overspeedTimers s
  | .road | .pumpStationary | .motionTrip => s

/-- Expiry of the recovery timer (R30). -/
def expireRecovery (s : State) : State :=
  if s.interlock.recovery.isNone then s else setMode .pumpRoll .speedRecovered s

/-- Expiry of the trip timer (R30). -/
def expireTrip (s : State) : State := if s.interlock.trip.isNone then s else tripAndOrder .overspeedTrip s

/-- The slide of the mode ceiling at a governor period (R29). -/
def slideMode (s : State) : State :=
  if s.interlock.mode = .rollOverspeed then
    clipDemand (s.modInterlock fun i => { i with ceiling := i.ceiling - 25 })
  else s

/-- The supply voltage at a published set (R38). VOLTAGE_LOW is recorded before the change of VOLTAGE_OK is handed on, so it
joins the queue before the ENGAGE_ABORTED that this may bring about (log entry 46). -/
def publishVoltage (s : State) : State :=
  let v := s.published .supplyV
  if v < 105 then
    let t := s.modInterlock fun i => { i with voltageOk := false, voltage := none }
    let t := if .voltage ∈ s.alarm.causes then t
      else record .voltageLow { value := some v } (addAlarm .voltage t)
    conditionEvent t
  else s.modInterlock fun i => { i with voltage := if i.voltageOk then i.voltage else runTimer 5000 i.voltage }

/-- Expiry of the voltage timer (R38). -/
def expireVoltage (s : State) : State :=
  if s.interlock.voltage.isNone then s
  else conditionEvent (removeAlarm .voltage (s.modInterlock fun i => { i with voltageOk := true, voltage := none }))

/-- ENGINE_AT_IDLE at a published set (R34, R37, R39). -/
def publishEngineIdle (s : State) : State :=
  conditionEvent (s.modInterlock fun i => { i with engineAtIdle := decide (s.engineSpeed ≤ engageLimit s) })

/-- Expiry of the hot timer with its disengage order (R158). -/
def expireHot (s : State) : State :=
  if s.thermal.hot.isNone then s
  else if overheatRelease s then disengageOrder .overheatIdle (raiseOverheat s)
  else raiseOverheat s

end Sys2Proof.Machine
end

