-- ==== Sys2Proof/Machine/Inputs.lean ====
section
/-! DEFINITION. Discrete inputs: a sample (R16), the hand-on of an input change by role (R17), and a change of the
assignment table (R21). -/

namespace Sys2Proof.Machine

/-! ### Hand-on (R17) -/

/-- PARK_BRAKE or NEUTRAL lost in PUMP_STATIONARY (R28): the trip, whose order `deliverOrder` brings. -/
def tripOnLoss (c : ModeCause) (asserted : Bool) (s : State) : State :=
  if asserted = false ∧ s.interlock.mode = .pumpStationary then tripMode c s else s

/-- The order of a trip made since the mode stood at `before` reaches the Drive Engagement Unit (R28), which may have left
ENGAGED by then: the order changes nothing there (R32). -/
def deliverOrder (before : OpMode) (s : State) : State :=
  if before ≠ .motionTrip ∧ s.interlock.mode = .motionTrip then disengageOrder .motion s else s

/-- ROLL_SELECT lost in PUMP_ROLL or ROLL_OVERSPEED (R31). -/
def deselectRoll (asserted : Bool) (s : State) : State :=
  if asserted = false ∧ (s.interlock.mode = .pumpRoll ∨ s.interlock.mode = .rollOverspeed) then
    disengageOrder .rollDeselect s
  else s

/-- PANEL_STOP changed, as the Drive Engagement Unit takes it (R60). -/
def panelStopChange (asserted : Bool) (s : State) : State :=
  if asserted then panelStopAsserted s else reviewStop s

/-- INPUT_CHANGED of a GENERAL_IN terminal (R17). -/
def recordInputChanged (t : Terminal) (asserted : Bool) (s : State) : State :=
  record .inputChanged
    { subject := some (.terminal t), old := some (.qualified !asserted), new := some (.qualified asserted) } s

/-- A valve feedback's change and the report of what it does (R168 to R170, R175). -/
def valveFeedbackChange (v : ValveRole) (asserted : Bool) (s : State) : State :=
  reportAfter v (feedbackChange v asserted) s

/-- An input change handed to the blocks that use the role, in a free order (R17). -/
def inputChange (t : Terminal) (r : Role) (asserted : Bool) (s : State) : State :=
  match r with
  | .parkBrake => runInOrder [conditionEvent, tripOnLoss .parkBrake asserted] s
  | .neutral => runInOrder [conditionEvent, tripOnLoss .neutral asserted] s
  | .rollSelect => runInOrder [conditionEvent, deselectRoll asserted] s
  | .panelStop => runInOrder [conditionEvent, panelStopChange asserted] s
  | .ptoFb => ptoFeedbackChange asserted s
  | .mainValveFb => valveFeedbackChange .mainValve asserted s
  | .reserveValveFb => valveFeedbackChange .reserveValve asserted s
  | .recircFb => valveFeedbackChange .recircValve asserted s
  | .generalIn => recordInputChanged t asserted s
  | .ptoClutch | .mainValve | .reserveValve | .mainFill | .reserveFill | .recircValve | .primer | .alarm
  | .generalOut => s

/-- One terminal sampled (R16) and its change handed on (R17) before the next is sampled: a block that acts on it reads the
terminals still to come as they stood before this sample (log entry 44). -/
def sampleTerminal (levels : BitVec 16) (t : Terminal) (s : State) : State :=
  let r := s.terminals.assignment[t]
  if isInputRole r.role then
    let i := s.terminals.inputs[t]
    let j := sampleInput r (levels.getLsbD t.val) i
    let u := setInput t j s
    if j.asserted = i.asserted then u else inputChange t r.role j.asserted u
  else s

/-- A sample expiry (R16): the changes that fall together are handed on one by one, in a free order (R17). The order of a
trip among them reaches the Drive Engagement Unit between two of them, or at the latest after the last (log entry 49). -/
def sampleInputs (levels : BitVec 16) (s : State) : State :=
  let order := deliverOrder s.interlock.mode
  order (runInOrder (allTerminals.map (sampleTerminal levels) ++ [order]) s)

/-! ### A changed record (R21) -/

/-- A terminal brought into line with its new record (R21): `old` is the record before the write. -/
def alignTerminal (old : AssignRecord) (t : Terminal) (s : State) : State :=
  let new := s.terminals.assignment[t]
  let s := if old.role = .generalOut ∨ new.role = .generalOut then
      (if old.role = .generalOut ∧ new.role = .generalOut then s else setGeneral t outputOff s)
    else s
  if isInputRole new.role then
    if isInputRole old.role then
      if old.role = new.role ∧ old.polarity = new.polarity ∧ old.q = new.q then s
      else
        let i := s.terminals.inputs[t]
        let u := setInput t { i with asserted := false, counter := 0 } s
        if i.asserted then inputChange t new.role false u else u
    else setInput t freshInput s
  else if isInputRole old.role then setInput t freshInput s
  else s

/-- The named records replaced and each terminal brought into line, in a free order (R20, R21). The condition set is
evaluated after the write (log entry 19), and a PANEL_STOP that now reads not asserted takes STOP out of the alarm (R18,
R60). -/
def writeRecords (recs : List (Terminal × AssignRecord)) (s : State) : State :=
  let t := s.modTerminals fun x =>
    { x with assignment := recs.foldl (fun a p => a.set p.1 p.2) x.assignment }
  refreshConditions (reviewStop (runInOrder (recs.map fun p => alignTerminal s.terminals.assignment[p.1] p.1) t))

end Sys2Proof.Machine
end

