-- ==== Sys2Proof/Machine/Measure.lean ====
section
/-! DEFINITION. The Sense Unit: scaling, filtering and health (R1 to R6), pulse gates (R8 to R11), the measurement set
(R12), and what its publication, a gate completion and a governor period lead to. -/

namespace Sys2Proof.Machine

/-! ### Analog channels (R1 to R5) -/

/-- The band of in-range codes. -/
def inRange (code : Nat) : Bool := 40 ≤ code && code ≤ 4055

/-- A code scaled between the zero and the full value (R2). -/
def scaleCode (zero full : Int) (code : Nat) : Int := zero + roundQuotient (((code : Int) - 40) * (full - zero)) 4015

/-- The filter (R3): absent, it is seeded. -/
def filterStep (k : Nat) (x : Int) : Option Int → Int
  | none => x
  | some f => f + (x - f).tdiv (2 ^ k)

/-- An in-range code (R1, R5): on a channel that is not OK the first code of a run re-seeds the filter, and the tenth
publishes it. -/
def goodCode (k : Nat) (x : Int) (r : ChannelRecord) : ChannelRecord :=
  match r.health with
  | .ok =>
    let f := filterStep k x r.filtered
    { r with filtered := some f, published := f, outRun := 0, good := true }
  | .stale | .failed =>
    let f := filterStep k x (if r.inRun = 0 then none else r.filtered)
    if r.inRun + 1 < 10 then { r with filtered := some f, outRun := 0, inRun := r.inRun + 1 }
    else { filtered := some f, published := f, health := .ok, outRun := 0, inRun := 0, good := true }

/-- The held value of a channel (R4): the zero value, as it stands at the scan, where the channel has never had a good
value (log entries 21 and 32). -/
def heldValue (zero : Int) (r : ChannelRecord) : Int := if r.good then r.published else zero

/-- The filter after an out-of-range code (R4): a seeding made in an unfinished recovery run is discarded. -/
def discardSeeding (r : ChannelRecord) : Option Int :=
  if r.inRun = 0 then r.filtered else if r.good then some r.published else none

/-- An out-of-range code (R4). On a channel that never had a good value a rewritten zero value is published here, although R6
leaves the published value until a scaled value reaches the filter (log entry 32). -/
def badCode (zero : Int) (r : ChannelRecord) : ChannelRecord :=
  let r' := { r with filtered := discardSeeding r, published := heldValue zero r, inRun := 0 }
  match r.health with
  | .ok => { r' with health := .stale, outRun := 1 }
  | .stale => if r.outRun + 1 < 50 then { r' with outRun := r.outRun + 1 } else { r' with health := .failed, outRun := 50 }
  | .failed => { r' with outRun := 50 }

/-- The published value of a STALE or FAILED channel is its held value (R4, R5): where the channel never had a good value
and its zero value has been rewritten, the next code's scan, of either sort, publishes the new one (log entry 32). -/
def publishHeld (zero : Int) (r : ChannelRecord) : ChannelRecord :=
  match r.health with
  | .ok => r
  | .stale | .failed => { r with published := heldValue zero r }

/-- A channel's record after its code (R1). -/
def scanRecord (s : State) (c : AnalogChannel) (code : Nat) (r : ChannelRecord) : ChannelRecord :=
  if inRange code then
    goodCode (filterShift s c) (scaleCode (zeroValue s c) (fullValue s c) code) (publishHeld (zeroValue s c) r)
  else badCode (zeroValue s c) r

/-- The notice a change of health records (R4, R5). -/
def recordHealth (c : AnalogChannel) (before after : Health) (s : State) : State :=
  if before = .stale ∧ after = .failed then
    record .channelFault
      { subject := some (.analog c), old := some (.health .stale), new := some (.health .failed) } s
  else if before = .failed ∧ after = .ok then
    record .channelRecovered
      { subject := some (.analog c), old := some (.health .failed), new := some (.health .ok) } s
  else s

/-- One channel treated (R1). -/
def scanChannel (codes : Analog (BitVec 12)) (s : State) (c : AnalogChannel) : State :=
  let r := getAnalog s.sense.channels c
  let r' := scanRecord s c (getAnalog codes c).toNat r
  recordHealth c r.health r'.health (s.modSense fun x => { x with channels := setAnalog x.channels c r' })

/-! ### The measurement set (R12) -/

/-- A function of each pulse channel's record. -/
def mapPulse {α β : Type} (f : α → β) (a : PerPulse α) : PerPulse β :=
  ⟨f a.engineSpeed, f a.roadSpeed, f a.dischargeFlow⟩

/-- The next measurement set (R12). -/
def nextSet (x : Sense) : MeasurementSet :=
  { values := mapAnalog (·.published) x.channels
    health := mapAnalog (·.health) x.channels
    pulse := mapPulse (·.value) x.pulses
    quiet := mapPulse (·.quiet) x.pulses
    scan := (x.front.scan + 1) % 4294967296 }

/-- The back buffer is written and made front (R12). -/
def swapSets (s : State) : State := s.modSense fun x => { x with front := nextSet x, back := x.front }

/-- What every block does at a published set. Each acts on what the ones before it left (R39): until publishEngineIdle has
run, a condition report lists ENGINE_AT_IDLE by the set before (log entry 47). -/
def setConsumers : List (State → State) :=
  [publishMotion, publishRoll, publishVoltage, publishEngineIdle, publishDrive, publishFallback, publishPulseLoss,
   publishWindow, publishPrime, publishTank .main, publishTank .reserve, publishZone, publishNoFlow, publishDryRun]

/-- A scan (R1, R12): the six codes, the publication, and the blocks that read the set, in a free order. The codes are
treated in the order of the channel table, which is then that of two health notices of one scan (log entry 45). -/
def scanAnalog (codes : Analog (BitVec 12)) (s : State) : State :=
  runInOrder setConsumers (swapSets (allAnalog.foldl (scanChannel codes) s))

/-! ### Pulse channels (R8 to R11) -/

/-- A pulse on a channel (R8). -/
def countPulse (c : PulseChannel) (s : State) : State :=
  s.modSense fun x =>
    { x with
      pulses := setPulse x.pulses c
        { getPulse x.pulses c with current := countUp 65535 (getPulse x.pulses c).current } }

/-- The last n counts of a list. -/
def lastCounts (n : Nat) (l : List Nat) : List Nat := l.drop (l.length - n)

/-- A channel's window, the numerator of its formula, its constant and its saturation value (R9). -/
def pulseRow (s : State) : PulseChannel → Nat × Nat × Nat × Nat
  | .engineSpeed => (2, 300, pulsesPerRev s, 4000)
  | .roadSpeed => (5, 72000, pulsesPerKm s, 1500)
  | .dischargeFlow => (5, 12000, flowConstant s, 10000)

/-- The value of a window (R9). -/
def pulseValue (row : Nat × Nat × Nat × Nat) (completed : List Nat) : Nat :=
  min ((lastCounts row.1 completed).sum * row.2.1 / row.2.2.1) row.2.2.2

/-- The ten completed counts after a gate (R8). -/
def joinGate (r : PulseRecord) : List Nat := lastCounts 10 (r.completed ++ [r.current])

/-- A pulse channel after its gate (R8, R9). -/
def completeGate (row : Nat × Nat × Nat × Nat) (r : PulseRecord) : PulseRecord :=
  { current := 0
    completed := joinGate r
    quiet := (joinGate r).all (· == 0)
    value := pulseValue row (joinGate r) }

/-- The volume sum of a gate (R10): the count in parts of K, with the carried remainder. -/
def gateVolume (x : Sense) : Nat := x.pulses.dischargeFlow.current * 100000 + x.remainder

/-- The Sense Unit after a gate completion (R8, R9, R10). -/
def senseAfterGate (s : State) (x : Sense) : Sense :=
  { x with
    pulses :=
      { engineSpeed := completeGate (pulseRow s .engineSpeed) x.pulses.engineSpeed
        roadSpeed := completeGate (pulseRow s .roadSpeed) x.pulses.roadSpeed
        dischargeFlow := completeGate (pulseRow s .dischargeFlow) x.pulses.dischargeFlow }
    remainder := gateVolume x % flowConstant s }

/-- A gate completion (R8, R9, R10): the increment is handed to the Tank Unit. -/
def completeGates (s : State) : State :=
  takeIncrement (gateVolume s.sense / flowConstant s) (s.modSense (senseAfterGate s))

/-! ### The governor period -/

/-- A governor period (R29, R72, R115): the slide, the limiter and the computation, in a free order. -/
def governorExpiry (s : State) : State := runInOrder [slideMode, limiterPeriod, governPeriod] s

end Sys2Proof.Machine
end

