-- ==== Sys2Proof/Machine/Operands.lean ====
section
/-! DEFINITION. The line's encodings: numbers, names, sets and optional fields (R209), subject codes and the notice record
(R211), the sections of the status reply (R206), the records other replies carry, the CRC (R198) and the bytes of a
frame the part sends (R196). -/

namespace Sys2Proof.Machine

/-! ### Numbers, flags, sets and optional fields (R209) -/

/-- A number in so many bytes, most significant first. -/
def natBytes : Nat → Nat → List Byte
  | 0, _ => []
  | k + 1, n => BitVec.ofNat 8 (n / 256 ^ k) :: natBytes k n

/-- A signed number in two's complement. -/
def intBytes (k : Nat) (i : Int) : List Byte := natBytes k (i % (256 ^ k : Nat)).toNat

/-- One byte. -/
def codeByte (n : Nat) : List Byte := [BitVec.ofNat 8 n]

/-- A two-valued field: 1 for its first value. -/
def flagByte (b : Bool) : List Byte := [if b then 1 else 0]

/-- An optional field of so many bytes: its presence byte, then the field or zeros. -/
def optBytes {α : Type} (size : Nat) (enc : α → List Byte) : Option α → List Byte
  | some x => 1 :: enc x
  | none => 0 :: List.replicate size 0

/-- Eight truth values in a byte, the first in the most significant bit. -/
def packByte (bits : List Bool) : Byte :=
  BitVec.ofNat 8 ((List.range 8).foldl (fun a i => 2 * a + (bits.getD i false).toNat) 0)

/-- Truth values in so many bytes. -/
def packBits : Nat → List Bool → List Byte
  | 0, _ => []
  | k + 1, bits => packByte bits :: packBits k (bits.drop 8)

/-- A set drawn from a fixed list. -/
def setBytes {α : Type} [DecidableEq α] (listing l : List α) : List Byte :=
  packBits ((listing.length + 7) / 8) (listing.map fun x => decide (x ∈ l))

/-- The running state of a timer. -/
def runningByte (t : Option Timer) : List Byte := flagByte t.isSome

/-- A list: its count byte and its members. -/
def listOf {α : Type} (enc : α → List Byte) (l : List α) : List Byte := codeByte l.length ++ l.flatMap enc

/-! ### Codes (R209, R211) -/

/-- The subject code of an analog channel. -/
def analogCode (c : AnalogChannel) : Nat := c.ctorIdx
/-- The subject code of a terminal. -/
def terminalCode (t : Terminal) : Nat := 16 + t.val
/-- The subject code of a tank. -/
def tankCode (t : Tank) : Nat := 32 + t.ctorIdx
/-- The subject code of a valve role. -/
def valveCode (v : ValveRole) : Nat := 34 + v.ctorIdx
/-- The subject code of a totaliser. -/
def totaliserCode (t : Totaliser) : Nat := 41 + t.ctorIdx
/-- The subject code of an override kind. -/
def overrideCode (k : OverrideKind) : Nat := 43 + k.ctorIdx

/-- The subject code of a notice's subject (R211). -/
def subjectCode : Subject → Nat
  | .analog c => analogCode c
  | .terminal t => terminalCode t
  | .tank t => tankCode t
  | .valve v => valveCode v
  | .totaliser t => totaliserCode t
  | .override k => overrideCode k

/-- The tank a subject code names (R211). -/
def tankOfCode (b : Byte) : Option Tank :=
  match b.toNat with
  | 32 => some .main
  | 33 => some .reserve
  | _ => none

/-- The terminal a subject code names (R211). -/
def terminalOfCode (b : Byte) : Option Terminal := allTerminals.find? fun t => terminalCode t == b.toNat

/-- The valve role a subject code names (R211). -/
def valveOfCode (b : Byte) : Option ValveRole := allValves.find? fun v => valveCode v == b.toNat

/-- The member of a list at a code. -/
def atCode {α : Type} (listing : List α) (b : Byte) : Option α := listing[b.toNat]?

/-- The code of a governing source: SHADOW 0 to SWITCHOVER 3 (R211), in the status reply and the reply of R84 as in
OVERRIDE_CHANGED (log entry 42). -/
def sourceCode : Source → Nat
  | .shadow => 0
  | .over k => 1 + k.ctorIdx

/-- The code of a state a notice names (R211); a qualified state is ASSERTED 0, NOT_ASSERTED 1. -/
def stateCode : StateName → Nat
  | .mode m => m.ctorIdx
  | .pto p => p.ctorIdx
  | .supply x => x.ctorIdx
  | .phase p => p.ctorIdx
  | .level l => l.ctorIdx
  | .stage f => f.ctorIdx
  | .zone z => z.ctorIdx
  | .valve v => v.ctorIdx
  | .health h => h.ctorIdx
  | .qualified x => if x then 0 else 1
  | .source x => sourceCode x

/-- The code of a cause a notice names (R211). -/
def causeCode : CauseName → Nat
  | .start c => c.ctorIdx
  | .mode c => c.ctorIdx
  | .confirmation c => c.ctorIdx
  | .abort c => c.ctorIdx
  | .release c => c.ctorIdx
  | .driveFault c => c.ctorIdx
  | .ptoState p => p.ctorIdx
  | .floor c => c.ctorIdx
  | .attempt c => c.ctorIdx
  | .loss c => c.ctorIdx
  | .prime c => c.ctorIdx
  | .exhausted c => c.ctorIdx
  | .supplyState x => x.ctorIdx
  | .overrideBegan | .reconLarge | .overheatRelease => 0
  | .overrideEnded | .reconWithin | .overheatHold => 1
  | .fill c => c.ctorIdx
  | .totalFlag f => f.ctorIdx
  | .zone c => c.ctorIdx
  | .valveFault c => c.ctorIdx
  | .blockedBy v => valveCode v

/-- The code of a governor mode (R69). -/
def settingCode : Setting → Nat
  | .idle => 0
  | .pressure _ => 1
  | .speed _ => 2

/-- A governor mode and its setpoint (R69). -/
def settingBytes (x : Setting) : List Byte := codeByte (settingCode x) ++ optBytes 2 (natBytes 2) x.value?

/-- A condition set (R200). -/
def conditionBytes (l : List Condition) : List Byte := setBytes allConditions l

/-! ### The notice record (R211) -/

/-- A presence bit. -/
def presenceBit (n : Nat) (present : Bool) : Nat := if present then 2 ^ n else 0

/-- The presence byte of a notice record. -/
def presenceByte (n : Notice) : Nat :=
  presenceBit 0 n.body.subject.isSome + presenceBit 1 n.body.old.isSome + presenceBit 2 n.body.new.isSome +
    presenceBit 3 n.body.value.isSome + presenceBit 4 n.body.second.isSome + presenceBit 5 n.body.cause.isSome +
    presenceBit 6 n.body.conds.isSome + presenceBit 7 n.overrun

/-- The parameters of a NOTICE frame. -/
def noticeBytes (n : Notice) : List Byte :=
  natBytes 4 n.tag ++ codeByte n.kind.ctorIdx ++ codeByte (presenceByte n) ++
    codeByte ((n.body.subject.map subjectCode).getD 0) ++
    codeByte ((n.body.old.map stateCode).getD 0) ++ codeByte ((n.body.new.map stateCode).getD 0) ++
    intBytes 5 (n.body.value.getD 0) ++ intBytes 2 (n.body.second.getD 0) ++
    codeByte ((n.body.cause.map causeCode).getD 0) ++ conditionBytes (n.body.conds.getD [])

/-! ### Sections of the status reply (R206) -/

/-- Section 1 (R46). -/
def statusInterlock (s : State) : List Byte :=
  let i := s.interlock
  codeByte i.mode.ctorIdx ++ codeByte i.moving.toNat ++ natBytes 2 i.ceiling ++ setBytes allFlags i.flags ++
    conditionBytes (trueConditions s) ++
    packBits 1 [i.rise.isSome, i.fall.isSome, i.recovery.isSome, i.trip.isSome, i.voltage.isSome]

/-- Section 2 (R47, R68). -/
def statusDrive (s : State) : List Byte :=
  let d := s.drive
  codeByte d.pto.ctorIdx ++ optBytes 1 (fun x => codeByte x.ctorIdx) d.kind ++
    optBytes 1 (fun x => codeByte x.ctorIdx) d.confirmation ++ optBytes 1 (fun x => codeByte x.ctorIdx) d.release ++
    optBytes 1 (fun x => codeByte x.ctorIdx) d.fault ++ codeByte d.tries ++ codeByte d.lastTries ++
    natBytes 2 d.lifetime ++ flagByte d.clutch ++ runningByte d.precheck ++ runningByte d.feedback ++
    runningByte d.settle ++ runningByte d.ramp ++ runningByte d.releasing ++ runningByte d.window

/-- Section 3 (R69, R96). -/
def statusGovernor (s : State) : List Byte :=
  let g := s.governor
  settingBytes g.shadow ++ settingBytes g.active ++ setBytes allOverrides g.overrides ++
    optBytes 2 (natBytes 2) g.captured ++ codeByte (sourceCode g.source) ++ intBytes 4 g.acc ++ natBytes 2 g.demand ++
    flagByte g.reseed ++ natBytes 2 g.ceiling ++ codeByte g.binding.ctorIdx ++ codeByte g.frozen.toNat ++
    runningByte g.loss ++ natBytes 2 g.inputs.profile ++ natBytes 2 g.inputs.mode ++ natBytes 2 g.inputs.supply ++
    natBytes 2 g.inputs.thermal ++ natBytes 2 g.inputs.drive

/-- Section 4 (R97, R123): the accumulation of the window runs with the attempt timer. -/
def statusSupply (s : State) : List Byte :=
  let x := s.supply
  codeByte x.state.ctorIdx ++ codeByte (tankCode x.selected) ++ optBytes 1 (fun p => codeByte p.ctorIdx) x.phase ++
    intBytes 2 x.floor ++ optBytes 2 (intBytes 2) x.hydrant ++ natBytes 2 x.limit ++ flagByte x.below ++
    flagByte x.lossLatch ++ codeByte x.attempts ++ optBytes 1 (fun r => codeByte r.ctorIdx) x.lastReason ++
    flagByte x.switchHeld ++ flagByte x.primeHeld ++ runningByte x.attempt ++ runningByte x.prime ++
    runningByte x.primerLimit ++ runningByte x.settle ++ runningByte x.loss ++ runningByte x.activity ++
    runningByte x.attempt ++ natBytes 2 (supplyCeiling s)

/-- Section 5 (R153). -/
def statusThermal (s : State) : List Byte :=
  let x := s.thermal
  codeByte x.zone.ctorIdx ++ flagByte x.unknown ++ runningByte x.hot ++ flagByte x.overheat ++
    natBytes 2 (thermalCeiling s) ++ runningByte x.noFlow ++ runningByte x.flowReturn ++ flagByte x.noFlowHeld ++
    flagByte x.thermalHeld ++ runningByte x.dry ++ flagByte x.latch ++ flagByte x.operator

/-- A valve command: OPEN 0, CLOSED 1. -/
def commandByte (isOpen : Bool) : List Byte := codeByte (if isOpen then 0 else 1)

/-- An actuator record (R166). -/
def actuatorBytes (a : Actuator) : List Byte :=
  commandByte a.openCmd ++ codeByte a.state.ctorIdx ++ codeByte a.confirmation.ctorIdx ++ codeByte a.tries ++
    runningByte a.retry ++ runningByte a.travel ++ optBytes 1 (fun c => codeByte c.ctorIdx) a.fault ++
    flagByte (actuatorDrive a)

/-- An output record (R179). -/
def outputBytes (o : OutputRecord) : List Byte := flagByte o.drive ++ optBytes 2 (natBytes 2) o.countdown

/-- The terminals whose role is GENERAL_OUT. -/
def generalOuts (s : State) : List Terminal :=
  allTerminals.filter fun t => s.terminals.assignment[t].role == .generalOut

/-- Section 6 (R206). -/
def statusOutput (s : State) : List Byte :=
  allValves.flatMap (fun v => actuatorBytes (s.valve v)) ++ setBytes allRecircCauses s.recirc ++
    setBytes allAlarmCauses s.alarm.causes ++ setBytes allAlarmCauses s.alarm.silenced ++ flagByte s.alarm.drive ++
    outputBytes s.outputs.primer ++ listOf (fun t => outputBytes s.outputs.general[t]) (generalOuts s)

/-- The 32 masks, enabled being 1 (R186). -/
def maskBytes (s : State) : List Byte := packBits 4 (allNoticeKinds.map (maskEnabled s))

/-- A trend index where the ring is empty: the spec names none (log entry 11). -/
def freeIndex (s : State) (n : Nat) : Nat := s.choices.getD n 0 % 65536

/-- The index of the oldest record in the ring. -/
def oldestIndex (s : State) : Nat := (s.trend.ring.head?.map (·.index)).getD (freeIndex s 0)

/-- The index of the newest record in the ring. -/
def newestIndex (s : State) : Nat := (s.trend.ring.getLast?.map (·.index)).getD (freeIndex s 1)

/-- Section 7 (R195). -/
def statusNotices (s : State) : List Byte :=
  codeByte s.notices.queue.length ++ flagByte ((s.notices.queue.head?.map (·.overrun)).getD false) ++
    flagByte s.notices.pressure ++ maskBytes s ++ natBytes 4 s.clock.tag ++ codeByte s.clock.resolution ++
    codeByte s.trend.fast ++ natBytes 2 (oldestIndex s) ++ natBytes 2 (newestIndex s) ++
    optBytes 2 (natBytes 2) s.trend.marker ++ natBytes 2 (unreadCount s.trend) ++ flagByte s.trend.armed

/-- Section 8 (R206). -/
def statusLink (s : State) : List Byte :=
  let l := s.link
  codeByte l.state.ctorIdx ++ runningByte l.supervision ++ flagByte l.hold ++ codeByte l.buffer.length ++
    flagByte l.inHand.isSome ++ codeByte l.noticeCount ++ natBytes 2 l.framing ++ natBytes 2 l.check ++
    natBytes 2 l.overrun

/-- A section of the status reply, none outside 1..8 (R206). -/
def statusSection (s : State) (n : Nat) : Option (List Byte) :=
  match n with
  | 1 => some (statusInterlock s)
  | 2 => some (statusDrive s)
  | 3 => some (statusGovernor s)
  | 4 => some (statusSupply s)
  | 5 => some (statusThermal s)
  | 6 => some (statusOutput s)
  | 7 => some (statusNotices s)
  | 8 => some (statusLink s)
  | _ => none

/-! ### Records other replies carry -/

/-- The IDENTIFY body (R206). -/
def identifyBytes (s : State) : List Byte :=
  natBytes 2 5310 ++ natBytes 2 3240 ++ codeByte 1 ++ codeByte 1 ++ codeByte s.link.startCause.ctorIdx

/-- The analog health bytes (R212): two bits for each channel from the most significant. -/
def healthBits (x : Analog Health) : List Byte :=
  packBits 2 (allAnalog.flatMap fun c => [getAnalog x c == .failed, getAnalog x c == .stale])

/-- The measurement set (R212). -/
def measurementBytes (m : MeasurementSet) : List Byte :=
  natBytes 4 m.scan ++ allAnalog.flatMap (fun c => intBytes 2 (getAnalog m.values c)) ++
    natBytes 2 m.pulse.engineSpeed ++ natBytes 2 m.pulse.roadSpeed ++ natBytes 2 m.pulse.dischargeFlow ++
    healthBits m.health ++ packBits 1 [m.quiet.engineSpeed, m.quiet.roadSpeed, m.quiet.dischargeFlow]

/-- The level of a terminal's most recent sample: not yet sampled, the level its polarity names as not asserted (R22). -/
def sampleLevel (r : AssignRecord) (i : InputState) : Bool := i.sample.getD !(assertedBy r.polarity true)

/-- A terminal's entry of READ_INPUTS (R22): a level is high 0, low 1. -/
def inputBytes (s : State) (t : Terminal) : List Byte :=
  let r := s.terminals.assignment[t]
  let i := s.terminals.inputs[t]
  codeByte r.role.ctorIdx ++
    if isInputRole r.role then
      codeByte (if sampleLevel r i then 0 else 1) ++ codeByte i.counter ++ codeByte (if i.asserted then 0 else 1)
    else flagByte (terminalDrive s t)

/-- A record of the assignment table (R15). A role is coded by its place in the role table, the valve roles, PRIMER and ALARM
among them (log entry 43). -/
def recordBytes (r : AssignRecord) : List Byte :=
  codeByte r.role.ctorIdx ++ codeByte r.polarity.ctorIdx ++ codeByte r.q ++
    optBytes 1 (fun x => codeByte x.ctorIdx) r.safe

/-- A record with its terminal (R20). -/
def namedRecordBytes (p : Terminal × AssignRecord) : List Byte := codeByte (terminalCode p.1) ++ recordBytes p.2

/-- A totaliser's ten bytes (R212). -/
def totalBytes (x : Total) : List Byte :=
  natBytes 4 (reported x) ++ natBytes 5 x.acc ++ codeByte (x.math.toNat + 2 * x.logical.toNat)

/-- A reconciliation record (R138). -/
def reconBytes (r : Reconciliation) : List Byte :=
  natBytes 2 r.estimate ++ natBytes 2 r.measured ++ intBytes 4 r.difference ++ codeByte r.cause.ctorIdx ++
    flagByte r.large

/-- A safety timer: elapsed fill time in ms and its limit (R125). DESIGN CHOICE (log entry 51): the limit is in ms and in
four bytes, as the elapsed time beside it; R125 gives the unit of the elapsed time only, and the parameters that make the
limit are in minutes (R141, R142). -/
def safetyBytes (x : SafetyTimer) : List Byte := natBytes 4 (x.elapsedHalves / 2) ++ natBytes 4 x.limit

/-- The code of the stage a fill was suspended from: BULK 0, TOPOFF 1, FULL_HOLD 2 (R125). -/
def suspendedCode : FillStage → Nat
  | .topoff => 1
  | .fullHold => 2
  | .off | .bulk | .suspended | .timeout => 0

/-- The stages in which the safety timer runs (R144). -/
def safetyRuns (r : TankRecord) : Bool := r.safety.isSome && (r.stage == .bulk || r.stage == .topoff)

/-- A tank's record (R125) and the running states of its cycle and safety timers (R150). -/
def tankBytes (s : State) (t : Tank) : List Byte :=
  let r := s.tank t
  intBytes 2 r.level ++ flagByte r.headKnown ++ optBytes 2 (natBytes 2) r.volume ++ natBytes 2 (capacity s t) ++
    natBytes 2 (fullAt s t) ++ natBytes 2 (topoffAt s t) ++ natBytes 2 (refillAt s t) ++ natBytes 2 (lowAt s t) ++
    natBytes 2 (emptyAt s t) ++ natBytes 2 (hysteresis s t) ++ codeByte r.state.ctorIdx ++
    flagByte r.estimating.isSome ++ optBytes 1 (fun c => codeByte c.ctorIdx) r.estimating ++
    optBytes 2 (natBytes 2) r.frozen ++ optBytes 4 (natBytes 4) r.estimate ++ runningByte r.settle ++
    codeByte r.stage.ctorIdx ++ optBytes 1 (fun x => codeByte (suspendedCode x)) r.suspendedFrom ++
    optBytes 8 safetyBytes r.safety ++ optBytes 1 (fun p => codeByte p.ctorIdx) r.phase ++ commandByte r.fillOpen ++
    optBytes 10 reconBytes r.recon ++ runningByte r.cycle ++ flagByte (safetyRuns r)

/-- A trend record (R191). -/
def trendBytes (r : TrendRecord) : List Byte :=
  natBytes 2 r.index ++ natBytes 4 r.tag ++ intBytes 2 r.discharge ++ intBytes 2 r.intake ++ natBytes 2 r.flow ++
    natBytes 2 r.engine ++ natBytes 2 r.demand ++ optBytes 2 (natBytes 2) r.mainVolume ++
    optBytes 2 (natBytes 2) r.reserveVolume ++ intBytes 2 r.temperature ++ codeByte r.mode.ctorIdx ++
    codeByte r.pto.ctorIdx ++ codeByte r.supply.ctorIdx

/-- A lockout entry with its two fixed fields (R40). -/
def entryBytes (k : GuardedKind) (e : LockoutEntry) : List Byte :=
  setBytes allModes e.modes ++ conditionBytes e.conds ++ setBytes allModes (fixedModes k) ++
    conditionBytes (fixedConditions k)

/-- A volume table (R126). -/
def tableBytes (l : List (Nat × Nat)) : List Byte := listOf (fun p => natBytes 2 p.1 ++ natBytes 2 p.2) l

/-! ### Frames (R196, R198) -/

/-- One shift of the CRC register (R198). -/
def crcShift (r : Byte) : Byte := if r.msb then (r <<< 1) ^^^ 7 else r <<< 1

/-- The register after one byte (R198). -/
def crcByte (r b : Byte) : Byte :=
  crcShift (crcShift (crcShift (crcShift (crcShift (crcShift (crcShift (crcShift (r ^^^ b))))))))

/-- The check byte of the bytes of a frame from its length on (R198). -/
def crc8 (l : List Byte) : Byte := l.foldl crcByte 0

/-- The length, kind, tag and parameter bytes of a frame (R196). -/
def frameBody (kind tag : Byte) (ps : List Byte) : List Byte := BitVec.ofNat 8 (ps.length + 2) :: kind :: tag :: ps

/-- The bytes of a frame (R196). -/
def frameBytes (kind tag : Byte) (ps : List Byte) : List Byte :=
  167 :: (frameBody kind tag ps ++ [crc8 (frameBody kind tag ps)])

/-- The bytes of a frame the part sends (R200, R201, R211). -/
def txBytes : TxFrame → List Byte
  | .reply r => frameBytes r.kind r.tag (BitVec.ofNat 8 r.result.ctorIdx :: r.body)
  | .pressure n => frameBytes 193 0 (codeByte n)
  | .notice n tag _ => frameBytes 192 (BitVec.ofNat 8 tag) (noticeBytes n)

/-- The bytes of the frame that carries a request. -/
def requestFrame (tag : Byte) (r : Request) : List Byte := frameBytes r.code tag r.params

end Sys2Proof.Machine
end

