-- ==== Sys2Proof/Machine/Requests.lean ====
section
/-! DEFINITION. What the owning unit does with each request, and its answer: reading requests, the parameter store, the
tables, the clock, masks and hold. -/

namespace Sys2Proof.Machine

/-- What a taken request leaves and answers (R200). -/
structure Answer where
  state : State
  result : Result
  body : List Byte
deriving DecidableEq, Repr

/-- An answer that changes nothing and has no body. -/
def plain (r : Result) (s : State) : Answer := ⟨s, r, []⟩

/-- A guarded request (R42): a failed judgement is answered REFUSED with its detail (R200). -/
def guarded (k : GuardedKind) (s : State) (act : Answer) : Answer :=
  match judge s k with
  | .passed => act
  | .wrongMode m => ⟨s, .refused, 0 :: codeByte m.ctorIdx⟩
  | .failing l => ⟨s, .refused, 1 :: conditionBytes l⟩

/-! ### Readings -/

/-- IDENTIFY (R206). -/
def actIdentify (s : State) : Answer := ⟨s, .ok, identifyBytes s⟩

/-- READ_MEASUREMENTS (R13). -/
def actReadMeasurements (s : State) : Answer := ⟨s, .ok, measurementBytes s.sense.front⟩

/-- READ_STATUS (R206). -/
def actReadStatus (n : Byte) (s : State) : Answer :=
  match statusSection s n.toNat with
  | some b => ⟨s, .ok, b⟩
  | none => plain .badValue s

/-- READ_INPUTS (R22). -/
def actReadInputs (s : State) : Answer := ⟨s, .ok, allTerminals.flatMap (inputBytes s)⟩

/-- READ_TOTALS (R149). -/
def actReadTotals (s : State) : Answer := ⟨s, .ok, totalBytes s.totals.incident ++ totalBytes s.totals.run⟩

/-- READ_TANKS (R150). -/
def actReadTanks (s : State) : Answer := ⟨s, .ok, tankBytes s .main ++ tankBytes s .reserve⟩

/-- READ_LINK_ERRORS (R198): the counters are set to 0 in the same taking. -/
def actReadLinkErrors (s : State) : Answer :=
  ⟨s.modLink fun l => { l with framing := 0, check := 0, overrun := 0 }, .ok,
    natBytes 2 s.link.framing ++ natBytes 2 s.link.check ++ natBytes 2 s.link.overrun⟩

/-- READ_ASSIGNMENT (R22). -/
def actReadAssignment (s : State) : Answer :=
  ⟨s, .ok, allTerminals.flatMap fun t => recordBytes s.terminals.assignment[t]⟩

/-! ### The trend ring (R193, R194) -/

/-- The marker moves to a record returned that is newer than its own (R193). -/
def moveMarker (last : Nat) (t : Trend) : Trend :=
  match t.marker with
  | none => { t with marker := some last }
  | some m =>
    match recordsFrom t.ring m with
    | [] => { t with marker := some last }
    | _ :: newer => if newer.any (·.index == last) then { t with marker := some last } else t

/-- The TREND_HALF flag after a reading (R193). -/
def afterReading (s : State) : State :=
  checkTrendHalf (s.modTrend fun t => if unreadCount t < 128 then { t with armed := true } else t)

/-- A from-index is in the ring (R194): judged by its distance behind the newest record. -/
def inRing (t : Trend) (start : Nat) : Bool :=
  match t.ring.getLast? with
  | none => false
  | some newest => (newest.index + 65536 - start) % 65536 < t.ring.length

/-- The records a READ_TREND returns (R194). -/
def trendRecords (t : Trend) (start count : Nat) : List TrendRecord := (recordsFrom t.ring start).take count

/-- The OK body of READ_TREND (R194). -/
def trendReply (rs : List TrendRecord) (s : State) : Answer :=
  ⟨s, .ok, listOf trendBytes rs ++ natBytes 2 (newestIndex s) ++ natBytes 2 (unreadCount s.trend)⟩

/-- The index a GONE reply carries (R194). -/
def goneIndex (s : State) : Nat := (s.trend.ring.head?.map (·.index)).getD s.trend.nextIndex

/-- READ_TREND (R194). -/
def actReadTrend (start : BitVec 16) (count : Byte) (s : State) : Answer :=
  if count.toNat = 0 ∨ 8 < count.toNat then plain .badValue s
  else if inRing s.trend start.toNat then
    let rs := trendRecords s.trend start.toNat count.toNat
    trendReply rs <| afterReading <|
      match rs.getLast? with
      | some r => s.modTrend (moveMarker r.index)
      | none => s
  else if start.toNat = s.trend.nextIndex then trendReply [] (afterReading s)
  else ⟨afterReading s, .gone, natBytes 2 (goneIndex s)⟩

/-! ### Parameters (R204, R205) -/

/-- READ_PARAM (R205). -/
def actReadParam (ident : Byte) (s : State) : Answer :=
  match paramRow ident.toNat with
  | none => plain .badValue s
  | some r =>
    ⟨s, .ok, [ident] ++ intBytes 4 (s.param ident.toNat) ++ intBytes 4 r.dflt ++ intBytes 4 r.least ++
      intBytes 4 r.greatest ++ flagByte r.disengagedOnly⟩

/-- A threshold kept in the order of R131 between the one above it and the one below it. -/
def orderThreshold (s : State) (ident : Nat) (v : Int) : Int :=
  let v := if ident ≠ 45 ∧ s.param (ident - 1) ≤ v then s.param (ident - 1) - 1 else v
  if ident ≠ 49 ∧ v ≤ s.param (ident + 1) then s.param (ident + 1) + 1 else v

/-- The owning unit's own adjustment of a written value (R131, R159, R204). -/
def adjustParam (s : State) (ident : Nat) (r : ParamRow) (v : Int) : Int :=
  if 45 ≤ ident ∧ ident ≤ 49 then orderThreshold s ident v
  else if ident = 52 then clampTo r.least r.greatest (min v (s.param 53 - 10))
  else if ident = 53 then max v (s.param 52 + 10)
  else v

/-- The value a write stores (R204, steps 3 and 4). -/
def storedParam (s : State) (ident : Nat) (r : ParamRow) (v : Int) : Int :=
  adjustParam s ident r (clampTo r.least r.greatest v)

/-- A value stored. -/
def storeParam (ident : Nat) (v : Int) (s : State) : State := s.modParams fun a => a.setIfInBounds (ident - 1) v

/-- A channel's filter made absent by a change of its scaling (R6). -/
def unseed (c : AnalogChannel) (s : State) : State :=
  s.modSense fun x => { x with channels := setAnalog x.channels c { getAnalog x.channels c with filtered := none } }

/-- The roll ceiling written (R34). -/
def takeRollCeiling (s : State) : State :=
  if s.interlock.mode = .pumpRoll then clipDemand (s.modInterlock fun i => { i with ceiling := rollCeiling s }) else s

/-- The owning unit handed a stored value whose chapter gives it an effect at once (R204); every other parameter is read
where it is next used. -/
def handParam (ident : Nat) (s : State) : State :=
  match ident with
  | 1 | 7 => unseed .dischargeP s
  | 2 | 8 => unseed .intakeP s
  | 3 | 9 => unseed .mainHead s
  | 4 | 10 => unseed .reserveHead s
  | 5 | 11 => unseed .pumpTemp s
  | 6 | 12 => unseed .supplyV s
  | 21 => s.modSense fun x => { x with remainder := 0 }
  | 22 => takeRollCeiling s
  | 24 => conditionEvent s
  | 27 | 54 | 55 => clipDemand s
  | 45 | 46 | 47 | 48 | 49 => forTanks evaluateLevel s
  | _ => s

/-- WRITE_PARAM (R204). -/
def actWriteParam (ident : Byte) (value : BitVec 32) (s : State) : Answer :=
  match paramRow ident.toNat with
  | none => plain .badValue s
  | some r =>
    if r.disengagedOnly = true ∧ s.drive.pto ≠ .disengaged then plain .badState s
    else
      let v := storedParam s ident.toNat r value.toInt
      ⟨handParam ident.toNat (storeParam ident.toNat v s), if v = value.toInt then .ok else .adjusted,
        [ident] ++ intBytes 4 v⟩

/-! ### The assignment table (R20) -/

/-- The safe state a record carries (R20, steps 2 and 4; the presence byte: log entry 12): none where the record is
refused. -/
def parseSafe (role : Role) (present safe : Byte) : Option (Option SafeState) :=
  if 1 < present.toNat then none
  else if role = .generalOut then
    if present = 1 then (atCode [SafeState.hold, .off, .on] safe).map some else none
  else some none

/-- A record of the request read (R20, steps 2 and 4). -/
def parseAssignRecord (f : AssignmentField) : Option (Terminal × AssignRecord) :=
  match terminalOfCode f.terminal, atCode allRoles f.role, atCode [Polarity.activeHigh, .activeLow] f.polarity with
  | some t, some r, some p =>
    (parseSafe r f.safePresent f.safe).map fun x =>
      (t, { role := r, polarity := p, q := (clampTo 1 15 f.q.toNat).toNat, safe := x })
  | _, _, _ => none

/-- The table a write would produce (R20, step 3). -/
def writtenTable (recs : List (Terminal × AssignRecord)) (a : Vector AssignRecord 16) : Vector AssignRecord 16 :=
  recs.foldl (fun a p => a.set p.1 p.2) a

/-- No dedicated role stands in two records (R15). -/
def dedicatedOnce (a : Vector AssignRecord 16) : Bool :=
  allTerminals.all fun t => allTerminals.all fun u =>
    t == u || !isDedicated a[t].role || a[t].role != a[u].role

/-- The records of a request read, none where one is invalid, a terminal is named twice or there is none (R20). -/
def parseAssign (l : List AssignmentField) : Option (List (Terminal × AssignRecord)) :=
  (l.mapM parseAssignRecord).filter fun recs => !recs.isEmpty && decide (recs.map (·.1)).Nodup

/-- Some Q was clamped (R20, step 4). -/
def qClamped (l : List AssignmentField) : Bool := l.any fun f => f.q.toNat == 0 || decide (15 < f.q.toNat)

/-- WRITE_ASSIGNMENT (R20). -/
def actWriteAssignment (l : List AssignmentField) (s : State) : Answer :=
  if s.drive.pto ≠ .disengaged then plain .badState s
  else match parseAssign l with
    | none => plain .badValue s
    | some recs =>
      if dedicatedOnce (writtenTable recs s.terminals.assignment) then
        ⟨writeRecords recs s, if qClamped l then .adjusted else .ok, listOf namedRecordBytes recs⟩
      else plain .badValue s

/-! ### The lockout table (R43, R44) -/

/-- The members of a listing whose bits are set, the first in the most significant bit (R209). -/
def fromBits {α : Type} {w : Nat} (listing : List α) (bits : BitVec w) : List α :=
  (listing.zipIdx.filter fun p => bits.getMsbD p.2).map (·.1)

/-- The unused last bits of a set are 0. -/
def unusedClear {w : Nat} (used : Nat) (bits : BitVec w) : Bool :=
  (List.range w).all fun i => decide (i < used) || !bits.getMsbD i

/-- The entry a write stores (R43, step 3). -/
def storedEntry (k : GuardedKind) (modes : List OpMode) (conds : List Condition) : LockoutEntry :=
  { modes := modes.filter fun m => m ∈ fixedModes k
    conds := allConditions.filter fun c => c ∈ conds || c ∈ fixedConditions k }

/-- Step 3 of R43 removed a mode or added a fixed condition back. -/
def entryAdjusted (k : GuardedKind) (modes : List OpMode) (conds : List Condition) : Bool :=
  modes.any (fun m => m ∉ fixedModes k) || (fixedConditions k).any fun c => c ∉ conds

/-- WRITE_LOCKOUT (R43). -/
def actWriteLockout (kind modes : Byte) (conds : BitVec 24) (s : State) : Answer :=
  if s.drive.pto ≠ .disengaged then plain .badState s
  else match atCode allGuardedKinds kind with
    | none => plain .badValue s
    | some k =>
      if unusedClear 5 modes && unusedClear 19 conds then
        let ms := fromBits allModes modes
        let cs := fromBits allConditions conds
        ⟨s.modInterlock fun i => { i with lockout := setKind i.lockout k (storedEntry k ms cs) },
          if entryAdjusted k ms cs then .adjusted else .ok, entryBytes k (storedEntry k ms cs)⟩
      else plain .badValue s

/-- READ_LOCKOUT (R44). -/
def actReadLockout (kind : Byte) (s : State) : Answer :=
  match atCode allGuardedKinds kind with
  | none => plain .badValue s
  | some k => ⟨s, .ok, entryBytes k (s.entry k)⟩

/-! ### The volume tables (R128, R129) -/

/-- The points in order: levels strictly ascending, volumes not decreasing (R126). -/
def ascending : List (Nat × Nat) → Bool
  | [] => true
  | [_] => true
  | p :: q :: rest => decide (p.1 < q.1) && decide (p.2 ≤ q.2) && ascending (q :: rest)

/-- A table R126 allows. -/
def tableValid (l : List (Nat × Nat)) : Bool :=
  decide (2 ≤ l.length) && decide (l.length ≤ 16) && l.all (fun p => decide (p.1 ≤ 3000) && decide (p.2 ≤ 60000)) &&
    ascending l && decide (0 < (l.getLast?.map (·.2)).getD 0)

/-- The tank after its table is replaced, up to its level state (R128). -/
def replaceTable (t : Tank) (l : List (Nat × Nat)) (s : State) : State :=
  let u := s.modTank t fun r => { r with table := l }
  match (u.tank t).estimating, (u.tank t).estimate with
  | some _, some e =>
    let e := min e (capacity u t * 1000)
    u.modTank t fun r => { r with estimate := some e, volume := some (e / 1000) }
  | some _, none => u
  | none, _ =>
    if (u.tank t).headKnown then u.modTank t fun r => { r with volume := some (measuredVolume u t) } else u

/-- WRITE_VOLUME_TABLE (R128). -/
def actWriteVolumeTable (tank : Byte) (points : List PointField) (s : State) : Answer :=
  match tankOfCode tank with
  | none => plain .badValue s
  | some t =>
    if s.drive.pto ≠ .disengaged then plain .badState s
    else
      let l := points.map fun p => (p.level.toNat, p.volume.toNat)
      if tableValid l then
        let u := replaceTable t l s
        ⟨setLevel t (freshLevel u t) u, .ok, tableBytes l⟩
      else plain .badValue s

/-- READ_VOLUME_TABLE (R129). -/
def actReadVolumeTable (tank : Byte) (s : State) : Answer :=
  match tankOfCode tank with
  | none => plain .badValue s
  | some t => ⟨s, .ok, tableBytes (s.tank t).table⟩

/-! ### Panel flags (R36) -/

/-- A flag set or cleared: a condition change (R36, R39). -/
def writeFlag (n : Fin 8) (on : Bool) (s : State) : State :=
  conditionEvent (s.modInterlock fun i => { i with flags := if on then insertIn allFlags n i.flags else removeFrom n i.flags })

/-- The flags a request leaves set (R36): cleared, then set. -/
def flagsAfter (flags clears sets : List (Fin 8)) : List (Fin 8) :=
  allFlags.filter fun n => n ∈ sets || (n ∈ flags && n ∉ clears)

/-- The flags whose value changes, each with its new value (R36). DESIGN CHOICE (log entry 50): a flag that was set and is
named in both lists ends as it stood, so its value does not change and nothing is handed on for it, though it is cleared
and set on the way and R39 hands on twice a condition that changes twice. -/
def flagChanges (before after : List (Fin 8)) : List (Fin 8 × Bool) :=
  (allFlags.filter fun n => decide (n ∈ before) != decide (n ∈ after)).map fun n => (n, decide (n ∈ after))

/-- The flag numbers of a list of zero to eight, none where one is outside 0..7 (R36). -/
def parseFlags (l : List Byte) : Option (List (Fin 8)) := if l.length ≤ 8 then l.mapM (atCode allFlags) else none

/-- PANEL_FLAGS (R36). -/
def actPanelFlags (clears sets : List Byte) (s : State) : Answer :=
  match parseFlags clears, parseFlags sets with
  | some cs, some ss =>
    let after := flagsAfter s.interlock.flags cs ss
    let t := runInOrder ((flagChanges s.interlock.flags after).map fun p => writeFlag p.1 p.2) s
    ⟨t, .ok, setBytes allFlags t.interlock.flags⟩
  | _, _ => plain .badValue s

/-! ### Clock, masks, hold, totals and restart -/

/-- SET_TIME (R190). -/
def actSetTime (value : BitVec 32) (resolution : Byte) (s : State) : Answer :=
  let r := resolution.toNat
  if r = 1 ∨ r = 10 ∨ r = 100 then
    ⟨s.modClock fun _ => { tag := value.toNat, resolution := r, period := ⟨r, 0⟩ }, .ok,
      natBytes 4 value.toNat ++ codeByte r⟩
  else plain .badValue s

/-- The masks a request leaves disabled (R186): disabled, then enabled. -/
def disabledAfter (disabled ds es : List NoticeKind) : List NoticeKind :=
  allNoticeKinds.filter fun k => k ∉ es && (k ∈ disabled || k ∈ ds)

/-- The kinds of a list of zero to 32, none where one is not a notice kind (R186). -/
def parseKinds (l : List Byte) : Option (List NoticeKind) :=
  if l.length ≤ 32 then l.mapM (atCode allNoticeKinds) else none

/-- NOTICE_MASK (R186). -/
def actNoticeMask (disables enables : List Byte) (s : State) : Answer :=
  match parseKinds disables, parseKinds enables with
  | some ds, some es =>
    let t := s.modNotices fun n => { n with disabled := disabledAfter n.disabled ds es }
    ⟨t, .ok, maskBytes t⟩
  | _, _ => plain .badValue s

/-- HOLD put in force (R189, R202). -/
def beginHold (s : State) : State :=
  if s.link.hold then s
  else checkPressure ((s.modLink fun l => { l with hold := true }).modNotices fun n => { n with pressure := false })

/-- The body of HOLD_REPORTS and RESUME_REPORTS (R202). -/
def holdBytes (s : State) : List Byte := flagByte s.link.hold ++ codeByte s.notices.queue.length

/-- HOLD_REPORTS (R202). -/
def actHoldReports (s : State) : Answer := ⟨beginHold s, .ok, holdBytes (beginHold s)⟩

/-- RESUME_REPORTS (R202). -/
def actResumeReports (s : State) : Answer :=
  let t := s.modLink fun l => { l with hold := false }
  ⟨t, .ok, holdBytes t⟩

/-- RESET_TOTAL (R148). -/
def actResetTotal (totaliser : Byte) (s : State) : Answer :=
  if totaliser.toNat = totaliserCode .incident then
    ⟨s.modTotals fun x => { x with incident := zeroTotal }, .ok, totalBytes s.totals.incident⟩
  else plain .badValue s

/-- RESET_PART (R208): the part restarts as the reply ends. -/
def actResetPart (s : State) : Answer :=
  if s.drive.pto = .disengaged then ⟨s.modLink fun l => { l with resetTaken := true }, .ok, []⟩
  else plain .badState s

end Sys2Proof.Machine
end

