-- ==== Sys2Proof/Machine/Orders.lean ====
section
/-! DEFINITION. What the owning unit does with the operator's requests: the drive, the governor, the supply, the tanks, the
alarm and the outputs. -/

namespace Sys2Proof.Machine

/-! ### The drive (R35, R50, R61, R64) -/

/-- The engagement kinds by their codes (R47). -/
def kindOfCode (b : Byte) : Option Kind := atCode [Kind.stationary, .roll] b

/-- ENGAGE (R50). The OK reply carries the state in which the taking leaves the unit: FAULT where PTO_FB is found ASSERTED on
entry to PRECHECK (R51), of the two that "the new state" may name (log entry 33). -/
def actEngage (kind : Byte) (s : State) : Answer :=
  match kindOfCode kind with
  | none => plain .badValue s
  | some k =>
    if s.drive.pto ≠ .disengaged then ⟨s, .busy, codeByte s.drive.pto.ctorIdx⟩
    else guarded (engageEntry k) s <|
      let t := startEngagement k s
      ⟨t, .ok, codeByte t.drive.pto.ctorIdx ++ codeByte k.ctorIdx⟩

/-- DISENGAGE (R61). -/
def actDisengage (s : State) : Answer :=
  match s.drive.pto with
  | .engaged | .precheck | .shifting | .settle =>
    let t := disengageOrder .operator s
    ⟨t, .ok, codeByte t.drive.pto.ctorIdx⟩
  | .rampdown => ⟨s, .busy, codeByte s.drive.pto.ctorIdx⟩
  | .disengaged | .releasing | .fault => ⟨s, .badState, codeByte s.drive.pto.ctorIdx⟩

/-- The entry that judges a change of kind (R41). -/
def changeEntry : Kind → GuardedKind
  | .stationary => .changeToStationary
  | .roll => .changeToRoll

/-- A taken CHANGE_KIND (R35): the mode follows the kind, with the entry check of R27. -/
def changeKind (k : Kind) (s : State) : State :=
  orderIfTripped (enterKindMode k .changeKind (s.modDrive fun d => { d with kind := some k }))

/-- CHANGE_KIND (R35). -/
def actChangeKind (kind : Byte) (s : State) : Answer :=
  match kindOfCode kind with
  | none => plain .badValue s
  | some k => guarded (changeEntry k) s ⟨changeKind k s, .ok, codeByte (changeKind k s).interlock.mode.ctorIdx⟩

/-- CLEAR_FAULT of the drive (R64). -/
def clearDrive (s : State) : Answer :=
  if s.drive.pto = .fault ∧ s.drive.clutch = false ∧ s.qualified .ptoFb ≠ some true then
    ⟨clearDriveFault s, .ok, codeByte (clearDriveFault s).drive.pto.ctorIdx⟩
  else plain .badState s

/-- The body of CLEAR_FAULT DRY_RUN (R163). -/
def latchBytes (s : State) : List Byte := flagByte s.thermal.latch ++ natBytes 2 (thermalCeiling s)

/-- CLEAR_FAULT of the dry-run latch (R163). -/
def clearLatch (s : State) : Answer :=
  if s.thermal.latch then ⟨clearDryRun s, .ok, latchBytes (clearDryRun s)⟩ else ⟨s, .badState, latchBytes s⟩

/-- CLEAR_FAULT of a valve (R173): the clear is reported to the owner (R175). -/
def clearValve (v : ValveRole) (s : State) : Answer :=
  if (s.valve v).state = .fault then
    let t := reportAfter v (clearValveFault v) s
    ⟨t, .ok, actuatorBytes (t.valve v)⟩
  else plain .badState s

/-- CLEAR_FAULT (R64, R163, R173, R209). -/
def actClearFault (target : Byte) (s : State) : Answer :=
  if target.toNat = 46 then clearDrive s
  else if target.toNat = 47 then clearLatch s
  else match valveOfCode target with
    | some v => clearValve v s
    | none => plain .badValue s

/-! ### The governor (R79 to R84) -/

/-- The body of R84. -/
def setpointBytes (s : State) : List Byte :=
  settingBytes s.governor.shadow ++ settingBytes s.governor.active ++ codeByte (sourceCode s.governor.source)

/-- A shadow write (R81, R82): the shadow, sensor fallback, the active pair. -/
def takeShadow (x : Setting) (s : State) : State := derivePair (tryFallback (writeShadow x s))

/-- The result of a taken shadow write (R84), judged on the override set as the write leaves it: a write that itself begins
sensor fallback (R81, R91) is answered DEFERRED (log entry 34). -/
def shadowResult (adjusted : Bool) (s : State) : Result :=
  if s.governor.overrides ≠ [] ∧ s.governor.shadow ≠ .idle then .deferred else if adjusted then .adjusted else .ok

/-- The answer of a taken shadow write (R84). -/
def shadowAnswer (x : Setting) (adjusted : Bool) (s : State) : Answer :=
  let t := takeShadow x s
  ⟨t, shadowResult adjusted t, setpointBytes t⟩

/-- A shadow write, judged where it is a raise (R80). -/
def writeSetting (x : Setting) (adjusted : Bool) (s : State) : Answer :=
  if isRaise s.governor.shadow x then guarded .raiseSetpoint s (shadowAnswer x adjusted s)
  else shadowAnswer x adjusted s

/-- SET_PRESSURE (R81). -/
def actSetPressure (v : BitVec 16) (s : State) : Answer :=
  writeSetting (.pressure (storedPressure v.toNat)) (storedPressure v.toNat != v.toNat) s

/-- SET_SPEED (R81). -/
def actSetSpeed (v : BitVec 16) (s : State) : Answer :=
  writeSetting (.speed (storedSpeed v.toNat)) (storedSpeed v.toNat != v.toNat) s

/-- The setpoint STEP UP takes from IDLE before its clamp (R82). -/
def stepFromIdle (s : State) : Nat := (s.published .dischargeP).toNat / 5 * 5

/-- A setpoint clamped to its range, and whether the clamp changed it (R82). -/
def clampSetpoint (lo hi v : Int) : Nat × Bool := ((clampTo lo hi v).toNat, clampTo lo hi v != v)

/-- STEP UP (R82). DESIGN CHOICE (log entry 52): from IDLE a published discharge that is only rounded down to a multiple of
5, as 642 to 640, is answered OK: R82 makes a clamp ADJUSTED, and R84 a value clamped or rounded, without saying whether
this rounding counts. -/
def stepUp (s : State) : Answer :=
  match s.governor.shadow with
  | .idle =>
    let c := clampSetpoint 300 2400 (stepFromIdle s)
    writeSetting (.pressure c.1) c.2 s
  | .pressure p =>
    let c := clampSetpoint 300 2400 ((p : Int) + 35)
    writeSetting (.pressure c.1) c.2 s
  | .speed r =>
    let c := clampSetpoint 700 3000 ((r : Int) + 25)
    writeSetting (.speed c.1) c.2 s

/-- STEP DOWN (R82). The BAD_STATE reply of a step down from IDLE has no body: R84's is that of a request that has acted (log
entry 10). -/
def stepDown (s : State) : Answer :=
  match s.governor.shadow with
  | .idle => plain .badState s
  | .pressure p =>
    let c := clampSetpoint 300 2400 ((p : Int) - 35)
    writeSetting (.pressure c.1) c.2 s
  | .speed r =>
    let c := clampSetpoint 700 3000 ((r : Int) - 25)
    writeSetting (.speed c.1) c.2 s

/-- STEP (R82): UP 0, DOWN 1. -/
def actStep (direction : Byte) (s : State) : Answer :=
  match direction.toNat with
  | 0 => stepUp s
  | 1 => stepDown s
  | _ => plain .badValue s

/-- A taken IDLE (R83): a priming in the override set is aborted. -/
def takeIdle (s : State) : State :=
  let t := derivePair (writeShadow .idle s)
  if .priming ∈ s.governor.overrides ∧ s.supply.state = .draftPriming then abandonPrime .operatorIdle t else t

/-- IDLE (R83). -/
def actIdle (s : State) : Answer := ⟨takeIdle s, .ok, setpointBytes (takeIdle s)⟩

/-! ### The supply (R105, R106) -/

/-- The body of R105 and R106. -/
def supplyBytes (s : State) : List Byte := codeByte s.supply.state.ctorIdx ++ codeByte (tankCode s.supply.selected)

/-- A request the Supply Unit takes. -/
def supplyTaken (s : State) : Answer := ⟨s, .ok, supplyBytes s⟩

/-- A request the Supply Unit turns away, its record as it stands. -/
def supplyTurned (r : Result) (s : State) : Answer := ⟨s, r, supplyBytes s⟩

/-- SET_SUPPLY TANK (R106). -/
def supplyToTank (s : State) : Answer :=
  match s.supply.state with
  | .idle => supplyTurned .badState s
  | .tank => supplyTaken s
  | .hydrantQualifying => supplyTaken (returnToTank (s.modSupply fun x => { x with attempt := none }))
  | .hydrant | .draft => supplyTaken (switchWithCycle enterSwitching s)
  | .draftPriming => supplyTaken (abandonPrime .operator s)
  | .switching => supplyTurned .busy s
  | .noSupply => if selectedEmpty s then supplyTurned .badState s else supplyTaken (returnToTank s)

/-- SET_SUPPLY HYDRANT (R106). -/
def supplyToHydrant (s : State) : Answer :=
  match s.supply.state with
  | .tank | .noSupply => guarded .supplyHydrant s (supplyTaken (startQualifying s))
  | .hydrantQualifying => supplyTurned .busy s
  | .idle | .hydrant | .draftPriming | .draft | .switching => supplyTurned .badState s

/-- SET_SUPPLY DRAFT (R106). -/
def supplyToDraft (s : State) : Answer :=
  match s.supply.state with
  | .tank => guarded .supplyDraft s (supplyTaken (startDraft s))
  | .draftPriming => supplyTurned .busy s
  | .idle | .hydrantQualifying | .hydrant | .draft | .switching | .noSupply => supplyTurned .badState s

/-- SET_SUPPLY (R106): TANK 0, HYDRANT 1, DRAFT 2. -/
def actSetSupply (source : Byte) (s : State) : Answer :=
  match source.toNat with
  | 0 => supplyToTank s
  | 1 => supplyToHydrant s
  | 2 => supplyToDraft s
  | _ => plain .badValue s

/-- A taken USE_RESERVE (R105). -/
def useReserve (s : State) : State :=
  if s.supply.selected = .reserve then s
  else
    let t := selectTank .reserve s
    match s.supply.state with
    | .tank | .noSupply | .switching => enterSwitching t
    | .idle | .hydrantQualifying | .hydrant | .draftPriming | .draft => t

/-- USE_RESERVE (R105). -/
def actUseReserve (s : State) : Answer := guarded .useReserve s (supplyTaken (useReserve s))

/-! ### Filling (R140, R146) -/

/-- The code of a tank's stage. -/
def stageByte (s : State) (t : Tank) : List Byte := codeByte (s.tank t).stage.ctorIdx

/-- The parts of a permission that fail (R140, step 4). -/
def failingParts (s : State) (t : Tank) : List PermissionPart :=
  allPermissionParts.filter fun p => !permissionPart s t p

/-- A fill started afresh (R140, step 5). -/
def startFill (t : Tank) (s : State) : State :=
  recordStage t (s.tank t).stage .request (enterStage t (stageByVolume s t) s)

/-- FILL_START after its judgement (R140, steps 3 to 5). -/
def fillAnswer (t : Tank) (s : State) : Answer :=
  match (s.tank t).stage with
  | .bulk | .topoff | .fullHold | .suspended => ⟨s, .busy, stageByte s t⟩
  | .off | .timeout =>
    if fillPermission s t then ⟨startFill t s, .ok, stageByte (startFill t s) t⟩
    else ⟨s, .badState, setBytes allPermissionParts (failingParts s t) ++ stageByte s t⟩

/-- FILL_START (R140). -/
def actFillStart (tank : Byte) (s : State) : Answer :=
  match tankOfCode tank with
  | none => plain .badValue s
  | some t => guarded .fillStart s (fillAnswer t s)

/-- FILL_STOP (R146). -/
def actFillStop (tank : Byte) (s : State) : Answer :=
  match tankOfCode tank with
  | none => plain .badValue s
  | some t => plain .ok (stopFill t s)

/-! ### Recirculation, the alarm and the outputs (R164, R178, R180) -/

/-- A setting ON or OFF (R209). -/
def settingOfCode (b : Byte) : Option Bool :=
  match b.toNat with
  | 0 => some false
  | 1 => some true
  | _ => none

/-- RECIRC (R164). -/
def actRecirc (setting : Byte) (s : State) : Answer :=
  match settingOfCode setting with
  | none => plain .badValue s
  | some on => ⟨operatorRecirc on s, .ok, setBytes allRecircCauses (operatorRecirc on s).recirc⟩

/-- The alarm silenced (R178). -/
def silence (s : State) : State := s.modAlarm fun a => setPattern { a with silenced := a.causes }

/-- SILENCE (R178). -/
def actSilence (s : State) : Answer :=
  ⟨silence s, .ok,
    setBytes allAlarmCauses (silence s).alarm.causes ++ setBytes allAlarmCauses (silence s).alarm.silenced⟩

/-- The GENERAL_OUT terminal a code names (R180, step 1). -/
def generalOutOfCode (s : State) (b : Byte) : Option Terminal :=
  (terminalOfCode b).filter fun t => s.terminals.assignment[t].role == .generalOut

/-- A general output commanded, judged under GENERAL_OUTPUT (R180). -/
def commandOutput (t : Terminal) (r : OutputRecord) (s : State) : Answer :=
  guarded .generalOutput s ⟨setGeneral t r s, .ok, outputBytes r⟩

/-- SET_OUTPUT (R180). -/
def actSetOutput (terminal setting : Byte) (s : State) : Answer :=
  match generalOutOfCode s terminal, settingOfCode setting with
  | some t, some on => commandOutput t { drive := on, countdown := none } s
  | _, _ => plain .badValue s

/-- PULSE_OUTPUT (R180). -/
def actPulseOutput (terminal : Byte) (duration : BitVec 16) (s : State) : Answer :=
  match generalOutOfCode s terminal with
  | some t => commandOutput t (pulsed duration.toNat) s
  | none => plain .badValue s

end Sys2Proof.Machine
end

