-- ==== Sys2Proof/Machine/Link.lean ====
section
/-! DEFINITION. The Link Unit: taking requests and replying (R199, R200), the transmitter (R201), receiving (R197, R198),
supervision (R203) and the start of the part (R207, R208); and how a command of the queue is run. -/

namespace Sys2Proof.Machine

/-! ### Taking a request (R199, R200) -/

/-- The owning unit acts on a request and forms its answer (R200). -/
def act (r : Request) (s : State) : Answer :=
  match r with
  | .identify => actIdentify s
  | .readMeasurements => actReadMeasurements s
  | .readStatus n => actReadStatus n s
  | .readInputs => actReadInputs s
  | .readTotals => actReadTotals s
  | .readTanks => actReadTanks s
  | .readTrend start n => actReadTrend start n s
  | .readLinkErrors => actReadLinkErrors s
  | .readParam n => actReadParam n s
  | .writeParam n v => actWriteParam n v s
  | .writeAssignment rs => actWriteAssignment rs s
  | .readAssignment => actReadAssignment s
  | .writeLockout k ms cs => actWriteLockout k ms cs s
  | .readLockout k => actReadLockout k s
  | .writeVolumeTable t ps => actWriteVolumeTable t ps s
  | .readVolumeTable t => actReadVolumeTable t s
  | .panelFlags cs ss => actPanelFlags cs ss s
  | .engage k => actEngage k s
  | .disengage => actDisengage s
  | .changeKind k => actChangeKind k s
  | .clearFault x => actClearFault x s
  | .setPressure v => actSetPressure v s
  | .setSpeed v => actSetSpeed v s
  | .step d => actStep d s
  | .idle => actIdle s
  | .setSupply x => actSetSupply x s
  | .useReserve => actUseReserve s
  | .fillStart t => actFillStart t s
  | .fillStop t => actFillStop t s
  | .recirc x => actRecirc x s
  | .silence => actSilence s
  | .setOutput t x => actSetOutput t x s
  | .pulseOutput t n => actPulseOutput t n s
  | .resetTotal x => actResetTotal x s
  | .setTime v r => actSetTime v r s
  | .noticeMask ds es => actNoticeMask ds es s
  | .holdReports => actHoldReports s
  | .resumeReports => actResumeReports s
  | .resetPart => actResetPart s

/-- The kind of the reply to a known kind (R200). -/
def replyKind (kind : Byte) : Byte := kind + 128

/-- A request comes to be in hand (R199). -/
def holdRequest (kind tag : Byte) (s : State) : State := s.modLink fun l => { l with inHand := some ⟨kind, tag⟩ }

/-- The reply becomes ready (R200). -/
def readyReply (r : Reply) (s : State) : State := s.modLink fun l => { l with reply := some r }

/-- An answer turned into the reply of a known kind. -/
def answerRequest (kind tag : Byte) (a : Answer) : State :=
  readyReply ⟨replyKind kind, tag, a.result, a.body⟩ a.state

/-- A request taken (R199, R200). -/
def takeRequest (tag : Byte) (r : Request) (s : State) : State :=
  answerRequest r.code tag (act r (holdRequest r.code tag s))

/-- A valid frame taken as the request in hand (R199, R200). -/
def takeFrame (f : Frame) (s : State) : State :=
  match parseRequest f.kind f.params with
  | .unknownKind => readyReply ⟨255, f.tag, .unknownKind, []⟩ (holdRequest f.kind f.tag s)
  | .badLength => answerRequest f.kind f.tag (plain .badValue (holdRequest f.kind f.tag s))
  | .request r => takeRequest f.tag r s

/-- Nothing is in hand and nothing waits (R199). -/
def canTake (s : State) : Bool := s.link.inHand.isNone && s.link.buffer.isEmpty

/-- A frame joins the receive buffer, or is dropped and counted (R199). -/
def bufferFrame (f : Frame) (s : State) : State :=
  s.modLink fun l =>
    if l.buffer.length < 4 then { l with buffer := l.buffer ++ [f] } else { l with overrun := countUp 65535 l.overrun }

/-- A valid frame arrives (R199). -/
def arrive (f : Frame) (s : State) : State := if canTake s then takeFrame f s else bufferFrame f s

/-- A request arrives (R199), its frame already read. -/
def arriveRequest (tag : Byte) (r : Request) (s : State) : State :=
  if canTake s then takeRequest tag r s else bufferFrame ⟨r.code, tag, r.params⟩ s

/-- The oldest frame of the buffer is taken (R199). -/
def takeNext (s : State) : State :=
  match s.link.buffer with
  | [] => s
  | f :: fs => takeFrame f (s.modLink fun l => { l with buffer := fs })

/-! ### The transmitter (R188, R201) -/

/-- Notice delivery is in force (R188). -/
def delivering (s : State) : Bool := s.link.state != .linkLost && !s.link.hold

/-- The frame the free transmitter begins (R201): a reply, a QUEUE_PRESSURE, a NOTICE. -/
def nextFrame (s : State) : Option TxFrame :=
  match s.link.reply, s.notices.offers, s.notices.queue with
  | some r, _, _ => some (.reply r)
  | none, n :: _, _ => some (.pressure n)
  | none, [], n :: _ => if delivering s then some (.notice n s.link.noticeCount true) else none
  | none, [], [] => none

/-- A frame begun is no longer offered (R201). -/
def withdrawOffer (f : TxFrame) (s : State) : State :=
  match f with
  | .reply _ => s.modLink fun l => { l with reply := none }
  | .pressure _ => s.modNotices fun n => { n with offers := n.offers.drop 1 }
  | .notice _ _ _ => s

/-- A free transmitter begins the first of what is offered (R201). -/
def startTransmitter (s : State) : State :=
  if s.tx.isSome then s
  else match nextFrame s with
    | some f => (withdrawOffer f s).modTx fun _ => some f
    | none => s

/-- The part starts again with a cause (R207): all but the queue of commands and the count of free choices. -/
def restart (c : StartCause) (s : State) : State :=
  { State.start c with choiceCount := s.choiceCount, pending := s.pending }

/-- The end of a reply (R199, R208). -/
def replySent (s : State) : State :=
  if s.link.resetTaken then restart .request s else takeNext (s.modLink fun l => { l with inHand := none })

/-- The end of a NOTICE frame (R187, R201): its record leaves the queue where it still stands in it. -/
def noticeSent (queued : Bool) (s : State) : State :=
  let t := s.modLink fun l => { l with noticeCount := (l.noticeCount + 1) % 256 }
  if queued then t.modNotices fun n => { n with queue := n.queue.drop 1 } else t

/-- The transmitter finishes a frame (R201). -/
def frameSent (s : State) : State :=
  let t := s.modTx fun _ => none
  match s.tx with
  | none => s
  | some (.reply _) => replySent t
  | some (.pressure _) => t
  | some (.notice _ _ queued) => noticeSent queued t

/-- The restart of RESET_PART (R208): its reply is the frame that has been sent. -/
def restartAfterReply (s : State) : State :=
  match s.tx with
  | some (.reply _) => if s.link.resetTaken then restart .request s else s
  | _ => s

/-! ### Supervision (R203) -/

/-- The supervision timer started or restarted. -/
def restartSupervision (s : State) : State :=
  s.modLink fun l => { l with state := .linkUp, supervision := startTimer (supervisionTimeout s) }

/-- A valid frame acts on the link state at its completion (R203). -/
def supervise (s : State) : State :=
  if s.link.state = .linkLost then
    record .linkRestored { value := some (min (s.link.lostMs / 1000) 2147483647 : Nat) }
      (removeAlarm .link (restartSupervision s))
  else restartSupervision s

/-- The supervision timer expires (R203). -/
def loseLink (s : State) : State :=
  if s.link.state = .linkUp ∧ s.link.supervision.isSome = true then
    allTerminals.foldl (fun t n => applySafeState n t) <| addAlarm .link <|
      s.modLink fun l => { l with state := .linkLost, supervision := none, hold := false, lostMs := 0 }
  else s

/-! ### The receiver (R197, R198) -/

/-- The receiver hunting, nothing gathered. -/
def hunt (s : State) : State := s.modLink fun l => { l with rx := none }

/-- A frame is abandoned and counted (R197); a hunting receiver has none. -/
def abandonFrame (s : State) : State :=
  if s.link.rx.isSome then hunt (s.modLink fun l => { l with framing := countUp 65535 l.framing }) else s

/-- The bytes gathered read as a frame (R196). -/
def readFrame : List Byte → Option Frame
  | _ :: kind :: tag :: ps => some ⟨kind, tag, ps⟩
  | _ => none

/-- A complete frame is checked (R198): dropped and counted, or valid. -/
def checkFrame (bytes : List Byte) (check : Byte) (s : State) : State :=
  let t := hunt s
  match readFrame bytes with
  | some f => if crc8 bytes = check then arrive f (supervise t)
              else t.modLink fun l => { l with check := countUp 65535 l.check }
  | none => t

/-- All bytes before the check byte have been gathered (R196). -/
def gathered : List Byte → Bool
  | [] => false
  | n :: rest => rest.length == n.toNat

/-- The check byte has been gathered (R198). -/
def completeFrame (check : Byte) (s : State) : State :=
  match s.link.rx with
  | some r => if gathered r.bytes then checkFrame r.bytes check s else s
  | none => s

/-- A byte gathered, with the gap started again (R197). -/
def gatherByte (bytes : List Byte) (b : Byte) (s : State) : State :=
  s.modLink fun l => { l with rx := some ⟨bytes ++ [b], ⟨5, 0⟩⟩ }

/-- A byte with a good stop bit (R197). -/
def receiveByte (b : Byte) (s : State) : State :=
  match s.link.rx with
  | none => if b = 167 then s.modLink fun l => { l with rx := some ⟨[], ⟨5, 0⟩⟩ } else s
  | some r =>
    if gathered r.bytes then checkFrame r.bytes b s
    else if r.bytes = [] ∧ b.toNat < 2 then abandonFrame s
    else gatherByte r.bytes b s

/-! ### Running a command -/

/-- The end of a command: a free transmitter begins (log entry 6), and the free choices left are dropped. -/
def finish (s : State) : State := (startTransmitter s).modChoices fun _ => []

/-- A command run: with no power the part does nothing (R183, log entry 7). -/
def command (f : State → State) (s : State) : Host.Outcome State Fault Refusal :=
  .next (if s.powered then finish (f s.fresh) else s)

/-- A request presented (R199): one whose fields fit no frame is refused (log entry 23). -/
def present (tag : Byte) (r : Request) (s : State) : Host.Outcome State Fault Refusal :=
  if r.wellFormed then command (arriveRequest tag r) s else .refused .frameTooLong

end Sys2Proof.Machine
end

