-- ==== Sys2Proof/Machine/Expiries.lean ====
section
/-! DEFINITION. The meanings of the timer rows: an expiry whose timer does not run has no effect (log entry 2). -/

namespace Sys2Proof.Machine

/-- The alarm's half period ends (R177). -/
def blinkAlarm (s : State) : State :=
  if s.alarm.blink.isNone then s else s.modAlarm fun a => { a with drive := !a.drive, blink := startTimer 500 }

/-- RISE_TIMER_EXPIRY (R24). -/
def execRiseTimerExpiry (s : State) : Host.Outcome State Fault Refusal := command expireRise s

/-- FALL_TIMER_EXPIRY (R24). -/
def execFallTimerExpiry (s : State) : Host.Outcome State Fault Refusal := command expireFall s

/-- RECOVERY_TIMER_EXPIRY (R30). -/
def execRecoveryTimerExpiry (s : State) : Host.Outcome State Fault Refusal := command expireRecovery s

/-- TRIP_TIMER_EXPIRY (R30). -/
def execTripTimerExpiry (s : State) : Host.Outcome State Fault Refusal := command expireTrip s

/-- VOLTAGE_TIMER_EXPIRY (R38). -/
def execVoltageTimerExpiry (s : State) : Host.Outcome State Fault Refusal := command expireVoltage s

/-- PRECHECK_TIMER_EXPIRY (R51). -/
def execPrecheckTimerExpiry (s : State) : Host.Outcome State Fault Refusal := command expirePrecheck s

/-- FEEDBACK_TIMER_EXPIRY (R53). -/
def execFeedbackTimerExpiry (s : State) : Host.Outcome State Fault Refusal := command expireFeedback s

/-- DRIVE_SETTLE_EXPIRY (R53). -/
def execDriveSettleExpiry (s : State) : Host.Outcome State Fault Refusal := command expireDriveSettle s

/-- RAMP_TIMER_EXPIRY (R58). -/
def execRampTimerExpiry (s : State) : Host.Outcome State Fault Refusal := command expireRamp s

/-- RELEASE_TIMER_EXPIRY (R59). -/
def execReleaseTimerExpiry (s : State) : Host.Outcome State Fault Refusal := command expireRelease s

/-- START_UP_WINDOW_EXPIRY (R65). -/
def execStartUpWindowExpiry (s : State) : Host.Outcome State Fault Refusal := command expireWindow s

/-- PULSE_LOSS_TIMER_EXPIRY (R93). -/
def execPulseLossTimerExpiry (s : State) : Host.Outcome State Fault Refusal := command expirePulseLoss s

/-- ATTEMPT_TIMER_EXPIRY (R108). -/
def execAttemptTimerExpiry (s : State) : Host.Outcome State Fault Refusal := command expireAttempt s

/-- PRIME_TIMER_EXPIRY (R113). -/
def execPrimeTimerExpiry (s : State) : Host.Outcome State Fault Refusal := command expirePrime s

/-- PRIMER_LIMIT_EXPIRY (R114). -/
def execPrimerLimitExpiry (s : State) : Host.Outcome State Fault Refusal := command expirePrimerLimit s

/-- SWITCH_SETTLE_EXPIRY (R120). -/
def execSwitchSettleExpiry (s : State) : Host.Outcome State Fault Refusal := command expireSettle s

/-- LOSS_TIMER_EXPIRY (R117). -/
def execLossTimerExpiry (s : State) : Host.Outcome State Fault Refusal := command expireLoss s

/-- LIMITER_ACTIVITY_EXPIRY (R116). -/
def execLimiterActivityExpiry (s : State) : Host.Outcome State Fault Refusal := command expireActivity s

/-- TANK_SETTLE_EXPIRY (R137). -/
def execTankSettleExpiry (tank : Tank) (s : State) : Host.Outcome State Fault Refusal :=
  command (expireTankSettle tank) s

/-- CYCLE_TIMER_EXPIRY (R142). -/
def execCycleTimerExpiry (tank : Tank) (s : State) : Host.Outcome State Fault Refusal := command (expireCycle tank) s

/-- SAFETY_TIMER_EXPIRY (R144). -/
def execSafetyTimerExpiry (tank : Tank) (s : State) : Host.Outcome State Fault Refusal :=
  command (expireSafety tank) s

/-- HOT_TIMER_EXPIRY (R158). -/
def execHotTimerExpiry (s : State) : Host.Outcome State Fault Refusal := command expireHot s

/-- NO_FLOW_TIMER_EXPIRY (R160). -/
def execNoFlowTimerExpiry (s : State) : Host.Outcome State Fault Refusal := command expireNoFlow s

/-- FLOW_RETURN_EXPIRY (R160). -/
def execFlowReturnExpiry (s : State) : Host.Outcome State Fault Refusal := command expireFlowReturn s

/-- DRY_RUN_TIMER_EXPIRY (R162). -/
def execDryRunTimerExpiry (s : State) : Host.Outcome State Fault Refusal := command expireDryRun s

/-- TRAVEL_TIMER_EXPIRY (R168). -/
def execTravelTimerExpiry (valve : ValveRole) (s : State) : Host.Outcome State Fault Refusal :=
  command (reportAfter valve (expireTravel valve)) s

/-- RETRY_PAUSE_EXPIRY (R168). -/
def execRetryPauseExpiry (valve : ValveRole) (s : State) : Host.Outcome State Fault Refusal :=
  command (expireRetry valve) s

/-- PULSE_COUNTDOWN_END (R179). -/
def execPulseCountdownEnd (output : PulsedOutput) (s : State) : Host.Outcome State Fault Refusal :=
  command (endPulse output) s

/-- ALARM_BLINK (R177). -/
def execAlarmBlink (s : State) : Host.Outcome State Fault Refusal := command blinkAlarm s

end Sys2Proof.Machine
end

