-- ==== Sys2Proof/Machine/HostRequests.lean ====
section
/-! DEFINITION. The meanings of the 39 request rows: the arrival of the request at the Link Unit (R199, log entry 3). -/

namespace Sys2Proof.Machine

/-- IDENTIFY (R206). -/
def execIdentify (tag : Byte) (s : State) : Host.Outcome State Fault Refusal := present tag .identify s

/-- READ_MEASUREMENTS (R13). -/
def execReadMeasurements (tag : Byte) (s : State) : Host.Outcome State Fault Refusal :=
  present tag .readMeasurements s

/-- READ_STATUS (R206). -/
def execReadStatus (tag : Byte) (sect : Byte) (s : State) : Host.Outcome State Fault Refusal :=
  present tag (.readStatus sect) s

/-- READ_INPUTS (R22). -/
def execReadInputs (tag : Byte) (s : State) : Host.Outcome State Fault Refusal := present tag .readInputs s

/-- READ_TOTALS (R149). -/
def execReadTotals (tag : Byte) (s : State) : Host.Outcome State Fault Refusal := present tag .readTotals s

/-- READ_TANKS (R150). -/
def execReadTanks (tag : Byte) (s : State) : Host.Outcome State Fault Refusal := present tag .readTanks s

/-- READ_TREND (R194). -/
def execReadTrend (tag : Byte) (start : BitVec 16) (count : Byte) (s : State) : Host.Outcome State Fault Refusal :=
  present tag (.readTrend start count) s

/-- READ_LINK_ERRORS (R198). -/
def execReadLinkErrors (tag : Byte) (s : State) : Host.Outcome State Fault Refusal := present tag .readLinkErrors s

/-- READ_PARAM (R205). -/
def execReadParam (tag : Byte) (ident : Byte) (s : State) : Host.Outcome State Fault Refusal :=
  present tag (.readParam ident) s

/-- WRITE_PARAM (R204). -/
def execWriteParam (tag : Byte) (ident : Byte) (value : BitVec 32) (s : State) : Host.Outcome State Fault Refusal :=
  present tag (.writeParam ident value) s

/-- WRITE_ASSIGNMENT (R20). -/
def execWriteAssignment (tag : Byte) (records : List AssignmentField) (s : State) : Host.Outcome State Fault Refusal :=
  present tag (.writeAssignment records) s

/-- READ_ASSIGNMENT (R22). -/
def execReadAssignment (tag : Byte) (s : State) : Host.Outcome State Fault Refusal := present tag .readAssignment s

/-- WRITE_LOCKOUT (R43). -/
def execWriteLockout (tag : Byte) (kind : Byte) (modes : Byte) (conds : BitVec 24) (s : State) : Host.Outcome State Fault Refusal :=
  present tag (.writeLockout kind modes conds) s

/-- READ_LOCKOUT (R44). -/
def execReadLockout (tag : Byte) (kind : Byte) (s : State) : Host.Outcome State Fault Refusal :=
  present tag (.readLockout kind) s

/-- WRITE_VOLUME_TABLE (R128). -/
def execWriteVolumeTable (tag : Byte) (tank : Byte) (points : List PointField) (s : State) : Host.Outcome State Fault Refusal :=
  present tag (.writeVolumeTable tank points) s

/-- READ_VOLUME_TABLE (R129). -/
def execReadVolumeTable (tag : Byte) (tank : Byte) (s : State) : Host.Outcome State Fault Refusal :=
  present tag (.readVolumeTable tank) s

/-- PANEL_FLAGS (R36). -/
def execPanelFlags (tag : Byte) (clears : List Byte) (sets : List Byte) (s : State) : Host.Outcome State Fault Refusal :=
  present tag (.panelFlags clears sets) s

/-- ENGAGE (R50). -/
def execEngage (tag : Byte) (kind : Byte) (s : State) : Host.Outcome State Fault Refusal :=
  present tag (.engage kind) s

/-- DISENGAGE (R61). -/
def execDisengage (tag : Byte) (s : State) : Host.Outcome State Fault Refusal := present tag .disengage s

/-- CHANGE_KIND (R35). -/
def execChangeKind (tag : Byte) (kind : Byte) (s : State) : Host.Outcome State Fault Refusal :=
  present tag (.changeKind kind) s

/-- CLEAR_FAULT (R64). -/
def execClearFault (tag : Byte) (target : Byte) (s : State) : Host.Outcome State Fault Refusal :=
  present tag (.clearFault target) s

/-- SET_PRESSURE (R81). -/
def execSetPressure (tag : Byte) (value : BitVec 16) (s : State) : Host.Outcome State Fault Refusal :=
  present tag (.setPressure value) s

/-- SET_SPEED (R81). -/
def execSetSpeed (tag : Byte) (value : BitVec 16) (s : State) : Host.Outcome State Fault Refusal :=
  present tag (.setSpeed value) s

/-- STEP (R82). -/
def execStep (tag : Byte) (direction : Byte) (s : State) : Host.Outcome State Fault Refusal :=
  present tag (.step direction) s

/-- IDLE (R83). -/
def execIdle (tag : Byte) (s : State) : Host.Outcome State Fault Refusal := present tag .idle s

/-- SET_SUPPLY (R106). -/
def execSetSupply (tag : Byte) (source : Byte) (s : State) : Host.Outcome State Fault Refusal :=
  present tag (.setSupply source) s

/-- USE_RESERVE (R105). -/
def execUseReserve (tag : Byte) (s : State) : Host.Outcome State Fault Refusal := present tag .useReserve s

/-- FILL_START (R140). -/
def execFillStart (tag : Byte) (tank : Byte) (s : State) : Host.Outcome State Fault Refusal :=
  present tag (.fillStart tank) s

/-- FILL_STOP (R146). -/
def execFillStop (tag : Byte) (tank : Byte) (s : State) : Host.Outcome State Fault Refusal :=
  present tag (.fillStop tank) s

/-- RECIRC (R164). -/
def execRecirc (tag : Byte) (setting : Byte) (s : State) : Host.Outcome State Fault Refusal :=
  present tag (.recirc setting) s

/-- SILENCE (R178). -/
def execSilence (tag : Byte) (s : State) : Host.Outcome State Fault Refusal := present tag .silence s

/-- SET_OUTPUT (R180). -/
def execSetOutput (tag : Byte) (terminal : Byte) (setting : Byte) (s : State) : Host.Outcome State Fault Refusal :=
  present tag (.setOutput terminal setting) s

/-- PULSE_OUTPUT (R180). -/
def execPulseOutput (tag : Byte) (terminal : Byte) (duration : BitVec 16) (s : State) : Host.Outcome State Fault Refusal :=
  present tag (.pulseOutput terminal duration) s

/-- RESET_TOTAL (R148). -/
def execResetTotal (tag : Byte) (totaliser : Byte) (s : State) : Host.Outcome State Fault Refusal :=
  present tag (.resetTotal totaliser) s

/-- SET_TIME (R190). -/
def execSetTime (tag : Byte) (value : BitVec 32) (resolution : Byte) (s : State) : Host.Outcome State Fault Refusal :=
  present tag (.setTime value resolution) s

/-- NOTICE_MASK (R186). -/
def execNoticeMask (tag : Byte) (disables : List Byte) (enables : List Byte) (s : State) : Host.Outcome State Fault Refusal :=
  present tag (.noticeMask disables enables) s

/-- HOLD_REPORTS (R202). -/
def execHoldReports (tag : Byte) (s : State) : Host.Outcome State Fault Refusal := present tag .holdReports s

/-- RESUME_REPORTS (R202). -/
def execResumeReports (tag : Byte) (s : State) : Host.Outcome State Fault Refusal := present tag .resumeReports s

/-- RESET_PART (R208). -/
def execResetPart (tag : Byte) (s : State) : Host.Outcome State Fault Refusal := present tag .resetPart s

end Sys2Proof.Machine
end

