-- ==== Sys2Proof/Machine/Line.lean ====
section
/-! DEFINITION. The meanings of the rows of the serial line. -/

namespace Sys2Proof.Machine

/-- FRAME_COMPLETE (R198). -/
def execFrameComplete (check : Byte) (s : State) : Host.Outcome State Fault Refusal := command (completeFrame check) s

/-- FRAMING_ERROR (R197). -/
def execFramingError (s : State) : Host.Outcome State Fault Refusal := command abandonFrame s

/-- FRAME_GAP_TIMEOUT (R197). -/
def execFrameGapTimeout (s : State) : Host.Outcome State Fault Refusal := command abandonFrame s

/-- FRAME_SENT (R201). -/
def execFrameSent (s : State) : Host.Outcome State Fault Refusal := command frameSent s

/-- SUPERVISION_TIMEOUT (R203). -/
def execSupervisionTimeout (s : State) : Host.Outcome State Fault Refusal := command loseLink s

/-- BYTE_RECEIVED (R197). -/
def execByteReceived (b : Byte) (s : State) : Host.Outcome State Fault Refusal := command (receiveByte b) s

end Sys2Proof.Machine
end

