-- ==== Sys2Proof/Machine/Sampling.lean ====
section
/-! DEFINITION. The meanings of the periodic rows. -/

namespace Sys2Proof.Machine

/-- The time tag counts (R190). -/
def tickClock (s : State) : State :=
  s.modClock fun c => { c with tag := (c.tag + 1) % 4294967296, period := ⟨c.resolution, 0⟩ }

/-- ANALOG_SCAN (R1). -/
def execAnalogScan (codes : Analog (BitVec 12)) (s : State) : Host.Outcome State Fault Refusal :=
  command (scanAnalog codes) s

/-- INPUT_SAMPLE (R16). -/
def execInputSample (levels : BitVec 16) (s : State) : Host.Outcome State Fault Refusal :=
  command (sampleInputs levels) s

/-- PULSE_INPUT (R8). -/
def execPulseInput (ch : PulseChannel) (s : State) : Host.Outcome State Fault Refusal := command (countPulse ch) s

/-- GATE_COMPLETE (R8). -/
def execGateComplete (s : State) : Host.Outcome State Fault Refusal := command completeGates s

/-- GOVERNOR_PERIOD (R72). -/
def execGovernorPeriod (s : State) : Host.Outcome State Fault Refusal := command governorExpiry s

/-- TIME_TAG_TICK (R190). -/
def execTimeTagTick (s : State) : Host.Outcome State Fault Refusal := command tickClock s

/-- TREND_SAMPLE (R191). -/
def execTrendSample (s : State) : Host.Outcome State Fault Refusal := command takeSample s

end Sys2Proof.Machine
end

