-- ==== Sys2Proof/Machine/Startup.lean ====
section
/-! DEFINITION. The meanings of the power and restart rows. -/

namespace Sys2Proof.Machine

/-- POWER_ON (R207): every unit takes its start-up state, with STARTED cause POWER_ON. -/
def execPowerOn (s : State) : Host.Outcome State Fault Refusal := .next (restart .powerOn s)

/-- POWER_LOSS (R183): every output goes OFF until the supply returns. -/
def execPowerLoss (s : State) : Host.Outcome State Fault Refusal := .next { s with powered := false }

/-- PART_RESTART (R208). -/
def execPartRestart (s : State) : Host.Outcome State Fault Refusal := command restartAfterReply s

end Sys2Proof.Machine
end

