-- ==== Sys2Proof/Machine/Dispatch.lean ====
section
/-! DEFINITION. exec: one arm for each row of spec/opcode_table.json. -/

namespace Sys2Proof.Machine

def exec (i : Instr) (s : State) : Host.Outcome State Fault Refusal :=
  match i with
  | .powerOn => Sys2Proof.Machine.execPowerOn s
  | .powerLoss => Sys2Proof.Machine.execPowerLoss s
  | .partRestart => Sys2Proof.Machine.execPartRestart s
  | .frameComplete check => Sys2Proof.Machine.execFrameComplete check s
  | .framingError => Sys2Proof.Machine.execFramingError s
  | .frameGapTimeout => Sys2Proof.Machine.execFrameGapTimeout s
  | .frameSent => Sys2Proof.Machine.execFrameSent s
  | .supervisionTimeout => Sys2Proof.Machine.execSupervisionTimeout s
  | .analogScan codes => Sys2Proof.Machine.execAnalogScan codes s
  | .inputSample levels => Sys2Proof.Machine.execInputSample levels s
  | .pulseInput ch => Sys2Proof.Machine.execPulseInput ch s
  | .gateComplete => Sys2Proof.Machine.execGateComplete s
  | .governorPeriod => Sys2Proof.Machine.execGovernorPeriod s
  | .timeTagTick => Sys2Proof.Machine.execTimeTagTick s
  | .trendSample => Sys2Proof.Machine.execTrendSample s
  | .riseTimerExpiry => Sys2Proof.Machine.execRiseTimerExpiry s
  | .fallTimerExpiry => Sys2Proof.Machine.execFallTimerExpiry s
  | .recoveryTimerExpiry => Sys2Proof.Machine.execRecoveryTimerExpiry s
  | .tripTimerExpiry => Sys2Proof.Machine.execTripTimerExpiry s
  | .voltageTimerExpiry => Sys2Proof.Machine.execVoltageTimerExpiry s
  | .precheckTimerExpiry => Sys2Proof.Machine.execPrecheckTimerExpiry s
  | .feedbackTimerExpiry => Sys2Proof.Machine.execFeedbackTimerExpiry s
  | .driveSettleExpiry => Sys2Proof.Machine.execDriveSettleExpiry s
  | .rampTimerExpiry => Sys2Proof.Machine.execRampTimerExpiry s
  | .releaseTimerExpiry => Sys2Proof.Machine.execReleaseTimerExpiry s
  | .startUpWindowExpiry => Sys2Proof.Machine.execStartUpWindowExpiry s
  | .pulseLossTimerExpiry => Sys2Proof.Machine.execPulseLossTimerExpiry s
  | .attemptTimerExpiry => Sys2Proof.Machine.execAttemptTimerExpiry s
  | .primeTimerExpiry => Sys2Proof.Machine.execPrimeTimerExpiry s
  | .primerLimitExpiry => Sys2Proof.Machine.execPrimerLimitExpiry s
  | .switchSettleExpiry => Sys2Proof.Machine.execSwitchSettleExpiry s
  | .lossTimerExpiry => Sys2Proof.Machine.execLossTimerExpiry s
  | .limiterActivityExpiry => Sys2Proof.Machine.execLimiterActivityExpiry s
  | .tankSettleExpiry tank => Sys2Proof.Machine.execTankSettleExpiry tank s
  | .cycleTimerExpiry tank => Sys2Proof.Machine.execCycleTimerExpiry tank s
  | .safetyTimerExpiry tank => Sys2Proof.Machine.execSafetyTimerExpiry tank s
  | .hotTimerExpiry => Sys2Proof.Machine.execHotTimerExpiry s
  | .noFlowTimerExpiry => Sys2Proof.Machine.execNoFlowTimerExpiry s
  | .flowReturnExpiry => Sys2Proof.Machine.execFlowReturnExpiry s
  | .dryRunTimerExpiry => Sys2Proof.Machine.execDryRunTimerExpiry s
  | .travelTimerExpiry valve => Sys2Proof.Machine.execTravelTimerExpiry valve s
  | .retryPauseExpiry valve => Sys2Proof.Machine.execRetryPauseExpiry valve s
  | .pulseCountdownEnd output => Sys2Proof.Machine.execPulseCountdownEnd output s
  | .alarmBlink => Sys2Proof.Machine.execAlarmBlink s
  | .identify tag => Sys2Proof.Machine.execIdentify tag s
  | .readMeasurements tag => Sys2Proof.Machine.execReadMeasurements tag s
  | .readStatus tag sect => Sys2Proof.Machine.execReadStatus tag sect s
  | .readInputs tag => Sys2Proof.Machine.execReadInputs tag s
  | .readTotals tag => Sys2Proof.Machine.execReadTotals tag s
  | .readTanks tag => Sys2Proof.Machine.execReadTanks tag s
  | .readTrend tag start count => Sys2Proof.Machine.execReadTrend tag start count s
  | .readLinkErrors tag => Sys2Proof.Machine.execReadLinkErrors tag s
  | .readParam tag ident => Sys2Proof.Machine.execReadParam tag ident s
  | .writeParam tag ident value => Sys2Proof.Machine.execWriteParam tag ident value s
  | .writeAssignment tag records => Sys2Proof.Machine.execWriteAssignment tag records s
  | .readAssignment tag => Sys2Proof.Machine.execReadAssignment tag s
  | .writeLockout tag kind modes conds => Sys2Proof.Machine.execWriteLockout tag kind modes conds s
  | .readLockout tag kind => Sys2Proof.Machine.execReadLockout tag kind s
  | .writeVolumeTable tag tank points => Sys2Proof.Machine.execWriteVolumeTable tag tank points s
  | .readVolumeTable tag tank => Sys2Proof.Machine.execReadVolumeTable tag tank s
  | .panelFlags tag clears sets => Sys2Proof.Machine.execPanelFlags tag clears sets s
  | .engage tag kind => Sys2Proof.Machine.execEngage tag kind s
  | .disengage tag => Sys2Proof.Machine.execDisengage tag s
  | .changeKind tag kind => Sys2Proof.Machine.execChangeKind tag kind s
  | .clearFault tag target => Sys2Proof.Machine.execClearFault tag target s
  | .setPressure tag value => Sys2Proof.Machine.execSetPressure tag value s
  | .setSpeed tag value => Sys2Proof.Machine.execSetSpeed tag value s
  | .step tag direction => Sys2Proof.Machine.execStep tag direction s
  | .idle tag => Sys2Proof.Machine.execIdle tag s
  | .setSupply tag source => Sys2Proof.Machine.execSetSupply tag source s
  | .useReserve tag => Sys2Proof.Machine.execUseReserve tag s
  | .fillStart tag tank => Sys2Proof.Machine.execFillStart tag tank s
  | .fillStop tag tank => Sys2Proof.Machine.execFillStop tag tank s
  | .recirc tag setting => Sys2Proof.Machine.execRecirc tag setting s
  | .silence tag => Sys2Proof.Machine.execSilence tag s
  | .setOutput tag terminal setting => Sys2Proof.Machine.execSetOutput tag terminal setting s
  | .pulseOutput tag terminal duration => Sys2Proof.Machine.execPulseOutput tag terminal duration s
  | .resetTotal tag totaliser => Sys2Proof.Machine.execResetTotal tag totaliser s
  | .setTime tag value resolution => Sys2Proof.Machine.execSetTime tag value resolution s
  | .noticeMask tag disables enables => Sys2Proof.Machine.execNoticeMask tag disables enables s
  | .holdReports tag => Sys2Proof.Machine.execHoldReports tag s
  | .resumeReports tag => Sys2Proof.Machine.execResumeReports tag s
  | .resetPart tag => Sys2Proof.Machine.execResetPart tag s
  | .byteReceived b => Sys2Proof.Machine.execByteReceived b s

end Sys2Proof.Machine
end

