-- ==== Sys2Proof/Machine/Tick.lean ====
section
/-! DEFINITION. One millisecond in which no command waits (log entry 1): running timers, countdowns, fill times and the
length of a link loss advance. What a timer's expiry does is a row of the table. -/

namespace Sys2Proof.Machine

/-- A running timer a millisecond on, up to its period. -/
def advance (t : Timer) : Timer := { t with elapsed := min (t.elapsed + 1) t.period }

/-- A timer a millisecond on; a stopped one stays stopped. -/
def advance? (t : Option Timer) : Option Timer := t.map advance

/-- A pulse countdown a millisecond on (R179); its end is PULSE_COUNTDOWN_END. -/
def countDown (o : OutputRecord) : OutputRecord := { o with countdown := o.countdown.map fun n => max (n - 1) 1 }

/-- A safety timer a millisecond on: half rate while the limiter is active (R144). -/
def advanceSafety (limiterActive : Bool) (x : SafetyTimer) : SafetyTimer :=
  { x with elapsedHalves := min (x.elapsedHalves + if limiterActive then 1 else 2) (2 * x.limit) }

/-- The stages whose safety timer advances (R144); SUSPENDED holds it (R145). -/
def fillRuns : FillStage → Bool
  | .bulk | .topoff => true
  | .off | .fullHold | .suspended | .timeout => false

/-- A tank a millisecond on. -/
def advanceTank (limiterActive : Bool) (r : TankRecord) : TankRecord :=
  { r with
    settle := advance? r.settle
    cycle := advance? r.cycle
    safety := if fillRuns r.stage then r.safety.map (advanceSafety limiterActive) else r.safety }

/-- An actuator a millisecond on. -/
def advanceValve (a : Actuator) : Actuator := { a with retry := advance? a.retry, travel := advance? a.travel }

/-- The Interlock Unit a millisecond on. -/
def advanceInterlock (i : Interlock) : Interlock :=
  { i with
    rise := advance? i.rise, fall := advance? i.fall, recovery := advance? i.recovery, trip := advance? i.trip
    voltage := advance? i.voltage }

/-- The Drive Engagement Unit a millisecond on. -/
def advanceDrive (d : Drive) : Drive :=
  { d with
    precheck := advance? d.precheck, feedback := advance? d.feedback, settle := advance? d.settle
    ramp := advance? d.ramp, releasing := advance? d.releasing, window := advance? d.window }

/-- The Supply Unit a millisecond on. -/
def advanceSupply (x : Supply) : Supply :=
  { x with
    attempt := advance? x.attempt, prime := advance? x.prime, primerLimit := advance? x.primerLimit
    settle := advance? x.settle, loss := advance? x.loss, activity := advance? x.activity }

/-- The Thermal Monitor a millisecond on. -/
def advanceThermal (x : Thermal) : Thermal :=
  { x with
    hot := advance? x.hot, noFlow := advance? x.noFlow, flowReturn := advance? x.flowReturn, dry := advance? x.dry }

/-- The Link Unit a millisecond on. -/
def advanceLink (l : Link) : Link :=
  { l with
    rx := l.rx.map fun r => { r with gap := advance r.gap }
    supervision := advance? l.supervision
    lostMs := if l.state = .linkLost then l.lostMs + 1 else l.lostMs }

/-- A millisecond of the part under power. -/
def elapse (s : State) : State :=
  { s with
    interlock := advanceInterlock s.interlock
    drive := advanceDrive s.drive
    governor := { s.governor with loss := advance? s.governor.loss }
    supply := advanceSupply s.supply
    tanks :=
      { main := advanceTank (decide (s.supply.limit < 1000)) s.tanks.main
        reserve := advanceTank (decide (s.supply.limit < 1000)) s.tanks.reserve }
    thermal := advanceThermal s.thermal
    valves :=
      { mainValve := advanceValve s.valves.mainValve
        reserveValve := advanceValve s.valves.reserveValve
        mainFill := advanceValve s.valves.mainFill
        reserveFill := advanceValve s.valves.reserveFill
        recircValve := advanceValve s.valves.recircValve }
    alarm := { s.alarm with blink := advance? s.alarm.blink }
    outputs := { primer := countDown s.outputs.primer, general := s.outputs.general.map countDown }
    clock := { s.clock with period := advance s.clock.period }
    trend := { s.trend with sample := advance s.trend.sample }
    link := advanceLink s.link }

/-- What the step does where no command waits. -/
def tick (s : State) : State := if s.powered then elapse s else s

end Sys2Proof.Machine
end

