-- ==== Sys2Proof/Safety.lean ====
section
/-! DEFINITION. What the statements are said in: a part that can take a request, a request answered, a trip that falls with
an exit from ENGAGED, the supply's switch and its return to tank feed, and the invariants of the part's records. -/

namespace Sys2Proof.Machine

/-! ### A request taken and answered -/

/-- A part under power with no request in hand and none waiting: a request that arrives is taken at once (R199). -/
abbrev Ready (s : State) : Prop := s.powered = true ∧ s.link.inHand = none ∧ s.link.buffer = []

/-- The state with a request in hand and its reply ready (R199, R200). -/
def State.answered (s : State) (code tag : Byte) (res : Result) (body : List Byte) : State :=
  { s with link := { s.link with inHand := some ⟨code, tag⟩, reply := some ⟨code + 128, tag, res, body⟩ } }

/-- A PTO state in which condition changes are not handed on (R39). -/
abbrev NotShifting (s : State) : Prop :=
  s.drive.pto ≠ .precheck ∧ s.drive.pto ≠ .shifting ∧ s.drive.pto ≠ .settle

/-- What STEP moves the shadow to, UP for 0 and DOWN for 1, and whether the range kept it as it was moved (R82): the rounding
of the discharge pressure from which a step up from IDLE starts does not count (log entry 52). -/
abbrev StepsTo (s : State) (d : Byte) (x : Setting) (kept : Bool) : Prop :=
  ∃ moved : Int,
    (x = .pressure (max 300 (min moved 2400)).toNat ∧ kept = decide (300 ≤ moved ∧ moved ≤ 2400) ∧
      ((∃ p : Nat, s.governor.shadow = .pressure p ∧ ((d = 0 ∧ moved = p + 35) ∨ (d = 1 ∧ moved = p - 35))) ∨
        (s.governor.shadow = .idle ∧ d = 0 ∧ moved = (s.published .dischargeP).toNat / 5 * 5))) ∨
    (x = .speed (max 700 (min moved 3000)).toNat ∧ kept = decide (700 ≤ moved ∧ moved ≤ 3000) ∧
      ∃ r : Nat, s.governor.shadow = .speed r ∧ ((d = 0 ∧ moved = r + 25) ∨ (d = 1 ∧ moved = r - 25)))

/-! ### A changed input, and the valves the supply waits for -/

/-- At a sample of these levels t alone, of the input terminals, changes its qualified state, to b (R16). -/
abbrev OnlyChange (s : State) (levels : BitVec 16) (t : Terminal) (b : Bool) : Prop :=
  isInputRole s.terminals.assignment[t].role = true ∧ s.terminals.inputs[t].asserted = !b ∧
  ∀ u : Terminal, isInputRole s.terminals.assignment[u].role = true →
    (sampleInput s.terminals.assignment[u] (levels.getLsbD u.val) s.terminals.inputs[u]).asserted =
      if u = t then b else s.terminals.inputs[u].asserted

/-- The input state of a terminal whose record is replaced (R21): a terminal that changes direction starts afresh, a changed
input record restarts its qualification, and anything else stands. -/
abbrev inputAfter (old new : AssignRecord) (i : InputState) : InputState :=
  if isInputRole old.role ≠ isInputRole new.role then ⟨false, none, 0⟩
  else if isInputRole new.role = false ∨ (old.role = new.role ∧ old.polarity = new.polarity ∧ old.q = new.q) then i
  else { i with asserted := false, counter := 0 }

/-- The output state of a terminal whose record is replaced (R21): a terminal newly given GENERAL_OUT starts off, and one
that loses it ends its pulse. -/
abbrev outputAfter (old new : AssignRecord) (o : OutputRecord) : OutputRecord :=
  if (old.role = .generalOut ↔ new.role = .generalOut) then o else ⟨false, none⟩

/-- A tank's record with its fill just entered in BULK, TOPOFF or FULL_HOLD, its safety timer given: TOPOFF's cycle starts
from OPEN_PHASE, and the fill valve is commanded OPEN but in FULL_HOLD (R141 to R143). -/
abbrev fillingIn (stage : FillStage) (safety : Option SafetyTimer) (r : TankRecord) : TankRecord :=
  { r with
    stage := stage, suspendedFrom := none, safety := safety
    phase := if stage = .topoff then some .openPhase else none
    cycle := if stage = .topoff then some ⟨2000, 0⟩ else none
    fillOpen := decide (stage ≠ .fullHold) }

/-- From s to u nothing changes but the tank's record, its fill valve and the notices recorded. -/
abbrev FillOnly (t : Tank) (s u : State) : Prop :=
  u = { s with tanks := u.tanks, valves := u.valves, notices := u.notices, tx := u.tx } ∧
  u.tank (otherTank t) = s.tank (otherTank t) ∧ ∀ w : ValveRole, w ≠ fillValve t → u.valve w = s.valve w

/-- No phase of the supply waits for this valve: it is no tank-to-pump valve, or not the one that SWITCHING moves, and in
CLOSING_TANK the other one is still closing (R112, R119). -/
abbrev Unwatched (s : State) (v : ValveRole) : Prop :=
  ∀ t : Tank, v = tankValve t →
    (s.supply.state = .switching →
      s.supply.phase ≠ some (if t = s.supply.selected then .openingTarget else .closingOther)) ∧
    (s.supply.state = .draftPriming →
      s.supply.phase ≠ some .closingTank ∨ (s.valve (tankValve (otherTank t))).state = .closing)

/-! ### A trip that falls together with an exit from ENGAGED -/

/-- A running timer's expiry falls at this instant: it has run its period, or its row waits in the queue. -/
abbrev FallsNow (t : Option Timer) (row : Instr) (s : State) : Prop :=
  ∃ x : Timer, t = some x ∧ (x.period ≤ x.elapsed ∨ row ∈ s.pending)

/-- The first sample that waits in the queue makes a PARK_BRAKE or a NEUTRAL NOT_ASSERTED. -/
abbrev LostAtNextSample (s : State) : Prop :=
  ∃ (levels : BitVec 16) (t : Terminal), s.pending.findSome? inputLevels = some levels ∧
    (s.terminals.assignment[t].role = .parkBrake ∨ s.terminals.assignment[t].role = .neutral) ∧
    s.terminals.inputs[t].asserted = true ∧
    (sampleInput s.terminals.assignment[t] (levels.getLsbD t.val) s.terminals.inputs[t]).asserted = false

/-- A trip event falls together with an exit from ENGAGED (R28, R30, R32; log entry 49). `sample` says whether the waiting
sample counts, which it does where the exit is not the work of a sample itself. -/
abbrev TripWithExit (sample : Bool) (s : State) : Prop :=
  (s.interlock.mode = .pumpStationary ∧ FallsNow s.interlock.rise .riseTimerExpiry s) ∨
  (s.interlock.mode = .rollOverspeed ∧ FallsNow s.interlock.trip .tripTimerExpiry s) ∨
  (s.interlock.mode = .pumpStationary ∧ sample = true ∧ LostAtNextSample s)

/-- The mode as the PTO leaves ENGAGED (R32): ROAD from a pumping mode, but MOTION_TRIP where a trip falls together with the
exit and the free order, the first of the keys, takes it first; MOTION_TRIP stays. The ceiling is 0 in every case. -/
abbrev ModeAtExit (sample : Bool) (keys : List Nat) (s u : State) : Prop :=
  (isPumping s.interlock.mode = true → u.interlock.ceiling = 0 ∧
    (¬(keys.headD 0 % 2 = 1 ∧ TripWithExit sample s) → u.interlock.mode = .road) ∧
    (keys.headD 0 % 2 = 1 → TripWithExit sample s →
      u.interlock.mode = .motionTrip ∧ .motion ∈ u.alarm.causes ∧ u.trend.fast = 30)) ∧
  (s.interlock.mode = .motionTrip → u.interlock.mode = .motionTrip)

/-! ### A tank valve commanded, a switch begun, and the return to tank feed -/

/-- A tank-to-pump valve commanded OPEN (R167, R168): one so commanded already and one in FAULT do not move, and one whose
feedback is ASSERTED is open at once. -/
abbrev openedValve (s : State) (t : Tank) : Actuator :=
  let a := s.valve (tankValve t)
  if a.openCmd = true ∨ a.state = .fault then { a with openCmd := true }
  else if s.qualified (if t = .main then .mainValveFb else .reserveValveFb) = some true then
    { a with openCmd := true, state := .atOpen, confirmation := .confirmed, tries := 0, retry := none, travel := none }
  else
    { a with
      openCmd := true, state := .opening, tries := 1, retry := none, travel := some ⟨1000 * s.paramNat (58 + t.ctorIdx), 0⟩ }

/-- A tank-to-pump valve commanded CLOSED (R167, R169): one so commanded already and one in FAULT do not move. -/
abbrev closedValve (s : State) (t : Tank) : Actuator :=
  let a := s.valve (tankValve t)
  if a.openCmd = false ∨ a.state = .fault then { a with openCmd := false }
  else
    { a with
      openCmd := false, state := .closing, tries := 0, retry := none, travel := some ⟨1000 * s.paramNat (58 + t.ctorIdx), 0⟩ }

/-- NO_SUPPLY entered from a state, t selected (R98, R102): both tank valves commanded CLOSED, the demand at 0, and
SUPPLY_EXHAUSTED the last record. -/
abbrev Exhausted (t : Tank) (old : SupplyState) (c : ExhaustCause) (s u : State) : Prop :=
  u.supply.state = .noSupply ∧ u.supply.selected = t ∧ u.supply.phase = none ∧ u.supply.limit = 1000 ∧
  u.supply.switchHeld = false ∧ u.valves.mainValve.openCmd = false ∧ u.valves.reserveValve.openCmd = false ∧
  u.governor.demand = 0 ∧ .exhausted ∈ u.alarm.causes ∧ .limiter ∉ u.alarm.causes ∧ ∃ x : State,
  u.notices = (record .supplyExhausted
    { subject := some (.tank t), old := some (.supply old), new := some (.supply .noSupply)
      cause := some (.exhausted c) } x).notices ∧
  x.notices.disabled = s.notices.disabled ∧ x.clock = s.clock

/-- A switch to a tank that is not EMPTY, begun (R119, R121): the other tank's valve is commanded CLOSED, and the tank's own
is not commanded OPEN before the other stands closed. A valve in FAULT stands where its cause says. -/
abbrev SwitchBegun (t : Tank) (s u : State) : Prop :=
  let a := s.valve (tankValve t)
  let b := s.valve (tankValve (otherTank t))
  if b.state = .fault ∧ b.fault = some .stuckOpen then Exhausted t .switching .valveFault s u
  else if b.state ≠ .fault ∧ (closedValve s (otherTank t)).state ≠ .atClosed then
    u.supply.state = .switching ∧ u.supply.selected = t ∧ u.supply.phase = some .closingOther ∧ u.supply.settle = none ∧
    u.supply.switchFrom = (if s.supply.state = .switching then s.supply.switchFrom else s.supply.state) ∧
    u.valve (tankValve t) = a ∧ u.valve (tankValve (otherTank t)) = closedValve s (otherTank t)
  else if a.state = .fault ∧ a.fault = some .noOpen then Exhausted t .switching .valveFault s u
  else
    u.supply.state = .switching ∧ u.supply.selected = t ∧
    u.supply.switchFrom = (if s.supply.state = .switching then s.supply.switchFrom else s.supply.state) ∧
    u.valve (tankValve t) = openedValve s t ∧ u.valve (tankValve (otherTank t)) = closedValve s (otherTank t) ∧
    if (openedValve s t).state = .atOpen ∨ a.state = .fault then
      u.supply.phase = some .settling ∧ u.supply.settle = some ⟨5000, 0⟩ ∧
      u.supply.targetStuck = decide (a.state = .fault)
    else u.supply.phase = some .openingTarget ∧ u.supply.settle = none

/-- The return to tank feed (R100, R102): an EMPTY tank gives way to RESERVE where that is allowed, the switch then under
SWITCHOVER, and else exhausts the supply; a tank whose neighbour is commanded CLOSED feeds at once, unless its valve is
found in FAULT NO_OPEN (R101); otherwise a switch begins. -/
abbrev TankFeedReturned (s u : State) : Prop :=
  let t := s.supply.selected
  let a := s.valve (tankValve t)
  if (s.tank t).state = .empty then
    if t = .main ∧ s.param 44 = 1 ∧ s.tanks.reserve.state ≠ .empty then
      SwitchBegun .reserve s u ∧ (u.supply.state = .switching → u.supply.switchHeld = true)
    else Exhausted t s.supply.state .tankEmpty s u
  else if (s.valve (tankValve (otherTank t))).openCmd = true then SwitchBegun t s u
  else if a.openCmd = false ∧ a.state = .fault ∧ a.fault = some .noOpen then Exhausted t .tank .valveFault s u
  else
    u.supply.state = .tank ∧ u.supply.selected = t ∧ u.supply.phase = none ∧ u.supply.floor = s.param 36 ∧
    u.valve (tankValve t) = openedValve s t ∧
    u.valve (tankValve (otherTank t)) = s.valve (tankValve (otherTank t))

/-- A prime abandoned for a cause other than the PTO's (R114): the primer off, its timers stopped, PRIMING given up, the
phase recorded, and then the return to tank feed. -/
abbrev PrimeAbandoned (c : PrimeCause) (s u : State) : Prop :=
  ∃ x : State,
    u = returnToTank (record .primeFailed { old := s.supply.phase.map .phase, cause := some (.prime c) } x) ∧
    x = { s with
      supply := { s.supply with primerLimit := none, prime := none, primeHeld := false }
      outputs := { s.outputs with primer := ⟨false, none⟩ }, governor := x.governor, notices := x.notices, tx := x.tx } ∧
    (s.supply.primeHeld = true → .priming ∉ x.governor.overrides) ∧ TankFeedReturned s u

/-! ### The engagement record in a state just entered -/

/-- The record as RELEASING is entered (R47, R59). -/
abbrev releasingRecord (c : ReleaseCause) (d : Drive) : Drive :=
  { d with
    pto := .releasing, clutch := false, release := some c, precheck := none, feedback := none, settle := none
    ramp := none, releasing := some ⟨3000, 0⟩, window := none }

/-- The record as FAULT is entered (R47, R63). -/
abbrev faultRecord (c : DriveFault) (d : Drive) : Drive :=
  { d with
    pto := .fault, clutch := false, fault := some c, release := none, confirmation := none, precheck := none
    feedback := none, settle := none, ramp := none, releasing := none, window := none }

/-- The record as DISENGAGED is entered (R47, R59). -/
abbrev disengagedRecord (d : Drive) : Drive :=
  { d with
    pto := .disengaged, clutch := false, kind := none, confirmation := none, release := none, fault := none, tries := 0
    precheck := none, feedback := none, settle := none, ramp := none, releasing := none }

/-! ### Invariants of single records -/

/-- R48: the clutch is energised in SHIFTING, ENGAGED and RAMPDOWN and off in every other PTO state. -/
abbrev ClutchFollowsPto (d : Drive) : Prop :=
  d.clutch = true ↔ d.pto = .shifting ∨ d.pto = .engaged ∨ d.pto = .rampdown

/-- R47: which optional fields of the engagement record are present in which PTO state. -/
abbrev DriveFieldsPresent (d : Drive) : Prop :=
  (d.kind.isSome = true ↔ d.pto ≠ .disengaged ∧ ¬(d.pto = .fault ∧ d.fault = some .stuckAtStart)) ∧
  (d.release.isSome = true ↔ d.pto = .rampdown ∨ d.pto = .releasing) ∧
  (d.fault.isSome = true ↔ d.pto = .fault) ∧
  (d.pto = .engaged ∨ d.pto = .rampdown → d.confirmation.isSome = true) ∧
  (d.confirmation.isSome = true → d.pto = .engaged ∨ d.pto = .rampdown ∨ d.pto = .releasing)

/-- R47: each of the unit's timers runs in its own PTO state only. -/
abbrev DriveTimersPlaced (d : Drive) : Prop :=
  (d.precheck.isSome = true → d.pto = .precheck) ∧ (d.feedback.isSome = true → d.pto = .shifting) ∧
  (d.settle.isSome = true → d.pto = .settle) ∧ (d.ramp.isSome = true → d.pto = .rampdown) ∧
  (d.releasing.isSome = true → d.pto = .releasing) ∧ (d.window.isSome = true → d.pto = .disengaged)

/-- The engagement record as R47 and R48 have it. -/
abbrev DriveSound (s : State) : Prop :=
  ClutchFollowsPto s.drive ∧ DriveFieldsPresent s.drive ∧ DriveTimersPlaced s.drive

/-- R26: a pumping mode exactly while the PTO is ENGAGED, and ROAD whenever it is DISENGAGED. -/
abbrev ModeFollowsPto (s : State) : Prop :=
  (isPumping s.interlock.mode = true ↔ s.drive.pto = .engaged) ∧
  (s.drive.pto = .disengaged → s.interlock.mode = .road)

/-- R30: the recovery and trip timers run in ROLL_OVERSPEED only. -/
abbrev OverspeedTimersPlaced (s : State) : Prop :=
  s.interlock.recovery.isSome = true ∨ s.interlock.trip.isSome = true → s.interlock.mode = .rollOverspeed

/-- R107, R113, R117, R120: each timer of the Supply Unit runs in its own supply state only. -/
abbrev SupplyTimersPlaced (x : Supply) : Prop :=
  (x.attempt.isSome = true → x.state = .hydrantQualifying) ∧
  (x.prime.isSome = true ∨ x.primerLimit.isSome = true → x.state = .draftPriming) ∧
  (x.settle.isSome = true → x.state = .switching) ∧
  (x.loss.isSome = true → x.state = .hydrant ∨ x.state = .draft)

/-- R97: the phases of a switch stand in SWITCHING only, those of a prime in DRAFT_PRIMING only, each with one of its own,
and every other supply state has none. -/
abbrev PhaseFollowsState (x : Supply) : Prop :=
  (x.state = .switching → x.phase = some .closingOther ∨ x.phase = some .openingTarget ∨ x.phase = some .settling) ∧
  (x.state = .draftPriming → x.phase = some .closingTank ∨ x.phase = some .priming) ∧
  (x.state ≠ .switching → x.state ≠ .draftPriming → x.phase = none)

/-- R99: the supply is IDLE exactly while the PTO is not ENGAGED. -/
abbrev SupplyFollowsPto (s : State) : Prop := s.supply.state = .idle ↔ s.drive.pto ≠ .engaged

/-- R71: the demand is 0 outside ENGAGED and never above the profile, mode, supply or thermal ceiling. -/
abbrev DemandBounded (s : State) : Prop :=
  (s.drive.pto ≠ .engaged → s.governor.demand = 0) ∧ s.governor.demand ≤ profileCeiling s ∧
  s.governor.demand ≤ s.interlock.ceiling ∧ s.governor.demand ≤ supplyCeiling s ∧ s.governor.demand ≤ thermalCeiling s

/-- R174: the commands of the two valve pairs. -/
abbrev ValvePairsApart (s : State) : Prop :=
  ¬(s.valves.mainValve.openCmd = true ∧ s.valves.reserveValve.openCmd = true) ∧
  ¬(s.valves.mainValve.openCmd = true ∧ s.valves.mainFill.openCmd = true) ∧
  ¬(s.valves.reserveValve.openCmd = true ∧ s.valves.reserveFill.openCmd = true)

/-- R187, R191, R198, R199, R201: the greatest number of members of the part's queues and the bounds of its counters. -/
abbrev BuffersBounded (s : State) : Prop :=
  s.notices.queue.length ≤ 32 ∧ s.link.buffer.length ≤ 4 ∧ s.trend.ring.length ≤ 256 ∧ s.trend.fast ≤ 30 ∧
  s.link.framing ≤ 65535 ∧ s.link.check ≤ 65535 ∧ s.link.overrun ≤ 65535 ∧ s.link.noticeCount ≤ 255

/-- R205: the stored value of each identity lies in its range. -/
abbrev ParamsInRange (s : State) : Prop :=
  ∀ n : Fin 64, (paramTable[n.val]?.all fun r => r.least ≤ s.params[n] && s.params[n] ≤ r.greatest) = true

/-- R131, R159: the order of the five percentages, and the ten degrees between the thermal thresholds. -/
abbrev ThresholdsOrdered (s : State) : Prop :=
  s.param 49 < s.param 48 ∧ s.param 48 < s.param 47 ∧ s.param 47 < s.param 46 ∧ s.param 46 < s.param 45 ∧
  s.param 52 + 10 ≤ s.param 53

/-- R40: every entry's modes lie within its fixed maximum, and its conditions include its fixed ones. -/
abbrev LockoutWithinFixed (s : State) : Prop :=
  ∀ k ∈ allGuardedKinds,
    (∀ m ∈ (s.entry k).modes, m ∈ fixedModes k) ∧ ∀ c ∈ fixedConditions k, c ∈ (s.entry k).conds

/-- R15: no dedicated role on two terminals, Q in 1..15, a safe state exactly where the role is GENERAL_OUT. -/
abbrev AssignmentSound (s : State) : Prop :=
  (∀ t u : Terminal, t ≠ u → isDedicated s.terminals.assignment[t].role = true →
    s.terminals.assignment[t].role ≠ s.terminals.assignment[u].role) ∧
  ∀ t : Terminal, 1 ≤ s.terminals.assignment[t].q ∧ s.terminals.assignment[t].q ≤ 15 ∧
    (s.terminals.assignment[t].safe.isSome = true ↔ s.terminals.assignment[t].role = .generalOut)

/-- R147: a totaliser's accumulator and its two flags. -/
abbrev TotalSound (x : Total) : Prop :=
  x.acc ≤ 68719476735 ∧ (x.math = true ↔ 4294967295 < x.acc) ∧ (x.logical = true ↔ x.acc = 68719476735)

/-- R125: which optional fields of a tank record are present in which states. -/
abbrev TankSound (r : TankRecord) : Prop :=
  (r.volume = none ↔ r.state = .unknown) ∧
  (r.estimating = none → r.frozen = none ∧ r.estimate = none ∧ r.settle = none) ∧
  (r.suspendedFrom.isSome = true ↔ r.stage = .suspended) ∧
  (r.safety.isSome = true ↔ r.stage = .bulk ∨ r.stage = .topoff ∨
    r.stage = .suspended ∧ (r.suspendedFrom = some .bulk ∨ r.suspendedFrom = some .topoff)) ∧
  (r.phase.isSome = true ↔ r.stage = .topoff) ∧ (r.cycle.isSome = true ↔ r.stage = .topoff)

/-- R166, R172: an actuator's try count and fault cause. -/
abbrev ActuatorSound (a : Actuator) : Prop :=
  a.tries ≤ 2 ∧ (a.state ≠ .opening → a.tries = 0) ∧ (a.fault.isSome = true ↔ a.state = .fault) ∧
  (a.travel.isSome = true → a.state = .opening ∨ a.state = .closing) ∧ (a.retry.isSome = true → a.state = .opening)

/-- R177: the silenced causes are causes, and the drive is as the pattern has it. -/
abbrev AlarmSound (a : Alarm) : Prop :=
  (∀ c ∈ a.silenced, c ∈ a.causes) ∧ a.pattern = patternFor a.causes a.silenced ∧
  (a.pattern = .silent → a.drive = false) ∧ (a.pattern = .steady → a.drive = true) ∧
  (a.blink.isSome = true ↔ a.pattern = .intermittent)

/-- Every record of the part that R125, R147, R166 and R177 describe. -/
abbrev RecordsSound (s : State) : Prop :=
  TotalSound s.totals.incident ∧ TotalSound s.totals.run ∧ TankSound s.tanks.main ∧ TankSound s.tanks.reserve ∧
  (∀ v ∈ allValves, ActuatorSound (s.valve v)) ∧ AlarmSound s.alarm

end Sys2Proof.Machine
end

