-- ==== Sys2Proof/Certificates/Slice0/Obligations.lean ====
section
/-! DEFINITION. The statements for the provers. A statement about a command says what the next state is: an event row's own
effect leaves a state u, a request row's leaves u answered (State.answered), and finish lets a free transmitter begin
(R201). `{ s.fresh with … }` is the state the command finds, with the named blocks changed and every other block as it
stood. -/

open Sys2Proof Sys2Proof.Machine

/-! ### The machine -/

/-- A step runs the command at the front of the queue, with the queue's rest (the model's queue, log entry 1). -/
def Obligations.StepRunsFrontCommand : Prop :=
  ∀ (c : Instr) (rest : List Instr) (s : State), s.pending = c :: rest → step s = exec c { s with pending := rest }

/-- With no command waiting a millisecond passes under power (log entry 1): every running timer of every unit advances
up to its period, a safety timer in BULK and TOPOFF by a millisecond, or by half of one while the limiter is active
(R144), a pulse countdown falls by one but not below 1, its end being a command of its own (R179), and the length of a
link loss counts; every other field of every record stands. -/
def Obligations.EmptyQueueLetsAMillisecondPass : Prop :=
  (∀ s : State, s.pending = [] → s.powered = false → step s = .next s) ∧
  ∀ s : State, s.pending = [] → s.powered = true →
    let on : Timer → Timer := fun x => ⟨x.period, min (x.elapsed + 1) x.period⟩
    let down : OutputRecord → OutputRecord := fun o => { o with countdown := o.countdown.map fun n => max (n - 1) 1 }
    let tank : TankRecord → TankRecord := fun r => { r with
      settle := r.settle.map on, cycle := r.cycle.map on
      safety := if r.stage = .bulk ∨ r.stage = .topoff then
          r.safety.map fun x => { x with
            elapsedHalves := min (x.elapsedHalves + if s.supply.limit < 1000 then 1 else 2) (2 * x.limit) }
        else r.safety }
    let valve : Actuator → Actuator := fun a => { a with retry := a.retry.map on, travel := a.travel.map on }
    step s = .next { s with
      interlock := { s.interlock with
        rise := s.interlock.rise.map on, fall := s.interlock.fall.map on, recovery := s.interlock.recovery.map on
        trip := s.interlock.trip.map on, voltage := s.interlock.voltage.map on }
      drive := { s.drive with
        precheck := s.drive.precheck.map on, feedback := s.drive.feedback.map on, settle := s.drive.settle.map on
        ramp := s.drive.ramp.map on, releasing := s.drive.releasing.map on, window := s.drive.window.map on }
      governor := { s.governor with loss := s.governor.loss.map on }
      supply := { s.supply with
        attempt := s.supply.attempt.map on, prime := s.supply.prime.map on
        primerLimit := s.supply.primerLimit.map on, settle := s.supply.settle.map on, loss := s.supply.loss.map on
        activity := s.supply.activity.map on }
      tanks := ⟨tank s.tanks.main, tank s.tanks.reserve⟩
      thermal := { s.thermal with
        hot := s.thermal.hot.map on, noFlow := s.thermal.noFlow.map on, flowReturn := s.thermal.flowReturn.map on
        dry := s.thermal.dry.map on }
      valves := ⟨valve s.valves.mainValve, valve s.valves.reserveValve, valve s.valves.mainFill,
        valve s.valves.reserveFill, valve s.valves.recircValve⟩
      alarm := { s.alarm with blink := s.alarm.blink.map on }
      outputs := ⟨down s.outputs.primer, s.outputs.general.map down⟩
      clock := { s.clock with period := on s.clock.period }
      trend := { s.trend with sample := on s.trend.sample }
      link := { s.link with
        rx := s.link.rx.map fun r => { r with gap := on r.gap }
        supervision := s.link.supervision.map on
        lostMs := s.link.lostMs + if s.link.state = .linkLost then 1 else 0 } }

/-- The state the part starts in, unit by unit, as the start-up rules give it; the fields of log entry 20 stand apart. -/
def Obligations.ResetIsTheStartUpState : Prop :=
  let s := State.reset
  s.pending = [] ∧
  s.sense =
    { channels := ⟨⟨none, 0, .ok, 0, 0, false⟩, ⟨none, -100, .ok, 0, 0, false⟩, ⟨none, 0, .ok, 0, 0, false⟩,
        ⟨none, 0, .ok, 0, 0, false⟩, ⟨none, -40, .ok, 0, 0, false⟩, ⟨none, 0, .ok, 0, 0, false⟩⟩
      pulses := ⟨⟨0, [0, 0, 0, 0, 0, 0, 0, 0, 0, 0], true, 0⟩, ⟨0, [0, 0, 0, 0, 0, 0, 0, 0, 0, 0], true, 0⟩,
        ⟨0, [0, 0, 0, 0, 0, 0, 0, 0, 0, 0], true, 0⟩⟩
      remainder := 0
      front := ⟨⟨0, -100, 0, 0, -40, 0⟩, ⟨.ok, .ok, .ok, .ok, .ok, .ok⟩, ⟨0, 0, 0⟩, ⟨true, true, true⟩, 0⟩
      back := ⟨⟨0, -100, 0, 0, -40, 0⟩, ⟨.ok, .ok, .ok, .ok, .ok, .ok⟩, ⟨0, 0, 0⟩, ⟨true, true, true⟩, 0⟩ } ∧
  (∀ c : AnalogChannel, (getAnalog s.sense.channels c).published = zeroValue s c) ∧
  s.terminals.assignment.toList.map (·.role) =
    [.parkBrake, .neutral, .ptoFb, .rollSelect, .panelStop, .mainValveFb, .reserveValveFb, .generalIn,
     .ptoClutch, .mainValve, .reserveValve, .mainFill, .reserveFill, .recircValve, .primer, .alarm] ∧
  (∀ t : Terminal, s.terminals.assignment[t].polarity = .activeHigh ∧ s.terminals.assignment[t].q = 5 ∧
    s.terminals.assignment[t].safe = none ∧ s.terminals.inputs[t] = ⟨false, none, 0⟩) ∧
  s.interlock.mode = .road ∧ s.interlock.ceiling = 0 ∧ s.interlock.moving = false ∧ s.interlock.rise = none ∧
  s.interlock.fall = none ∧ s.interlock.recovery = none ∧ s.interlock.trip = none ∧ s.interlock.flags = [] ∧
  s.interlock.voltageOk = false ∧ s.interlock.voltage = none ∧
  s.interlock.lockout =
    { engageStationary := ⟨[.road],
        [.parkBrakeSet, .inNeutral, .still, .engineAtIdle, .voltageOk, .noPtoFault, .stopClear]⟩
      engageRoll := ⟨[.road], [.rollSelected, .engineAtIdle, .voltageOk, .tankAvailable, .noPtoFault, .stopClear]⟩
      changeToRoll := ⟨[.pumpStationary], [.rollSelected, .supplyIsTank, .tankAvailable]⟩
      changeToStationary := ⟨[.pumpRoll], [.parkBrakeSet, .inNeutral, .still]⟩
      raiseSetpoint := ⟨[.pumpStationary, .pumpRoll], [.noDryRun]⟩
      supplyHydrant := ⟨[.pumpStationary], [.still]⟩
      supplyDraft := ⟨[.pumpStationary], [.still, .supplyIsTank]⟩
      useReserve := ⟨[.pumpStationary, .pumpRoll, .rollOverspeed], []⟩
      fillStart := ⟨[.pumpStationary], [.still]⟩
      generalOutput := ⟨[.road, .pumpStationary, .pumpRoll, .rollOverspeed, .motionTrip], []⟩ } ∧
  s.drive =
    { pto := .disengaged, kind := none, confirmation := none, release := none, fault := none, tries := 0
      lastTries := 0, lifetime := 0, clutch := false, precheck := none, feedback := none, settle := none, ramp := none
      releasing := none, window := some ⟨500, 0⟩ } ∧
  s.governor =
    { shadow := .idle, active := .idle, overrides := [], captured := none, source := .shadow, acc := 0, demand := 0
      reseed := false, ceiling := 0, binding := .drive, frozen := false, loss := none, inputs := s.governor.inputs } ∧
  s.supply = { s.supply with
    state := .idle, selected := .main, phase := none, hydrant := none, limit := 1000, below := false
    lossLatch := false, attempts := 0, lastReason := none, switchHeld := false, primeHeld := false, attempt := none
    prime := none, primerLimit := none, settle := none, loss := none, activity := none } ∧
  s.tanks.main =
    { level := s.tanks.main.level, headKnown := false, volume := none, table := [(0, 0), (1000, 2000)]
      state := .unknown, estimating := none, frozen := none, estimate := none, settle := none, stage := .off
      suspendedFrom := none, safety := none, phase := none, cycle := none, fillOpen := false, recon := none } ∧
  s.tanks.reserve =
    { level := s.tanks.reserve.level, headKnown := false, volume := none, table := [(0, 0), (600, 600)]
      state := .unknown, estimating := none, frozen := none, estimate := none, settle := none, stage := .off
      suspendedFrom := none, safety := none, phase := none, cycle := none, fillOpen := false, recon := none } ∧
  capacity s .main = 2000 ∧ capacity s .reserve = 600 ∧
  s.totals = ⟨⟨0, false, false⟩, ⟨0, false, false⟩⟩ ∧
  s.thermal =
    { zone := .normal, unknown := false, overheat := false, hot := none, noFlow := none, flowReturn := none, dry := none
      noFlowHeld := false, thermalHeld := false, latch := false, operator := false } ∧
  thermalCeiling s = 1000 ∧ supplyCeiling s = 0 ∧ driveCeiling s = 0 ∧
  (∀ v : ValveRole, s.valve v =
    { openCmd := false, state := .atClosed, confirmation := .unconfirmed, tries := 0, retry := none, travel := none
      fault := none }) ∧
  s.recirc = [] ∧
  s.alarm = { causes := [], silenced := [], pattern := .silent, drive := false, blink := none } ∧
  s.outputs.primer = ⟨false, none⟩ ∧ (∀ t : Terminal, s.outputs.general[t] = ⟨false, none⟩) ∧
  (∀ t : Terminal, terminalDrive s t = false) ∧ throttleOut s = 500 ∧
  s.clock.tag = 0 ∧ s.clock.resolution = 10 ∧
  s.trend = { ring := [], nextIndex := 0, sample := ⟨10000, 0⟩, fast := 0, marker := none, armed := true } ∧
  s.notices =
    { queue := [⟨0, .started, { cause := some (.start .powerOn) }, false⟩], disabled := [.inputChanged]
      pressure := false, offers := [] } ∧
  s.link = { s.link with
    rx := none, buffer := [], inHand := none, reply := none, resetTaken := false, framing := 0, check := 0, overrun := 0
    state := .awaitingHost, supervision := none, hold := false, noticeCount := 0, startCause := .powerOn } ∧
  ∀ n : Fin 64, paramTable[n.val]?.map (·.dflt) = some s.params[n]

/-- POWER_ON starts every unit, whatever stood before; POWER_LOSS turns every output off (R183); with no power every other
command leaves the part as it stands (log entry 7). -/
def Obligations.PowerStartsAndStopsThePart : Prop :=
  (∀ s : State, exec .powerOn s =
    .next { State.reset with choiceCount := s.choiceCount, pending := s.pending }) ∧
  (∀ s : State, exec .powerLoss s = .next { s with powered := false } ∧
    (∀ t : Terminal, terminalDrive { s with powered := false } t = false) ∧
    throttleOut { s with powered := false } = 0) ∧
  ∀ (c : Instr) (s : State), s.powered = false → c.wellFormed = true → c ≠ .powerOn → exec c s = .next s

/-- RESET_PART is taken in DISENGAGED only, and the part restarts as its reply ends (R208), whichever of the two rows
tells that end (log entry 24). A BAD_STATE reply has no body (log entry 10). -/
def Obligations.ResetPartRestartsAfterItsReply : Prop :=
  (∀ (s : State) (tag : Byte), Ready s → s.drive.pto = .disengaged →
    exec (.resetPart tag) s = .next (finish
      (State.answered { s.fresh with link := { s.link with resetTaken := true } } 39 tag .ok []))) ∧
  (∀ (s : State) (tag : Byte), Ready s → s.drive.pto ≠ .disengaged →
    exec (.resetPart tag) s = .next (finish (s.fresh.answered 39 tag .badState []))) ∧
  (∀ (s : State) (r : Reply) (c : Instr), s.powered = true → s.tx = some (.reply r) → s.link.resetTaken = true →
    c = .frameSent ∨ c = .partRestart →
    exec c s = .next { State.start .request with choiceCount := s.choiceCount + 1, pending := s.pending }) ∧
  ∀ s : State, s.powered = true → s.link.resetTaken = false → exec .partRestart s = .next (finish s.fresh)

/-! ### The serial line -/

/-- Every request a frame can carry reads back from its encoding, and nothing else reads as it (R200, R209, R210). -/
def Obligations.RequestEncodingRoundTrip : Prop :=
  (∀ r : Request, r.wellFormed = true → parseRequest r.code r.params = .request r ∧ r.params.length = r.size) ∧
  ∀ (kind : Byte) (ps : List Byte) (r : Request), ps.length ≤ 253 → parseRequest kind ps = .request r →
    r.code = kind ∧ r.params = ps ∧ r.wellFormed = true

/-- The bytes of a request's frame, received one after the other by a hunting receiver, are the arrival of that request
after the supervision timer was restarted (R196 to R199, R203); each byte is a BYTE_RECEIVED, and FRAME_COMPLETE brings
the check byte. A valid frame brings the link up; after a loss it also takes LINK out of the alarm and records
LINK_RESTORED with the whole seconds of the loss (R203). -/
def Obligations.FrameOnTheLineIsItsRequest : Prop :=
  (∀ (s : State) (tag : Byte) (r : Request), r.wellFormed = true → s.link.rx = none →
    (requestFrame tag r).foldl (fun t b => receiveByte b t) s = arriveRequest tag r (supervise s)) ∧
  (∀ (s : State) (b : Byte), s.powered = true → exec (.byteReceived b) s = .next (finish (receiveByte b s.fresh))) ∧
  (∀ (s : State) (tag : Byte) (r : Request) (g : Timer), s.powered = true → r.wellFormed = true →
    s.link.rx = some ⟨frameBody r.code tag r.params, g⟩ →
    exec (.frameComplete (crc8 (frameBody r.code tag r.params))) s =
      .next (finish (arriveRequest tag r (supervise { s.fresh with link := { s.link with rx := none } })))) ∧
  ∀ s : State, ∃ x : State, (supervise s).link.state = .linkUp ∧
    (supervise s).link.supervision = some ⟨s.paramNat 64, 0⟩ ∧
    x = { s with link := { s.link with state := .linkUp, supervision := some ⟨s.paramNat 64, 0⟩ } } ∧
    (s.link.state ≠ .linkLost → supervise s = x) ∧
    (s.link.state = .linkLost → .link ∉ (supervise s).alarm.causes ∧
      supervise s = record .linkRestored { value := some ((min (s.link.lostMs / 1000) 2147483647 : Nat) : Int) }
        (removeAlarm .link x))

/-- The receiver hunts for A7H, takes a length of 2 or more, and gathers; a length below 2, a framing error or a gap of
5 ms abandons the frame and is counted (R197). A frame whose check byte is wrong is dropped and counted, and leaves the
link state and the supervision timer alone (R198); a check byte that no frame waits for has no effect (log entry 2), and
one that comes as a byte is its frame's end (log entry 4). -/
def Obligations.ReceiverHuntsAndGathers : Prop :=
  (∀ (s : State) (b : Byte), s.powered = true → s.link.rx = none → b ≠ 0xA7 →
    exec (.byteReceived b) s = .next (finish s.fresh)) ∧
  (∀ s : State, s.powered = true → s.link.rx = none →
    exec (.byteReceived 0xA7) s = .next (finish
      { s.fresh with link := { s.link with rx := some ⟨[], ⟨5, 0⟩⟩ } })) ∧
  (∀ (s : State) (b : Byte) (g : Timer), s.powered = true → s.link.rx = some ⟨[], g⟩ →
    exec (.byteReceived b) s = .next (finish
      { s.fresh with link :=
          if 2 ≤ b.toNat then { s.link with rx := some ⟨[b], ⟨5, 0⟩⟩ }
          else { s.link with rx := none, framing := min (s.link.framing + 1) 65535 } })) ∧
  (∀ (s : State) (n b : Byte) (got : List Byte) (g : Timer), s.powered = true → s.link.rx = some ⟨n :: got, g⟩ →
    got.length ≠ n.toNat →
    exec (.byteReceived b) s = .next (finish
      { s.fresh with link := { s.link with rx := some ⟨n :: got ++ [b], ⟨5, 0⟩⟩ } })) ∧
  (∀ (s : State) (n b : Byte) (got : List Byte) (g : Timer), s.powered = true → s.link.rx = some ⟨n :: got, g⟩ →
    got.length = n.toNat → exec (.byteReceived b) s = exec (.frameComplete b) s) ∧
  (∀ (s : State) (c : Instr), s.powered = true → c = .framingError ∨ c = .frameGapTimeout →
    exec c s = .next (finish
      (if s.link.rx.isSome = true then
        { s.fresh with
          link := { s.link with rx := none, framing := min (s.link.framing + 1) 65535 } }
      else s.fresh))) ∧
  (∀ (s : State) (kind tag check : Byte) (ps : List Byte) (g : Timer), s.powered = true → ps.length ≤ 253 →
    s.link.rx = some ⟨frameBody kind tag ps, g⟩ → check ≠ crc8 (frameBody kind tag ps) →
    exec (.frameComplete check) s = .next (finish
      { s.fresh with link := { s.link with rx := none, check := min (s.link.check + 1) 65535 } })) ∧
  ∀ (s : State) (check : Byte), s.powered = true → s.link.rx = none →
    exec (.frameComplete check) s = .next (finish s.fresh)

/-- The end of a frame frees the transmitter: a NOTICE takes its record out of the queue unless the record was discarded
while it was sent, and a reply ends the request in hand, whereupon the oldest waiting frame is taken, of whatever kind
and length (R187, R199 to R201); the end of a frame where none is being sent has no effect (log entry 2). A free
transmitter begins with the reply, then a QUEUE_PRESSURE, then a NOTICE where delivery is in force. QUEUE_PRESSURE
frames that wait are begun one by one, the oldest first (log entry 26). -/
def Obligations.FrameSentAndTheNextFrame : Prop :=
  (∀ s : State, s.powered = true → s.tx = none → exec .frameSent s = .next (finish s.fresh)) ∧
  (∀ (s : State) (n : Notice) (tag : Nat) (queued : Bool), s.powered = true → s.tx = some (.notice n tag queued) →
    exec .frameSent s = .next (finish
      { s.fresh with
        tx := none
        link := { s.link with noticeCount := (s.link.noticeCount + 1) % 256 }
        notices := if queued then { s.notices with queue := s.notices.queue.drop 1 } else s.notices })) ∧
  (∀ (s : State) (n : Nat), s.powered = true → s.tx = some (.pressure n) →
    exec .frameSent s = .next (finish { s.fresh with tx := none })) ∧
  (∀ (s : State) (r : Reply), s.powered = true → s.tx = some (.reply r) → s.link.resetTaken = false →
    s.link.buffer = [] →
    exec .frameSent s = .next (finish { s.fresh with tx := none, link := { s.link with inHand := none } })) ∧
  (∀ (s : State) (r : Reply) (tag : Byte) (q : Request) (rest : List Frame), s.powered = true →
    s.tx = some (.reply r) → s.link.resetTaken = false → s.link.buffer = ⟨q.code, tag, q.params⟩ :: rest →
    q.wellFormed = true →
    exec .frameSent s = .next (finish
      (takeRequest tag q { s.fresh with tx := none, link := { s.link with inHand := none, buffer := rest } }))) ∧
  (∀ (s : State) (r : Reply) (f : Frame) (rest : List Frame), s.powered = true → s.tx = some (.reply r) →
    s.link.resetTaken = false → s.link.buffer = f :: rest →
    exec .frameSent s = .next (finish
      (takeFrame f { s.fresh with tx := none, link := { s.link with inHand := none, buffer := rest } }))) ∧
  (∀ (s : State) (r : Reply), s.tx = none → s.link.reply = some r →
    finish s = { s with tx := some (.reply r), link := { s.link with reply := none }, choices := [] }) ∧
  (∀ (s : State) (n : Nat) (more : List Nat), s.tx = none → s.link.reply = none → s.notices.offers = n :: more →
    finish s = { s with tx := some (.pressure n), notices := { s.notices with offers := more }, choices := [] }) ∧
  (∀ (s : State) (n : Notice) (more : List Notice), s.tx = none → s.link.reply = none → s.notices.offers = [] →
    s.notices.queue = n :: more →
    finish s = { s with
      tx := if s.link.state ≠ .linkLost ∧ s.link.hold = false then some (.notice n s.link.noticeCount true) else none
      choices := [] }) ∧
  ∀ (s : State) (f : TxFrame), s.tx = some f → finish s = { s with choices := [] }

/-- The supervision timer's expiry in LINK_UP loses the link (R203): the hold ends, LINK joins the alarm, and every
GENERAL_OUT terminal takes its safe state (R181); in any other case it has no effect (log entry 2). -/
def Obligations.SupervisionTimeoutLosesTheLink : Prop :=
  (∀ s : State, s.powered = true → s.link.state = .linkUp → s.link.supervision.isSome = true → ∃ u : State,
    exec .supervisionTimeout s = .next (finish u) ∧
    u = { s.fresh with
      link := { s.link with state := .linkLost, supervision := none, hold := false, lostMs := 0 }
      alarm := u.alarm, outputs := { s.outputs with general := u.outputs.general } } ∧
    (.link ∈ u.alarm.causes ∧ ∀ c ∈ s.alarm.causes, c ∈ u.alarm.causes) ∧
    ∀ t : Terminal, u.outputs.general[t] =
      if s.terminals.assignment[t].role = .generalOut ∧ s.terminals.assignment[t].safe = some .off then ⟨false, none⟩
      else if s.terminals.assignment[t].role = .generalOut ∧ s.terminals.assignment[t].safe = some .on then ⟨true, none⟩
      else s.outputs.general[t]) ∧
  ∀ s : State, s.powered = true → s.link.state ≠ .linkUp ∨ s.link.supervision = none →
    exec .supervisionTimeout s = .next (finish s.fresh)

/-- A request that arrives while one is in hand, or while frames wait, joins the receive buffer of 4 frames, or is dropped
and counted where the buffer is full (R199). -/
def Obligations.RequestsWaitOrAreDropped : Prop :=
  ∀ (i : Instr) (s : State) (tag : Byte) (r : Request), i.request? = some (tag, r) → r.wellFormed = true →
    s.powered = true → ¬(s.link.inHand = none ∧ s.link.buffer = []) →
    exec i s = .next (finish
      { s.fresh with link :=
          if s.link.buffer.length < 4 then { s.link with buffer := s.link.buffer ++ [⟨r.code, tag, r.params⟩] }
          else { s.link with overrun := min (s.link.overrun + 1) 65535 } })

/-- A request that can be taken comes to be in hand and is answered once, with its kind plus 128 and its tag (R199, R200);
the owning unit's act leaves the receiver, the counters of other requests and the queue of commands alone. A request whose
fields fit no frame is refused by name (log entry 23). A frame of an unknown kind is answered UNKNOWN_KIND with kind FFH
and its tag, and one of a known kind with parameters that do not fit is answered BAD_VALUE. -/
def Obligations.RequestTakenIsAnsweredOnce : Prop :=
  (∀ (i : Instr) (s : State) (tag : Byte) (r : Request), i.request? = some (tag, r) → r.wellFormed = true → Ready s →
    ∃ (u : State) (res : Result) (body : List Byte), exec i s = .next (finish (u.answered r.code tag res body)) ∧
      u = { u with
        link := { u.link with
          rx := s.link.rx, buffer := [], state := s.link.state, supervision := s.link.supervision
          noticeCount := s.link.noticeCount, startCause := s.link.startCause }
        powered := true, choiceCount := s.choiceCount + 1, pending := s.pending }) ∧
  (∀ (i : Instr) (s : State) (tag : Byte) (r : Request), i.request? = some (tag, r) → r.wellFormed = false →
    exec i s = .refused .frameTooLong) ∧
  (∀ (s : State) (kind tag : Byte) (ps : List Byte), kind.toNat = 0 ∨ 39 < kind.toNat →
    takeFrame ⟨kind, tag, ps⟩ s =
      { s with link := { s.link with inHand := some ⟨kind, tag⟩, reply := some ⟨255, tag, .unknownKind, []⟩ } }) ∧
  ∀ (s : State) (kind tag : Byte) (ps : List Byte), 1 ≤ kind.toNat → kind.toNat ≤ 39 → ps.length ≤ 253 →
    (∀ r : Request, r.code = kind → r.params ≠ ps) →
    takeFrame ⟨kind, tag, ps⟩ s = s.answered kind tag .badValue []

/-- A recorded notice is discarded where its mask is disabled; else it is stamped with the time tag and joins the newest
end of the queue, whose 33rd record costs the oldest, the next oldest being marked (R185 to R187). While HOLD is in
force, 16 records offer QUEUE_PRESSURE once (R189), behind an offer of an earlier hold that still stands (log entry 26).
-/
def Obligations.RecordJoinsTheQueue : Prop :=
  (∀ (k : NoticeKind) (b : NoticeBody) (s : State), k ∈ s.notices.disabled → record k b s = s) ∧
  (∀ (k : NoticeKind) (b : NoticeBody) (s : State), k ∉ s.notices.disabled → s.notices.queue.length < 32 →
    (record k b s).notices.queue = s.notices.queue ++ [⟨s.clock.tag, k, b, false⟩] ∧ (record k b s).tx = s.tx) ∧
  (∀ (k : NoticeKind) (b : NoticeBody) (s : State) (oldest next : Notice) (more : List Notice),
    k ∉ s.notices.disabled → s.notices.queue = oldest :: next :: more → 32 ≤ s.notices.queue.length →
    (record k b s).notices.queue = { next with overrun := true } :: more ++ [⟨s.clock.tag, k, b, false⟩] ∧
    (∀ (n : Notice) (c : Nat) (q : Bool), s.tx = some (.notice n c q) →
      (record k b s).tx = some (.notice n c false))) ∧
  (∀ (k : NoticeKind) (b : NoticeBody) (s : State), k ∉ s.notices.disabled →
    (record k b s).notices.pressure =
      (s.notices.pressure || s.link.hold && decide (16 ≤ (record k b s).notices.queue.length)) ∧
    (record k b s).notices.offers =
      s.notices.offers ++
        if s.link.hold = true ∧ s.notices.pressure = false ∧ 16 ≤ (record k b s).notices.queue.length then
          [(record k b s).notices.queue.length]
        else []) ∧
  ∀ (k : NoticeKind) (b : NoticeBody) (s : State),
    record k b s = { s with notices := (record k b s).notices, tx := (record k b s).tx }

/-! ### Measurement and terminal inputs -/

/-- A code in range is scaled between the zero and the full value, the quotient rounded to nearest with halves away from
zero (R2). The divisor is odd, so no product falls on a half, and the value is the one within less than a half. -/
def Obligations.ScaledValueIsRounded : Prop :=
  (∀ (zero full : Int) (code : Nat), 40 ≤ code → code ≤ 4055 →
    let product := ((code : Int) - 40) * (full - zero)
    let q := scaleCode zero full code - zero
    2 * (4015 * q - product).natAbs < 4015 ∧
    (zero ≤ full → zero ≤ scaleCode zero full code ∧ scaleCode zero full code ≤ full) ∧
    (full ≤ zero → full ≤ scaleCode zero full code ∧ scaleCode zero full code ≤ zero)) ∧
  (∀ zero full : Int, scaleCode zero full 40 = zero ∧ scaleCode zero full 4055 = full) ∧
  (scaleCode 0 4000 1044 = 1000 ∧ scaleCode 0 4000 2048 = 2000 ∧ scaleCode (-100) 2000 40 = -100 ∧
    scaleCode (-100) 2000 231 = 0) ∧
  ∀ (s : State) (c : AnalogChannel) (r : ChannelRecord) (code : Nat), 40 ≤ code → code ≤ 4055 → r.health = .ok →
    r.filtered = none →
    (scanRecord s c code r).published = scaleCode (zeroValue s c) (fullValue s c) code

/-- A code in range goes to the filter with the channel's own shift and its value scaled between the channel's own zero
and full value, a code out of range to the fault count (R1, R3, R4, R6). The filter seeds itself with the first scaled
value and then moves by the truncated quotient (R3); fifty codes out of range in a row take a channel from OK through
STALE to FAILED, holding the last good value and discarding a seeding of an unfinished recovery run, and ten in range in
a row bring it back with the filter's value (R4, R5). A channel that never had a good value, of which one bit tells (log
entry 21), holds its zero value, and a rewritten one is published at the next code of either sort (log entry 32). -/
def Obligations.FilterAndHealthRuns : Prop :=
  (∀ (s : State) (c : AnalogChannel) (code : Nat) (r : ChannelRecord),
    let zero := s.param (1 + c.ctorIdx)
    (40 ≤ code → code ≤ 4055 → scanRecord s c code r =
      goodCode (s.paramNat (13 + c.ctorIdx)) (scaleCode zero (s.param (7 + c.ctorIdx)) code)
        { r with published := if r.health = .ok ∨ r.good = true then r.published else zero }) ∧
    (code < 40 ∨ 4055 < code → scanRecord s c code r = badCode zero r)) ∧
  (∀ (k : Nat) (x : Int) (r : ChannelRecord), r.health = .ok →
    goodCode k x r = { r with
      filtered := some (match r.filtered with
        | none => x
        | some f => f + (x - f).tdiv (2 ^ k))
      published := match r.filtered with
        | none => x
        | some f => f + (x - f).tdiv (2 ^ k)
      outRun := 0, good := true }) ∧
  (∀ (zero : Int) (r : ChannelRecord) (n : Nat), r.health = .ok → 1 ≤ n →
    (badCode zero)^[n] r =
      { r with
        filtered := if r.inRun = 0 then r.filtered else if r.good then some r.published else none
        published := if r.good then r.published else zero
        health := if n < 50 then .stale else .failed
        outRun := min n 50, inRun := 0 }) ∧
  (∀ (zero : Int) (r : ChannelRecord), r.health = .stale →
    badCode zero r =
      { r with
        filtered := if r.inRun = 0 then r.filtered else if r.good then some r.published else none
        published := if r.good then r.published else zero
        health := if r.outRun + 1 < 50 then .stale else .failed
        outRun := min (r.outRun + 1) 50, inRun := 0 }) ∧
  (∀ (zero : Int) (r : ChannelRecord), r.health = .failed →
    badCode zero r =
      { r with
        filtered := if r.inRun = 0 then r.filtered else if r.good then some r.published else none
        published := if r.good then r.published else zero
        outRun := 50, inRun := 0 }) ∧
  ∀ (k : Nat) (xs : List Int) (x : Int) (r : ChannelRecord), r.health ≠ .ok → r.inRun = 0 → xs.length < 10 →
    let f := xs.foldl (fun a y => a + (y - a).tdiv (2 ^ k)) x
    let t := (x :: xs).foldl (fun a y => goodCode k y a) r
    t.filtered = some f ∧ t.outRun = 0 ∧
    (xs.length < 9 → t.health = r.health ∧ t.published = r.published ∧ t.inRun = xs.length + 1 ∧ t.good = r.good) ∧
    (xs.length = 9 → t.health = .ok ∧ t.published = f ∧ t.inRun = 0 ∧ t.good = true)

/-- A scan treats each channel, publishes a new set with the next scan count and keeps the one before it in the back
buffer (R1, R12); no reader of the set changes the pulse channels, the totals, the terminals, the parameters or the
lockout table. -/
def Obligations.AnalogScanPublishesTheSet : Prop :=
  ∀ (s : State) (codes : Analog (BitVec 12)), s.powered = true → ∃ u : State,
    exec (.analogScan codes) s = .next (finish u) ∧
    (∀ c : AnalogChannel, getAnalog u.sense.channels c =
      scanRecord s c (getAnalog codes c).toNat (getAnalog s.sense.channels c)) ∧
    (∀ c : AnalogChannel, getAnalog u.sense.front.values c = (getAnalog u.sense.channels c).published ∧
      getAnalog u.sense.front.health c = (getAnalog u.sense.channels c).health) ∧
    u.sense.front.scan = (s.sense.front.scan + 1) % 4294967296 ∧
    (∀ p : PulseChannel, getPulse u.sense.front.pulse p = (getPulse s.sense.pulses p).value ∧
      getPulse u.sense.front.quiet p = (getPulse s.sense.pulses p).quiet) ∧
    u.sense = { u.sense with pulses := s.sense.pulses, remainder := s.sense.remainder, back := s.sense.front } ∧
    u = { u with
      terminals := s.terminals, totals := s.totals, clock := s.clock, link := s.link, params := s.params
      powered := true, choiceCount := s.choiceCount + 1, pending := s.pending
      interlock := { u.interlock with lockout := s.interlock.lockout, flags := s.interlock.flags } }

/-- What a published set starts and stops. Every block that reads it acts on it once, in any order (R12; the order is
log entry 5's). Whatever the order: the motion timers (R24), the entry into ROLL_OVERSPEED and its recovery and trip
timers (R29, R30), ENGINE_AT_IDLE (R34), the voltage watch (R38) and the thermal zone (R154, R155). What each act does:
CHANNEL_FAULT and CHANNEL_RECOVERED (R4, R5), the drive's watch of the engine (R51, R58), sensor fallback (R91, R92),
pulse loss (R93, R94), the hydrant window (R107), the prime test (R113), a tank's level and estimate (R130, R135, R137),
no-flow (R160) and dry run (R161). The channels of a scan are treated in table order (log entry 45), and an act reads
ENGINE_AT_IDLE as the acts before it left it (log entry 47). -/
def Obligations.PublishedSetRunsTheWatches : Prop :=
  (∀ (s : State) (codes : Analog (BitVec 12)), s.powered = true → ∃ u : State,
    exec (.analogScan codes) s = .next (finish u) ∧
    u.interlock.moving = s.interlock.moving ∧
    u.interlock.rise = (if s.interlock.moving = false ∧ 20 ≤ u.roadSpeed then some (s.interlock.rise.getD ⟨1000, 0⟩)
      else none) ∧
    u.interlock.fall = (if s.interlock.moving = true ∧ u.roadSpeed < 10 then some (s.interlock.fall.getD ⟨2000, 0⟩)
      else none) ∧
    u.interlock.engineAtIdle = decide (u.engineSpeed ≤ s.paramNat 24) ∧
    (u.published .supplyV < 105 →
      u.interlock.voltageOk = false ∧ u.interlock.voltage = none ∧ .voltage ∈ u.alarm.causes) ∧
    (105 ≤ u.published .supplyV → u.interlock.voltageOk = s.interlock.voltageOk ∧
      (s.interlock.voltageOk = false → u.interlock.voltage = some (s.interlock.voltage.getD ⟨5000, 0⟩))) ∧
    (u.healthOf .pumpTemp = .failed → u.thermal.zone = .warm ∧ u.thermal.unknown = true) ∧
    (u.healthOf .pumpTemp ≠ .failed → s.thermal.unknown = false →
      (u.thermal.zone = .normal ↔
        (s.thermal.zone = .normal ∧ u.published .pumpTemp < s.param 52) ∨
        (s.thermal.zone = .warm ∧ u.published .pumpTemp < s.param 52 - 5 ∧ u.published .pumpTemp < s.param 53) ∨
        (s.thermal.zone = .hot ∧ u.published .pumpTemp < s.param 53 - 5 ∧ u.published .pumpTemp < s.param 52)) ∧
      (s.param 52 + 10 ≤ s.param 53 → s.param 53 ≤ u.published .pumpTemp → u.thermal.zone = .hot)) ∧
    (s.drive.pto = .engaged → s.interlock.mode = .pumpRoll → u.interlock.ceiling = s.interlock.ceiling ∧
      (s.paramNat 23 < u.roadSpeed → u.interlock.mode = .rollOverspeed) ∧
      (u.roadSpeed ≤ s.paramNat 23 → u.interlock.mode = .pumpRoll)) ∧
    (s.drive.pto = .engaged → s.interlock.mode = .rollOverspeed → u.interlock.mode = .rollOverspeed ∧
      u.interlock.ceiling = s.interlock.ceiling ∧
      u.interlock.recovery = (if u.roadSpeed + 10 ≤ s.paramNat 23 then some (s.interlock.recovery.getD ⟨1000, 0⟩)
        else none) ∧
      u.interlock.trip = (if s.paramNat 23 + 50 < u.roadSpeed then some (s.interlock.trip.getD ⟨2000, 0⟩)
        else none))) ∧
  (∀ (s : State) (codes : Analog (BitVec 12)), s.powered = true → ∃ l : List (State → State),
    l.Perm [publishMotion, publishRoll, publishVoltage, publishEngineIdle, publishDrive, publishFallback,
      publishPulseLoss, publishWindow, publishPrime, publishTank .main, publishTank .reserve, publishZone,
      publishNoFlow, publishDryRun] ∧
    exec (.analogScan codes) s = .next (finish (l.foldl (fun u act => act u)
      { swapSets (allAnalog.foldl (scanChannel codes) s.fresh) with choices := s.fresh.choices.drop 14 }))) ∧
  (∀ (s : State) (codes : Analog (BitVec 12)) (c : AnalogChannel),
    let before := (getAnalog s.sense.channels c).health
    let after := (getAnalog (scanChannel codes s c).sense.channels c).health
    (scanChannel codes s c).notices =
      if before = .stale ∧ after = .failed then (record .channelFault
        { subject := some (.analog c), old := some (.health .stale), new := some (.health .failed) } s).notices
      else if before = .failed ∧ after = .ok then (record .channelRecovered
        { subject := some (.analog c), old := some (.health .failed), new := some (.health .ok) } s).notices
      else s.notices) ∧
  (∀ s : State, s.interlock.mode = .pumpRoll → s.paramNat 23 < s.roadSpeed → ∃ u : State, publishRoll s = u ∧
    u = { s with
      interlock := { s.interlock with mode := .rollOverspeed, recovery := none, trip := none }
      governor := u.governor, notices := u.notices, tx := u.tx } ∧
    u.notices = (record .modeChanged
      { old := some (.mode .pumpRoll), new := some (.mode .rollOverspeed), cause := some (.mode .overspeed) }
      s).notices) ∧
  -- the drive
  (∀ s : State, (s.drive.pto ≠ .precheck ∧ s.drive.pto ≠ .rampdown) ∨ s.paramNat 24 < s.engineSpeed →
    publishDrive s = s) ∧
  (∀ s : State, s.drive.pto = .precheck → s.engineSpeed ≤ s.paramNat 24 → s.qualified .ptoFb ≠ some true →
    publishDrive s = { s with drive := { s.drive with
      pto := .shifting, clutch := true, tries := s.drive.tries + 1, precheck := none
      feedback := some ⟨s.paramNat 25, 0⟩, settle := none, ramp := none, releasing := none, window := none } }) ∧
  (∀ (s : State) (c : ReleaseCause), s.drive.pto = .rampdown → s.engineSpeed ≤ s.paramNat 24 →
    s.drive.release = some c →
    (s.qualified .ptoFb ≠ some false → publishDrive s = { s with drive := releasingRecord c s.drive }) ∧
    (s.qualified .ptoFb = some false → (publishDrive s).drive = disengagedRecord { s.drive with window := none })) ∧
  -- the governor
  (∀ s : State, let u := publishFallback s
    let changed := fun cause : CauseName => record .overrideChanged
      { subject := some (.override .sensorFallback), old := some (.source s.governor.source)
        new := some (.source u.governor.source), value := u.governor.active.value?.map Int.ofNat, cause := some cause } s
    u = { s with governor := u.governor, notices := u.notices, tx := u.tx } ∧
    u.governor.shadow = s.governor.shadow ∧ u.governor.demand = s.governor.demand ∧
    (s.healthOf .dischargeP = .ok → .sensorFallback ∈ s.governor.overrides →
      (∀ k : OverrideKind, k ∈ u.governor.overrides ↔ k ≠ .sensorFallback ∧ k ∈ s.governor.overrides) ∧
      u.governor.captured = none ∧ u.notices = (changed .overrideEnded).notices) ∧
    (s.healthOf .dischargeP = .failed → s.drive.pto = .engaged → s.governor.shadow.isPressure = true →
      .sensorFallback ∉ s.governor.overrides →
      (∀ k : OverrideKind, k ∈ u.governor.overrides ↔ k = .sensorFallback ∨ k ∈ s.governor.overrides) ∧
      u.governor.captured = some (min (max ((s.engineSpeed + 12) / 25 * 25) 700) 3000) ∧
      u.notices = (changed .overrideBegan).notices) ∧
    ((s.healthOf .dischargeP = .ok ∧ .sensorFallback ∉ s.governor.overrides) ∨ s.healthOf .dischargeP = .stale ∨
      (s.healthOf .dischargeP = .failed ∧ (s.drive.pto ≠ .engaged ∨ s.governor.shadow.isPressure = false ∨
        .sensorFallback ∈ s.governor.overrides)) → u = s)) ∧
  (∀ s : State, publishPulseLoss s = { s with governor := (
    if s.governor.frozen = true then
      if s.sense.front.quiet.engineSpeed = true then s.governor
      else { s.governor with frozen := false, reseed := true }
    else { s.governor with
      loss := if s.drive.pto = .engaged ∧ s.governor.active.isSpeed = true ∧ s.sense.front.quiet.engineSpeed = true ∧
          300 ≤ s.governor.demand then some (s.governor.loss.getD ⟨2000, 0⟩) else none }) }) ∧
  -- the supply
  (∀ s : State, s.supply.attempt = none → publishWindow s = s) ∧
  (∀ s : State, s.supply.attempt.isSome = true →
    let p := s.published .intakeP
    let w := s.supply.window
    publishWindow s = { s with supply := { s.supply with window := (
      { count := w.count + 1, sum := w.sum + p, least := if w.count = 0 then p else min w.least p
        greatest := if w.count = 0 then p else max w.greatest p
        failed := w.failed || s.healthOf .intakeP == .failed }) } }) ∧
  (∀ s : State, publishPrime s = { s with supply := (
    if s.supply.phase = some .priming then { s.supply with
      prime := if s.published .intakeP ≤ -10 ∧ 150 ≤ s.published .dischargeP ∧ s.healthOf .intakeP ≠ .failed ∧
          s.healthOf .dischargeP ≠ .failed then some (s.supply.prime.getD ⟨1000, 0⟩) else none }
    else s.supply) }) ∧
  -- a tank
  (∀ (s : State) (t : Tank),
    let r := s.tank t
    let q := (publishTank t s).tank t
    let h := s.healthOf (headChannel t)
    let read : Bool := r.estimating.isNone && (r.headKnown || h == .ok)
    let volume := if read then some (tableVolume r.table (s.published (headChannel t)).toNat) else r.volume
    q.level = s.published (headChannel t) ∧ q.headKnown = (r.headKnown || h == .ok) ∧ q.table = r.table ∧
    q.recon = r.recon ∧ q.volume = volume ∧
    q.state = (if read then
        nextLevel (s.modTank t fun _ => { r with level := s.published (headChannel t), volume := volume }) t
      else r.state) ∧
    (r.estimating = none → h ≠ .failed →
      q.estimating = none ∧ q.frozen = r.frozen ∧ q.estimate = r.estimate ∧ q.settle = r.settle) ∧
    (r.estimating = none → h = .failed → q.estimating = some .headFailed ∧ q.frozen = volume ∧
      q.estimate = volume.map (· * 1000) ∧ q.settle = none) ∧
    (r.estimating.isSome = true → q.estimating = r.estimating ∧ q.frozen = r.frozen ∧ q.estimate = r.estimate ∧
      q.settle = if s.interlock.moving = false ∧ h = .ok then some (r.settle.getD ⟨10000, 0⟩) else none)) ∧
  -- the Thermal Monitor
  (∀ s : State, s.drive.pto ≠ .engaged → publishNoFlow s = s) ∧
  (∀ s : State, s.drive.pto = .engaged → publishNoFlow s = { s with thermal := (
    if s.thermal.noFlowHeld = true then { s.thermal with
      noFlow := none
      flowReturn := if s.paramNat 56 + 10 ≤ s.flow then some (s.thermal.flowReturn.getD ⟨10000, 0⟩) else none }
    else { s.thermal with
      noFlow := if s.flow < s.paramNat 56 then some (s.thermal.noFlow.getD ⟨120000, 0⟩) else none
      flowReturn := none }) }) ∧
  ∀ s : State, publishDryRun s = { s with thermal := { s.thermal with
    dry := if s.drive.pto = .engaged ∧ s.supply.state ≠ .draftPriming ∧ s.thermal.latch = false ∧
        200 ≤ s.governor.demand ∧ s.healthOf .dischargeP ≠ .failed ∧ s.published .dischargeP < 100 ∧
        s.flow < s.paramNat 56 then some (s.thermal.dry.getD ⟨30000, 0⟩) else none } }

/-- An input sample takes every input terminal once (R16): a sample that agrees sets the counter to 0, one that differs
counts and at Q changes the qualified state, so that the state changes at the Q-th contrary sample in a row and not
before; an output terminal's input state stands; the assignment and what only the Link Unit writes stand. -/
def Obligations.InputSampleQualifiesEveryInput : Prop :=
  (∀ (s : State) (levels : BitVec 16), s.powered = true → ∃ u : State,
    exec (.inputSample levels) s = .next (finish u) ∧
    (∀ t : Terminal, u.terminals.inputs[t] =
      if isInputRole s.terminals.assignment[t].role = true then
        sampleInput s.terminals.assignment[t] (levels.getLsbD t.val) s.terminals.inputs[t]
      else s.terminals.inputs[t]) ∧
    u.terminals.assignment = s.terminals.assignment ∧
    u = { u with
      sense := s.sense, totals := s.totals, clock := s.clock, link := s.link, params := s.params, powered := true
      choiceCount := s.choiceCount + 1, pending := s.pending
      interlock := { u.interlock with lockout := s.interlock.lockout, flags := s.interlock.flags } }) ∧
  (∀ (r : AssignRecord) (high : Bool) (i : InputState),
    (i.asserted = (high == (r.polarity == .activeHigh)) →
      sampleInput r high i = { i with sample := some high, counter := 0 }) ∧
    (i.asserted ≠ (high == (r.polarity == .activeHigh)) →
      sampleInput r high i =
        if i.counter + 1 < r.q then { i with sample := some high, counter := i.counter + 1 }
        else { asserted := !i.asserted, sample := some high, counter := 0 })) ∧
  ∀ (r : AssignRecord) (high : Bool) (i : InputState) (n : Nat), 1 ≤ r.q → i.counter = 0 →
    i.asserted ≠ (high == (r.polarity == .activeHigh)) → 1 ≤ n → n ≤ r.q →
    ((sampleInput r high)^[n] i).asserted = (if n < r.q then i.asserted else !i.asserted) ∧
    ((sampleInput r high)^[n] i).counter = (if n < r.q then n else 0) ∧
    ((sampleInput r high)^[n] i).sample = some high

/-- Pulses count up to 65,535 in the current gate (R8). A gate completion joins the counts, derives the three values
over their windows (R8, R9), loses no volume between gates (R10) and adds the increment to both totalisers, which stop
at 2^36 - 1 (R147). At each rise of a flag of either totaliser the addition records TOTAL_OVERFLOW, once, with the
totaliser, the flag and the reported value (R147); no gate's increment, of at most 65,535 pulses, raises both flags at
once. The order of a gate's parts is free (log entry 5), and the feeding tank is read once, as the gate completes, for
both tanks (log entry 29). -/
def Obligations.PulsesAndGates : Prop :=
  (∀ (s : State) (c : PulseChannel), s.powered = true →
    exec (.pulseInput c) s = .next (finish
      { s.fresh with sense := { s.sense with pulses := (setPulse s.sense.pulses c
          { getPulse s.sense.pulses c with current := min ((getPulse s.sense.pulses c).current + 1) 65535 }) } })) ∧
  (∀ (s : State) (k : Totaliser) (inc : Nat),
    let old := getTotal s.totals k
    let acc := min (old.acc + inc) 68719476735
    let new : Total := ⟨acc, old.math || decide (4294967295 < acc), old.logical || decide (acc = 68719476735)⟩
    let rise := fun (before after : Bool) (f : TotalFlag) (t : State) =>
      if before = false ∧ after = true then record .totalOverflow
        { subject := some (.totaliser k), value := some ((min acc 4294967295 : Nat) : Int)
          cause := some (.totalFlag f) } t
      else t
    let u := addTotal k inc s
    u = { s with totals := setTotal s.totals k new, notices := u.notices, tx := u.tx } ∧
    u.notices = (rise old.logical new.logical .logical (rise old.math new.math .math s)).notices) ∧
  -- the greatest increment of a gate
  (∀ (s : State) (k : Totaliser), TotalSound (getTotal s.totals k) → s.sense.pulses.dischargeFlow.current ≤ 65535 →
    1 ≤ s.paramNat 21 → s.sense.remainder < s.paramNat 21 →
    let inc := (s.sense.pulses.dischargeFlow.current * 100000 + s.sense.remainder) / s.paramNat 21
    let old := getTotal s.totals k
    let new := getTotal (addTotal k inc s).totals k
    ¬(old.math = false ∧ new.math = true ∧ old.logical = false ∧ new.logical = true)) ∧
  (∀ s : State, s.powered = true → ∃ l : List (State → State),
    let inc := (s.sense.pulses.dischargeFlow.current * 100000 + s.sense.remainder) / s.paramNat 21
    l.Perm [addTotal .incident inc, addTotal .run inc, gateTank (feedingTank s) inc .main,
      gateTank (feedingTank s) inc .reserve] ∧
    exec .gateComplete s = .next (finish (l.foldl (fun u act => act u)
      { s.fresh with sense := senseAfterGate s s.sense, choices := s.fresh.choices.drop 4 }))) ∧
  ∀ s : State, s.powered = true → 1 ≤ s.paramNat 21 → ∃ (u : State) (inc : Nat),
    exec .gateComplete s = .next (finish u) ∧
    inc * s.paramNat 21 + u.sense.remainder = s.sense.pulses.dischargeFlow.current * 100000 + s.sense.remainder ∧
    u.sense.remainder < s.paramNat 21 ∧
    (∀ c : PulseChannel, (getPulse u.sense.pulses c).current = 0 ∧
      (getPulse u.sense.pulses c).completed =
        ((getPulse s.sense.pulses c).completed ++ [(getPulse s.sense.pulses c).current]).drop
          ((getPulse s.sense.pulses c).completed.length + 1 - 10) ∧
      ((getPulse u.sense.pulses c).quiet = true ↔ ∀ n ∈ (getPulse u.sense.pulses c).completed, n = 0)) ∧
    (∀ a b rest, u.sense.pulses.engineSpeed.completed = rest ++ [a, b] →
      u.sense.pulses.engineSpeed.value = min ((a + b) * 300 / s.paramNat 19) 4000) ∧
    (∀ a b c d e rest, u.sense.pulses.roadSpeed.completed = rest ++ [a, b, c, d, e] →
      u.sense.pulses.roadSpeed.value = min ((a + b + c + d + e) * 72000 / s.paramNat 20) 1500) ∧
    (∀ a b c d e rest, u.sense.pulses.dischargeFlow.completed = rest ++ [a, b, c, d, e] →
      u.sense.pulses.dischargeFlow.value = min ((a + b + c + d + e) * 12000 / s.paramNat 21) 10000) ∧
    (∀ k : Totaliser, (getTotal u.totals k).acc = min ((getTotal s.totals k).acc + inc) 68719476735 ∧
      ((getTotal u.totals k).math = true ↔
        (getTotal s.totals k).math = true ∨ 4294967295 < (getTotal u.totals k).acc) ∧
      ((getTotal u.totals k).logical = true ↔
        (getTotal s.totals k).logical = true ∨ (getTotal u.totals k).acc = 68719476735)) ∧
    u = { u with
      terminals := s.terminals, clock := s.clock, link := s.link, params := s.params, powered := true
      choiceCount := s.choiceCount + 1, pending := s.pending
      sense := { u.sense with channels := s.sense.channels, front := s.sense.front, back := s.sense.back } }

/-! ### The Pressure Governor -/

/-- A governor period, in any order of its parts (log entry 5), never raises the demand by more than the rise limit,
leaves it at 0 outside ENGAGED, and leaves it at or below every ceiling (R70, R71, R76); only ROLL_OVERSPEED slides the
mode ceiling, by 25 (R29). -/
def Obligations.GovernorPeriodBoundsTheDemand : Prop :=
  ∀ s : State, s.powered = true → ∃ u : State, exec .governorPeriod s = .next (finish u) ∧
    u.governor.demand ≤ s.governor.demand + s.paramNat 28 ∧
    (s.drive.pto ≠ .engaged → u.governor.demand = 0) ∧
    u.governor.demand ≤ s.paramNat 27 ∧ u.governor.demand ≤ u.interlock.ceiling ∧
    u.governor.demand ≤ supplyCeiling u ∧ u.governor.demand ≤ thermalCeiling u ∧
    u.interlock.ceiling =
      (if s.interlock.mode = .rollOverspeed then s.interlock.ceiling - 25 else s.interlock.ceiling) ∧
    u.governor = { u.governor with
      shadow := s.governor.shadow, active := s.governor.active, overrides := s.governor.overrides
      captured := s.governor.captured, source := s.governor.source, frozen := s.governor.frozen } ∧
    u = { s.fresh with
      governor := u.governor, supply := u.supply, alarm := u.alarm, choices := u.choices
      interlock := { s.interlock with ceiling := u.interlock.ceiling } }

/-- The stages of a period (R72 to R78, R90): the error clipped to 1000, the proportional term truncated, the
accumulator reseeded where that is pending, the rise and fall limits and the ceiling in that order, and the candidate
discarded where a limit holds the demand on the side of the error. In IDLE the demand falls; FROZEN, it only follows the
ceiling (R94); with the PTO not ENGAGED it is 0. The binding ceiling is DRIVE with the drive ceiling at 0, and else the
first of PROFILE, MODE, SUPPLY and THERMAL whose value is the least (R70); a ceiling lowered below the demand takes it
down at once and reports the same (R71), and one that is not below it is not read before the next period (log entry 36).
The pulse-loss timer's expiry freezes (R93), and where the timer does not run it has no effect (log entry 2). -/
def Obligations.GovernorPeriodComputation : Prop :=
  (∀ (s : State) (setpoint : Nat) (measured kp ki : Int), s.drive.pto = .engaged → s.governor.frozen = false →
    (s.governor.active = .pressure setpoint ∧ measured = s.published .dischargeP ∧ kp = s.param 30 ∧ ki = s.param 31) ∨
    (s.governor.active = .speed setpoint ∧ measured = (s.engineSpeed : Int) ∧ kp = s.param 32 ∧ ki = s.param 33) →
    let e := clampTo (-1000) 1000 ((setpoint : Int) - measured)
    let p := (kp * e).tdiv 16
    let before := if s.governor.reseed then clampTo (-262144) 262143 (((s.governor.demand : Int) - p) * 256)
      else s.governor.acc
    let candidate := clampTo (-262144) 262143 (before + ki * e)
    let raw := p + candidate.tdiv 256
    let c := min (min (s.paramNat 27) s.interlock.ceiling) (min (supplyCeiling s) (thermalCeiling s))
    let risen := min raw ((s.governor.demand : Int) + s.paramNat 28)
    let fallen := max risen ((s.governor.demand : Int) - s.paramNat 29)
    let d := max 0 (min fallen c)
    ((governPeriod s).governor.demand : Int) = d ∧
    (governPeriod s).governor.acc = (if (d < raw ∧ 0 < e) ∨ (raw < d ∧ e < 0) then before else candidate) ∧
    (governPeriod s).governor.reseed = false ∧ (governPeriod s).governor.ceiling = c) ∧
  (∀ s : State, s.drive.pto = .engaged → s.governor.frozen = false → s.governor.active = .idle →
    (governPeriod s).governor.demand = min (s.governor.demand - s.paramNat 29) (governPeriod s).governor.ceiling ∧
    (governPeriod s).governor.acc = 0) ∧
  (∀ s : State, s.drive.pto = .engaged → s.governor.frozen = true →
    (governPeriod s).governor.demand = min s.governor.demand (governPeriod s).governor.ceiling ∧
    (governPeriod s).governor.acc = s.governor.acc) ∧
  (∀ s : State, s.drive.pto ≠ .engaged → (governPeriod s).governor.demand = 0 ∧ (governPeriod s).governor.acc = 0 ∧
    (governPeriod s).governor.ceiling = 0 ∧ (governPeriod s).governor.binding = .drive) ∧
  -- the composed ceiling and its source, read at a period and at a clip between periods
  (∀ (s : State) (c : Nat) (source : CeilingSource),
    c = min (min (s.paramNat 27) s.interlock.ceiling) (min (supplyCeiling s) (thermalCeiling s)) →
    (s.drive.pto ≠ .engaged ∧ source = .drive) ∨ (s.drive.pto = .engaged ∧ source =
      if s.paramNat 27 = c then .profile else if s.interlock.ceiling = c then .mode
      else if supplyCeiling s = c then .supply else .thermal) →
    let inputs : Ceilings := ⟨s.paramNat 27, s.interlock.ceiling, supplyCeiling s, thermalCeiling s,
      if s.drive.pto = .engaged then 1000 else 0⟩
    let composed := if s.drive.pto = .engaged then c else 0
    (governPeriod s).governor.binding = source ∧ (governPeriod s).governor.ceiling = composed ∧
    (governPeriod s).governor.inputs = inputs ∧
    (s.governor.demand ≤ c → clipDemand s = s) ∧
    (c < s.governor.demand → clipDemand s = { s with governor := { s.governor with
      demand := c, ceiling := composed, binding := source, inputs := inputs } })) ∧
  (∀ s : State, s.powered = true → s.interlock.mode ≠ .rollOverspeed → s.supply.state = .draftPriming →
    exec .governorPeriod s = .next (finish { s.fresh with governor := (governPeriod s).governor })) ∧
  ∀ s : State, s.powered = true →
    exec .pulseLossTimerExpiry s = .next (finish
      (if s.governor.loss.isSome = true then
        { s.fresh with governor := { s.governor with frozen := true, loss := none } }
      else s.fresh))

/-- At each governor period the slide of the mode ceiling, the limiter and the computation run once each, in any order
(log entry 5). The limiter's table (R115), its activity (R116) and the loss watch (R117), in the five states in which it
runs; in the others it changes nothing. -/
def Obligations.LimiterTable : Prop :=
  (∀ s : State, s.powered = true → ∃ l : List (State → State), l.Perm [slideMode, limiterPeriod, governPeriod] ∧
    exec .governorPeriod s = .next (finish
      (l.foldl (fun u act => act u) { s.fresh with choices := s.fresh.choices.drop 3 }))) ∧
  (∀ x : SupplyState, limiterRuns x = true ↔
    x = .tank ∨ x = .hydrantQualifying ∨ x = .hydrant ∨ x = .draft ∨ x = .switching) ∧
  (∀ s : State, limiterRuns s.supply.state = false → limiterPeriod s = s) ∧
  ∀ s : State, limiterRuns s.supply.state = true →
    let t := limiterPeriod s
    let p := s.published .intakeP
    let f := if s.supply.state = .hydrant then s.supply.floor
      else if s.supply.state = .draft then s.param 37 else s.param 36
    t.supply.floor = f ∧
    (s.healthOf .intakeP = .failed → t.supply.limit = s.supply.limit ∧ t.supply.below = s.supply.below ∧
      t.governor = s.governor) ∧
    (s.healthOf .intakeP ≠ .failed → p < f → t.supply.below = true ∧
      t.supply.limit = (if s.supply.below then s.supply.limit - s.paramNat 41 else s.governor.demand) ∧
      t.governor.demand ≤ t.supply.limit) ∧
    (s.healthOf .intakeP ≠ .failed → f ≤ p → p < f + 20 → t.supply.below = false ∧
      t.supply.limit = s.supply.limit ∧ t.governor = s.governor) ∧
    (s.healthOf .intakeP ≠ .failed → f + 20 ≤ p → t.supply.below = false ∧
      t.supply.limit = min (s.supply.limit + max (s.paramNat 41 / 2) 1) 1000) ∧
    (1000 ≤ s.supply.limit → t.supply.limit < 1000 → t.supply.activity = some ⟨5000, 0⟩) ∧
    (s.supply.limit < 1000 → 1000 ≤ t.supply.limit →
      t.supply.activity = none ∧ .limiter ∉ t.alarm.causes ∧ t.supply.lossLatch = false) ∧
    t.supply.loss =
      if (s.supply.state = .hydrant ∨ s.supply.state = .draft) ∧ t.supply.lossLatch = false
          ∧ s.healthOf .intakeP ≠ .failed ∧ p < f - 30 ∧ t.supply.limit ≤ 100 then
        some (s.supply.loss.getD ⟨3000, 0⟩)
      else none

/-- A written setpoint is stored in its range and on its step, at the step nearest to the value clamped to the range, and
a clamped or rounded one is answered ADJUSTED where no stronger result stands (R79). -/
def Obligations.SetpointsAreStoredOnTheirStep : Prop :=
  (∀ v : Nat, 300 ≤ storedPressure v ∧ storedPressure v ≤ 2400 ∧ storedPressure v % 5 = 0 ∧
    2 * ((storedPressure v : Int) - (max 300 (min v 2400) : Nat)).natAbs < 5) ∧
  (∀ v : Nat, 700 ≤ storedSpeed v ∧ storedSpeed v ≤ 3000 ∧ storedSpeed v % 25 = 0 ∧
    2 * ((storedSpeed v : Int) - (max 700 (min v 3000) : Nat)).natAbs < 25) ∧
  (storedPressure 2500 = 2400 ∧ storedPressure 1003 = 1005 ∧ storedPressure 1002 = 1000 ∧
    storedSpeed 712 = 700 ∧ storedSpeed 713 = 725) ∧
  ∀ (s : State) (i : Instr) (tag code : Byte) (v : BitVec 16) (x : Setting) (adjusted : Bool), Ready s →
    (i = .setPressure tag v ∧ code = 22 ∧ x = .pressure (storedPressure v.toNat) ∧
      adjusted = decide (storedPressure v.toNat ≠ v.toNat)) ∨
    (i = .setSpeed tag v ∧ code = 23 ∧ x = .speed (storedSpeed v.toNat) ∧
      adjusted = decide (storedSpeed v.toNat ≠ v.toNat)) →
    isRaise s.governor.shadow x = false ∨ judge s .raiseSetpoint = .passed → ∃ (u : State) (res : Result),
      exec i s = .next (finish (u.answered code tag res (setpointBytes u))) ∧ u.governor.shadow = x ∧
      (u.governor.overrides = [] → res = if adjusted then .adjusted else .ok)

/-- SET_PRESSURE and SET_SPEED: a raise is judged first and a failed judgement changes nothing; a taken write stores the
shadow, becomes the active pair where no override is in the set and sensor fallback does not begin, leaves the demand as
it stands, and is answered ADJUSTED where the value was not stored as written and DEFERRED where an override stands (R79
to R81, R84, R86, R91). A write that itself begins sensor fallback is answered DEFERRED, as the model reads R84 (log entry
34). -/
def Obligations.SetpointRequestsWriteTheShadow : Prop :=
  ∀ (s : State) (i : Instr) (tag code : Byte) (v : BitVec 16) (x : Setting) (adjusted : Bool), Ready s →
    (i = .setPressure tag v ∧ code = 22 ∧ x = .pressure (storedPressure v.toNat) ∧
      adjusted = decide (storedPressure v.toNat ≠ v.toNat)) ∨
    (i = .setSpeed tag v ∧ code = 23 ∧ x = .speed (storedSpeed v.toNat) ∧
      adjusted = decide (storedSpeed v.toNat ≠ v.toNat)) →
    (isRaise s.governor.shadow x = true → judge s .raiseSetpoint ≠ .passed →
      ∃ body, exec i s = .next (finish (s.fresh.answered code tag .refused body))) ∧
    (isRaise s.governor.shadow x = false ∨ judge s .raiseSetpoint = .passed → ∃ u : State,
      exec i s = .next (finish (u.answered code tag
        (if u.governor.overrides ≠ [] then .deferred else if adjusted then .adjusted else .ok) (setpointBytes u))) ∧
      u = { s.fresh with governor := u.governor, notices := u.notices, tx := u.tx } ∧
      u.governor.shadow = x ∧ u.governor.demand = s.governor.demand ∧ u.governor.acc = s.governor.acc ∧
      (∀ k ∈ s.governor.overrides, k ∈ u.governor.overrides) ∧
      (s.governor.overrides = [] →
        x.isPressure = false ∨ s.drive.pto ≠ .engaged ∨ s.healthOf .dischargeP ≠ .failed →
        u.governor.overrides = [] ∧ u.governor.active = x ∧ u.governor.source = .shadow) ∧
      (s.governor.overrides = [] → s.governor.source = .shadow → x.isPressure = true → s.drive.pto = .engaged →
        s.healthOf .dischargeP = .failed →
        u.governor.overrides = [.sensorFallback] ∧ u.governor.source = .over .sensorFallback ∧
        u.governor.active = .speed (min (max ((s.engineSpeed + 12) / 25 * 25) 700) 3000)))

/-- STEP moves the shadow by 35 kPa or 25 rpm within its range, a step up from IDLE starting from the discharge pressure
(R82; a clamped start is ADJUSTED by log entry 31, and one only rounded down to a multiple of 5 is OK by log entry 52);
a raise is judged first, a step down within the range is none, and an override that stands, or that the step itself
begins (log entry 34), defers it (R80, R84, R91). A direction that is neither, and a step down from IDLE, are turned
away with no body (log entry 10). IDLE is always taken, empties the shadow and the active pair, ends a freeze (R94; one
begun after the active mode left SPEED too, log entry 35), and abandons a priming (R83). -/
def Obligations.StepAndIdleRequests : Prop :=
  (∀ (s : State) (tag d : Byte), Ready s → 2 ≤ d.toNat →
    exec (.step tag d) s = .next (finish (s.fresh.answered 24 tag .badValue []))) ∧
  (∀ (s : State) (tag : Byte), Ready s → s.governor.shadow = .idle →
    exec (.step tag 1) s = .next (finish (s.fresh.answered 24 tag .badState []))) ∧
  (∀ (s : State) (tag d : Byte) (x : Setting) (kept : Bool), Ready s → s.governor.overrides = [] →
    x.isPressure = false ∨ s.drive.pto ≠ .engaged ∨ s.healthOf .dischargeP ≠ .failed →
    judge s .raiseSetpoint = .passed → StepsTo s d x kept → ∃ u : State,
      exec (.step tag d) s =
        .next (finish (u.answered 24 tag (if kept then .ok else .adjusted) (setpointBytes u))) ∧
      u = { s.fresh with governor := u.governor } ∧ u.governor.shadow = x ∧ u.governor.active = x ∧
      u.governor.source = .shadow ∧ u.governor.demand = s.governor.demand) ∧
  (∀ (s : State) (tag d : Byte) (x : Setting) (kept : Bool), Ready s → StepsTo s d x kept →
    isRaise s.governor.shadow x = true → judge s .raiseSetpoint ≠ .passed →
    ∃ body, exec (.step tag d) s = .next (finish (s.fresh.answered 24 tag .refused body))) ∧
  (∀ (s : State) (tag d : Byte) (x : Setting) (kept : Bool), Ready s → StepsTo s d x kept →
    isRaise s.governor.shadow x = false ∨ judge s .raiseSetpoint = .passed → ∃ u : State,
      exec (.step tag d) s = .next (finish (u.answered 24 tag
        (if u.governor.overrides ≠ [] then .deferred else if kept then .ok else .adjusted) (setpointBytes u))) ∧
      u = { s.fresh with governor := u.governor, notices := u.notices, tx := u.tx } ∧
      u.governor.shadow = x ∧ u.governor.demand = s.governor.demand ∧ u.governor.acc = s.governor.acc ∧
      (∀ k : OverrideKind, k ∈ u.governor.overrides ↔ k ∈ s.governor.overrides ∨
        (k = .sensorFallback ∧ x.isPressure = true ∧ s.drive.pto = .engaged ∧ s.healthOf .dischargeP = .failed)) ∧
      ∀ k ∈ u.governor.overrides, s.governor.source = .over k → (∀ j ∈ u.governor.overrides, k.ctorIdx ≤ j.ctorIdx) →
        u.governor.active = s.governor.active ∧ u.governor.source = .over k) ∧
  (∀ (s : State) (n : Nat) (x : Setting) (kept : Bool), StepsTo s 1 x kept →
    (s.governor.shadow = .pressure n ∧ 300 ≤ n) ∨ (s.governor.shadow = .speed n ∧ 700 ≤ n) →
    isRaise s.governor.shadow x = false) ∧
  (∀ (s : State) (tag : Byte), Ready s → ¬(.priming ∈ s.governor.overrides ∧ s.supply.state = .draftPriming) →
    ∃ u : State, exec (.idle tag) s = .next (finish (u.answered 25 tag .ok (setpointBytes u))) ∧
      u = { s.fresh with governor := u.governor } ∧ u.governor.shadow = .idle ∧ u.governor.active = .idle ∧
      u.governor.source = .shadow ∧ u.governor.overrides = s.governor.overrides ∧
      u.governor.demand = s.governor.demand ∧ u.governor.frozen = false) ∧
  ∀ (s : State) (tag : Byte), Ready s → .priming ∈ s.governor.overrides → s.supply.state = .draftPriming →
    ∃ u : State, exec (.idle tag) s = .next (finish (u.answered 25 tag .ok (setpointBytes u))) ∧
      u.governor.shadow = .idle ∧ u.governor.active = .idle ∧ u.outputs.primer = ⟨false, none⟩ ∧
      u.supply.primeHeld = false ∧ u.supply.prime = none ∧ u.supply.primerLimit = none ∧
      u.supply.state ≠ .draftPriming ∧ u.supply.state ≠ .idle

/-- The active pair (R86, R87): the shadow where no override governs, else the pair the highest-ranked override of the set
formed when it came to govern. A change of the pair or of the source calls for a reseed (R90), and a freeze ends at
any derivation that does not leave the pair SPEED (R94; one begun after it had left SPEED too, log entry 35). -/
def Obligations.ActivePairFollowsTheOverrides : Prop :=
  ∀ s : State,
    let g := s.governor
    let h := (derivePair s).governor
    derivePair s = { s with governor := h } ∧
    h = { g with active := h.active, source := h.source, reseed := h.reseed, frozen := h.frozen } ∧
    (g.shadow = .idle ∨ g.overrides = [] → h.active = g.shadow ∧ h.source = .shadow) ∧
    (∀ k ∈ g.overrides, g.shadow ≠ .idle → (∀ j ∈ g.overrides, k.ctorIdx ≤ j.ctorIdx) →
      h.source = .over k ∧ (g.source = .over k → h.active = g.active) ∧
      (g.source ≠ .over k →
        (∀ c, k = .sensorFallback → g.captured = some c → h.active = .speed c) ∧
        (k = .priming → h.active = .speed (s.paramNat 34)) ∧
        (∀ p, k = .switchover → g.shadow = .pressure p → h.active = .pressure (min p (s.paramNat 35))) ∧
        (∀ r, k = .switchover → g.shadow = .speed r → h.active = .speed r))) ∧
    (g.active ≠ .idle → h.active ≠ .idle → h.active ≠ g.active ∨ h.source ≠ g.source → h.reseed = true) ∧
    (g.frozen = true → h.frozen = h.active.isSpeed)

/-! ### Motion, modes and interlocks -/

/-- A judgement looks at the mode first and then lists every required condition that does not hold, in listing order
(R42); a request it refuses changes nothing and is answered with that detail (R200). -/
def Obligations.JudgementDecidesGuardedRequests : Prop :=
  (∀ (s : State) (k : GuardedKind),
    (s.interlock.mode ∉ (s.entry k).modes → judge s k = .wrongMode s.interlock.mode) ∧
    (s.interlock.mode ∈ (s.entry k).modes → (∀ c ∈ (s.entry k).conds, conditionHolds s c = true) →
      judge s k = .passed) ∧
    (s.interlock.mode ∈ (s.entry k).modes → ¬(∀ c ∈ (s.entry k).conds, conditionHolds s c = true) →
      ∃ l, judge s k = .failing l ∧ l ≠ [] ∧ l.Sublist allConditions ∧
        ∀ c, c ∈ l ↔ c ∈ (s.entry k).conds ∧ conditionHolds s c = false)) ∧
  ∀ (s : State) (i : Instr) (tag code : Byte) (k : GuardedKind), Ready s →
    (i = .engage tag 0 ∧ code = 18 ∧ k = .engageStationary ∧ s.drive.pto = .disengaged) ∨
    (i = .engage tag 1 ∧ code = 18 ∧ k = .engageRoll ∧ s.drive.pto = .disengaged) ∨
    (i = .changeKind tag 0 ∧ code = 20 ∧ k = .changeToStationary) ∨
    (i = .changeKind tag 1 ∧ code = 20 ∧ k = .changeToRoll) ∨
    (i = .setSupply tag 1 ∧ code = 26 ∧ k = .supplyHydrant ∧ (s.supply.state = .tank ∨ s.supply.state = .noSupply)) ∨
    (i = .setSupply tag 2 ∧ code = 26 ∧ k = .supplyDraft ∧ s.supply.state = .tank) ∨
    (i = .useReserve tag ∧ code = 27 ∧ k = .useReserve) ∨
    (i = .fillStart tag 32 ∧ code = 28 ∧ k = .fillStart) ∨ (i = .fillStart tag 33 ∧ code = 28 ∧ k = .fillStart) ∨
    (∃ v, i = .setPressure tag v ∧ code = 22 ∧ k = .raiseSetpoint ∧
      isRaise s.governor.shadow (.pressure (storedPressure v.toNat)) = true) ∨
    (∃ v, i = .setSpeed tag v ∧ code = 23 ∧ k = .raiseSetpoint ∧
      isRaise s.governor.shadow (.speed (storedSpeed v.toNat)) = true) ∨
    (i = .step tag 0 ∧ code = 24 ∧ k = .raiseSetpoint ∧ (s.governor.shadow = .idle ∨
      (∃ p, p < 2400 ∧ s.governor.shadow = .pressure p) ∨ ∃ r, r < 3000 ∧ s.governor.shadow = .speed r)) ∨
    (∃ t : Terminal, s.terminals.assignment[t].role = .generalOut ∧ k = .generalOutput ∧
      ((∃ b, b.toNat < 2 ∧ i = .setOutput tag (BitVec.ofNat 8 (16 + t.val)) b ∧ code = 32) ∨
        ∃ n, i = .pulseOutput tag (BitVec.ofNat 8 (16 + t.val)) n ∧ code = 33)) →
    (∀ m, judge s k = .wrongMode m →
      exec i s = .next (finish (s.fresh.answered code tag .refused [0, BitVec.ofNat 8 m.ctorIdx]))) ∧
    ∀ l, judge s k = .failing l →
      exec i s = .next (finish (s.fresh.answered code tag .refused (1 :: conditionBytes l)))

/-- The expiry of the rise timer makes the vehicle MOVING and that of the fall timer STILL (R24, R25): both timers stop, a
MOVING vehicle puts both tanks on their estimates (R135) and suspends every fill (R139, R145). With the clutch not being
shifted and no trip made, nothing else changes but the tanks, their valves and the notices they record. An expiry whose
timer does not run has no effect (log entry 2). -/
def Obligations.MotionTimersMoveTheState : Prop :=
  (∀ (s : State) (c : Instr) (moving : Bool), s.powered = true →
    (c = .riseTimerExpiry ∧ s.interlock.rise.isSome = true ∧ moving = true) ∨
    (c = .fallTimerExpiry ∧ s.interlock.fall.isSome = true ∧ moving = false) →
    ∃ u : State, exec c s = .next (finish u) ∧
      u.interlock.moving = moving ∧ u.interlock.rise = none ∧ u.interlock.fall = none ∧
      (moving = true → ∀ t : Tank, (u.tank t).estimating.isSome = true ∧
        (u.tank t).stage ≠ .bulk ∧ (u.tank t).stage ≠ .topoff ∧ (u.tank t).stage ≠ .fullHold) ∧
      (NotShifting s → moving = false ∨ s.interlock.mode ≠ .pumpStationary →
        u.interlock.conditions = trueConditions u ∧
        u = { s.fresh with
          interlock := { s.interlock with
            moving := moving, rise := none, fall := none, conditions := u.interlock.conditions }
          tanks := u.tanks, valves := u.valves, notices := u.notices, tx := u.tx, choices := u.choices } ∧
        u.valves = { s.valves with mainFill := u.valves.mainFill, reserveFill := u.valves.reserveFill } ∧
        ∀ t : Tank, (u.tank t).volume = (s.tank t).volume ∧ (u.tank t).state = (s.tank t).state)) ∧
  ∀ (s : State) (c : Instr), s.powered = true →
    (c = .riseTimerExpiry ∧ s.interlock.rise = none) ∨ (c = .fallTimerExpiry ∧ s.interlock.fall = none) →
    exec c s = .next (finish s.fresh)

/-- A trip, by motion in PUMP_STATIONARY or by the trip timer, enters MOTION_TRIP, orders the release with cause MOTION,
ends the pump's demand, the operator's setpoint and the supply, closes both tank-to-pump valves, sounds MOTION and starts
fast capture (R28, R30, R49, R58, R95, R99, R192). -/
def Obligations.MotionTripStopsThePump : Prop :=
  ∀ (s : State) (c : Instr), s.powered = true → s.drive.pto = .engaged → s.qualified .ptoFb ≠ some false →
    (c = .riseTimerExpiry ∧ s.interlock.rise.isSome = true ∧ s.interlock.mode = .pumpStationary) ∨
    (c = .tripTimerExpiry ∧ s.interlock.trip.isSome = true) →
    ∃ u : State, exec c s = .next (finish u) ∧
      u.interlock.mode = .motionTrip ∧ u.interlock.ceiling = 0 ∧ u.interlock.recovery = none ∧
      u.interlock.trip = none ∧ u.drive.release = some .motion ∧
      u.drive.pto = (if s.engineSpeed ≤ s.paramNat 24 then .releasing else .rampdown) ∧
      u.drive.clutch = decide (¬ s.engineSpeed ≤ s.paramNat 24) ∧
      u.governor.demand = 0 ∧ u.governor.shadow = .idle ∧ u.governor.active = .idle ∧ u.governor.overrides = [] ∧
      u.supply.state = .idle ∧ u.supply.selected = .main ∧ u.outputs.primer = ⟨false, none⟩ ∧
      u.valves.mainValve.openCmd = false ∧ u.valves.reserveValve.openCmd = false ∧
      .motion ∈ u.alarm.causes ∧ u.trend.fast = 30 ∧
      u = { u with
        sense := s.sense, terminals := s.terminals, totals := s.totals, clock := s.clock, link := s.link
        params := s.params, powered := true, choiceCount := s.choiceCount + 1, pending := s.pending
        interlock := { u.interlock with lockout := s.interlock.lockout, flags := s.interlock.flags }
        outputs := { u.outputs with general := s.outputs.general } }

/-- The recovery timer's expiry returns to PUMP_ROLL under the roll ceiling (R26, R30, R33, R71), and the voltage timer's
clears the low voltage (R38). -/
def Obligations.RecoveryAndVoltageExpiry : Prop :=
  (∀ s : State, s.powered = true → s.interlock.recovery.isSome = true → ∃ u : State,
    exec .recoveryTimerExpiry s = .next (finish u) ∧
    u = { s.fresh with
      interlock := { s.interlock with mode := .pumpRoll, ceiling := s.paramNat 22, recovery := none, trip := none }
      governor := u.governor, notices := u.notices, tx := u.tx } ∧
    u.notices = (record .modeChanged
      { old := some (.mode s.interlock.mode), new := some (.mode .pumpRoll), cause := some (.mode .speedRecovered) }
      s).notices ∧
    u.governor.demand = min s.governor.demand (leastCeiling (ceilings u)) ∧ u.governor.demand ≤ s.paramNat 22) ∧
  (∀ s : State, s.powered = true → s.interlock.voltage.isSome = true → NotShifting s → ∃ u : State,
    exec .voltageTimerExpiry s = .next (finish u) ∧
    u = { s.fresh with
      interlock := { s.interlock with voltageOk := true, voltage := none, conditions := trueConditions u }
      alarm := u.alarm } ∧
    ∀ c : AlarmCause, c ∈ u.alarm.causes ↔ c ∈ s.alarm.causes ∧ c ≠ .voltage) ∧
  ∀ (s : State) (c : Instr), s.powered = true →
    (c = .recoveryTimerExpiry ∧ s.interlock.recovery = none) ∨ (c = .tripTimerExpiry ∧ s.interlock.trip = none) ∨
    (c = .voltageTimerExpiry ∧ s.interlock.voltage = none) →
    exec c s = .next (finish s.fresh)

/-- PANEL_FLAGS clears and then sets the named flags, and a number outside 0..7 is BAD_VALUE (R36); a list longer than
eight is the model's BAD_VALUE (log entry 28). WRITE_LOCKOUT is taken in DISENGAGED only and stores the modes within the
fixed maximum and the conditions with the fixed ones added, ADJUSTED where that changed what was written; READ_LOCKOUT
answers an entry with its fixed fields (R40, R43, R44). The panel flags in a reply are a bit map and the entry its four
fields (log entry 9). A request turned away has no body (log entry 10). -/
def Obligations.PanelFlagsAndLockoutWrites : Prop :=
  (∀ (s : State) (tag : Byte) (clears sets : List Byte), Ready s → NotShifting s → clears.length ≤ 8 → sets.length ≤ 8 →
    (∀ b ∈ clears, b.toNat < 8) → (∀ b ∈ sets, b.toNat < 8) → ∃ u : State,
    exec (.panelFlags tag clears sets) s =
      .next (finish (u.answered 17 tag .ok (setBytes allFlags u.interlock.flags))) ∧
    u = { s.fresh with
      interlock := { s.interlock with flags := u.interlock.flags, conditions := u.interlock.conditions }
      choices := u.choices } ∧
    ∀ n : Fin 8, n ∈ u.interlock.flags ↔
      BitVec.ofNat 8 n.val ∈ sets ∨ (n ∈ s.interlock.flags ∧ BitVec.ofNat 8 n.val ∉ clears)) ∧
  (∀ (s : State) (tag : Byte) (clears sets : List Byte), Ready s → clears.length + sets.length ≤ 251 →
    8 < clears.length ∨ 8 < sets.length ∨ (∃ b ∈ clears, 8 ≤ b.toNat) ∨ (∃ b ∈ sets, 8 ≤ b.toNat) →
    exec (.panelFlags tag clears sets) s = .next (finish (s.fresh.answered 17 tag .badValue []))) ∧
  (∀ (s : State) (tag kind modes : Byte) (conds : BitVec 24), Ready s → s.drive.pto ≠ .disengaged →
    exec (.writeLockout tag kind modes conds) s = .next (finish (s.fresh.answered 13 tag .badState []))) ∧
  (∀ (s : State) (tag kind modes : Byte) (conds : BitVec 24), Ready s → s.drive.pto = .disengaged →
    10 ≤ kind.toNat ∨ modes.extractLsb' 0 3 ≠ 0 ∨ conds.extractLsb' 0 5 ≠ 0 →
    exec (.writeLockout tag kind modes conds) s = .next (finish (s.fresh.answered 13 tag .badValue []))) ∧
  (∀ (s : State) (tag modes : Byte) (conds : BitVec 24) (k : GuardedKind), Ready s → s.drive.pto = .disengaged →
    modes.extractLsb' 0 3 = 0 → conds.extractLsb' 0 5 = 0 → ∃ (u : State) (res : Result),
    exec (.writeLockout tag (BitVec.ofNat 8 k.ctorIdx) modes conds) s =
      .next (finish (u.answered 13 tag res (entryBytes k (u.entry k)))) ∧
    u = { s.fresh with interlock := { s.interlock with lockout := u.interlock.lockout } } ∧
    (∀ j : GuardedKind, j ≠ k → u.entry j = s.entry j) ∧
    (∀ m : OpMode, m ∈ (u.entry k).modes ↔ m ∈ fixedModes k ∧ modes.getMsbD m.ctorIdx = true) ∧
    (∀ c : Condition, c ∈ (u.entry k).conds ↔
      c ∈ fixedConditions k ∨ conds.getMsbD (allConditions.idxOf c) = true) ∧
    (res = .ok ∨ res = .adjusted) ∧
    (res = .ok ↔ (∀ m : OpMode, modes.getMsbD m.ctorIdx = true → m ∈ fixedModes k) ∧
      ∀ c ∈ fixedConditions k, conds.getMsbD (allConditions.idxOf c) = true)) ∧
  (∀ (s : State) (tag : Byte) (k : GuardedKind), Ready s →
    exec (.readLockout tag (BitVec.ofNat 8 k.ctorIdx)) s =
      .next (finish (s.fresh.answered 14 tag .ok (entryBytes k (s.entry k))))) ∧
  ∀ (s : State) (tag kind : Byte), Ready s → 10 ≤ kind.toNat →
    exec (.readLockout tag kind) s = .next (finish (s.fresh.answered 14 tag .badValue []))

/-! ### The drive -/

/-- ENGAGE (R50, R51): a kind other than 0 and 1 is BAD_VALUE, a PTO that is not DISENGAGED is BUSY, and a request
judged well starts PRECHECK with a 3 s timer, or FAULT STUCK where PTO_FB is already asserted, whose OK reply then
carries FAULT (log entry 33). An OK reply carries the PTO state and the kind as a plain byte each (log entry 9). A
BAD_VALUE reply has no body (log entry 10). -/
def Obligations.EngageStartsThePrecheck : Prop :=
  (∀ (s : State) (tag kind : Byte), Ready s → 2 ≤ kind.toNat →
    exec (.engage tag kind) s = .next (finish (s.fresh.answered 18 tag .badValue []))) ∧
  (∀ (s : State) (tag : Byte) (k : Kind), Ready s → s.drive.pto ≠ .disengaged →
    exec (.engage tag (BitVec.ofNat 8 k.ctorIdx)) s =
      .next (finish (s.fresh.answered 18 tag .busy [BitVec.ofNat 8 s.drive.pto.ctorIdx]))) ∧
  (∀ (s : State) (tag : Byte) (k : Kind), Ready s → s.drive.pto = .disengaged → judge s (engageEntry k) = .passed →
    s.qualified .ptoFb ≠ some true →
    exec (.engage tag (BitVec.ofNat 8 k.ctorIdx)) s = .next (finish (State.answered
      { s.fresh with drive := { s.drive with
          pto := .precheck, kind := some k, tries := 0, clutch := false, precheck := some ⟨3000, 0⟩, feedback := none
          settle := none, ramp := none, releasing := none, window := none } }
      18 tag .ok [1, BitVec.ofNat 8 k.ctorIdx]))) ∧
  ∀ (s : State) (tag : Byte) (k : Kind), Ready s → s.drive.pto = .disengaged → judge s (engageEntry k) = .passed →
    s.qualified .ptoFb = some true → ∃ u : State,
    exec (.engage tag (BitVec.ofNat 8 k.ctorIdx)) s =
      .next (finish (u.answered 18 tag .ok [7, BitVec.ofNat 8 k.ctorIdx])) ∧
    u.drive = { s.drive with
      pto := .fault, kind := some k, tries := 0, clutch := false, confirmation := none, release := none
      fault := some .stuck, precheck := none, feedback := none, settle := none, ramp := none, releasing := none
      window := none } ∧
    .ptoFault ∈ u.alarm.causes ∧ u.trend.fast = 30 ∧
    u = { s.fresh with
      drive := u.drive, alarm := u.alarm, trend := u.trend, notices := u.notices, tx := u.tx
      interlock := { s.interlock with conditions := trueConditions u } }

/-- DISENGAGE (R61): from ENGAGED the pump runs down, or releases at once where the engine is at or below the engage
limit (R58); from PRECHECK, SHIFTING and SETTLE the engagement is abandoned, the release confirmed at once where PTO_FB
is not asserted (R59); RAMPDOWN is BUSY, the other states BAD_STATE. The mode becomes ROAD as ENGAGED is left, or
MOTION_TRIP where a trip that falls together with the exit is taken first: its order then changes nothing, and the cause
of the release stays (R32, log entries 5 and 49). -/
def Obligations.DisengageReleasesThePump : Prop :=
  (∀ (s : State) (tag : Byte), Ready s → s.drive.pto = .rampdown →
    exec (.disengage tag) s = .next (finish (s.fresh.answered 19 tag .busy [5]))) ∧
  (∀ (s : State) (tag : Byte), Ready s →
    s.drive.pto = .disengaged ∨ s.drive.pto = .releasing ∨ s.drive.pto = .fault →
    exec (.disengage tag) s =
      .next (finish (s.fresh.answered 19 tag .badState [BitVec.ofNat 8 s.drive.pto.ctorIdx]))) ∧
  (∀ (s : State) (tag : Byte), Ready s → s.drive.pto = .precheck ∨ s.drive.pto = .shifting ∨ s.drive.pto = .settle →
    s.qualified .ptoFb ≠ some false → ∃ u : State,
    exec (.disengage tag) s = .next (finish (u.answered 19 tag .ok [6])) ∧
    u.drive = { s.drive with
      pto := .releasing, clutch := false, release := some .operator, precheck := none, feedback := none
      settle := none, ramp := none, releasing := some ⟨3000, 0⟩, window := none } ∧
    u = { s.fresh with drive := u.drive, notices := u.notices, tx := u.tx } ∧
    u.notices = (record .engageAborted
      { old := some (.pto s.drive.pto), new := some (.pto .releasing), cause := some (.abort .operator) } s).notices) ∧
  (∀ (s : State) (tag : Byte), Ready s → s.drive.pto = .precheck ∨ s.drive.pto = .shifting ∨ s.drive.pto = .settle →
    s.qualified .ptoFb = some false → s.interlock.mode ≠ .motionTrip → ∃ u : State,
    exec (.disengage tag) s = .next (finish (u.answered 19 tag .ok [0])) ∧
    u.drive = { s.drive with
      pto := .disengaged, kind := none, confirmation := none, release := none, fault := none, tries := 0
      clutch := false, precheck := none, feedback := none, settle := none, ramp := none, releasing := none
      window := none } ∧
    u = { s.fresh with drive := u.drive, alarm := u.alarm, notices := u.notices, tx := u.tx }) ∧
  ∀ (s : State) (tag : Byte), Ready s → s.drive.pto = .engaged → s.qualified .ptoFb ≠ some false → ∃ u : State,
    exec (.disengage tag) s = .next (finish (u.answered 19 tag .ok [BitVec.ofNat 8 u.drive.pto.ctorIdx])) ∧
    u.drive.pto = (if s.engineSpeed ≤ s.paramNat 24 then .releasing else .rampdown) ∧
    u.drive.release = some .operator ∧ u.drive.ramp = (if s.engineSpeed ≤ s.paramNat 24 then none else some ⟨3000, 0⟩) ∧
    u.governor.demand = 0 ∧ u.governor.shadow = .idle ∧ u.governor.active = .idle ∧ u.governor.overrides = [] ∧
    u.supply.state = .idle ∧ u.supply.selected = .main ∧ u.supply.switchHeld = false ∧ u.supply.primeHeld = false ∧
    u.valves.mainValve.openCmd = false ∧ u.valves.reserveValve.openCmd = false ∧
    ModeAtExit true s.fresh.choices s u ∧
    u.thermal.latch = false ∧ u.thermal.overheat = false ∧ u.thermal.dry = none ∧ u.thermal.noFlowHeld = false ∧
    (∀ t : Tank, (u.tank t).stage ≠ .bulk ∧ (u.tank t).stage ≠ .topoff ∧ (u.tank t).stage ≠ .fullHold)

/-- The precheck timer's expiry gives the engagement up in DISENGAGED (R51), the ramp timer's goes to RELEASING (R58),
the release timer's ends the release by time, or finds the drive stuck (R59), and the start-up window closes (R65). One
that ends in DISENGAGED in MOTION_TRIP takes the mode to ROAD and MOTION out of the alarm (R32). -/
def Obligations.DriveTimersEndTheirStates : Prop :=
  (∀ s : State, s.powered = true → s.drive.precheck.isSome = true → s.interlock.mode ≠ .motionTrip → ∃ u : State,
    exec .precheckTimerExpiry s = .next (finish u) ∧
    u.drive = { s.drive with
      pto := .disengaged, kind := none, confirmation := none, release := none, fault := none, tries := 0
      clutch := false, precheck := none, feedback := none, settle := none, ramp := none, releasing := none } ∧
    u = { s.fresh with drive := u.drive, alarm := u.alarm, notices := u.notices, tx := u.tx } ∧
    u.notices = (record .engageAborted
      { old := some (.pto .precheck), new := some (.pto .disengaged), cause := some (.abort .engineSpeed) } s).notices ∧
    ∀ c : AlarmCause, c ∈ u.alarm.causes ↔ c ∈ s.alarm.causes ∧ (c ≠ .stop ∨ s.asserted .panelStop = true)) ∧
  (∀ (s : State) (c : ReleaseCause), s.powered = true → s.drive.ramp.isSome = true → s.drive.release = some c →
    s.qualified .ptoFb ≠ some false →
    exec .rampTimerExpiry s = .next (finish
      { s.fresh with drive := { s.drive with
          pto := .releasing, clutch := false, precheck := none, feedback := none, settle := none, ramp := none
          releasing := some ⟨3000, 0⟩, window := none } })) ∧
  (∀ (s : State) (c : ReleaseCause), s.powered = true → s.drive.ramp.isSome = true → s.drive.release = some c →
    s.qualified .ptoFb = some false → s.interlock.mode ≠ .motionTrip → ∃ u : State,
    exec .rampTimerExpiry s = .next (finish u) ∧ u.drive.pto = .disengaged ∧ u.drive.kind = none ∧
    u.drive.release = none ∧ u.drive.clutch = false ∧ u.drive.ramp = none ∧
    u = { s.fresh with drive := u.drive, alarm := u.alarm, notices := u.notices, tx := u.tx } ∧
    u.notices = (record .disengageDone
      { old := some (.pto .releasing), new := some (.pto .disengaged), value := some 0, cause := some (.release c) }
      s).notices) ∧
  (∀ s : State, s.powered = true → s.drive.releasing.isSome = true → s.qualified .ptoFb = some true →
    s.drive.pto = .releasing → ∃ u : State,
    exec .releaseTimerExpiry s = .next (finish u) ∧ u.drive.pto = .fault ∧ u.drive.fault = some .stuck ∧
    u.drive.release = none ∧ u.drive.clutch = false ∧ .ptoFault ∈ u.alarm.causes ∧ u.trend.fast = 30 ∧
    u = { s.fresh with
      drive := u.drive, alarm := u.alarm, trend := u.trend, notices := u.notices, tx := u.tx
      interlock := { s.interlock with conditions := trueConditions u } }) ∧
  (∀ s : State, s.powered = true → s.drive.releasing.isSome = true → s.qualified .ptoFb = none →
    s.interlock.mode ≠ .motionTrip → ∃ u : State,
    exec .releaseTimerExpiry s = .next (finish u) ∧ u.drive.pto = .disengaged ∧ u.drive.kind = none ∧
    u.drive.release = none ∧ u.drive.clutch = false ∧ u.drive.releasing = none ∧
    u = { s.fresh with drive := u.drive, alarm := u.alarm, notices := u.notices, tx := u.tx } ∧
    u.notices = (record .disengageDone
      { old := some (.pto .releasing), new := some (.pto .disengaged), value := some 1
        cause := s.drive.release.map .release } s).notices) ∧
  (∀ (s : State) (c : Instr), s.powered = true → s.interlock.mode = .motionTrip →
    (c = .precheckTimerExpiry ∧ s.drive.precheck.isSome = true) ∨
    (c = .rampTimerExpiry ∧ s.drive.ramp.isSome = true ∧ s.drive.release.isSome = true ∧
      s.qualified .ptoFb = some false) ∨
    (c = .releaseTimerExpiry ∧ s.drive.releasing.isSome = true ∧ s.qualified .ptoFb = none) → ∃ u : State,
    exec c s = .next (finish u) ∧ u.drive = disengagedRecord { s.drive with window := u.drive.window } ∧
    (∀ a : AlarmCause, a ∈ u.alarm.causes ↔
      a ∈ s.alarm.causes ∧ a ≠ .motion ∧ (a ≠ .stop ∨ s.asserted .panelStop = true)) ∧
    u.governor.demand = 0 ∧ u.governor.shadow = s.governor.shadow ∧
    u = { s.fresh with
      drive := u.drive, governor := u.governor, alarm := u.alarm, notices := u.notices, tx := u.tx
      interlock := { s.interlock with mode := .road, ceiling := 0, recovery := none, trip := none } }) ∧
  (∀ s : State, s.powered = true →
    exec .startUpWindowExpiry s = .next (finish { s.fresh with drive := { s.drive with window := none } })) ∧
  ∀ (s : State) (c : Instr), s.powered = true →
    (c = .precheckTimerExpiry ∧ s.drive.precheck = none) ∨ (c = .rampTimerExpiry ∧ s.drive.ramp = none) ∨
    (c = .releaseTimerExpiry ∧ s.drive.releasing = none) ∨ (c = .feedbackTimerExpiry ∧ s.drive.feedback = none) ∨
    (c = .driveSettleExpiry ∧ s.drive.settle = none) →
    exec c s = .next (finish s.fresh)

/-- The feedback timer's expiry with PTO_FB not asserted tries again after 1 s until the maximum tries are spent, and
then is FAULT NO_FEEDBACK; the settle timer's expiry energises the clutch again and counts the try (R52, R53, R63). The
feedback timer's expiry with no PTO_FB assigned is the engagement, UNCONFIRMED, and so is, CONFIRMED, the settle timer's
that finds PTO_FB asserted, its try counted first (R52, R53, R56): the tries become the last tries, the lifetime count
rises, the governor starts from IDLE at 0 (R95), the supply leaves IDLE, MAIN feeding at once where it is not EMPTY and
RESERVE's valve is commanded CLOSED (R99, R100), and the mode is the kind's; PUMP_STATIONARY is kept only where the
vehicle stands with its parking brake set, and else the entry trips (R27). -/
def Obligations.TriesAndEngagement : Prop :=
  (∀ s : State, s.powered = true → s.drive.feedback.isSome = true → s.qualified .ptoFb ≠ none →
    s.drive.tries < s.paramNat 26 →
    exec .feedbackTimerExpiry s = .next (finish
      { s.fresh with drive := { s.drive with
          pto := .settle, clutch := false, precheck := none, feedback := none, settle := some ⟨1000, 0⟩, ramp := none
          releasing := none, window := none } })) ∧
  (∀ s : State, s.powered = true → s.drive.feedback.isSome = true → s.qualified .ptoFb ≠ none →
    s.paramNat 26 ≤ s.drive.tries → s.drive.pto = .shifting → ∃ u : State,
    exec .feedbackTimerExpiry s = .next (finish u) ∧ u.drive.pto = .fault ∧ u.drive.fault = some .noFeedback ∧
    u.drive.clutch = false ∧ u.drive.tries = s.drive.tries ∧ .ptoFault ∈ u.alarm.causes ∧ u.trend.fast = 30 ∧
    u = { s.fresh with
      drive := u.drive, alarm := u.alarm, trend := u.trend, notices := u.notices, tx := u.tx
      interlock := { s.interlock with conditions := trueConditions u } }) ∧
  (∀ s : State, s.powered = true → s.drive.settle.isSome = true → s.qualified .ptoFb ≠ some true →
    exec .driveSettleExpiry s = .next (finish
      { s.fresh with drive := { s.drive with
          pto := .shifting, clutch := true, tries := s.drive.tries + 1, precheck := none
          feedback := some ⟨s.paramNat 25, 0⟩, settle := none, ramp := none, releasing := none, window := none } })) ∧
  ∀ (s : State) (c : Instr) (shown : Confirmation) (tries : Nat), s.powered = true →
    (c = .feedbackTimerExpiry ∧ s.drive.feedback.isSome = true ∧ s.qualified .ptoFb = none ∧ shown = .unconfirmed ∧
      tries = s.drive.tries) ∨
    (c = .driveSettleExpiry ∧ s.drive.settle.isSome = true ∧ s.qualified .ptoFb = some true ∧ shown = .confirmed ∧
      tries = s.drive.tries + 1) →
    (∀ k : Kind, s.drive.kind = some k → k = .roll ∨ (s.interlock.moving = false ∧ s.asserted .parkBrake = true) →
      ∃ u : State, exec c s = .next (finish u) ∧
        u.interlock.mode = (if k = .roll then .pumpRoll else .pumpStationary) ∧
        u.interlock.ceiling = (if k = .roll then s.paramNat 22 else 1000) ∧
        u.drive = { s.drive with
          pto := .engaged, clutch := true, confirmation := some shown, lastTries := tries, tries := 0
          lifetime := min (s.drive.lifetime + 1) 65535, precheck := none, feedback := none, settle := none
          ramp := none, releasing := none, window := none } ∧
        u.governor.shadow = .idle ∧ u.governor.active = .idle ∧ u.governor.demand = 0 ∧ u.governor.acc = 0 ∧
        u.governor.frozen = false ∧
        (u.supply.state = .tank ∨ u.supply.state = .switching ∨ u.supply.state = .noSupply) ∧
        (s.tanks.main.state ≠ .empty → s.valves.reserveValve.openCmd = false → s.valves.mainValve.state ≠ .fault →
          u.supply.state = .tank ∧ u.supply.selected = .main ∧ u.supply.floor = s.param 36 ∧
          u.valves.mainValve = openedValve s .main ∧ u.valves.reserveValve = s.valves.reserveValve) ∧
        (s.thermal.zone = .hot → u.thermal.hot = some ⟨60000, 0⟩) ∧
        u = { u with
          sense := s.sense, terminals := s.terminals, totals := s.totals, clock := s.clock, trend := s.trend
          link := s.link, params := s.params, outputs := s.outputs, powered := true
          choiceCount := s.choiceCount + 1, pending := s.pending }) ∧
    (s.drive.kind = some .stationary → s.interlock.moving = true ∨ s.asserted .parkBrake = false →
      ∃ u : State, exec c s = .next (finish u) ∧ u.interlock.mode = .motionTrip ∧
        (u.drive.pto = .rampdown ∨ u.drive.pto = .releasing) ∧ u.drive.release = some .motion ∧
        u.drive.lastTries = tries ∧ u.governor.demand = 0 ∧ u.supply.state = .idle ∧ .motion ∈ u.alarm.causes)

/-- CHANGE_KIND judged well changes the kind and the mode with its ceiling and records MODE_CHANGED; the drive, the
governor's setpoint and the supply go on (R33, R35); an entry into PUMP_STATIONARY that may not stand trips (R27, R28).
A changed input is handed to the blocks that use its role, changes that fall together one by one (R17; the order is log
entry 5's): PARK_BRAKE or NEUTRAL lost in PUMP_STATIONARY trips, its order received after the trip and at the latest as
the sample ends (R28, log entry 49), ROLL_SELECT lost in a roll mode releases (R31), PANEL_STOP stops the pump by the
PTO state (R60), GENERAL_IN records INPUT_CHANGED, and a condition that changes while the clutch is shifted is reported
and, where the engagement needs it, ends that engagement (R39, R55). The terminals of one sample are sampled and handed
on one by one (log entry 44). A BAD_VALUE reply has no body (log entry 10). An exit from ENGAGED takes the mode to ROAD,
or leaves a trip taken before it in MOTION_TRIP, whose order then changes nothing (R32, log entry 49). -/
def Obligations.ChangeKindChangesTheMode : Prop :=
  (∀ (s : State) (tag kind : Byte), Ready s → 2 ≤ kind.toNat →
    exec (.changeKind tag kind) s = .next (finish (s.fresh.answered 20 tag .badValue []))) ∧
  (∀ (s : State) (tag : Byte) (k : Kind), Ready s → judge s (changeEntry k) = .passed →
    k = .roll ∨ (s.interlock.moving = false ∧ s.asserted .parkBrake = true) → ∃ u : State,
    let n := record .modeChanged
      { old := some (.mode s.interlock.mode), new := some (.mode (if k = .roll then .pumpRoll else .pumpStationary))
        cause := some (.mode .changeKind) } s
    exec (.changeKind tag (BitVec.ofNat 8 k.ctorIdx)) s =
      .next (finish (u.answered 20 tag .ok [if k = .roll then 2 else 1])) ∧
    u = { s.fresh with
      drive := { s.drive with kind := some k }
      interlock := { s.interlock with
        mode := if k = .roll then .pumpRoll else .pumpStationary
        ceiling := if k = .roll then s.paramNat 22 else 1000
        recovery := none, trip := none }
      governor := u.governor, notices := n.notices, tx := n.tx } ∧
    u.governor.demand = min s.governor.demand (leastCeiling (ceilings u)) ∧
    u.governor.shadow = s.governor.shadow ∧ u.governor.active = s.governor.active) ∧
  (∀ (s : State) (tag : Byte), Ready s → judge s .changeToStationary = .passed →
    s.interlock.moving = true ∨ s.asserted .parkBrake = false → s.drive.pto = .engaged →
    s.qualified .ptoFb ≠ some false → ∃ u : State,
    exec (.changeKind tag 0) s = .next (finish (u.answered 20 tag .ok [4])) ∧
    u.interlock.mode = .motionTrip ∧ u.interlock.ceiling = 0 ∧ u.drive.kind = some .stationary ∧
    (u.drive.pto = .rampdown ∨ u.drive.pto = .releasing) ∧ u.drive.release = some .motion ∧ u.governor.demand = 0 ∧
    u.supply.state = .idle ∧ .motion ∈ u.alarm.causes ∧ u.trend.fast = 30) ∧
  -- the hand-on of changed inputs
  (∀ (s : State) (levels : BitVec 16), s.powered = true → ∃ l : List (State → State),
    l.Perm (deliverOrder s.interlock.mode :: allTerminals.map (sampleTerminal levels)) ∧
    exec (.inputSample levels) s = .next (finish (deliverOrder s.interlock.mode (l.foldl (fun u act => act u)
      { s.fresh with choices := s.fresh.choices.drop 17 })))) ∧
  (∀ (s : State) (levels : BitVec 16) (t : Terminal) (b : Bool), s.powered = true → OnlyChange s levels t b →
    ∃ u x : State, exec (.inputSample levels) s = .next (finish u) ∧
    x = { s.fresh with terminals := x.terminals, choices := s.fresh.choices.drop 17 } ∧
    x.terminals.assignment = s.terminals.assignment ∧
    (∀ w : Terminal, x.terminals.inputs[w].asserted = if w = t then b else s.terminals.inputs[w].asserted) ∧
    u = { deliverOrder s.interlock.mode (inputChange t s.terminals.assignment[t].role b x) with
      terminals := u.terminals }) ∧
  -- PARK_BRAKE and NEUTRAL: the trip, and its order to a drive that is ENGAGED or has left ENGAGED
  (∀ (s : State) (t : Terminal) (r : Role) (c : ModeCause), (r = .parkBrake ∧ c = .parkBrake) ∨
      (r = .neutral ∧ c = .neutral) → s.interlock.mode = .pumpStationary → NotShifting s →
    let u := inputChange t r false s
    (∀ a : AlarmCause, a ∈ u.alarm.causes ↔ a ∈ s.alarm.causes ∨ a = .motion) ∧ u.trend.fast = 30 ∧
    u.governor.demand = 0 ∧ u.governor.shadow = s.governor.shadow ∧ u.governor.active = s.governor.active ∧
    u.notices = (record .modeChanged
      { old := some (.mode .pumpStationary), new := some (.mode .motionTrip), cause := some (.mode c) } s).notices ∧
    u = { s with
      interlock := { s.interlock with
        mode := .motionTrip, ceiling := 0, recovery := none, trip := none, conditions := u.interlock.conditions }
      governor := u.governor, alarm := u.alarm, trend := u.trend, notices := u.notices, tx := u.tx
      choices := u.choices }) ∧
  (∀ (s : State) (m : OpMode), m ≠ .motionTrip → s.interlock.mode = .motionTrip → s.drive.pto = .engaged →
    s.qualified .ptoFb ≠ some false →
    let u := deliverOrder m s
    u.interlock.mode = .motionTrip ∧ u.drive.release = some .motion ∧
    u.drive.pto = (if s.engineSpeed ≤ s.paramNat 24 then .releasing else .rampdown) ∧ u.governor.demand = 0 ∧
    u.governor.shadow = .idle ∧ u.supply.state = .idle) ∧
  (∀ (s : State) (m : OpMode), m = .motionTrip ∨ s.interlock.mode ≠ .motionTrip ∨ s.drive.pto = .rampdown ∨
    s.drive.pto = .releasing ∨ s.drive.pto = .fault ∨ s.drive.pto = .disengaged → deliverOrder m s = s) ∧
  -- ROLL_SELECT
  (∀ (s : State) (t : Terminal), s.interlock.mode = .pumpRoll ∨ s.interlock.mode = .rollOverspeed →
    s.drive.pto = .engaged → s.qualified .ptoFb ≠ some false →
    let u := inputChange t .rollSelect false s
    ModeAtExit true (s.choices.drop 2) s u ∧ u.drive.release = some .rollDeselect ∧
    u.drive.pto = (if s.engineSpeed ≤ s.paramNat 24 then .releasing else .rampdown) ∧ u.governor.demand = 0 ∧
    u.governor.shadow = .idle ∧ u.supply.state = .idle) ∧
  (∀ (s : State) (t : Terminal) (r : Role) (b : Bool),
    ((r = .parkBrake ∨ r = .neutral) ∧ (b = true ∨ s.interlock.mode ≠ .pumpStationary)) ∨
    (r = .rollSelect ∧ (b = true ∨ (s.interlock.mode ≠ .pumpRoll ∧ s.interlock.mode ≠ .rollOverspeed))) →
    inputChange t r b s = conditionEvent { s with choices := s.choices.drop 2 }) ∧
  -- PANEL_STOP
  (∀ (s : State) (t : Terminal), s.drive.pto = .engaged → s.qualified .ptoFb ≠ some false →
    let u := inputChange t .panelStop true s
    u.drive = releasingRecord .panelStop s.drive ∧ .stop ∈ u.alarm.causes ∧ u.governor.demand = 0 ∧
    u.governor.shadow = .idle ∧ u.supply.state = .idle ∧ u.valves.mainValve.openCmd = false ∧
    u.valves.reserveValve.openCmd = false ∧ ModeAtExit false (s.choices.drop 2) s u) ∧
  (∀ (s : State) (t : Terminal), ¬NotShifting s → LockoutWithinFixed s → s.asserted .panelStop = true →
    s.qualified .ptoFb ≠ some false →
    let u := inputChange t .panelStop true s
    let stop := fun p : PtoState => record .panelStop { new := some (.qualified true), cause := some (.ptoState p) }
    let abort := record .engageAborted
      { old := some (.pto s.drive.pto), new := some (.pto .releasing), cause := some (.abort .panelStop) }
    u.drive = releasingRecord .panelStop s.drive ∧ .stop ∈ u.alarm.causes ∧
    (u.notices = (abort (stop s.drive.pto s)).notices ∨ u.notices = (stop .releasing (abort s)).notices) ∧
    u = { s with
      drive := u.drive, alarm := u.alarm, notices := u.notices, tx := u.tx, choices := u.choices
      interlock := { s.interlock with conditions := u.interlock.conditions } }) ∧
  (∀ (s : State) (t : Terminal),
    s.drive.pto = .disengaged ∨ s.drive.pto = .fault ∨ s.drive.pto = .releasing ∨
      (s.drive.pto = .rampdown ∧ s.qualified .ptoFb ≠ some false) →
    let u := inputChange t .panelStop true s
    u.drive = (if s.drive.pto = .rampdown then releasingRecord .panelStop s.drive else s.drive) ∧
    (s.drive.pto = .disengaged ∨ s.drive.pto = .fault → u.alarm = s.alarm) ∧
    (s.drive.pto = .rampdown ∨ s.drive.pto = .releasing → .stop ∈ u.alarm.causes) ∧
    u.notices = (record .panelStop
      { new := some (.qualified true), cause := some (.ptoState s.drive.pto) } s).notices ∧
    u = { s with
      drive := u.drive, alarm := u.alarm, notices := u.notices, tx := u.tx, choices := u.choices
      interlock := { s.interlock with conditions := trueConditions s } }) ∧
  (∀ (s : State) (t : Terminal), NotShifting s →
    let u := inputChange t .panelStop false s
    ((s.drive.pto = .disengaged ∨ s.drive.pto = .fault) → s.asserted .panelStop = false → .stop ∉ u.alarm.causes) ∧
    (s.drive.pto ≠ .disengaged → s.drive.pto ≠ .fault → u.alarm = s.alarm) ∧
    u = { s with
      alarm := u.alarm, interlock := { s.interlock with conditions := trueConditions s }, choices := u.choices }) ∧
  -- GENERAL_IN, and the reports of conditions
  (∀ (s : State) (t : Terminal) (b : Bool), inputChange t .generalIn b s = record .inputChanged
    { subject := some (.terminal t), old := some (.qualified !b), new := some (.qualified b) } s) ∧
  (∀ s : State, NotShifting s ∨ trueConditions s = s.interlock.conditions →
    conditionEvent s = { s with interlock := { s.interlock with conditions := trueConditions s } }) ∧
  ∀ (s : State) (k : Kind), ¬NotShifting s → trueConditions s ≠ s.interlock.conditions → s.drive.kind = some k →
    let l := failingConditions s (engageEntry k)
    let t := { s with interlock := { s.interlock with conditions := trueConditions s } }
    let u := conditionEvent s
    (.stopClear ∉ l → l = [] ∨ (s.drive.pto = .precheck ∧ ∀ c ∈ l, c = .engineAtIdle) → u = t) ∧
    (.stopClear ∉ l → l ≠ [] → s.drive.pto ≠ .precheck ∨ (∃ c ∈ l, c ≠ .engineAtIdle) →
      (s.qualified .ptoFb ≠ some false →
        u = { t with drive := releasingRecord .conditions s.drive, notices := u.notices, tx := u.tx } ∧
        u.notices = (record .engageAborted
          { old := some (.pto s.drive.pto), new := some (.pto .releasing), cause := some (.abort .conditions)
            conds := some l } s).notices) ∧
      (s.qualified .ptoFb = some false → s.interlock.mode ≠ .motionTrip →
        u = { t with
          drive := disengagedRecord { s.drive with window := none }, alarm := u.alarm, notices := u.notices
          tx := u.tx })) ∧
    (.stopClear ∈ l → s.qualified .ptoFb ≠ some false →
      u = { t with
        drive := releasingRecord .panelStop s.drive, alarm := u.alarm, notices := u.notices, tx := u.tx } ∧
      .stop ∈ u.alarm.causes)

/-- CLEAR_FAULT: the drive's fault is cleared to DISENGAGED while PTO_FB is not asserted, and MOTION_TRIP to ROAD with
it (R32, R64), the dry-run latch is cleared where it is set (R163), and a valve's fault is cleared to what its feedback
shows, or its command where it has none, travel beginning where that is not what is commanded (R173); anything else is
BAD_STATE, and a target that is none of these is BAD_VALUE. The valve's record in the reply has its command OPEN as 0
(log entry 9). A changed PTO_FB finds the drive STUCK, engages it, is lost, or confirms the release (R51, R52, R57, R59,
R65), and a changed valve feedback ends or starts that valve's travel (R168 to R170). A lost PTO_FB takes the mode to
ROAD, or finds a trip that is taken first (R32, log entries 5 and 49). -/
def Obligations.ClearFaultClearsItsTarget : Prop :=
  (∀ (s : State) (tag : Byte), Ready s → s.drive.pto = .fault → s.drive.clutch = false →
    s.qualified .ptoFb ≠ some true → s.interlock.mode ≠ .motionTrip → ∃ u : State,
    exec (.clearFault tag 46) s = .next (finish (u.answered 21 tag .ok [0])) ∧
    u.drive.pto = .disengaged ∧ u.drive.fault = none ∧ u.drive.kind = none ∧ u.drive.tries = 0 ∧
    .ptoFault ∉ u.alarm.causes ∧
    u = { s.fresh with
      drive := u.drive, alarm := u.alarm, interlock := { s.interlock with conditions := u.interlock.conditions } }) ∧
  (∀ (s : State) (tag : Byte), Ready s → s.drive.pto = .fault → s.drive.clutch = false →
    s.qualified .ptoFb ≠ some true → s.interlock.mode = .motionTrip → ∃ u : State,
    exec (.clearFault tag 46) s = .next (finish (u.answered 21 tag .ok [0])) ∧
    u.drive = disengagedRecord { s.drive with window := u.drive.window } ∧
    (∀ a : AlarmCause, a ∈ u.alarm.causes ↔
      a ∈ s.alarm.causes ∧ a ≠ .ptoFault ∧ a ≠ .motion ∧ (a ≠ .stop ∨ s.asserted .panelStop = true)) ∧
    u.governor.demand = 0 ∧ u.governor.shadow = s.governor.shadow ∧
    u = { s.fresh with
      drive := u.drive, governor := u.governor, alarm := u.alarm, notices := u.notices, tx := u.tx
      interlock := { s.interlock with
        mode := .road, ceiling := 0, recovery := none, trip := none, conditions := trueConditions u } }) ∧
  (∀ (s : State) (tag : Byte), Ready s → s.drive.pto ≠ .fault ∨ s.drive.clutch = true ∨ s.qualified .ptoFb = some true →
    exec (.clearFault tag 46) s = .next (finish (s.fresh.answered 21 tag .badState []))) ∧
  (∀ (s : State) (tag : Byte), Ready s → NotShifting s → s.thermal.latch = true → ∃ u : State,
    exec (.clearFault tag 47) s =
      .next (finish (u.answered 21 tag .ok (0 :: natBytes 2 (thermalCeiling u)))) ∧
    .dryRun ∉ u.alarm.causes ∧
    u = { s.fresh with
      thermal := { s.thermal with latch := false }, alarm := u.alarm
      interlock := { s.interlock with conditions := u.interlock.conditions } }) ∧
  (∀ (s : State) (tag : Byte), Ready s → s.thermal.latch = false →
    exec (.clearFault tag 47) s =
      .next (finish (s.fresh.answered 21 tag .badState (0 :: natBytes 2 (thermalCeiling s))))) ∧
  (∀ (s : State) (tag : Byte) (v : ValveRole), Ready s → (s.valve v).state ≠ .fault →
    exec (.clearFault tag (BitVec.ofNat 8 (34 + v.ctorIdx))) s =
      .next (finish (s.fresh.answered 21 tag .badState []))) ∧
  (∀ (s : State) (tag : Byte) (v : ValveRole), Ready s → (s.valve v).state = .fault → Unwatched s v →
    let shown : Bool := (feedback s v).getD (s.valve v).openCmd
    let matched : Bool := shown == (s.valve v).openCmd
    let a : Actuator := { s.valve v with
      state := if matched then (if shown then .atOpen else .atClosed) else if shown then .closing else .opening
      confirmation := if feedback s v = none then .unconfirmed else .confirmed
      tries := if !matched && !shown then 1 else 0
      retry := none, travel := if matched then none else some ⟨1000 * s.paramNat (58 + v.ctorIdx), 0⟩, fault := none }
    exec (.clearFault tag (BitVec.ofNat 8 (34 + v.ctorIdx))) s = .next (finish (State.answered
      { s.fresh with
        valves := setValve s.valves v a
        alarm := if ∀ w ∈ allValves, w ≠ v → (s.valve w).state ≠ .fault then (removeAlarm .valve s).alarm else s.alarm }
      21 tag .ok (actuatorBytes a)))) ∧
  (∀ (s : State) (tag target : Byte), Ready s → target.toNat < 34 ∨ 39 ≤ target.toNat → target ≠ 46 → target ≠ 47 →
    exec (.clearFault tag target) s = .next (finish (s.fresh.answered 21 tag .badValue []))) ∧
  -- PTO_FB, as the hand-on of a changed input takes it
  (∀ (s : State) (t : Terminal), s.drive.pto = .precheck ∨ (s.drive.pto = .disengaged ∧ s.drive.window.isSome = true) →
    let c : DriveFault := if s.drive.pto = .precheck then .stuck else .stuckAtStart
    let u := inputChange t .ptoFb true s
    u = { s with
      drive := faultRecord c s.drive, alarm := u.alarm, trend := u.trend, notices := u.notices, tx := u.tx
      interlock := { s.interlock with conditions := trueConditions u } } ∧
    .ptoFault ∈ u.alarm.causes ∧ u.trend.fast = 30 ∧
    u.notices = (record .driveFault
      { old := some (.pto s.drive.pto), new := some (.pto .fault), cause := some (.driveFault c) } s).notices) ∧
  (∀ (s : State) (t : Terminal) (k : Kind), s.drive.pto = .shifting → s.drive.kind = some k →
    k = .roll ∨ (s.interlock.moving = false ∧ s.asserted .parkBrake = true) →
    let u := inputChange t .ptoFb true s
    u.interlock.mode = (if k = .roll then .pumpRoll else .pumpStationary) ∧
    u.interlock.ceiling = (if k = .roll then s.paramNat 22 else 1000) ∧
    u.drive = { s.drive with
      pto := .engaged, clutch := true, confirmation := some .confirmed, lastTries := s.drive.tries, tries := 0
      lifetime := min (s.drive.lifetime + 1) 65535, precheck := none, feedback := none, settle := none, ramp := none
      releasing := none, window := none } ∧
    u.governor.shadow = .idle ∧ u.governor.active = .idle ∧ u.governor.demand = 0 ∧
    (u.supply.state = .tank ∨ u.supply.state = .switching ∨ u.supply.state = .noSupply) ∧
    (s.tanks.main.state ≠ .empty → s.valves.reserveValve.openCmd = false → s.valves.mainValve.state ≠ .fault →
      u.supply.state = .tank ∧ u.supply.selected = .main ∧ u.supply.floor = s.param 36 ∧
      u.valves.mainValve = openedValve s .main ∧ u.valves.reserveValve = s.valves.reserveValve)) ∧
  (∀ (s : State) (t : Terminal), s.drive.pto = .engaged →
    let u := inputChange t .ptoFb false s
    u.drive = faultRecord .lostFeedback s.drive ∧ .ptoFault ∈ u.alarm.causes ∧ u.trend.fast = 30 ∧
    u.governor.demand = 0 ∧ u.governor.shadow = .idle ∧ u.governor.active = .idle ∧ u.governor.overrides = [] ∧
    u.supply.state = .idle ∧ u.valves.mainValve.openCmd = false ∧ u.valves.reserveValve.openCmd = false ∧
    ModeAtExit false s.choices s u) ∧
  (∀ (s : State) (t : Terminal), s.drive.pto = .releasing →
    let u := inputChange t .ptoFb false s
    u.drive = disengagedRecord s.drive ∧
    (s.interlock.mode = .motionTrip → u.interlock.mode = .road ∧ .motion ∉ u.alarm.causes) ∧
    (s.interlock.mode ≠ .motionTrip →
      u = { s with drive := u.drive, alarm := u.alarm, notices := u.notices, tx := u.tx } ∧
      u.notices = (record .disengageDone
        { old := some (.pto .releasing), new := some (.pto .disengaged), value := some 0
          cause := s.drive.release.map .release } s).notices)) ∧
  (∀ (s : State) (t : Terminal) (b : Bool),
    (b = true ∧ s.drive.pto ≠ .precheck ∧ s.drive.pto ≠ .shifting ∧ (s.drive.pto ≠ .disengaged ∨ s.drive.window = none)) ∨
    (b = false ∧ s.drive.pto ≠ .engaged ∧ s.drive.pto ≠ .releasing) →
    inputChange t .ptoFb b s = s) ∧
  -- a valve's feedback
  ∀ (s : State) (t : Terminal) (r : Role) (v : ValveRole) (b : Bool), feedbackRole v = some r →
    (b = false → feedback s v ≠ some true) → Unwatched s v →
    let a := s.valve v
    let moved : Actuator :=
      if a.state = .opening ∧ b = true then
        { a with state := .atOpen, confirmation := .confirmed, tries := 0, retry := none, travel := none }
      else if a.state = .closing ∧ b = false then
        { a with state := .atClosed, confirmation := .confirmed, tries := 0, retry := none, travel := none }
      else if a.state = .atOpen ∧ b = false then
        { a with
          state := .opening, tries := 1, retry := none, travel := some ⟨1000 * s.paramNat (58 + v.ctorIdx), 0⟩ }
      else if a.state = .atClosed ∧ b = true then
        { a with
          state := .closing, tries := 0, retry := none, travel := some ⟨1000 * s.paramNat (58 + v.ctorIdx), 0⟩ }
      else a
    inputChange t r b s = { s with valves := setValve s.valves v moved }

/-! ### The supply -/

/-- SET_SUPPLY by the supply state (R106): a source other than 0, 1 and 2 is BAD_VALUE; what is under way is BUSY, what
the state does not allow BAD_STATE, each with the supply as it stands; TANK in TANK is taken and changes nothing. A
judged HYDRANT starts a qualification (R107), and a judged DRAFT closes both tank valves, primes once they stand closed,
and fails where one is STUCK_OPEN (R112 to R114). USE_RESERVE (R105): with RESERVE selected already nothing changes;
with the supply off the tank it becomes the selected tank and no valve moves; in TANK, NO_SUPPLY and SWITCHING the part
switches over, its main valve closed first (R119, R121). TANK from a hydrant or a draft begins a switch to the selected
tank (R119, R121; SwitchBegun), never feeding from it at once: SWITCHING with the state left, the other tank's valve
commanded CLOSED and the target's not OPEN before the other stands closed, NO_SUPPLY only where a valve in FAULT
prevents it, and for an EMPTY tank the decision of R102. TANK while a hydrant is qualified, in NO_SUPPLY and in
DRAFT_PRIMING is the return to tank feed (R100, R111, R114; TankFeedReturned). SUPPLY_EXHAUSTED is recorded after the
hand-on (log entry 27). Fills under way are suspended as the hydrant or draft is left (R139, R145), and a fill of the
tank it turns to, due to open its valve at that instant, is suspended in either order (R145, log entry 41). A request
turned away is answered as log entry 10 reads R106. -/
def Obligations.SupplyRequestsByState : Prop :=
  (∀ (s : State) (tag b : Byte), Ready s → 3 ≤ b.toNat →
    exec (.setSupply tag b) s = .next (finish (s.fresh.answered 26 tag .badValue []))) ∧
  (∀ (s : State) (tag b : Byte) (res : Result), Ready s →
    (b = 0 ∧ s.supply.state = .idle ∧ res = .badState) ∨ (b = 0 ∧ s.supply.state = .tank ∧ res = .ok) ∨
    (b = 0 ∧ s.supply.state = .switching ∧ res = .busy) ∨
    (b = 0 ∧ s.supply.state = .noSupply ∧ (s.tank s.supply.selected).state = .empty ∧ res = .badState) ∨
    (b = 1 ∧ s.supply.state = .hydrantQualifying ∧ res = .busy) ∨
    (b = 1 ∧ (s.supply.state = .idle ∨ s.supply.state = .hydrant ∨ s.supply.state = .draftPriming ∨
      s.supply.state = .draft ∨ s.supply.state = .switching) ∧ res = .badState) ∨
    (b = 2 ∧ s.supply.state = .draftPriming ∧ res = .busy) ∨
    (b = 2 ∧ (s.supply.state = .idle ∨ s.supply.state = .hydrantQualifying ∨ s.supply.state = .hydrant ∨
      s.supply.state = .draft ∨ s.supply.state = .switching ∨ s.supply.state = .noSupply) ∧ res = .badState) →
    exec (.setSupply tag b) s = .next (finish (s.fresh.answered 26 tag res
      [BitVec.ofNat 8 s.supply.state.ctorIdx, BitVec.ofNat 8 (32 + s.supply.selected.ctorIdx)]))) ∧
  (∀ (s : State) (tag : Byte), Ready s → s.supply.state = .tank ∨ s.supply.state = .noSupply →
    judge s .supplyHydrant = .passed → ∃ u : State,
    exec (.setSupply tag 1) s =
      .next (finish (u.answered 26 tag .ok [2, BitVec.ofNat 8 (32 + s.supply.selected.ctorIdx)])) ∧
    u.supply.state = .hydrantQualifying ∧ u.supply.attempts = 0 ∧ u.supply.lastReason = none ∧
    u.supply.attempt = some ⟨2000, 0⟩ ∧ u.supply.window = ⟨0, 0, 0, 0, false⟩ ∧ u.supply.floor = s.param 36 ∧
    u.supply.selected = s.supply.selected ∧ u.supply.limit = s.supply.limit ∧
    (∀ v : ValveRole, v = .mainValve ∨ v = .reserveValve → u.valve v = s.valve v) ∧ .exhausted ∉ u.alarm.causes) ∧
  (∀ (s : State) (tag : Byte), Ready s → s.supply.state = .tank → judge s .supplyDraft = .passed →
    s.drive.pto = .engaged → (∀ v : ValveRole, v = .mainValve ∨ v = .reserveValve →
      (s.valve v).openCmd = false ∧ (s.valve v).state = .atClosed) → .priming ∉ s.governor.overrides → ∃ u : State,
    exec (.setSupply tag 2) s =
      .next (finish (u.answered 26 tag .ok [4, BitVec.ofNat 8 (32 + s.supply.selected.ctorIdx)])) ∧
    u.supply.state = .draftPriming ∧ u.supply.phase = some .priming ∧ u.supply.limit = 1000 ∧
    u.supply.primerLimit = some ⟨s.paramNat 42 * 1000, 0⟩ ∧ u.supply.primeHeld = true ∧
    u.outputs.primer = ⟨true, none⟩ ∧ .priming ∈ u.governor.overrides ∧ u.thermal.dry = none) ∧
  (∀ (s : State) (tag : Byte), Ready s → s.supply.state = .tank → judge s .supplyDraft = .passed →
    s.valves.mainValve.openCmd = true → s.valves.mainValve.state = .atOpen →
    s.valves.reserveValve.state ≠ .fault → s.valves.reserveValve.openCmd = false → ∃ u : State,
    exec (.setSupply tag 2) s =
      .next (finish (u.answered 26 tag .ok [4, BitVec.ofNat 8 (32 + s.supply.selected.ctorIdx)])) ∧
    u.supply.state = .draftPriming ∧ u.supply.phase = some .closingTank ∧ u.valves.mainValve.openCmd = false ∧
    u.valves.mainValve.state = .closing ∧ u.outputs = s.outputs ∧
    u.governor.overrides = s.governor.overrides) ∧
  (∀ (s : State) (tag : Byte), Ready s → s.supply.state = .tank → judge s .supplyDraft = .passed → ∃ u : State,
    let m := closedValve s .main
    let r := closedValve s .reserve
    let stuck := (m.state = .fault ∧ m.fault = some .stuckOpen) ∨ (r.state = .fault ∧ r.fault = some .stuckOpen)
    let shut := fun a : Actuator => a.state = .atClosed ∨ (a.state = .fault ∧ a.fault = some .noOpen)
    exec (.setSupply tag 2) s = .next (finish (u.answered 26 tag .ok
      [BitVec.ofNat 8 u.supply.state.ctorIdx, BitVec.ofNat 8 (32 + u.supply.selected.ctorIdx)])) ∧
    (stuck → u.outputs.primer = ⟨false, none⟩ ∧ u.supply.primeHeld = false ∧ TankFeedReturned
      { s with
        supply := { s.supply with state := .draftPriming }
        valves := { s.valves with mainValve := m, reserveValve := r } } u) ∧
    (¬stuck → u.supply.state = .draftPriming ∧ u.supply.selected = s.supply.selected ∧
      u.valves.mainValve = m ∧ u.valves.reserveValve = r ∧
      (shut m ∧ shut r → u.supply.phase = some .priming ∧ u.outputs.primer = ⟨true, none⟩) ∧
      (¬(shut m ∧ shut r) → u.supply.phase = some .closingTank ∧ u.outputs = s.outputs))) ∧
  -- SET_SUPPLY TANK from a hydrant or a draft: a switch, never TANK at once
  (∀ (s : State) (tag : Byte), Ready s → s.supply.state = .hydrant ∨ s.supply.state = .draft → ∃ u : State,
    let t := s.supply.selected
    exec (.setSupply tag 0) s = .next (finish (u.answered 26 tag .ok
      [BitVec.ofNat 8 u.supply.state.ctorIdx, BitVec.ofNat 8 (32 + u.supply.selected.ctorIdx)])) ∧
    (u.supply.state = .switching ∨ u.supply.state = .noSupply) ∧
    ((s.tank t).state ≠ .empty → SwitchBegun t s u ∧
      ((s.valve (tankValve t)).state ≠ .fault → (s.valve (tankValve (otherTank t))).state ≠ .fault →
        u.supply.state = .switching ∧ u.supply.switchFrom = s.supply.state ∧ u.supply.selected = t ∧
        (u.valve (tankValve (otherTank t))).openCmd = false)) ∧
    ((s.tank t).state = .empty → t = .main → s.param 44 = 1 → s.tanks.reserve.state ≠ .empty →
      SwitchBegun .reserve s u ∧ (u.supply.state = .switching → u.supply.switchHeld = true)) ∧
    ((s.tank t).state = .empty → t = .reserve ∨ s.param 44 ≠ 1 ∨ s.tanks.reserve.state = .empty →
      Exhausted t .switching .tankEmpty s u) ∧
    (u.supply.state = .switching → u.supply.floor = s.param 36 ∧ u.supply.limit = s.supply.limit ∧
      ((s.tank t).state ≠ .empty →
        u.supply.switchHeld = s.supply.switchHeld ∧ u.governor.overrides = s.governor.overrides)) ∧
    u.supply.hydrant = none ∧ u.supply.loss = none ∧ u.supply.lossLatch = false ∧ u.outputs = s.outputs ∧
    u.governor.shadow = s.governor.shadow ∧
    ∀ w : Tank, (s.tank w).stage = .bulk ∨ (s.tank w).stage = .topoff ∨ (s.tank w).stage = .fullHold →
      (u.tank w).stage = .suspended ∧ (u.valve (fillValve w)).openCmd = false) ∧
  -- SET_SUPPLY TANK while a hydrant is qualified, and in NO_SUPPLY: the return to tank feed
  (∀ (s : State) (tag : Byte), Ready s → s.supply.state = .hydrantQualifying ∨
      (s.supply.state = .noSupply ∧ (s.tank s.supply.selected).state ≠ .empty) → ∃ u : State,
    exec (.setSupply tag 0) s = .next (finish (u.answered 26 tag .ok
      [BitVec.ofNat 8 u.supply.state.ctorIdx, BitVec.ofNat 8 (32 + u.supply.selected.ctorIdx)])) ∧
    TankFeedReturned s u ∧ u.supply.attempt = none ∧ u.outputs = s.outputs ∧
    (u.supply.state ≠ .noSupply → .exhausted ∉ u.alarm.causes)) ∧
  (∀ (s : State) (tag : Byte) (t : Tank) (p e : Nat), Ready s →
    (t = s.supply.selected ∧ (s.tank t).state ≠ .empty) ∨ (t = .reserve ∧ s.supply.selected = .main ∧
      s.param 44 = 1 ∧ s.tanks.main.state = .empty ∧ s.tanks.reserve.state ≠ .empty) →
    (s.tank t).stage = .topoff → (s.tank t).phase = some .closedPhase → (s.tank t).cycle = some ⟨p, e⟩ → p ≤ e →
    fillPermission s t = true → ∃ u : State,
    exec (.setSupply tag 0) s = .next (finish (u.answered 26 tag .ok
      [BitVec.ofNat 8 u.supply.state.ctorIdx, BitVec.ofNat 8 (32 + t.ctorIdx)])) ∧
    (u.tank t).stage = .suspended ∧ (u.tank t).fillOpen = false ∧ (u.valve (fillValve t)).openCmd = false ∧
    (freeBit s.fresh = true → (u.valve (tankValve t)).openCmd = true → ∃ x : State, u = record .valveInterlock
      { subject := some (.valve (fillValve t)), cause := some (.blockedBy (tankValve t)) } x)) ∧
  (∀ (s : State) (tag : Byte), Ready s → s.supply.state = .draftPriming → ∃ u : State,
    exec (.setSupply tag 0) s = .next (finish (u.answered 26 tag .ok
      [BitVec.ofNat 8 u.supply.state.ctorIdx, BitVec.ofNat 8 (32 + u.supply.selected.ctorIdx)])) ∧
    PrimeAbandoned .operator s.fresh u ∧
    u.supply.state ≠ .draftPriming ∧ u.supply.state ≠ .idle ∧ u.supply.primeHeld = false ∧
    u.outputs.primer = ⟨false, none⟩) ∧
  (∀ (s : State) (tag : Byte), Ready s → judge s .useReserve = .passed → s.supply.selected = .reserve →
    exec (.useReserve tag) s =
      .next (finish (s.fresh.answered 27 tag .ok [BitVec.ofNat 8 s.supply.state.ctorIdx, 33]))) ∧
  (∀ (s : State) (tag : Byte), Ready s → NotShifting s → judge s .useReserve = .passed → s.supply.selected = .main →
    s.supply.state = .hydrantQualifying ∨ s.supply.state = .hydrant ∨ s.supply.state = .draftPriming ∨
      s.supply.state = .draft → ∃ u : State,
    exec (.useReserve tag) s =
      .next (finish (u.answered 27 tag .ok [BitVec.ofNat 8 s.supply.state.ctorIdx, 33])) ∧
    u = { s.fresh with
      supply := { s.supply with selected := .reserve }, alarm := u.alarm
      interlock := { s.interlock with conditions := u.interlock.conditions } } ∧
    (.lowTank ∈ u.alarm.causes ↔
      s.drive.pto = .engaged ∧ (s.tanks.reserve.state = .low ∨ s.tanks.reserve.state = .empty))) ∧
  (∀ (s : State) (tag : Byte), Ready s → judge s .useReserve = .passed → s.supply.selected = .main →
    s.supply.state = .tank ∨ s.supply.state = .noSupply ∨ s.supply.state = .switching → ∃ u : State,
    exec (.useReserve tag) s =
      .next (finish (u.answered 27 tag .ok [BitVec.ofNat 8 u.supply.state.ctorIdx, 33])) ∧
    u.supply.selected = .reserve ∧ (u.supply.state = .switching ∨ u.supply.state = .noSupply) ∧
    (s.tanks.reserve.state ≠ .empty → SwitchBegun .reserve s u ∧
      (s.valves.mainValve.state ≠ .fault → s.valves.reserveValve.state ≠ .fault → u.supply.state = .switching) ∧
      (u.supply.state = .switching →
        u.supply.switchHeld = s.supply.switchHeld ∧ u.governor.overrides = s.governor.overrides)) ∧
    (s.tanks.reserve.state = .empty → Exhausted .reserve .switching .tankEmpty s u)) ∧
  ∀ (s : State) (tag : Byte), Ready s → NotShifting s → judge s .useReserve = .passed → s.supply.selected = .main →
    s.supply.state = .tank → s.tanks.reserve.state ≠ .empty → s.valves.mainValve.openCmd = true →
    s.valves.mainValve.state = .atOpen → ∃ u : State,
    exec (.useReserve tag) s = .next (finish (u.answered 27 tag .ok [6, 33])) ∧
    u.supply.state = .switching ∧ u.supply.selected = .reserve ∧ u.supply.phase = some .closingOther ∧
    u.supply.switchFrom = .tank ∧ u.valves.mainValve.openCmd = false ∧ u.valves.mainValve.state = .closing ∧
    u.valves.reserveValve = s.valves.reserveValve ∧ u.outputs = s.outputs ∧ u.totals = s.totals

/-- The attempt timer's expiry judges the window (R108): a good window makes the hydrant the supply with its floor
(R109, R110) closes both tank valves and records SUPPLY_QUALIFIED, after the hand-on (log entry 27), with Ps, the floor
and the cause AUTO_FLOOR or FIXED_FLOOR; a floor above 400 kPa stands as it is computed (log entry 48); a bad one is
counted and tried again, or at the seventh gives the hydrant up: SUPPLY_REJECTED with value 7 and the seventh's reason
(R110), and then the return to tank feed (R100). An expiry with no attempt running has no effect (log entry 2). -/
def Obligations.AttemptExpiryJudgesTheHydrant : Prop :=
  (∀ (s : State) (w : Window),
    (w.failed = true ∨ w.count = 0 → attemptFailure s w = some .sensor) ∧
    (w.failed = false → w.count ≠ 0 → w.least < 100 ∨ 1200 < w.greatest → attemptFailure s w = some .range) ∧
    (w.failed = false → w.count ≠ 0 → 100 ≤ w.least → w.greatest ≤ 1200 → 20 < w.greatest - w.least →
      attemptFailure s w = some .unsteady) ∧
    (w.failed = false → w.count ≠ 0 → 100 ≤ w.least → w.greatest ≤ 1200 → w.greatest - w.least ≤ 20 →
      attemptFailure s w =
        if w.sum.tdiv w.count < qualifiedFloor s (w.sum.tdiv w.count) + 20 then some .weak else none)) ∧
  (∀ (s : State) (ps : Int), 0 ≤ ps →
    (s.param 39 ≠ 1 → qualifiedFloor s ps = s.param 38) ∧
    (s.param 39 = 1 → qualifiedFloor s ps % 5 = 0 ∧
      qualifiedFloor s ps ≤ max (s.param 38) (ps - (ps * s.param 40).tdiv 100) ∧
      max (s.param 38) (ps - (ps * s.param 40).tdiv 100) < qualifiedFloor s ps + 5)) ∧
  (∀ s : State, s.powered = true → s.supply.attempt.isSome = true → attemptFailure s s.supply.window = none →
    s.supply.state = .hydrantQualifying → ∃ u : State,
    exec .attemptTimerExpiry s = .next (finish u) ∧
    u.supply.state = .hydrant ∧ u.supply.hydrant = some (s.supply.window.sum.tdiv s.supply.window.count) ∧
    u.supply.floor = qualifiedFloor s (s.supply.window.sum.tdiv s.supply.window.count) ∧
    u.supply.attempt = none ∧ u.supply.limit = s.supply.limit ∧
    u.valves.mainValve.openCmd = false ∧ u.valves.reserveValve.openCmd = false ∧
    u.governor.shadow = s.governor.shadow ∧ u.governor.active = s.governor.active ∧ ∃ x : State,
    u = record .supplyQualified
      { value := some (s.supply.window.sum.tdiv s.supply.window.count)
        second := some (qualifiedFloor s (s.supply.window.sum.tdiv s.supply.window.count))
        cause := some (.floor (if s.param 39 = 1 then .autoFloor else .fixedFloor)) } x ∧
    x.notices.disabled = s.notices.disabled ∧ x.clock = s.clock) ∧
  (∀ (s : State) (r : AttemptReason), s.powered = true → s.supply.attempt.isSome = true →
    attemptFailure s s.supply.window = some r → s.supply.attempts + 1 < 7 →
    exec .attemptTimerExpiry s = .next (finish
      { s.fresh with supply := { s.supply with
          attempts := s.supply.attempts + 1, lastReason := some r, attempt := some ⟨2000, 0⟩
          window := ⟨0, 0, 0, 0, false⟩ } })) ∧
  (∀ (s : State) (r : AttemptReason), s.powered = true → s.supply.attempt.isSome = true →
    attemptFailure s s.supply.window = some r → 6 ≤ s.supply.attempts → ∃ u : State,
    exec .attemptTimerExpiry s = .next (finish u) ∧ u.supply.attempts = 7 ∧ u.supply.lastReason = some r ∧
    u.supply.attempt = none ∧
    (u.supply.state = .tank ∨ u.supply.state = .switching ∨ u.supply.state = .noSupply) ∧
    TankFeedReturned s u ∧
    u = returnToTank (record .supplyRejected { value := some 7, cause := some (.attempt r) }
      { s.fresh with supply := { s.supply with attempts := 7, lastReason := some r, attempt := none } })) ∧
  ∀ s : State, s.powered = true → s.supply.attempt = none → exec .attemptTimerExpiry s = .next (finish s.fresh)

/-- The prime timer's expiry makes DRAFT the supply with the primer off and PRIMING ended, and records PRIME_DONE, after
the hand-on (log entry 27), with the whole seconds the primer ran (R113). The primer limit's abandons the prime, records
PRIME_FAILED with the phase and the cause TIMEOUT, and returns to tank feed (R114; PrimeAbandoned); so do, with their
causes, SET_SUPPLY TANK, OPERATOR, the operator's IDLE, OPERATOR_IDLE, and a tank valve STUCK_OPEN in CLOSING_TANK,
VALVE. As the PTO leaves ENGAGED the cause is DISENGAGE or PTO_RELEASED by the release, and no end order is sent (R99,
R114; log entry 17). An expiry whose timer does not run has no effect (log entry 2). -/
def Obligations.PrimeTimersEndThePriming : Prop :=
  (∀ s : State, s.powered = true → s.supply.prime.isSome = true → s.supply.primeHeld = true → ∃ u : State,
    exec .primeTimerExpiry s = .next (finish u) ∧
    u.supply.state = .draft ∧ u.supply.phase = none ∧ u.supply.floor = s.param 37 ∧ u.supply.prime = none ∧
    u.supply.primerLimit = none ∧ u.supply.primeHeld = false ∧ u.outputs.primer = ⟨false, none⟩ ∧
    .priming ∉ u.governor.overrides ∧ u.governor.shadow = s.governor.shadow ∧
    u.valves.mainValve = s.valves.mainValve ∧ u.valves.reserveValve = s.valves.reserveValve ∧
    u.outputs = { s.outputs with primer := ⟨false, none⟩ } ∧ ∃ x : State,
    u = record .primeDone
      { value := some (((s.supply.primerLimit.map (·.elapsed)).getD 0 / 1000 : Nat) : Int) } x ∧
    x.notices.disabled = s.notices.disabled ∧ x.clock = s.clock) ∧
  (∀ s : State, s.powered = true → s.supply.primerLimit.isSome = true → s.supply.primeHeld = true → ∃ u : State,
    exec .primerLimitExpiry s = .next (finish u) ∧
    (u.supply.state = .tank ∨ u.supply.state = .switching ∨ u.supply.state = .noSupply) ∧
    u.supply.prime = none ∧ u.supply.primerLimit = none ∧ u.supply.primeHeld = false ∧
    u.outputs = { s.outputs with primer := ⟨false, none⟩ } ∧ .priming ∉ u.governor.overrides ∧
    u.governor.shadow = s.governor.shadow ∧ PrimeAbandoned .timeout s.fresh u) ∧
  (∀ (s : State) (tag : Byte), Ready s → s.supply.state = .draftPriming → ∃ u v : State,
    exec (.setSupply tag 0) s = .next (finish (u.answered 26 tag .ok
      [BitVec.ofNat 8 u.supply.state.ctorIdx, BitVec.ofNat 8 (32 + u.supply.selected.ctorIdx)])) ∧
    PrimeAbandoned .operator s.fresh u ∧
    (.priming ∈ s.governor.overrides →
      exec (.idle tag) s = .next (finish (v.answered 25 tag .ok (setpointBytes v))) ∧
      PrimeAbandoned .operatorIdle s.fresh v)) ∧
  (∀ (s : State) (t : Tank), s.supply.state = .draftPriming → s.supply.phase = some .closingTank →
    (∃ v : ValveRole, (v = .mainValve ∨ v = .reserveValve) ∧ (s.valve v).state = .fault ∧
      (s.valve v).fault = some .stuckOpen) →
    PrimeAbandoned .valve s (supplyOnValve t s)) ∧
  (∀ s : State, NotShifting s → s.supply.state = .draftPriming →
    (∀ t : Tank, (s.tank t).stage = .off ∨ (s.tank t).stage = .suspended ∨ (s.tank t).stage = .timeout) →
    let u := supplyLeaveEngaged s
    u.notices = (record .primeFailed
      { old := s.supply.phase.map .phase
        cause := some (.prime (if s.drive.release = some .operator then .disengage else .ptoReleased)) } s).notices ∧
    u.supply.state = .idle ∧ u.supply.phase = none ∧ u.supply.prime = none ∧ u.supply.primerLimit = none ∧
    u.supply.primeHeld = false ∧ u.outputs = { s.outputs with primer := ⟨false, none⟩ } ∧
    u.valves.mainValve.openCmd = false ∧ u.valves.reserveValve.openCmd = false) ∧
  ∀ (s : State) (c : Instr), s.powered = true →
    (c = .primeTimerExpiry ∧ s.supply.prime = none) ∨ (c = .primerLimitExpiry ∧ s.supply.primerLimit = none) →
    exec c s = .next (finish s.fresh)

/-- The settle timer's expiry ends a switch in TANK, ends the override the unit holds and records SWITCHOVER_DONE, after
the notices of the hand-on (log entry 27), its cause UNCONFIRMED where the target stood in FAULT STUCK_OPEN (R120,
R121); the loss timer's is a protective event, sets the latch and takes the supply to a tank, RESERVE among them, where
the settings allow (R117, R118), a fill due to open together with the tank so opened, RESERVE too, being suspended in
either order (R145, log entry 41); the activity timer's sounds LIMITER (R116). The valves the supply waits for carry it
on: a target that opens is SETTLING or, where it cannot, exhausts the supply (R119, R121), and CLOSING_TANK primes as
the last tank valve arrives and fails the prime where one is STUCK_OPEN (R112 to R114); a valve it does not wait for
only arrives. An expiry whose timer does not run has no effect (log entry 2). -/
def Obligations.SupplyTimersAct : Prop :=
  (∀ s : State, s.powered = true → s.supply.settle.isSome = true → ∃ u x : State,
    let target := s.valve (tankValve s.supply.selected)
    exec .switchSettleExpiry s = .next (finish u) ∧
    u = record .switchoverDone
      { subject := some (.tank s.supply.selected), old := some (.supply s.supply.switchFrom), new := some (.supply .tank)
        cause := some (.confirmation
          (if s.supply.targetStuck = true ∨ target.state = .fault then .unconfirmed else target.confirmation)) } x ∧
    x.notices.disabled = s.notices.disabled ∧ x.clock = s.clock ∧
    u.supply.state = .tank ∧ u.supply.phase = none ∧ u.supply.settle = none ∧ u.supply.switchHeld = false ∧
    u.supply.selected = s.supply.selected ∧ u.supply.floor = s.param 36 ∧
    (s.supply.switchHeld = true → .switchover ∉ u.governor.overrides) ∧
    (∀ v : ValveRole, v = .mainValve ∨ v = .reserveValve → u.valve v = s.valve v)) ∧
  (∀ s : State, s.powered = true → s.supply.loss.isSome = true →
    s.param 43 ≠ 1 ∨ ((s.tank s.supply.selected).state = .empty ∧
      (s.supply.selected = .reserve ∨ s.param 44 ≠ 1 ∨ s.tanks.reserve.state = .empty)) →
    let lost := record .supplyLost
      { old := some (.supply s.supply.state), value := some (s.published .intakeP), cause := some (.loss .none) } s
    exec .lossTimerExpiry s = .next (finish
      { s.fresh with
        supply := { s.supply with loss := none, lossLatch := true }
        trend := { s.trend with fast := 30, sample := if s.trend.fast = 0 then ⟨1000, 0⟩ else s.trend.sample }
        notices := lost.notices, tx := lost.tx })) ∧
  (∀ s : State, s.powered = true → s.supply.loss.isSome = true → s.param 43 = 1 →
    (s.tank s.supply.selected).state ≠ .empty → s.supply.switchHeld = false → s.drive.pto = .engaged → ∃ u : State,
    exec .lossTimerExpiry s = .next (finish u) ∧ u.trend.fast = 30 ∧
    (u.supply.state = .switching ∧ u.supply.switchHeld = true ∧ .switchover ∈ u.governor.overrides ∨
      u.supply.state = .noSupply) ∧
    u.supply.selected = s.supply.selected ∧ SwitchBegun s.supply.selected s u) ∧
  (∀ s : State, s.powered = true → s.supply.loss.isSome = true → s.param 43 = 1 → s.param 44 = 1 →
    s.supply.selected = .main → s.tanks.main.state = .empty → s.tanks.reserve.state ≠ .empty →
    s.supply.switchHeld = false → s.drive.pto = .engaged → ∃ u : State,
    exec .lossTimerExpiry s = .next (finish u) ∧ u.trend.fast = 30 ∧ u.supply.selected = .reserve ∧
    SwitchBegun .reserve s u ∧
    (u.supply.state = .switching ∧ u.supply.switchHeld = true ∧ .switchover ∈ u.governor.overrides ∨
      u.supply.state = .noSupply)) ∧
  (∀ (s : State) (t : Tank) (p e : Nat), s.supply.loss.isSome = true → s.param 43 = 1 →
    (t = s.supply.selected ∧ (s.tank t).state ≠ .empty) ∨ (t = .reserve ∧ s.supply.selected = .main ∧
      s.param 44 = 1 ∧ s.tanks.main.state = .empty ∧ s.tanks.reserve.state ≠ .empty) →
    (s.tank t).stage = .topoff → (s.tank t).phase = some .closedPhase →
    (s.tank t).cycle = some ⟨p, e⟩ → p ≤ e → fillPermission s t = true →
    let u := expireLoss s
    (s.powered = true → exec .lossTimerExpiry s = .next (finish (expireLoss s.fresh))) ∧
    (u.tank t).stage = .suspended ∧ (u.tank t).fillOpen = false ∧ (u.valve (fillValve t)).openCmd = false ∧
    (freeBit s = true → (u.valve (tankValve t)).openCmd = true → ∃ x : State, u = record .valveInterlock
      { subject := some (.valve (fillValve t)), cause := some (.blockedBy (tankValve t)) } x)) ∧
  (∀ s : State, s.powered = true → s.supply.activity.isSome = true → ∃ u : State,
    exec .limiterActivityExpiry s = .next (finish u) ∧ .limiter ∈ u.alarm.causes ∧
    u = { s.fresh with
      supply := { s.supply with activity := none }, alarm := u.alarm, notices := u.notices, tx := u.tx } ∧
    u.notices = (record .limiterActive
      { value := some s.supply.floor, cause := some (.supplyState s.supply.state) } s).notices) ∧
  (∀ (s : State) (c : Instr), s.powered = true →
    (c = .switchSettleExpiry ∧ s.supply.settle = none) ∨ (c = .lossTimerExpiry ∧ s.supply.loss = none) ∨
    (c = .limiterActivityExpiry ∧ s.supply.activity = none) →
    exec c s = .next (finish s.fresh)) ∧
  -- valves that arrive: by their feedback (the hand-on of a changed input) or, with none, by their travel time
  (∀ (s : State) (v : ValveRole), s.powered = true → (s.valve v).travel.isSome = true → Unwatched s v →
    (s.valve v).state = .opening ∧ feedback s v = none ∨ (s.valve v).state = .closing ∧ feedback s v ≠ some true →
    exec (.travelTimerExpiry v) s = .next (finish { s.fresh with
      valves := setValve s.valves v
        ({ s.valve v with
        state := if (s.valve v).state = .opening then .atOpen else .atClosed, tries := 0, retry := none, travel := none
        confirmation := if feedback s v = none then .unconfirmed else .confirmed }) })) ∧
  (∀ s : State, s.powered = true → s.supply.state = .switching → s.supply.phase = some .openingTarget →
    let v := tankValve s.supply.selected
    (s.valve v).state = .opening →
    let settled := fun u : State => (u.valve v).state = .atOpen ∧ u = { s with
      supply := { s.supply with phase := some .settling, settle := some ⟨5000, 0⟩, targetStuck := false }
      valves := setValve s.valves v (u.valve v), choices := u.choices, choiceCount := u.choiceCount }
    (∀ (w : Terminal) (r : Role), feedbackRole v = some r → settled (inputChange w r true s)) ∧
    ((s.valve v).travel.isSome = true → feedback s v = none → ∃ u : State,
      exec (.travelTimerExpiry v) s = .next (finish u) ∧ settled u) ∧
    ((s.valve v).travel.isSome = true → feedback s v = some false → (s.valve v).tries = 2 → ∃ u : State,
      exec (.travelTimerExpiry v) s = .next (finish u) ∧ u.supply.state = .noSupply ∧ .exhausted ∈ u.alarm.causes ∧
      (u.valve v).openCmd = false ∧ u.governor.demand = 0)) ∧
  (∀ s : State, s.supply.state = .switching → s.supply.phase = some .closingOther →
    let v := tankValve (otherTank s.supply.selected)
    let a := s.valve (tankValve s.supply.selected)
    (s.valve v).state = .closing → (s.valve v).openCmd = false → a.openCmd = false →
    ∀ (w : Terminal) (r : Role), feedbackRole v = some r →
    let u := inputChange w r false s
    (a.state = .atClosed → feedback s (tankValve s.supply.selected) ≠ some true →
      (u.valve v).state = .atClosed ∧ u.supply = { s.supply with phase := some .openingTarget } ∧
      (u.valve (tankValve s.supply.selected)).openCmd = true ∧
      (u.valve (tankValve s.supply.selected)).state = .opening) ∧
    (a.state = .fault → a.fault = some .stuckOpen →
      (u.valve v).state = .atClosed ∧ (u.valve (tankValve s.supply.selected)).openCmd = true ∧
      u.supply = { s.supply with phase := some .settling, settle := some ⟨5000, 0⟩, targetStuck := true })) ∧
  ∀ (s : State) (t : Tank), s.powered = true → s.supply.state = .draftPriming → s.supply.phase = some .closingTank →
    let v := tankValve t
    let other := s.valve (tankValve (otherTank t))
    (s.valve v).state = .closing →
    (other.state = .atClosed ∨ (other.state = .fault ∧ other.fault = some .noOpen) → s.drive.pto = .engaged →
      .priming ∉ s.governor.overrides →
      let primed := fun u : State => (u.valve v).state = .atClosed ∧ u.supply = { s.supply with
          phase := some .priming, primerLimit := some ⟨s.paramNat 42 * 1000, 0⟩, primeHeld := true } ∧
        u.outputs = { s.outputs with primer := ⟨true, none⟩ } ∧ .priming ∈ u.governor.overrides ∧
        u.governor.shadow = s.governor.shadow
      (∀ (w : Terminal) (r : Role), feedbackRole v = some r → primed (inputChange w r false s)) ∧
      ((s.valve v).travel.isSome = true → feedback s v ≠ some true → ∃ u : State,
        exec (.travelTimerExpiry v) s = .next (finish u) ∧ primed u)) ∧
    ((s.valve v).travel.isSome = true → feedback s v = some true → ∃ u : State,
      exec (.travelTimerExpiry v) s = .next (finish u) ∧ (u.valve v).state = .fault ∧
      (u.valve v).fault = some .stuckOpen ∧ .valve ∈ u.alarm.causes ∧ u.supply.state ≠ .draftPriming ∧
      u.supply.state ≠ .idle ∧ u.outputs.primer = ⟨false, none⟩ ∧ u.supply.primeHeld = false)

/-! ### Tanks -/

/-- The volume a table gives for a level (R127): the first point's below it, the last point's at and above it, the
truncated interpolation between two points, and never less for a higher level. -/
def Obligations.MeasuredVolumeIsInterpolated : Prop :=
  (∀ (l : List (Nat × Nat)) (p : Nat × Nat) (h : Nat), h < p.1 → tableVolume (p :: l) h = p.2) ∧
  (∀ (l : List (Nat × Nat)) (p : Nat × Nat) (h : Nat), ascending (l ++ [p]) = true → p.1 ≤ h →
    tableVolume (l ++ [p]) h = p.2) ∧
  (∀ (l r : List (Nat × Nat)) (p q : Nat × Nat) (h : Nat), ascending (l ++ p :: q :: r) = true → p.1 ≤ h → h < q.1 →
    tableVolume (l ++ p :: q :: r) h = p.2 + (q.2 - p.2) * (h - p.1) / (q.1 - p.1)) ∧
  (∀ (l : List (Nat × Nat)) (h k : Nat), ascending l = true → h ≤ k → tableVolume l h ≤ tableVolume l k) ∧
  (∀ (l r : List (Nat × Nat)) (p : Nat × Nat), ascending (l ++ p :: r) = true → tableVolume (l ++ p :: r) p.1 = p.2) ∧
  ∀ (s : State) (t : Tank) (h : Nat), (s.tank t).level = (h : Int) → measuredVolume s t = tableVolume (s.tank t).table h

/-- The level state of a volume (R132): UNKNOWN without one; the present state inside its own band; else the entry
state, EMPTY tried before LOW and LOW before FULL (log entry 38). An evaluation leaves the tank in that state. A tank's
volume comes to an evaluation at a published set (R130), at a gate, on an estimate, in any order with the totals (R136,
log entries 5 and 29), and at the end of an estimate, before the permission is reviewed (R137, log entry 22). Each
evaluation reaches the fill's stage; a changed level state records TANK_STATE first and is handed to the supply, the
conditions and the fill in any order (R133, log entry 5), and LOW_TANK follows. The supply acts on the selected tank's
alone: an EMPTY tank exhausts TANK and SWITCHING or turns them to RESERVE (R101, R102, R121), SUPPLY_EXHAUSTED being
recorded after the hand-on (log entry 27), closes both tank valves while a hydrant is qualified (R111), and a tank that
is EMPTY no more brings NO_SUPPLY back to it (R103). -/
def Obligations.LevelStateHasItsBands : Prop :=
  (∀ (s : State) (t : Tank),
    ((s.tank t).volume = none → nextLevel s t = .unknown) ∧
    (∀ v : Nat, (s.tank t).volume = some v →
      let held := ((s.tank t).state = .empty ∧ v ≤ emptyAt s t + hysteresis s t) ∨
        ((s.tank t).state = .low ∧ emptyAt s t < v ∧ v ≤ lowAt s t + hysteresis s t) ∨
        ((s.tank t).state = .normal ∧ lowAt s t < v ∧ v < fullAt s t) ∨
        ((s.tank t).state = .full ∧ fullAt s t - hysteresis s t ≤ v)
      (held → nextLevel s t = (s.tank t).state) ∧
      (¬held → nextLevel s t =
        if v ≤ emptyAt s t then .empty else if v ≤ lowAt s t then .low
        else if fullAt s t ≤ v then .full else .normal)) ∧
    ((evaluateLevel t s).tank t).state = nextLevel s t ∧
    ((evaluateLevel t s).tank t).volume = (s.tank t).volume) ∧
  -- what comes to an evaluation: a published set, a gate on an estimate, and the end of an estimate
  (∀ (s : State) (t : Tank), (s.tank t).estimating = none → s.healthOf (headChannel t) = .ok →
    let p := s.published (headChannel t)
    publishTank t s = evaluateLevel t (s.modTank t fun r =>
      { r with level := p, headKnown := true, volume := some (tableVolume r.table p.toNat) })) ∧
  (∀ (s : State) (t : Tank) (feeding : Option Tank) (inc e : Nat), (s.tank t).estimating.isSome = true →
    (s.tank t).estimate = some e →
    let left := if feeding = some t then e - inc else e
    gateTank feeding inc t s =
      evaluateLevel t (s.modTank t fun r => { r with estimate := some left, volume := some (left / 1000) })) ∧
  (∀ s : State, s.powered = true → ∃ l : List (State → State),
    let inc := (s.sense.pulses.dischargeFlow.current * 100000 + s.sense.remainder) / s.paramNat 21
    l.Perm [addTotal .incident inc, addTotal .run inc, gateTank (feedingTank s) inc .main,
      gateTank (feedingTank s) inc .reserve] ∧
    exec .gateComplete s = .next (finish (l.foldl (fun u act => act u)
      { s.fresh with sense := senseAfterGate s s.sense, choices := s.fresh.choices.drop 4 }))) ∧
  (∀ (s : State) (t : Tank), s.powered = true → (s.tank t).settle.isSome = true →
    ∃ (found : Option Reconciliation) (kept : Option Reconciliation),
    exec (.tankSettleExpiry t) s = .next (finish (recordReconciled t found (reviewFill t (evaluateLevel t
      (s.fresh.modTank t fun r => { r with
        headKnown := true, recon := kept, estimating := none, frozen := none, estimate := none, settle := none
        volume := some (tableVolume r.table r.level.toNat) })))))) ∧
  -- what an evaluation leads to
  (∀ (s : State) (t : Tank), nextLevel s t = (s.tank t).state → evaluateLevel t s = evaluateStage t s) ∧
  (∀ (s : State) (t : Tank), nextLevel s t ≠ (s.tank t).state → ∃ l : List (State → State),
    let old := (s.tank t).state
    let new := nextLevel s t
    l.Perm [supplyOnLevel t old, conditionEvent, fun u => reviewFill t (evaluateStage t u)] ∧
    evaluateLevel t s = reviewLowTank (l.foldl (fun u act => act u)
      { record .tankState
          { subject := some (.tank t), old := some (.level old), new := some (.level new)
            value := if new = .unknown then none else (s.tank t).volume.map Int.ofNat }
          (s.modTank t fun r => { r with state := new }) with
        choices := s.choices.drop 3 })) ∧
  (∀ s : State, let u := reviewLowTank s
    u = { s with alarm := u.alarm } ∧
    ∀ c : AlarmCause, c ∈ u.alarm.causes ↔ if c = .lowTank then
      s.drive.pto = .engaged ∧
        ((s.tank s.supply.selected).state = .low ∨ (s.tank s.supply.selected).state = .empty)
      else c ∈ s.alarm.causes) ∧
  -- the supply at a change of a tank's level state
  (∀ (s : State) (t : Tank) (old : LevelState),
    t ≠ s.supply.selected ∨ s.supply.state = .idle ∨ s.supply.state = .hydrant ∨ s.supply.state = .draftPriming ∨
      s.supply.state = .draft ∨ (s.supply.state ≠ .noSupply ∧ (s.tank t).state ≠ .empty) ∨
      (s.supply.state = .noSupply ∧ (old ≠ .empty ∨ (s.tank t).state = .empty)) →
    supplyOnLevel t old s = s) ∧
  (∀ (s : State) (t : Tank) (old : LevelState), s.supply.state = .hydrantQualifying → t = s.supply.selected →
    (s.tank t).state = .empty → let u := supplyOnLevel t old s
    u.valves.mainValve.openCmd = false ∧ u.valves.reserveValve.openCmd = false ∧
    u = { s with tanks := u.tanks, valves := u.valves, notices := u.notices, tx := u.tx }) ∧
  (∀ (s : State) (t : Tank) (old : LevelState), s.supply.state = .tank ∨ s.supply.state = .switching →
    t = s.supply.selected → (s.tank t).state = .empty →
    t = .reserve ∨ s.param 44 ≠ 1 ∨ s.tanks.reserve.state = .empty → let u := supplyOnLevel t old s
    u.supply.state = .noSupply ∧ u.supply.phase = none ∧ u.supply.selected = t ∧ u.supply.limit = 1000 ∧
    u.supply.settle = none ∧ u.supply.switchHeld = false ∧
    (s.supply.switchHeld = true → .switchover ∉ u.governor.overrides) ∧ u.governor.demand = 0 ∧
    u.governor.shadow = s.governor.shadow ∧
    u.valves.mainValve.openCmd = false ∧ u.valves.reserveValve.openCmd = false ∧
    .exhausted ∈ u.alarm.causes ∧ .limiter ∉ u.alarm.causes ∧ ∃ x : State,
    u.notices = (record .supplyExhausted
      { subject := some (.tank t), old := some (.supply s.supply.state), new := some (.supply .noSupply)
        cause := some (.exhausted .tankEmpty) } x).notices ∧
    x.notices.disabled = s.notices.disabled ∧ x.clock = s.clock) ∧
  (∀ (s : State) (old : LevelState), s.supply.state = .tank ∨ s.supply.state = .switching →
    s.supply.selected = .main → s.tanks.main.state = .empty → s.param 44 = 1 → s.tanks.reserve.state ≠ .empty →
    s.drive.pto = .engaged → let u := supplyOnLevel .main old s
    u.supply.selected = .reserve ∧ (u.supply.state = .switching ∨ u.supply.state = .noSupply) ∧
    SwitchBegun .reserve s u ∧
    (s.valves.mainValve.openCmd = true → s.valves.mainValve.state = .atOpen →
      u.supply.state = .switching ∧ u.supply.phase = some .closingOther ∧ u.supply.switchHeld = true ∧
      (s.supply.switchHeld = false → .switchover ∈ u.governor.overrides) ∧
      u.valves.mainValve.openCmd = false ∧ u.valves.mainValve.state = .closing ∧
      u.valves.reserveValve = s.valves.reserveValve ∧
      u.supply.switchFrom = if s.supply.state = .switching then s.supply.switchFrom else s.supply.state)) ∧
  ∀ (s : State) (t : Tank), s.supply.state = .noSupply → t = s.supply.selected → (s.tank t).state ≠ .empty →
    let u := supplyOnLevel t .empty s
    (u.supply.state = .tank ∨ u.supply.state = .switching ∨ u.supply.state = .noSupply) ∧
    u.supply.selected = t ∧ TankFeedReturned s u ∧
    ((s.valve (tankValve (otherTank t))).openCmd = false → (s.valve (tankValve t)).state ≠ .fault →
      u.supply.state = .tank ∧ (u.valve (tankValve t)).openCmd = true ∧ .exhausted ∉ u.alarm.causes)

/-- FILL_START and FILL_STOP and the two fill timers (R140 to R142, R144, R146). A start judged well is BUSY while a
fill runs, BAD_STATE with the failing parts while the permission does not hold, and else enters the stage its volume
chooses. A stop is always taken. The cycle timer opens and closes the valve in turn; the safety timer ends the fill in
TIMEOUT; an expiry whose timer does not run has no effect (log entry 2). An evaluation of the volume moves the fill from
BULK to TOPOFF and on to FULL_HOLD, and from FULL_HOLD to BULK (R141 to R143); where that return falls with a supply
loss that opens the tank, the order with the tank valve first leaves the fill SUSPENDED and records VALVE_INTERLOCK
(R145, log entry 41). A lost permission suspends a running fill, and a returned one resumes it, its held safety timer
going on where the stage is the one it left (R145). -/
def Obligations.FillRequestsAndTimers : Prop :=
  (∀ (s : State) (tag b : Byte) (i : Instr) (code : Byte), Ready s → b ≠ 32 → b ≠ 33 →
    (i = .fillStart tag b ∧ code = 28) ∨ (i = .fillStop tag b ∧ code = 29) →
    exec i s = .next (finish (s.fresh.answered code tag .badValue []))) ∧
  (∀ (s : State) (tag : Byte) (t : Tank), Ready s → judge s .fillStart = .passed →
    (s.tank t).stage ≠ .off → (s.tank t).stage ≠ .timeout →
    exec (.fillStart tag (BitVec.ofNat 8 (32 + t.ctorIdx))) s =
      .next (finish (s.fresh.answered 28 tag .busy [BitVec.ofNat 8 (s.tank t).stage.ctorIdx]))) ∧
  (∀ (s : State) (tag : Byte) (t : Tank), Ready s → judge s .fillStart = .passed →
    (s.tank t).stage = .off ∨ (s.tank t).stage = .timeout → fillPermission s t = false →
    exec (.fillStart tag (BitVec.ofNat 8 (32 + t.ctorIdx))) s =
      .next (finish (s.fresh.answered 28 tag .badState
        (setBytes allPermissionParts (allPermissionParts.filter fun p => !permissionPart s t p) ++
          [BitVec.ofNat 8 (s.tank t).stage.ctorIdx])))) ∧
  (∀ (s : State) (tag : Byte) (t : Tank) (v : Nat), Ready s → judge s .fillStart = .passed →
    (s.tank t).stage = .off ∨ (s.tank t).stage = .timeout → fillPermission s t = true → (s.tank t).volume = some v →
    ∃ u : State,
    exec (.fillStart tag (BitVec.ofNat 8 (32 + t.ctorIdx))) s =
      .next (finish (u.answered 28 tag .ok [BitVec.ofNat 8 (u.tank t).stage.ctorIdx])) ∧
    u.tank t = { s.tank t with
      stage := if v < topoffAt s t then .bulk else if v < fullAt s t then .topoff else .fullHold
      suspendedFrom := none
      safety := if v < topoffAt s t then some ⟨0, s.paramNat 50 * 60000⟩
        else if v < fullAt s t then some ⟨0, s.paramNat 51 * 60000⟩ else none
      phase := if v < topoffAt s t then none else if v < fullAt s t then some .openPhase else none
      cycle := if v < topoffAt s t then none else if v < fullAt s t then some ⟨2000, 0⟩ else none
      fillOpen := decide (v < topoffAt s t ∨ v < fullAt s t) } ∧
    (u.valve (fillValve t)).openCmd = decide (v < topoffAt s t ∨ v < fullAt s t) ∧
    u = { s.fresh with tanks := u.tanks, valves := u.valves, notices := u.notices, tx := u.tx } ∧
    u.tank (otherTank t) = s.tank (otherTank t) ∧ (∀ w, w ≠ fillValve t → u.valve w = s.valve w)) ∧
  (∀ (s : State) (tag : Byte) (t : Tank), Ready s → ∃ u : State,
    exec (.fillStop tag (BitVec.ofNat 8 (32 + t.ctorIdx))) s = .next (finish (u.answered 29 tag .ok [])) ∧
    (u.tank t).stage = .off ∧ ((s.tank t).stage = .off → u = s.fresh) ∧
    ((s.tank t).stage ≠ .off →
      u.tank t = { s.tank t with
        stage := .off, suspendedFrom := none, safety := none, phase := none, cycle := none, fillOpen := false } ∧
      (u.valve (fillValve t)).openCmd = false) ∧
    u = { s.fresh with tanks := u.tanks, valves := u.valves, notices := u.notices, tx := u.tx } ∧
    u.tank (otherTank t) = s.tank (otherTank t) ∧ (∀ w, w ≠ fillValve t → u.valve w = s.valve w)) ∧
  (∀ (s : State) (t : Tank) (ph : CyclePhase), s.powered = true → (s.tank t).cycle.isSome = true →
    (s.tank t).phase = some ph → (s.valve (tankValve t)).openCmd = false → ∃ u : State,
    exec (.cycleTimerExpiry t) s = .next (finish u) ∧
    u.tank t = (if ph = .openPhase then
        { s.tank t with phase := some .closedPhase, cycle := some ⟨3000, 0⟩, fillOpen := false }
      else { s.tank t with phase := some .openPhase, cycle := some ⟨2000, 0⟩, fillOpen := true }) ∧
    (u.valve (fillValve t)).openCmd = decide (ph = .closedPhase) ∧
    u = { s.fresh with tanks := u.tanks, valves := u.valves } ∧
    u.tank (otherTank t) = s.tank (otherTank t) ∧ (∀ w, w ≠ fillValve t → u.valve w = s.valve w)) ∧
  (∀ (s : State) (t : Tank), s.powered = true → (s.tank t).stage = .bulk ∨ (s.tank t).stage = .topoff → ∃ u : State,
    exec (.safetyTimerExpiry t) s = .next (finish u) ∧
    u.tank t = { s.tank t with
      stage := .timeout, suspendedFrom := none, safety := none, phase := none, cycle := none, fillOpen := false } ∧
    (u.valve (fillValve t)).openCmd = false ∧
    u = { s.fresh with tanks := u.tanks, valves := u.valves, notices := u.notices, tx := u.tx } ∧
    u.tank (otherTank t) = s.tank (otherTank t) ∧ (∀ w, w ≠ fillValve t → u.valve w = s.valve w) ∧
    u.notices = (record .fillTimeout
      { subject := some (.tank t), old := some (.stage (s.tank t).stage), new := some (.stage .timeout)
        value := (s.tank t).volume.map Int.ofNat } s).notices) ∧
  (∀ (s : State) (t : Tank) (c : Instr), s.powered = true →
    (c = .cycleTimerExpiry t ∧ (s.tank t).cycle = none) ∨
    (c = .safetyTimerExpiry t ∧ (s.tank t).stage ≠ .bulk ∧ (s.tank t).stage ≠ .topoff) →
    exec c s = .next (finish s.fresh)) ∧
  -- an evaluation of the volume
  (∀ (s : State) (t : Tank), (s.tank t).volume = none → evaluateStage t s = s) ∧
  (∀ (s : State) (t : Tank) (v : Nat), (s.tank t).volume = some v → (s.valve (tankValve t)).openCmd = false →
    s.supply.loss = none ∨ (∃ x : Timer, s.supply.loss = some x ∧ x.elapsed < x.period) ∨ freeBit s = false ∨
      fillPermission s t = false ∨ (s.tank t).stage ≠ .fullHold →
    let r := s.tank t
    let u := evaluateStage t s
    let stage := match r.stage with
      | .bulk => if v < topoffAt s t then FillStage.bulk else if v < fullAt s t then .topoff else .fullHold
      | .topoff => if v < fullAt s t then .topoff else .fullHold
      | .fullHold => if v < refillAt s t then .bulk else .fullHold
      | .off => .off
      | .suspended => .suspended
      | .timeout => .timeout
    let changed := fun before after : FillStage => record .fillStage
      { subject := some (.tank t), old := some (.stage before), new := some (.stage after), value := some (v : Int)
        cause := some (.fill .volume) }
    let n := if r.stage = .bulk ∧ stage = .fullHold then changed .topoff .fullHold (changed .bulk .topoff s)
      else changed r.stage stage s
    (stage = r.stage → u = s) ∧
    (stage ≠ r.stage →
      u.tank t = fillingIn stage (if stage = .bulk then some ⟨0, s.paramNat 50 * 60000⟩
        else if stage = .topoff then some ⟨0, s.paramNat 51 * 60000⟩ else none) r ∧
      (u.valve (fillValve t)).openCmd = decide (stage ≠ .fullHold) ∧ FillOnly t s u ∧ u.notices = n.notices ∧
      u.tx = n.tx)) ∧
  (∀ (s : State) (t : Tank) (v p e : Nat), (s.tank t).volume = some v → (s.tank t).stage = .fullHold →
    v < refillAt s t → fillPermission s t = true → s.supply.loss = some ⟨p, e⟩ → p ≤ e → freeBit s = true →
    let u := evaluateStage t s
    ((u.valve (tankValve t)).openCmd = true →
      (u.tank t).stage = .suspended ∧ (u.tank t).suspendedFrom = some .bulk ∧ (u.tank t).fillOpen = false ∧
      (u.valve (fillValve t)).openCmd = false ∧ u.supply.state = .switching ∧ u.supply.selected = t ∧
      ∃ x : State, u = record .valveInterlock
        { subject := some (.valve (fillValve t)), cause := some (.blockedBy (tankValve t)) } x) ∧
    ((u.valve (tankValve t)).openCmd = false →
      (u.tank t).stage = .bulk ∧ (u.valve (fillValve t)).openCmd = true ∧ u.supply = s.supply) ∧
    (s.param 43 = 1 → t = s.supply.selected → (s.tank t).state ≠ .empty →
      (s.valve (tankValve (otherTank t))).openCmd = false → (s.valve (tankValve (otherTank t))).state = .atClosed →
      (s.valve (tankValve t)).state ≠ .fault → (u.valve (tankValve t)).openCmd = true)) ∧
  -- the permission reviewed
  (∀ (s : State) (t : Tank), let stage := (s.tank t).stage
    stage = .off ∨ stage = .timeout ∨ (stage = .suspended ∧ fillPermission s t = false) ∨
      (stage ≠ .suspended ∧ fillPermission s t = true) → reviewFill t s = s) ∧
  (∀ (s : State) (t : Tank), let r := s.tank t
    r.stage = .bulk ∨ r.stage = .topoff ∨ r.stage = .fullHold → fillPermission s t = false →
    let u := reviewFill t s
    let n := record .fillStage
      { subject := some (.tank t), old := some (.stage r.stage), new := some (.stage .suspended)
        value := r.volume.map Int.ofNat, cause := some (.fill .permissionLost) } s
    u.tank t = { r with
      stage := .suspended, suspendedFrom := some r.stage, phase := none, cycle := none, fillOpen := false } ∧
    (u.valve (fillValve t)).openCmd = false ∧ FillOnly t s u ∧ u.notices = n.notices ∧ u.tx = n.tx) ∧
  ∀ (s : State) (t : Tank) (v : Nat), (s.tank t).stage = .suspended → fillPermission s t = true →
    (s.tank t).volume = some v → let r := s.tank t
    let u := reviewFill t s
    let stage : FillStage := if r.suspendedFrom = some .fullHold ∧ refillAt s t ≤ v then .fullHold
      else if v < topoffAt s t then .bulk else if v < fullAt s t then .topoff else .fullHold
    let n := record .fillStage
      { subject := some (.tank t), old := some (.stage .suspended), new := some (.stage stage)
        value := some (v : Int), cause := some (.fill .permissionReturned) } s
    u.tank t = fillingIn stage (if stage = .fullHold then none
      else if r.suspendedFrom = some stage then r.safety
      else if stage = .bulk then some ⟨0, s.paramNat 50 * 60000⟩ else some ⟨0, s.paramNat 51 * 60000⟩) r ∧
    (u.valve (fillValve t)).openCmd = decide (stage ≠ .fullHold) ∧ FillOnly t s u ∧ u.notices = n.notices ∧
    u.tx = n.tx

/-- The tank settle timer's expiry ends an estimate (R137): the tank takes its measured volume, keeps the reconciliation
of estimate and measurement, and records RECONCILED, large where they differ by more than a tenth of the capacity
(R138). Until then a gate's volume is taken off the estimate of the tank that feeds the pump, which stops at 0 (R134,
R136), read once as the gate completes (log entry 29). RECONCILED is the last record of its step (log entry 39). An expiry
whose timer does not run has no effect (log entry 2). -/
def Obligations.SettledTankIsReconciled : Prop :=
  (∀ (s : State) (t : Tank) (c : EstimateCause) (e : Nat), s.powered = true → (s.tank t).settle.isSome = true →
    (s.tank t).estimating = some c → (s.tank t).estimate = some e → ∃ u x : State,
    exec (.tankSettleExpiry t) s = .next (finish u) ∧
    let m := tableVolume (s.tank t).table (s.tank t).level.toNat
    let large : Bool := percentOf s t 10 < ((m : Int) - (e / 1000 : Nat)).natAbs
    (u.tank t).volume = some m ∧ (u.tank t).estimating = none ∧ (u.tank t).frozen = none ∧
    (u.tank t).estimate = none ∧ (u.tank t).settle = none ∧ (u.tank t).headKnown = true ∧
    (u.tank t).recon = some
      { estimate := e / 1000, measured := m, difference := (m : Int) - (e / 1000 : Nat), cause := c, large := large } ∧
    u = record .reconciled
      { subject := some (.tank t), value := some ((m : Int) - (e / 1000 : Nat))
        cause := some (if large then .reconLarge else .reconWithin) } x ∧
    x.notices.disabled = s.notices.disabled ∧ x.clock = s.clock ∧
    (u.tank t).state ≠ .unknown ∧ (u.tank t).level = (s.tank t).level ∧ (u.tank t).table = (s.tank t).table ∧
    u = { u with
      sense := s.sense, terminals := s.terminals, totals := s.totals, clock := s.clock, link := s.link
      params := s.params, powered := true, choiceCount := s.choiceCount + 1, pending := s.pending }) ∧
  (∀ (s : State) (t : Tank), s.powered = true → (s.tank t).settle.isSome = true → (s.tank t).estimate = none →
    ∃ u : State, exec (.tankSettleExpiry t) s = .next (finish u) ∧
    (u.tank t).volume = some (tableVolume (s.tank t).table (s.tank t).level.toNat) ∧ (u.tank t).estimating = none ∧
    (u.tank t).headKnown = true ∧ (u.tank t).recon = (s.tank t).recon) ∧
  (∀ (s : State) (t : Tank), s.powered = true → (s.tank t).settle = none →
    exec (.tankSettleExpiry t) s = .next (finish s.fresh)) ∧
  ∀ s : State, s.powered = true → 1 ≤ s.paramNat 21 → ∃ (u : State) (inc : Nat),
    exec .gateComplete s = .next (finish u) ∧
    inc * s.paramNat 21 + u.sense.remainder = s.sense.pulses.dischargeFlow.current * 100000 + s.sense.remainder ∧
    u.sense.remainder < s.paramNat 21 ∧
    ∀ t : Tank,
      ((s.tank t).estimating = none ∨ (s.tank t).estimate = none →
        (u.tank t).volume = (s.tank t).volume ∧ (u.tank t).estimate = (s.tank t).estimate ∧
        (u.tank t).state = (s.tank t).state) ∧
      ∀ e : Nat, (s.tank t).estimating.isSome = true → (s.tank t).estimate = some e →
        let left := if s.supply.selected = t ∧ (s.supply.state = .tank ∨ (s.supply.state = .switching ∧
            (s.supply.phase = some .openingTarget ∨ s.supply.phase = some .settling))) then e - inc else e
        (u.tank t).estimate = some left ∧ (u.tank t).volume = some (left / 1000) ∧
        (u.tank t).estimating = (s.tank t).estimating ∧
        (u.tank t).state = nextLevel (s.modTank t fun r => { r with volume := some (left / 1000) }) t

/-! ### Pump temperature and dry running -/

/-- The hot timer's expiry is overheat idle, with the disengage order where the parameter asks for it (R158), the mode
then ROAD or, a trip taken first, MOTION_TRIP (R32, log entries 5 and 49); the no-flow timer's opens the recirculation
with cause NOFLOW and the flow-return timer's gives it up (R160); the dry-run timer's sets the latch, which takes the
demand to 0 (R162); RECIRC adds or removes the operator's cause (R164, R176). A published set evaluates the zone, each
zone kept in its own band, HOT down to 5 degrees below its threshold (R154); a FAILED channel makes it WARM and unknown,
and at its recovery the zone is evaluated with WARM as the present one, overheat idle ending where that finds no HOT
(R155, R158; log entry 18). A change of zone (R156) records THERMAL_ZONE, sets the ceiling of R157, which clips the
demand at once (R71; a ceiling that stays above it is not read, log entry 36), follows with the recirculation cause
THERMAL and the warning WARM, starts the hot timer into HOT while ENGAGED and stops it out of HOT, and ends overheat
idle as HOT is left, but on a failure of the channel (R158); the entry to ENGAGED starts the hot timer where the zone is
HOT, and the exit stops it and ends overheat idle and the latch (R158, R163). An expiry whose timer does not run has no
effect (log entry 2). A BAD_VALUE reply has no body (log entry 10). -/
def Obligations.ThermalTimersAndRecirculation : Prop :=
  (∀ s : State, s.powered = true → s.thermal.hot.isSome = true → s.param 57 ≠ 1 → ∃ u : State,
    exec .hotTimerExpiry s = .next (finish u) ∧
    u = { s.fresh with
      thermal := { s.thermal with overheat := true, hot := none }, governor := u.governor, alarm := u.alarm
      notices := u.notices, tx := u.tx } ∧
    u.governor.demand = 0 ∧ u.governor.shadow = s.governor.shadow ∧ .overheat ∈ u.alarm.causes ∧
    u.notices = (record .overheatIdle
      { value := some (s.published .pumpTemp), cause := some .overheatHold } s).notices) ∧
  (∀ s : State, s.powered = true → s.thermal.hot.isSome = true → s.param 57 = 1 → s.drive.pto = .engaged →
    s.qualified .ptoFb ≠ some false → ∃ u : State,
    exec .hotTimerExpiry s = .next (finish u) ∧ u.drive.release = some .overheatIdle ∧
    (u.drive.pto = .rampdown ∨ u.drive.pto = .releasing) ∧ u.governor.demand = 0 ∧ u.supply.state = .idle ∧
    u.thermal.overheat = false ∧ u.thermal.hot = none ∧ ModeAtExit true s.fresh.choices s u) ∧
  (∀ s : State, s.powered = true → s.thermal.noFlow.isSome = true → ∃ u : State,
    exec .noFlowTimerExpiry s = .next (finish u) ∧
    u = { s.fresh with
      thermal := { s.thermal with noFlow := none, noFlowHeld := true }, recirc := u.recirc
      valves := { s.valves with recircValve := u.valves.recircValve } } ∧
    (∀ c : RecircCause, c ∈ u.recirc ↔ c = .noFlow ∨ c ∈ s.recirc) ∧
    (s.recirc = [] → u.valves.recircValve.openCmd = true) ∧
    (s.recirc ≠ [] → u.valves.recircValve = s.valves.recircValve)) ∧
  (∀ s : State, s.powered = true → s.thermal.flowReturn.isSome = true → s.thermal.noFlowHeld = true → ∃ u : State,
    exec .flowReturnExpiry s = .next (finish u) ∧
    u = { s.fresh with
      thermal := { s.thermal with noFlow := none, flowReturn := none, noFlowHeld := false }, recirc := u.recirc
      valves := { s.valves with recircValve := u.valves.recircValve } } ∧
    (∀ c : RecircCause, c ∈ u.recirc ↔ c ≠ .noFlow ∧ c ∈ s.recirc) ∧
    (.noFlow ∈ s.recirc → u.recirc = [] → u.valves.recircValve.openCmd = false) ∧
    (u.recirc ≠ [] → u.valves.recircValve = s.valves.recircValve)) ∧
  (∀ s : State, s.powered = true → s.thermal.dry.isSome = true → NotShifting s → ∃ u : State,
    exec .dryRunTimerExpiry s = .next (finish u) ∧
    u = { s.fresh with
      thermal := { s.thermal with latch := true, dry := none }, governor := u.governor, alarm := u.alarm
      trend := u.trend, notices := u.notices, tx := u.tx
      interlock := { s.interlock with conditions := u.interlock.conditions } } ∧
    u.governor.demand = 0 ∧ u.governor.shadow = s.governor.shadow ∧ .dryRun ∈ u.alarm.causes ∧ u.trend.fast = 30 ∧
    u.notices = (record .dryRun
      { value := some (s.published .dischargeP), second := some (s.flow : Int) } s).notices) ∧
  (∀ (s : State) (tag b : Byte), Ready s → 2 ≤ b.toNat →
    exec (.recirc tag b) s = .next (finish (s.fresh.answered 30 tag .badValue []))) ∧
  (∀ (s : State) (tag b : Byte), Ready s → b = 0 ∨ b = 1 → ∃ u : State,
    exec (.recirc tag b) s = .next (finish (u.answered 30 tag .ok (setBytes allRecircCauses u.recirc))) ∧
    u = { s.fresh with
      thermal := { s.thermal with operator := decide (b = 1) }, recirc := u.recirc
      valves := { s.valves with recircValve := u.valves.recircValve } } ∧
    (∀ c : RecircCause, c ∈ u.recirc ↔ (c = .operator ∧ b = 1) ∨ (c ≠ .operator ∧ c ∈ s.recirc)) ∧
    (s.recirc = [] → b = 1 → u.valves.recircValve.openCmd = true) ∧
    (s.recirc ≠ [] → u.recirc = [] → u.valves.recircValve.openCmd = false)) ∧
  -- the zone at a published set
  (∀ s : State,
    let t := s.published .pumpTemp
    let kept := fun z : Zone => (z = .normal ∧ t < s.param 52) ∨
      (z = .warm ∧ s.param 52 - 5 ≤ t ∧ t < s.param 53) ∨ (z = .hot ∧ s.param 53 - 5 ≤ t)
    let entry : Zone := if s.param 53 ≤ t then .hot else if s.param 52 ≤ t then .warm else .normal
    (s.healthOf .pumpTemp = .stale ∨ (s.healthOf .pumpTemp = .ok ∧ s.thermal.unknown = false) →
      (kept s.thermal.zone → publishZone s = s) ∧
      (¬kept s.thermal.zone → publishZone s = setZone entry .temperature s)) ∧
    (s.healthOf .pumpTemp = .failed →
      publishZone s = setZone .warm .sensorFailed { s with thermal := { s.thermal with unknown := true } }) ∧
    (s.healthOf .pumpTemp = .ok → s.thermal.unknown = true → ∃ z : Zone,
      (kept .warm → z = .warm) ∧ (¬kept .warm → z = entry) ∧
      let u := setZone z .sensorRecovered { s with thermal := { s.thermal with unknown := false } }
      let q := publishZone s
      q = { u with thermal := { u.thermal with overheat := u.thermal.overheat && z == .hot }, alarm := q.alarm } ∧
      ∀ a : AlarmCause, a ∈ q.alarm.causes ↔
        a ∈ u.alarm.causes ∧ ¬(a = .overheat ∧ u.thermal.overheat = true ∧ z ≠ .hot))) ∧
  -- a change of zone
  (∀ (s : State) (c : ZoneCause), setZone s.thermal.zone c s = s) ∧
  (∀ (s : State) (z : Zone) (c : ZoneCause), z ≠ s.thermal.zone →
    let u := setZone z c s
    let cooled : Bool := s.thermal.zone == .hot && c != .sensorFailed
    let value := fun overheat : Bool =>
      if s.thermal.latch = true ∨ overheat = true then 0
      else if z = .hot then s.paramNat 55 else if z = .warm then s.paramNat 54 else 1000
    let clip := min (min (s.paramNat 27) s.interlock.ceiling) (min (supplyCeiling s) (value s.thermal.overheat))
    u.notices = (record .thermalZone
      { subject := some (.analog .pumpTemp), old := some (.zone s.thermal.zone), new := some (.zone z)
        value := some (s.published .pumpTemp), cause := some (.zone c) } s).notices ∧
    u.thermal = { s.thermal with
      zone := z, thermalHeld := decide (z ≠ .normal), overheat := s.thermal.overheat && !cooled
      hot := if z = .hot ∧ s.drive.pto = .engaged then some ⟨60000, 0⟩ else none } ∧
    thermalCeiling u = value u.thermal.overheat ∧
    (s.governor.demand ≤ clip → u.governor = s.governor) ∧
    (clip < s.governor.demand → u.governor = { s.governor with
      demand := clip, ceiling := if s.drive.pto = .engaged then clip else 0, binding := u.governor.binding
      inputs := u.governor.inputs }) ∧
    (∀ r : RecircCause, r ∈ u.recirc ↔ if r = .thermal then z ≠ .normal else r ∈ s.recirc) ∧
    (s.recirc = [] → u.recirc ≠ [] → u.valves.recircValve.openCmd = true) ∧
    (s.recirc ≠ [] → u.recirc = [] → u.valves.recircValve.openCmd = false) ∧
    ((s.recirc = [] ↔ u.recirc = []) → u.valves.recircValve = s.valves.recircValve) ∧
    (∀ a : AlarmCause, a ∈ u.alarm.causes ↔ if a = .warm then z ≠ .normal
      else a ∈ s.alarm.causes ∧ ¬(a = .overheat ∧ s.thermal.overheat = true ∧ cooled = true)) ∧
    u = { s with
      thermal := u.thermal, governor := u.governor, alarm := u.alarm, recirc := u.recirc, notices := u.notices
      tx := u.tx, valves := { s.valves with recircValve := u.valves.recircValve } }) ∧
  -- the hot timer and overheat idle at the PTO's entry to ENGAGED and its exit
  (∀ s : State, thermalEnterEngaged s = { s with thermal := { s.thermal with
    hot := if s.thermal.zone = .hot then some ⟨60000, 0⟩ else s.thermal.hot } }) ∧
  (∀ s : State, (thermalLeaveEngaged s).thermal = { s.thermal with
      hot := none, dry := none, noFlow := none, flowReturn := none, noFlowHeld := false, overheat := false
      latch := false } ∧
    (s.thermal.overheat = true → .overheat ∉ (thermalLeaveEngaged s).alarm.causes)) ∧
  ∀ (s : State) (c : Instr), s.powered = true →
    (c = .hotTimerExpiry ∧ s.thermal.hot = none) ∨ (c = .noFlowTimerExpiry ∧ s.thermal.noFlow = none) ∨
    (c = .flowReturnExpiry ∧ s.thermal.flowReturn = none) ∨ (c = .dryRunTimerExpiry ∧ s.thermal.dry = none) →
    exec c s = .next (finish s.fresh)

/-! ### Valves, outputs and the alarm -/

/-- A valve's travel timer (R168, R169, R172): with no feedback the travel is taken as made, unconfirmed; a first try that
shows nothing pauses 1 s and is tried once more, a second is FAULT NO_OPEN; a closing valve still shown open is FAULT
STUCK_OPEN. A tank-to-pump valve reports to the Supply Unit (R175), which in TANK is exhausted by a valve that cannot open
(R101), and in SWITCHING opens the target's valve once the other tank's is closed (R119). An expiry whose timer does not
run has no effect (log entry 2). -/
def Obligations.ValveTravelEnds : Prop :=
  (∀ (s : State) (v : ValveRole), s.powered = true → (s.valve v).travel.isSome = true →
    (v ≠ .mainValve ∧ v ≠ .reserveValve) ∨ s.supply.state = .idle ∨ s.supply.state = .hydrant ∨
      s.supply.state = .draft →
    ((s.valve v).state = .opening → feedback s v = none →
      exec (.travelTimerExpiry v) s = .next (finish { s.fresh with
        valves := setValve s.valves v
          ({ s.valve v with
          state := .atOpen, confirmation := .unconfirmed, tries := 0, retry := none, travel := none }) })) ∧
    ((s.valve v).state = .closing → feedback s v ≠ some true →
      exec (.travelTimerExpiry v) s = .next (finish { s.fresh with
        valves := setValve s.valves v
          ({ s.valve v with
          state := .atClosed, tries := 0, retry := none, travel := none
          confirmation := if feedback s v = none then .unconfirmed else .confirmed }) })) ∧
    (∀ cause : ValveFault,
      ((s.valve v).state = .opening ∧ feedback s v ≠ none ∧ (s.valve v).tries ≠ 1 ∧ cause = .noOpen) ∨
      ((s.valve v).state = .closing ∧ feedback s v = some true ∧ cause = .stuckOpen) → ∃ u : State,
      exec (.travelTimerExpiry v) s = .next (finish u) ∧
      u = { s.fresh with
        alarm := u.alarm, notices := u.notices, tx := u.tx
        valves := setValve s.valves v
          ({ s.valve v with state := .fault, tries := 0, retry := none, travel := none, fault := some cause }) } ∧
      .valve ∈ u.alarm.causes ∧ actuatorDrive (u.valve v) = false ∧
      u.notices = (record .valveFault
        { subject := some (.valve v), old := some (.valve (s.valve v).state), new := some (.valve .fault)
          cause := some (.valveFault cause) } s).notices)) ∧
  (∀ (s : State) (v : ValveRole), s.powered = true → (s.valve v).travel.isSome = true →
    (s.valve v).state = .opening → feedback s v ≠ none → (s.valve v).tries = 1 →
    exec (.travelTimerExpiry v) s = .next (finish { s.fresh with
      valves := setValve s.valves v
        ({ s.valve v with travel := none, retry := some ⟨1000, 0⟩ }) })) ∧
  (∀ (s : State) (v : ValveRole), s.powered = true → (s.valve v).retry.isSome = true →
    exec (.retryPauseExpiry v) s = .next (finish { s.fresh with
      valves := setValve s.valves v
        ({ s.valve v with
        tries := 2, retry := none, travel := some ⟨1000 * s.paramNat (58 + v.ctorIdx), 0⟩ }) })) ∧
  (∀ s : State, s.powered = true → s.supply.state = .tank →
    let v := tankValve s.supply.selected
    (s.valve v).travel.isSome = true → (s.valve v).state = .opening → (s.valve v).tries = 2 →
    feedback s v = some false → ∃ u : State,
    exec (.travelTimerExpiry v) s = .next (finish u) ∧ u.supply.state = .noSupply ∧ .exhausted ∈ u.alarm.causes ∧
    u.governor.demand = 0 ∧ (u.valve v).openCmd = false) ∧
  (∀ s : State, s.powered = true → s.supply.state = .switching → s.supply.phase = some .closingOther →
    let v := tankValve (otherTank s.supply.selected)
    let w := tankValve s.supply.selected
    (s.valve v).travel.isSome = true → (s.valve v).state = .closing → (s.valve v).openCmd = false →
    feedback s v ≠ some true → (s.valve w).state = .atClosed → (s.valve w).openCmd = false →
    feedback s w ≠ some true → ∃ u : State,
    exec (.travelTimerExpiry v) s = .next (finish u) ∧ (u.valve v).state = .atClosed ∧
    u.supply.state = .switching ∧ u.supply.phase = some .openingTarget ∧ (u.valve w).openCmd = true ∧
    (u.valve w).state = .opening ∧ (u.valve w).tries = 1) ∧
  ∀ (s : State) (v : ValveRole) (c : Instr), s.powered = true →
    (c = .travelTimerExpiry v ∧ (s.valve v).travel = none) ∨ (c = .retryPauseExpiry v ∧ (s.valve v).retry = none) →
    exec c s = .next (finish s.fresh)

/-- SET_OUTPUT and PULSE_OUTPUT command a GENERAL_OUT terminal judged well, and only such a terminal; a pulse of 0 is
OFF and one of 65,535 has no end (R179, R180); the end of a countdown turns the output off. A cause added to the alarm
that was not there lets it sound again, steady where any cause is critical and else intermittent from its ON phase; a
cause removed leaves both sets; SILENCE quiets what stands; the half period of 500 ms inverts the drive (R177, R178).
The end of a countdown or of a half period that does not run has no effect (log entry 2), and a BAD_VALUE reply has no
body (log entry 10). -/
def Obligations.OutputsPulsesAndAlarm : Prop :=
  (∀ (s : State) (tag b set : Byte) (n : BitVec 16) (i : Instr) (code : Byte), Ready s →
    (∀ t : Terminal, b.toNat = 16 + t.val → s.terminals.assignment[t].role ≠ .generalOut) →
    (i = .setOutput tag b set ∧ code = 32) ∨ (i = .pulseOutput tag b n ∧ code = 33) →
    exec i s = .next (finish (s.fresh.answered code tag .badValue []))) ∧
  (∀ (s : State) (tag b set : Byte), Ready s → 2 ≤ set.toNat →
    exec (.setOutput tag b set) s = .next (finish (s.fresh.answered 32 tag .badValue []))) ∧
  (∀ (s : State) (tag set : Byte) (t : Terminal) (n : BitVec 16) (i : Instr) (code : Byte) (o : OutputRecord),
    Ready s → s.terminals.assignment[t].role = .generalOut → judge s .generalOutput = .passed →
    (i = .setOutput tag (BitVec.ofNat 8 (16 + t.val)) set ∧ code = 32 ∧ set.toNat < 2 ∧ o = ⟨decide (set = 1), none⟩) ∨
    (i = .pulseOutput tag (BitVec.ofNat 8 (16 + t.val)) n ∧ code = 33 ∧
      o = ⟨decide (n ≠ 0), if n = 0 ∨ n = 65535 then none else some n.toNat⟩) →
    exec i s = .next (finish (State.answered
      { s.fresh with outputs := { s.outputs with general := s.outputs.general.set t o } } code tag .ok
      (outputBytes o)))) ∧
  (∀ (s : State) (t : Terminal), s.powered = true →
    exec (.pulseCountdownEnd (.general t)) s = .next (finish
      (if s.outputs.general[t].countdown.isSome = true then
        { s.fresh with outputs := { s.outputs with general := s.outputs.general.set t ⟨false, none⟩ } }
      else s.fresh))) ∧
  (∀ s : State, s.powered = true →
    exec (.pulseCountdownEnd .primer) s = .next (finish
      (if s.outputs.primer.countdown.isSome = true then
        { s.fresh with outputs := { s.outputs with primer := ⟨false, none⟩ } }
      else s.fresh))) ∧
  (∀ (s : State) (c : AlarmCause), (∀ d ∈ s.alarm.silenced, d ∈ s.alarm.causes) → c ∉ s.alarm.causes →
    (∀ d : AlarmCause, d ∈ (addAlarm c s).alarm.causes ↔ d = c ∨ d ∈ s.alarm.causes) ∧
    (addAlarm c s).alarm.silenced = s.alarm.silenced ∧
    (addAlarm c s).alarm.pattern =
      (if isCritical c = true ∨ ∃ d ∈ s.alarm.causes, isCritical d = true then .steady else .intermittent) ∧
    (s.alarm.pattern ≠ .intermittent → (addAlarm c s).alarm.drive = true) ∧
    addAlarm c s = { s with alarm := (addAlarm c s).alarm }) ∧
  (∀ (s : State) (c : AlarmCause), c ∈ s.alarm.causes → addAlarm c s = s) ∧
  (∀ (s : State) (c : AlarmCause), c ∉ s.alarm.causes → removeAlarm c s = s) ∧
  (∀ (s : State) (c d : AlarmCause), c ∈ s.alarm.causes →
    (d ∈ (removeAlarm c s).alarm.causes ↔ d ≠ c ∧ d ∈ s.alarm.causes) ∧
    (d ∈ (removeAlarm c s).alarm.silenced ↔ d ≠ c ∧ d ∈ s.alarm.silenced)) ∧
  (∀ (s : State) (tag : Byte), Ready s →
    exec (.silence tag) s = .next (finish (State.answered
      { s.fresh with alarm := { s.alarm with
          silenced := s.alarm.causes, pattern := .silent, drive := false, blink := none } }
      31 tag .ok (setBytes allAlarmCauses s.alarm.causes ++ setBytes allAlarmCauses s.alarm.causes)))) ∧
  ∀ s : State, s.powered = true →
    exec .alarmBlink s = .next (finish
      (if s.alarm.blink.isSome = true then
        { s.fresh with alarm := { s.alarm with drive := !s.alarm.drive, blink := some ⟨500, 0⟩ } }
      else s.fresh))

/-! ### Parameters, tables, readings and the clock -/

/-- READ_PARAM answers a parameter's value, default and range, WRITE_PARAM clamps to the range (R204, R205): an identity
the table has not is BAD_VALUE, a disengaged-only one is BAD_STATE unless the PTO is DISENGAGED. A parameter that is
read where it is next used changes nothing else. The others act at once: a scaling value unseeds its filter (R6), K
drops the carried remainder (R11), the roll ceiling is the mode ceiling in PUMP_ROLL (R34), a lowered ceiling clips the
demand (R71, R157), the engage limit evaluates the conditions (R39; the comparison itself is that of the last set, log
entry 16), the five percentages keep their order and evaluate both tanks (R131), and the two thermal thresholds keep ten
degrees apart (R159). A reply of BAD_VALUE or BAD_STATE has no body (log entry 10). -/
def Obligations.ParametersAreReadAndWritten : Prop :=
  (∀ (s : State) (tag n : Byte) (v : BitVec 32) (i : Instr) (code : Byte), Ready s → n = 0 ∨ 64 < n.toNat →
    (i = .readParam tag n ∧ code = 9) ∨ (i = .writeParam tag n v ∧ code = 10) →
    exec i s = .next (finish (s.fresh.answered code tag .badValue []))) ∧
  (∀ (s : State) (tag : Byte) (n : Fin 64) (r : ParamRow), Ready s → paramTable[n.val]? = some r →
    exec (.readParam tag (BitVec.ofNat 8 (n.val + 1))) s = .next (finish (s.fresh.answered 9 tag .ok
      (BitVec.ofNat 8 (n.val + 1) :: (intBytes 4 s.params[n] ++ intBytes 4 r.dflt ++ intBytes 4 r.least ++
        intBytes 4 r.greatest ++ [if r.disengagedOnly then 1 else 0]))))) ∧
  (∀ (s : State) (tag : Byte) (n : Fin 64) (v : BitVec 32) (r : ParamRow), Ready s → paramTable[n.val]? = some r →
    r.disengagedOnly = true → s.drive.pto ≠ .disengaged →
    exec (.writeParam tag (BitVec.ofNat 8 (n.val + 1)) v) s =
      .next (finish (s.fresh.answered 10 tag .badState []))) ∧
  (∀ (s : State) (tag : Byte) (n : Fin 64) (v : BitVec 32) (r : ParamRow), Ready s → paramTable[n.val]? = some r →
    r.disengagedOnly = false ∨ s.drive.pto = .disengaged → 13 ≤ n.val + 1 →
    n.val + 1 ∉ [21, 22, 24, 27, 45, 46, 47, 48, 49, 52, 53, 54, 55] →
    let stored := max r.least (min v.toInt r.greatest)
    exec (.writeParam tag (BitVec.ofNat 8 (n.val + 1)) v) s = .next (finish (State.answered
      { s.fresh with params := s.params.set n stored } 10 tag (if stored = v.toInt then .ok else .adjusted)
      (BitVec.ofNat 8 (n.val + 1) :: intBytes 4 stored)))) ∧
  (∀ (s : State) (tag : Byte) (c : AnalogChannel) (n : Fin 64) (v : BitVec 32) (r : ParamRow), Ready s →
    paramTable[n.val]? = some r → s.drive.pto = .disengaged → n.val = channelIndex c ∨ n.val = 6 + channelIndex c →
    ∃ u : State,
    exec (.writeParam tag (BitVec.ofNat 8 (n.val + 1)) v) s = .next (finish (u.answered 10 tag
      (if max r.least (min v.toInt r.greatest) = v.toInt then .ok else .adjusted)
      (BitVec.ofNat 8 (n.val + 1) :: intBytes 4 (max r.least (min v.toInt r.greatest))))) ∧
    u = { s.fresh with
      params := s.params.set n (max r.least (min v.toInt r.greatest))
      sense := { s.sense with channels := u.sense.channels } } ∧
    getAnalog u.sense.channels c = { getAnalog s.sense.channels c with filtered := none } ∧
    ∀ d, d ≠ c → getAnalog u.sense.channels d = getAnalog s.sense.channels d) ∧
  (∀ (s : State) (tag : Byte) (v : BitVec 32), Ready s →
    let stored := max (min (max 40 (min v.toInt 80)) (s.param 53 - 10)) 40
    exec (.writeParam tag 52 v) s = .next (finish (State.answered
      { s.fresh with params := s.params.set 51 stored } 10 tag (if stored = v.toInt then .ok else .adjusted)
      (52 :: intBytes 4 stored)))) ∧
  (∀ (s : State) (tag : Byte) (v : BitVec 32), Ready s →
    let stored := max (max 60 (min v.toInt 95)) (s.param 52 + 10)
    exec (.writeParam tag 53 v) s = .next (finish (State.answered
      { s.fresh with params := s.params.set 52 stored } 10 tag (if stored = v.toInt then .ok else .adjusted)
      (53 :: intBytes 4 stored)))) ∧
  (∀ (s : State) (tag : Byte) (n : Fin 64) (v : BitVec 32) (r : ParamRow), Ready s → paramTable[n.val]? = some r →
    n.val + 1 ∈ [27, 54, 55] → ∃ u : State,
    let stored := max r.least (min v.toInt r.greatest)
    exec (.writeParam tag (BitVec.ofNat 8 (n.val + 1)) v) s = .next (finish (u.answered 10 tag
      (if stored = v.toInt then .ok else .adjusted) (BitVec.ofNat 8 (n.val + 1) :: intBytes 4 stored))) ∧
    u = { s.fresh with params := s.params.set n stored, governor := u.governor } ∧
    u.governor.demand = min s.governor.demand (leastCeiling (ceilings u)) ∧
    (n.val + 1 = 27 → u.governor.demand ≤ stored.toNat) ∧
    u.governor.shadow = s.governor.shadow ∧ u.governor.active = s.governor.active) ∧
  (∀ (s : State) (tag : Byte) (v : BitVec 32), Ready s → s.drive.pto = .disengaged →
    let stored := max 10 (min v.toInt 50000)
    exec (.writeParam tag 21 v) s = .next (finish (State.answered
      { s.fresh with params := s.params.set 20 stored, sense := { s.sense with remainder := 0 } } 10 tag
      (if stored = v.toInt then .ok else .adjusted) (21 :: intBytes 4 stored)))) ∧
  (∀ (s : State) (tag : Byte) (v : BitVec 32), Ready s → ∃ u : State,
    let stored := max 100 (min v.toInt 600)
    exec (.writeParam tag 22 v) s = .next (finish (u.answered 10 tag (if stored = v.toInt then .ok else .adjusted)
      (22 :: intBytes 4 stored))) ∧
    (s.interlock.mode ≠ .pumpRoll → u = { s.fresh with params := s.params.set 21 stored }) ∧
    (s.interlock.mode = .pumpRoll →
      u = { s.fresh with
        params := s.params.set 21 stored, interlock := { s.interlock with ceiling := stored.toNat }
        governor := u.governor } ∧
      u.governor.demand = min s.governor.demand (leastCeiling (ceilings u)) ∧
      u.governor.shadow = s.governor.shadow ∧ u.governor.active = s.governor.active)) ∧
  (∀ (s : State) (tag : Byte) (v : BitVec 32), Ready s → NotShifting s ∨ s.interlock.conditions = trueConditions s →
    let stored := max 600 (min v.toInt 1200)
    exec (.writeParam tag 24 v) s = .next (finish (State.answered
      { s.fresh with
        params := s.params.set 23 stored, interlock := { s.interlock with conditions := trueConditions s } } 10 tag
      (if stored = v.toInt then .ok else .adjusted) (24 :: intBytes 4 stored)))) ∧
  ∀ (s : State) (tag : Byte) (n : Fin 64) (v : BitVec 32), Ready s → 45 ≤ n.val + 1 → n.val + 1 ≤ 49 → ∃ u : State,
    let written := max 1 (min v.toInt 99)
    let under := if n.val + 1 ≠ 45 ∧ s.param n.val ≤ written then s.param n.val - 1 else written
    let stored := if n.val + 1 ≠ 49 ∧ under ≤ s.param (n.val + 2) then s.param (n.val + 2) + 1 else under
    exec (.writeParam tag (BitVec.ofNat 8 (n.val + 1)) v) s = .next (finish (u.answered 10 tag
      (if stored = v.toInt then .ok else .adjusted) (BitVec.ofNat 8 (n.val + 1) :: intBytes 4 stored))) ∧
    u.params = s.params.set n stored ∧
    (∀ t : Tank, (u.tank t).state = nextLevel { s with params := s.params.set n stored } t ∧
      (u.tank t).volume = (s.tank t).volume ∧ (u.tank t).table = (s.tank t).table) ∧
    u = { u with
      sense := s.sense, terminals := s.terminals, totals := s.totals, clock := s.clock, powered := true
      choiceCount := s.choiceCount + 1, pending := s.pending }

/-- What the reading requests answer (R13, R22, R129, R149, R150, R198, R206): each is taken in every state and changes
nothing, but that READ_LINK_ERRORS sets the three counters to 0. Each section of the status reply is written out (R206,
R209): the fields of R46, of R47 and R68, of R69 and R96, of R97 and R123, of R153, of R166, R176, R177 and R179, and of
R195, an optional field with its presence byte, a two-valued one 1 for its first value, a set as a bitmap (the layouts
R209 leaves to be read from the lists are log entry 9's, the code of the governing source log entry 42's, the unit and
width of the safety timer's limit log entry 51's, the indices of an empty ring free by log entry 11). A BAD_VALUE reply
has no body (log entry 10). -/
def Obligations.ReadingsAnswerTheState : Prop :=
  (∀ (n : Nat) (i : Int), natBytes 2 n = [BitVec.ofNat 8 (n / 256), BitVec.ofNat 8 n] ∧
    natBytes 4 n = natBytes 2 (n / 65536) ++ natBytes 2 n ∧ intBytes 2 i = natBytes 2 (i % 65536).toNat ∧
    intBytes 4 i = natBytes 4 (i % 4294967296).toNat) ∧
  ∀ (s : State) (tag : Byte), Ready s →
    let flag : Bool → Byte := fun b => if b then 1 else 0
    let byte : Nat → Byte := fun n => BitVec.ofNat 8 n
    let name : Option Nat → List Byte := fun o => o.elim [0, 0] fun n => [1, BitVec.ofNat 8 n]
    let word : Option Int → List Byte := fun o => o.elim [0, 0, 0] fun n => 1 :: intBytes 2 n
    let i := s.interlock
    let d := s.drive
    let g := s.governor
    let x := s.supply
    let h := s.thermal
    exec (.identify tag) s = .next (finish (s.fresh.answered 1 tag .ok
      [0x14, 0xBE, 0x0C, 0xA8, 1, 1, if s.link.startCause = .powerOn then 0 else 1])) ∧
    exec (.readMeasurements tag) s = .next (finish (s.fresh.answered 2 tag .ok (measurementBytes s.sense.front))) ∧
    exec (.readStatus tag 1) s = .next (finish (s.fresh.answered 3 tag .ok
      ([byte i.mode.ctorIdx, flag i.moving] ++ natBytes 2 i.ceiling ++ setBytes allFlags i.flags ++
        setBytes allConditions (allConditions.filter (conditionHolds s)) ++
        packBits 1 [i.rise.isSome, i.fall.isSome, i.recovery.isSome, i.trip.isSome, i.voltage.isSome]))) ∧
    exec (.readStatus tag 2) s = .next (finish (s.fresh.answered 3 tag .ok
      (byte d.pto.ctorIdx :: (name (d.kind.map (·.ctorIdx)) ++ name (d.confirmation.map (·.ctorIdx)) ++
        name (d.release.map (·.ctorIdx)) ++ name (d.fault.map (·.ctorIdx)) ++ [byte d.tries, byte d.lastTries] ++
        natBytes 2 d.lifetime ++ [flag d.clutch, flag d.precheck.isSome, flag d.feedback.isSome,
        flag d.settle.isSome, flag d.ramp.isSome, flag d.releasing.isSome, flag d.window.isSome])))) ∧
    exec (.readStatus tag 3) s = .next (finish (s.fresh.answered 3 tag .ok
      (([g.shadow, g.active].flatMap fun y : Setting => match y with
        | .idle => [0, 0, 0, 0]
        | .pressure p => [1, 1, byte (p / 256), byte p]
        | .speed r => [2, 1, byte (r / 256), byte r]) ++
        setBytes allOverrides g.overrides ++ word (g.captured.map Int.ofNat) ++ [(match g.source with
          | .shadow => 0
          | .over k => byte (1 + k.ctorIdx))] ++ intBytes 4 g.acc ++ natBytes 2 g.demand ++ [flag g.reseed] ++
        natBytes 2 g.ceiling ++ [byte g.binding.ctorIdx, flag g.frozen, flag g.loss.isSome] ++
        natBytes 2 g.inputs.profile ++ natBytes 2 g.inputs.mode ++ natBytes 2 g.inputs.supply ++
        natBytes 2 g.inputs.thermal ++ natBytes 2 g.inputs.drive))) ∧
    exec (.readStatus tag 4) s = .next (finish (s.fresh.answered 3 tag .ok
      ([byte x.state.ctorIdx, byte (32 + x.selected.ctorIdx)] ++ name (x.phase.map (·.ctorIdx)) ++
        intBytes 2 x.floor ++ word x.hydrant ++ natBytes 2 x.limit ++ [flag x.below, flag x.lossLatch,
        byte x.attempts] ++ name (x.lastReason.map (·.ctorIdx)) ++ [flag x.switchHeld, flag x.primeHeld,
        flag x.attempt.isSome, flag x.prime.isSome, flag x.primerLimit.isSome, flag x.settle.isSome,
        flag x.loss.isSome, flag x.activity.isSome, flag x.attempt.isSome] ++ natBytes 2 (supplyCeiling s)))) ∧
    exec (.readStatus tag 5) s = .next (finish (s.fresh.answered 3 tag .ok
      ([byte h.zone.ctorIdx, flag h.unknown, flag h.hot.isSome, flag h.overheat] ++ natBytes 2 (thermalCeiling s) ++
        [flag h.noFlow.isSome, flag h.flowReturn.isSome, flag h.noFlowHeld, flag h.thermalHeld, flag h.dry.isSome,
        flag h.latch, flag h.operator]))) ∧
    exec (.readStatus tag 6) s = .next (finish (s.fresh.answered 3 tag .ok
      ((allValves.flatMap fun v =>
          let a := s.valve v
          [if a.openCmd then 0 else 1, byte a.state.ctorIdx, byte a.confirmation.ctorIdx, byte a.tries,
            flag a.retry.isSome, flag a.travel.isSome] ++ name (a.fault.map (·.ctorIdx)) ++
            [flag (decide (a.state = .opening ∧ a.retry = none ∨ a.state = .atOpen))]) ++
        setBytes allRecircCauses s.recirc ++ setBytes allAlarmCauses s.alarm.causes ++
        setBytes allAlarmCauses s.alarm.silenced ++ [flag s.alarm.drive, flag s.outputs.primer.drive] ++
        word (s.outputs.primer.countdown.map Int.ofNat) ++
        let outs := allTerminals.filter fun t => s.terminals.assignment[t].role == .generalOut
        byte outs.length :: outs.flatMap fun t => flag s.outputs.general[t].drive ::
          word (s.outputs.general[t].countdown.map Int.ofNat)))) ∧
    (∃ oldest newest : Nat, (∀ r, s.trend.ring.head? = some r → oldest = r.index) ∧
      (∀ r, s.trend.ring.getLast? = some r → newest = r.index) ∧
      exec (.readStatus tag 7) s = .next (finish (s.fresh.answered 3 tag .ok
        ([byte s.notices.queue.length, flag (s.notices.queue.head?.any (·.overrun)), flag s.notices.pressure] ++
          packBits 4 (allNoticeKinds.map fun k => decide (k ∉ s.notices.disabled)) ++ natBytes 4 s.clock.tag ++
          [byte s.clock.resolution, byte s.trend.fast] ++ natBytes 2 oldest ++ natBytes 2 newest ++
          word (s.trend.marker.map Int.ofNat) ++ natBytes 2 (unreadCount s.trend) ++ [flag s.trend.armed])))) ∧
    exec (.readStatus tag 8) s = .next (finish (s.fresh.answered 3 tag .ok
      (BitVec.ofNat 8 s.link.state.ctorIdx :: (if s.link.supervision.isSome then 1 else 0) ::
        (if s.link.hold then 1 else 0) :: 0 :: 1 :: BitVec.ofNat 8 s.link.noticeCount ::
        (natBytes 2 s.link.framing ++ natBytes 2 s.link.check ++ natBytes 2 s.link.overrun)))) ∧
    (∀ n : Byte, n = 0 ∨ 8 < n.toNat →
      exec (.readStatus tag n) s = .next (finish (s.fresh.answered 3 tag .badValue []))) ∧
    exec (.readInputs tag) s = .next (finish (s.fresh.answered 4 tag .ok (allTerminals.flatMap (inputBytes s)))) ∧
    exec (.readTotals tag) s = .next (finish (s.fresh.answered 5 tag .ok
      (natBytes 4 (min s.totals.incident.acc 4294967295) ++ natBytes 5 s.totals.incident.acc ++
        [BitVec.ofNat 8 (s.totals.incident.math.toNat + 2 * s.totals.incident.logical.toNat)] ++
        natBytes 4 (min s.totals.run.acc 4294967295) ++ natBytes 5 s.totals.run.acc ++
        [BitVec.ofNat 8 (s.totals.run.math.toNat + 2 * s.totals.run.logical.toNat)]))) ∧
    exec (.readTanks tag) s =
      .next (finish (s.fresh.answered 6 tag .ok (tankBytes s .main ++ tankBytes s .reserve))) ∧
    exec (.readLinkErrors tag) s = .next (finish (State.answered
      { s.fresh with link := { s.link with framing := 0, check := 0, overrun := 0 } } 8 tag .ok
      (natBytes 2 s.link.framing ++ natBytes 2 s.link.check ++ natBytes 2 s.link.overrun))) ∧
    exec (.readAssignment tag) s = .next (finish (s.fresh.answered 12 tag .ok
      (allTerminals.flatMap fun t => recordBytes s.terminals.assignment[t]))) ∧
    (∀ t : Tank, exec (.readVolumeTable tag (BitVec.ofNat 8 (32 + t.ctorIdx))) s =
      .next (finish (s.fresh.answered 16 tag .ok (tableBytes (s.tank t).table)))) ∧
    ∀ b : Byte, b ≠ 32 → b ≠ 33 →
      exec (.readVolumeTable tag b) s = .next (finish (s.fresh.answered 16 tag .badValue []))

/-- WRITE_ASSIGNMENT and WRITE_VOLUME_TABLE are taken in DISENGAGED only. A set of records that is not valid, or that
would put a dedicated role on two terminals, is refused whole, a GENERAL_OUT record with no safe state or none of the
three among them; a valid one replaces the named records, Q clamped to 1..15, and no other terminal's; each input state
and general output is as R21 has it for the record before and after (R20, R21). A table R126 allows replaces the tank's,
whose volume and level state follow it (R128): a lowered estimate is the volume in force at once (log entry 31), and the
entry state tries EMPTY, then LOW, then FULL (log entry 38). A role is coded by its place in the role table (log entry
43), a presence byte other than 0 and 1 is BAD_VALUE (log entry 12), an empty request is BAD_VALUE (log entry 28), and a
request turned away has no body (log entry 10). -/
def Obligations.TableWritesReplaceTheirRecords : Prop :=
  (∀ (s : State) (tag : Byte) (l : List AssignmentField), Ready s → l.length ≤ 42 → s.drive.pto ≠ .disengaged →
    exec (.writeAssignment tag l) s = .next (finish (s.fresh.answered 11 tag .badState []))) ∧
  (∀ (s : State) (tag : Byte) (l : List AssignmentField), Ready s → l.length ≤ 42 → s.drive.pto = .disengaged →
    l = [] ∨ (∃ f ∈ l, f.terminal.toNat < 16 ∨ 32 ≤ f.terminal.toNat ∨ 18 ≤ f.role.toNat ∨ 2 ≤ f.polarity.toNat ∨
      2 ≤ f.safePresent.toNat ∨
      (f.role = BitVec.ofNat 8 Role.generalOut.ctorIdx ∧ (f.safePresent = 0 ∨ 3 ≤ f.safe.toNat))) ∨
      ¬(l.map (·.terminal)).Nodup →
    exec (.writeAssignment tag l) s = .next (finish (s.fresh.answered 11 tag .badValue []))) ∧
  (∀ (s : State) (tag : Byte) (t u : Terminal) (r : Role) (f : AssignmentField), Ready s → s.drive.pto = .disengaged →
    t ≠ u → s.terminals.assignment[u].role = r → r ≠ .generalIn → r ≠ .generalOut →
    f.terminal = BitVec.ofNat 8 (16 + t.val) → f.role = BitVec.ofNat 8 r.ctorIdx →
    exec (.writeAssignment tag [f]) s = .next (finish (s.fresh.answered 11 tag .badValue []))) ∧
  (∀ (s : State) (tag : Byte) (t : Terminal) (r : Role) (p : Polarity) (f : AssignmentField), Ready s →
    AssignmentSound s → s.drive.pto = .disengaged → f.terminal = BitVec.ofNat 8 (16 + t.val) → f.role = BitVec.ofNat 8 r.ctorIdx →
    f.polarity = BitVec.ofNat 8 p.ctorIdx → f.safePresent.toNat ≤ 1 →
    (r = .generalOut → f.safePresent = 1 ∧ f.safe.toNat ≤ 2) →
    (r = .generalIn ∨ r = .generalOut ∨ ∀ u : Terminal, u ≠ t → s.terminals.assignment[u].role ≠ r) → ∃ u : State,
    let new : AssignRecord :=
      { role := r, polarity := p, q := max 1 (min f.q.toNat 15)
        safe := if r = .generalOut then
            (if f.safe = 0 then some .hold else if f.safe = 1 then some .off else some .on)
          else none }
    exec (.writeAssignment tag [f]) s = .next (finish (u.answered 11 tag
      (if 1 ≤ f.q.toNat ∧ f.q.toNat ≤ 15 then .ok else .adjusted)
      (1 :: BitVec.ofNat 8 (16 + t.val) :: recordBytes new))) ∧
    u.terminals.assignment = s.terminals.assignment.set t new ∧
    (∀ w : Terminal,
      u.terminals.inputs[w] =
        (if w = t then inputAfter s.terminals.assignment[t] new s.terminals.inputs[t] else s.terminals.inputs[w]) ∧
      u.outputs.general[w] =
        if w = t then outputAfter s.terminals.assignment[t] new s.outputs.general[t] else s.outputs.general[w]) ∧
    u = { u with
      sense := s.sense, totals := s.totals, clock := s.clock, params := s.params, powered := true
      choiceCount := s.choiceCount + 1, pending := s.pending }) ∧
  (∀ (s : State) (tag : Byte) (l : List AssignmentField) (recs : List (Terminal × AssignRecord)), Ready s →
    s.drive.pto = .disengaged → l.length ≤ 42 → recs ≠ [] → (recs.map (·.1)).Nodup →
    List.Forall₂ (fun (f : AssignmentField) (p : Terminal × AssignRecord) =>
      f.terminal = BitVec.ofNat 8 (16 + p.1.val) ∧ f.role = BitVec.ofNat 8 p.2.role.ctorIdx ∧
      f.polarity = BitVec.ofNat 8 p.2.polarity.ctorIdx ∧ p.2.q = max 1 (min f.q.toNat 15) ∧ f.safePresent.toNat ≤ 1 ∧
      (p.2.role = .generalOut → f.safePresent = 1 ∧
        ∃ x : SafeState, p.2.safe = some x ∧ f.safe = BitVec.ofNat 8 x.ctorIdx) ∧
      (p.2.role ≠ .generalOut → p.2.safe = none)) l recs →
    let table := recs.foldl (fun a p => a.set p.1 p.2) s.terminals.assignment
    ((∃ t w : Terminal, t ≠ w ∧ table[t].role = table[w].role ∧ isDedicated table[t].role = true) →
      exec (.writeAssignment tag l) s = .next (finish (s.fresh.answered 11 tag .badValue []))) ∧
    ((∀ t w : Terminal, t ≠ w → isDedicated table[t].role = true → table[t].role ≠ table[w].role) → ∃ u : State,
      exec (.writeAssignment tag l) s = .next (finish (u.answered 11 tag
        (if ∀ f ∈ l, 1 ≤ f.q.toNat ∧ f.q.toNat ≤ 15 then .ok else .adjusted) (listOf namedRecordBytes recs))) ∧
      u.terminals.assignment = table ∧
      (∀ w : Terminal,
        u.terminals.inputs[w] = inputAfter s.terminals.assignment[w] table[w] s.terminals.inputs[w] ∧
        u.outputs.general[w] = outputAfter s.terminals.assignment[w] table[w] s.outputs.general[w]) ∧
      u = { u with
        sense := s.sense, totals := s.totals, clock := s.clock, params := s.params, powered := true
        choiceCount := s.choiceCount + 1, pending := s.pending })) ∧
  (∀ (s : State) (tag b : Byte) (l : List PointField), Ready s → l.length ≤ 62 → b ≠ 32 → b ≠ 33 →
    exec (.writeVolumeTable tag b l) s = .next (finish (s.fresh.answered 15 tag .badValue []))) ∧
  (∀ (s : State) (tag : Byte) (t : Tank) (l : List PointField), Ready s → l.length ≤ 62 →
    s.drive.pto ≠ .disengaged →
    exec (.writeVolumeTable tag (BitVec.ofNat 8 (32 + t.ctorIdx)) l) s =
      .next (finish (s.fresh.answered 15 tag .badState []))) ∧
  (∀ (s : State) (tag : Byte) (t : Tank) (l : List PointField), Ready s → l.length ≤ 62 → s.drive.pto = .disengaged →
    l.length < 2 ∨ 16 < l.length ∨ (∃ p ∈ l, 3000 < p.level.toNat ∨ 60000 < p.volume.toNat) ∨
      (∃ a p q r, l = a ++ p :: q :: r ∧ (q.level.toNat ≤ p.level.toNat ∨ q.volume.toNat < p.volume.toNat)) ∨
      (∀ p ∈ l, p.volume = 0) →
    exec (.writeVolumeTable tag (BitVec.ofNat 8 (32 + t.ctorIdx)) l) s =
      .next (finish (s.fresh.answered 15 tag .badValue []))) ∧
  ∀ (s : State) (tag : Byte) (t : Tank) (l : List PointField), Ready s → s.drive.pto = .disengaged →
    2 ≤ l.length → l.length ≤ 16 → (∀ p ∈ l, p.level.toNat ≤ 3000 ∧ p.volume.toNat ≤ 60000) →
    (∀ a p q r, l = a ++ p :: q :: r → p.level.toNat < q.level.toNat ∧ p.volume.toNat ≤ q.volume.toNat) →
    (∃ p ∈ l, p.volume ≠ 0) → ∃ u : State,
    let table := l.map fun p => (p.level.toNat, p.volume.toNat)
    exec (.writeVolumeTable tag (BitVec.ofNat 8 (32 + t.ctorIdx)) l) s =
      .next (finish (u.answered 15 tag .ok (tableBytes table))) ∧
    (u.tank t).table = table ∧ (u.tank (otherTank t)).table = (s.tank (otherTank t)).table ∧
    ((s.tank t).estimating = none → (s.tank t).headKnown = true →
      (u.tank t).volume = some (tableVolume table (s.tank t).level.toNat)) ∧
    (∀ e c, (s.tank t).estimating = some c → (s.tank t).estimate = some e →
      (u.tank t).estimate = some (min e (((table.getLast?.map (·.2)).getD 0) * 1000)) ∧
      (u.tank t).volume = some (min e (((table.getLast?.map (·.2)).getD 0) * 1000) / 1000)) ∧
    (∀ v, (u.tank t).volume = some v → (u.tank t).state =
      if v ≤ emptyAt u t then .empty else if v ≤ lowAt u t then .low else if fullAt u t ≤ v then .full else .normal) ∧
    u = { u with
      sense := s.sense, terminals := s.terminals, totals := s.totals, clock := s.clock, params := s.params
      powered := true, choiceCount := s.choiceCount + 1, pending := s.pending }

/-- The small writes of the link and the clock: SET_TIME and the tick (R190), NOTICE_MASK (R186), HOLD_REPORTS and
RESUME_REPORTS (R189, R202), RESET_TOTAL (R148). A request turned away has no body (log entry 10), and masks and flags
are packed as log entry 9 has it. A hold's offer of QUEUE_PRESSURE joins behind one that still stands (log entry 26). -/
def Obligations.ClockMaskHoldAndTotals : Prop :=
  (∀ (s : State) (tag r : Byte) (v : BitVec 32), Ready s →
    exec (.setTime tag v r) s = .next (finish
      (if r = 1 ∨ r = 10 ∨ r = 100 then
        State.answered { s.fresh with clock := ⟨v.toNat, r.toNat, ⟨r.toNat, 0⟩⟩ } 35 tag .ok
          (natBytes 4 v.toNat ++ [r])
      else s.fresh.answered 35 tag .badValue []))) ∧
  (∀ s : State, s.powered = true →
    exec .timeTagTick s = .next (finish { s.fresh with
      clock := { s.clock with tag := (s.clock.tag + 1) % 4294967296, period := ⟨s.clock.resolution, 0⟩ } })) ∧
  (∀ (s : State) (tag : Byte) (ds es : List Byte), Ready s → ds.length ≤ 32 → es.length ≤ 32 →
    (∀ b ∈ ds, b.toNat < 32) → (∀ b ∈ es, b.toNat < 32) → ∃ u : State,
    exec (.noticeMask tag ds es) s = .next (finish (u.answered 36 tag .ok
      (packBits 4 (allNoticeKinds.map fun k => decide (k ∉ u.notices.disabled))))) ∧
    u = { s.fresh with notices := { s.notices with disabled := u.notices.disabled } } ∧
    ∀ k : NoticeKind, k ∈ u.notices.disabled ↔
      BitVec.ofNat 8 k.ctorIdx ∉ es ∧ (BitVec.ofNat 8 k.ctorIdx ∈ ds ∨ k ∈ s.notices.disabled)) ∧
  (∀ (s : State) (tag : Byte) (ds es : List Byte), Ready s → ds.length + es.length ≤ 251 →
    (∃ b ∈ ds, 32 ≤ b.toNat) ∨ (∃ b ∈ es, 32 ≤ b.toNat) →
    exec (.noticeMask tag ds es) s = .next (finish (s.fresh.answered 36 tag .badValue []))) ∧
  (∀ (s : State) (tag : Byte), Ready s → s.link.hold = true →
    exec (.holdReports tag) s =
      .next (finish (s.fresh.answered 37 tag .ok [1, BitVec.ofNat 8 s.notices.queue.length]))) ∧
  (∀ (s : State) (tag : Byte), Ready s → s.link.hold = false →
    exec (.holdReports tag) s = .next (finish (State.answered
      { s.fresh with
        link := { s.link with hold := true }
        notices := { s.notices with
          pressure := decide (16 ≤ s.notices.queue.length)
          offers := s.notices.offers ++ if 16 ≤ s.notices.queue.length then [s.notices.queue.length] else [] } }
      37 tag .ok [1, BitVec.ofNat 8 s.notices.queue.length]))) ∧
  (∀ (s : State) (tag : Byte), Ready s →
    exec (.resumeReports tag) s = .next (finish (State.answered
      { s.fresh with link := { s.link with hold := false } } 38 tag .ok
      [0, BitVec.ofNat 8 s.notices.queue.length]))) ∧
  (∀ (s : State) (tag : Byte), Ready s →
    exec (.resetTotal tag 41) s = .next (finish (State.answered
      { s.fresh with totals := { s.totals with incident := ⟨0, false, false⟩ } } 34 tag .ok
      (natBytes 4 (min s.totals.incident.acc 4294967295) ++ natBytes 5 s.totals.incident.acc ++
        [BitVec.ofNat 8 (s.totals.incident.math.toNat + 2 * s.totals.incident.logical.toNat)])))) ∧
  (∀ (s : State) (tag b : Byte), Ready s → b ≠ 41 →
    exec (.resetTotal tag b) s = .next (finish (s.fresh.answered 34 tag .badValue []))) ∧
  ∀ c : StartCause, (State.start c).totals.run = ⟨0, false, false⟩

/-- The sample timer's expiry takes a record of the state into a ring of 256 and starts again, at 1 s while fast capture
lasts (R191, R192), and records TREND_HALF where 128 records are unread while it is armed (R193). The unread count is
the records newer than the marker's, and every record where the marker is absent or names none in the ring (R193).
READ_TREND returns up to eight records from an index of the ring, oldest first, moves the read marker forward only, and
arms TREND_HALF again where fewer than 128 remain unread (R193, R194); an index of neither the ring nor the next record
is GONE, its reply the index alone (log entry 9). The newest index of an empty ring is a free value (log entry 11). The
marker is an index, so after a whole turn of it a new record of that index is the marker's (log entry 40). A BAD_VALUE
reply has no body (log entry 10). -/
def Obligations.TrendRingIsTakenAndRead : Prop :=
  (∀ s : State, s.powered = true → ∃ u : State, exec .trendSample s = .next (finish u) ∧
    u.trend.ring = (if s.trend.ring.length < 256 then s.trend.ring else s.trend.ring.drop 1) ++
      [{ index := s.trend.nextIndex, tag := s.clock.tag, discharge := s.published .dischargeP
         intake := s.published .intakeP, flow := s.flow, engine := s.engineSpeed, demand := s.governor.demand
         mainVolume := s.tanks.main.volume, reserveVolume := s.tanks.reserve.volume
         temperature := s.published .pumpTemp, mode := s.interlock.mode, pto := s.drive.pto
         supply := s.supply.state }] ∧
    u.trend.nextIndex = (s.trend.nextIndex + 1) % 65536 ∧ u.trend.fast = s.trend.fast - 1 ∧
    u.trend.sample = ⟨if 1 < s.trend.fast then 1000 else s.paramNat 63 * 1000, 0⟩ ∧
    u.trend.marker = s.trend.marker ∧
    u.trend.armed = (s.trend.armed && decide (unreadCount u.trend < 128)) ∧
    u.notices = (if s.trend.armed = true ∧ 128 ≤ unreadCount u.trend then
      (record .trendHalf { value := some (unreadCount u.trend : Int) } s).notices else s.notices) ∧
    u = { s.fresh with trend := u.trend, notices := u.notices, tx := u.tx }) ∧
  (∀ x : Trend,
    (x.marker = none → unreadCount x = x.ring.length) ∧
    (∀ m : Nat, x.marker = some m → (∀ r ∈ x.ring, r.index ≠ m) → unreadCount x = x.ring.length) ∧
    ∀ (before after : List TrendRecord) (r : TrendRecord), x.ring = before ++ r :: after → x.marker = some r.index →
      (∀ y ∈ before, y.index ≠ r.index) → unreadCount x = after.length) ∧
  (∀ (s : State) (tag n : Byte) (start : BitVec 16), Ready s → n = 0 ∨ 8 < n.toNat →
    exec (.readTrend tag start n) s = .next (finish (s.fresh.answered 7 tag .badValue []))) ∧
  (∀ (x : Trend) (start : Nat), (x.ring = [] → inRing x start = false) ∧
    ∀ newest, x.ring.getLast? = some newest →
      (inRing x start = true ↔ (newest.index + 65536 - start) % 65536 < x.ring.length)) ∧
  (∀ (s : State) (tag n : Byte) (start : BitVec 16), Ready s → 1 ≤ n.toNat → n.toNat ≤ 8 → s.trend.ring = [] →
    start.toNat ≠ s.trend.nextIndex →
    exec (.readTrend tag start n) s = .next (finish (State.answered
      { s.fresh with trend := { s.trend with armed := true } } 7 tag .gone (natBytes 2 s.trend.nextIndex)))) ∧
  (∀ (s : State) (tag n : Byte) (start : BitVec 16), Ready s → 1 ≤ n.toNat → n.toNat ≤ 8 → s.trend.ring = [] →
    start.toNat = s.trend.nextIndex → ∃ newest : Nat,
    exec (.readTrend tag start n) s = .next (finish (State.answered
      { s.fresh with trend := { s.trend with armed := true } } 7 tag .ok
      (0 :: (natBytes 2 newest ++ natBytes 2 0))))) ∧
  (∀ (s : State) (tag n : Byte) (start : BitVec 16) (first newest : TrendRecord), Ready s → 1 ≤ n.toNat → n.toNat ≤ 8 →
    inRing s.trend start.toNat = false → s.trend.ring.head? = some first → s.trend.ring.getLast? = some newest →
    let unread := unreadCount s.trend
    let half := if s.trend.armed = true ∧ 128 ≤ unread then record .trendHalf { value := some (unread : Int) } s else s
    let u := { s.fresh with
      trend := { s.trend with armed := decide (unread < 128) }, notices := half.notices, tx := half.tx }
    exec (.readTrend tag start n) s = .next (finish
      (if start.toNat = s.trend.nextIndex then
        State.answered u 7 tag .ok (0 :: (natBytes 2 newest.index ++ natBytes 2 unread))
      else State.answered u 7 tag .gone (natBytes 2 first.index)))) ∧
  ∀ (s : State) (tag n : Byte) (start : BitVec 16) (before after : List TrendRecord) (r last newest : TrendRecord),
    Ready s → 1 ≤ n.toNat → n.toNat ≤ 8 → inRing s.trend start.toNat = true →
    s.trend.ring = before ++ r :: after → r.index = start.toNat → (∀ x ∈ before, x.index ≠ r.index) →
    ((r :: after).take n.toNat).getLast? = some last → (r :: after).getLast? = some newest → ∃ marker : Nat,
    let unread := unreadCount { s.trend with marker := some marker }
    let half := if s.trend.armed = true ∧ 128 ≤ unread then record .trendHalf { value := some (unread : Int) } s else s
    exec (.readTrend tag start n) s = .next (finish (State.answered
      { s.fresh with
        trend := { s.trend with marker := some marker, armed := decide (unread < 128) }
        notices := half.notices, tx := half.tx } 7 tag .ok
      (listOf trendBytes ((r :: after).take n.toNat) ++ natBytes 2 newest.index ++ natBytes 2 unread))) ∧
    (s.trend.marker = none → marker = last.index) ∧
    (∀ m, s.trend.marker = some m → (∀ x ∈ s.trend.ring, x.index ≠ m) → marker = last.index) ∧
    ∀ (older newer : List TrendRecord) (x : TrendRecord), s.trend.marker = some x.index →
      s.trend.ring = older ++ x :: newer → (∀ y ∈ older, y.index ≠ x.index) →
      marker = if ∃ y ∈ newer, y.index = last.index then last.index else x.index

/-! ### Invariants of every step -/

/-- The engagement record stays as R47 and R48 have it, and the operating mode follows it (R26, R30), after every step
from a state in which they stand and the lockout table lies within its fixed fields (R40). -/
def Obligations.DriveAndModeStaySound : Prop :=
  ∀ s t : State, DriveSound s → ModeFollowsPto s → OverspeedTimersPlaced s → LockoutWithinFixed s → step s = .next t →
    DriveSound t ∧ ModeFollowsPto t ∧ OverspeedTimersPlaced t

/-- The supply is IDLE exactly while the PTO is not ENGAGED (R99), its timers run in their own states only, and its
phase is one of its state's, absent where the state has none (R97). -/
def Obligations.SupplyFollowsThePto : Prop :=
  ∀ s t : State, DriveSound s → ModeFollowsPto s → OverspeedTimersPlaced s → LockoutWithinFixed s →
    SupplyFollowsPto s → SupplyTimersPlaced s.supply → PhaseFollowsState s.supply → step s = .next t →
    SupplyFollowsPto t ∧ SupplyTimersPlaced t.supply ∧ PhaseFollowsState t.supply

/-- The demand is 0 outside ENGAGED and never above a ceiling (R71). -/
def Obligations.DemandStaysUnderTheCeilings : Prop :=
  ∀ s t : State, DriveSound s → ModeFollowsPto s → OverspeedTimersPlaced s → LockoutWithinFixed s → DemandBounded s →
    step s = .next t → DemandBounded t

/-- No step commands open both valves of a pair (R174), and the records of the totalisers, the tanks, the valves and the
alarm stay as R125, R147, R166 and R177 have them. -/
def Obligations.ValvePairsAndRecordsStaySound : Prop :=
  ∀ s t : State, ValvePairsApart s → RecordsSound s → step s = .next t → ValvePairsApart t ∧ RecordsSound t

/-- The parameters stay in their ranges and the thresholds in their order (R131, R159, R204), the lockout table within its
fixed fields (R40) and the assignment table valid (R15). -/
def Obligations.SettingsStayInTheirLimits : Prop :=
  ∀ s t : State, ParamsInRange s → ThresholdsOrdered s → LockoutWithinFixed s → AssignmentSound s → step s = .next t →
    ParamsInRange t ∧ ThresholdsOrdered t ∧ LockoutWithinFixed t ∧ AssignmentSound t

/-- The notice queue, the receive buffer, the trend ring and the counters keep to their sizes (R187, R191, R192, R198,
R199, R201). -/
def Obligations.QueuesStayInTheirSizes : Prop :=
  ∀ s t : State, BuffersBounded s → step s = .next t → BuffersBounded t

/-- The state after reset meets every invariant. -/
def Obligations.ResetMeetsTheInvariants : Prop :=
  DriveSound State.reset ∧ ModeFollowsPto State.reset ∧ OverspeedTimersPlaced State.reset ∧
  SupplyFollowsPto State.reset ∧ SupplyTimersPlaced State.reset.supply ∧ PhaseFollowsState State.reset.supply ∧
  DemandBounded State.reset ∧
  ValvePairsApart State.reset ∧ RecordsSound State.reset ∧ ParamsInRange State.reset ∧
  ThresholdsOrdered State.reset ∧ LockoutWithinFixed State.reset ∧ AssignmentSound State.reset ∧
  BuffersBounded State.reset
end

