-- ==== Sys2Proof/Laws/State.lean ====
section
/-! SUPPORT. Each block of the state after each change of one block: the changed block is the changed value, every other
stands. No later proof unfolds a record update. -/

namespace Sys2Proof.Machine

@[simp] theorem State.modSense_sense (s : State) (f : Sense → Sense) :
    (s.modSense f).sense = f s.sense := rfl
@[simp] theorem State.modSense_terminals (s : State) (f : Sense → Sense) :
    (s.modSense f).terminals = s.terminals := rfl
@[simp] theorem State.modSense_interlock (s : State) (f : Sense → Sense) :
    (s.modSense f).interlock = s.interlock := rfl
@[simp] theorem State.modSense_drive (s : State) (f : Sense → Sense) :
    (s.modSense f).drive = s.drive := rfl
@[simp] theorem State.modSense_governor (s : State) (f : Sense → Sense) :
    (s.modSense f).governor = s.governor := rfl
@[simp] theorem State.modSense_supply (s : State) (f : Sense → Sense) :
    (s.modSense f).supply = s.supply := rfl
@[simp] theorem State.modSense_tanks (s : State) (f : Sense → Sense) :
    (s.modSense f).tanks = s.tanks := rfl
@[simp] theorem State.modSense_totals (s : State) (f : Sense → Sense) :
    (s.modSense f).totals = s.totals := rfl
@[simp] theorem State.modSense_thermal (s : State) (f : Sense → Sense) :
    (s.modSense f).thermal = s.thermal := rfl
@[simp] theorem State.modSense_valves (s : State) (f : Sense → Sense) :
    (s.modSense f).valves = s.valves := rfl
@[simp] theorem State.modSense_recirc (s : State) (f : Sense → Sense) :
    (s.modSense f).recirc = s.recirc := rfl
@[simp] theorem State.modSense_alarm (s : State) (f : Sense → Sense) :
    (s.modSense f).alarm = s.alarm := rfl
@[simp] theorem State.modSense_outputs (s : State) (f : Sense → Sense) :
    (s.modSense f).outputs = s.outputs := rfl
@[simp] theorem State.modSense_notices (s : State) (f : Sense → Sense) :
    (s.modSense f).notices = s.notices := rfl
@[simp] theorem State.modSense_clock (s : State) (f : Sense → Sense) :
    (s.modSense f).clock = s.clock := rfl
@[simp] theorem State.modSense_trend (s : State) (f : Sense → Sense) :
    (s.modSense f).trend = s.trend := rfl
@[simp] theorem State.modSense_link (s : State) (f : Sense → Sense) :
    (s.modSense f).link = s.link := rfl
@[simp] theorem State.modSense_tx (s : State) (f : Sense → Sense) :
    (s.modSense f).tx = s.tx := rfl
@[simp] theorem State.modSense_params (s : State) (f : Sense → Sense) :
    (s.modSense f).params = s.params := rfl
@[simp] theorem State.modSense_choices (s : State) (f : Sense → Sense) :
    (s.modSense f).choices = s.choices := rfl
@[simp] theorem State.modSense_powered (s : State) (f : Sense → Sense) :
    (s.modSense f).powered = s.powered := rfl
@[simp] theorem State.modSense_choiceCount (s : State) (f : Sense → Sense) :
    (s.modSense f).choiceCount = s.choiceCount := rfl
@[simp] theorem State.modSense_pending (s : State) (f : Sense → Sense) :
    (s.modSense f).pending = s.pending := rfl
@[simp] theorem State.modTerminals_sense (s : State) (f : Terminals → Terminals) :
    (s.modTerminals f).sense = s.sense := rfl
@[simp] theorem State.modTerminals_terminals (s : State) (f : Terminals → Terminals) :
    (s.modTerminals f).terminals = f s.terminals := rfl
@[simp] theorem State.modTerminals_interlock (s : State) (f : Terminals → Terminals) :
    (s.modTerminals f).interlock = s.interlock := rfl
@[simp] theorem State.modTerminals_drive (s : State) (f : Terminals → Terminals) :
    (s.modTerminals f).drive = s.drive := rfl
@[simp] theorem State.modTerminals_governor (s : State) (f : Terminals → Terminals) :
    (s.modTerminals f).governor = s.governor := rfl
@[simp] theorem State.modTerminals_supply (s : State) (f : Terminals → Terminals) :
    (s.modTerminals f).supply = s.supply := rfl
@[simp] theorem State.modTerminals_tanks (s : State) (f : Terminals → Terminals) :
    (s.modTerminals f).tanks = s.tanks := rfl
@[simp] theorem State.modTerminals_totals (s : State) (f : Terminals → Terminals) :
    (s.modTerminals f).totals = s.totals := rfl
@[simp] theorem State.modTerminals_thermal (s : State) (f : Terminals → Terminals) :
    (s.modTerminals f).thermal = s.thermal := rfl
@[simp] theorem State.modTerminals_valves (s : State) (f : Terminals → Terminals) :
    (s.modTerminals f).valves = s.valves := rfl
@[simp] theorem State.modTerminals_recirc (s : State) (f : Terminals → Terminals) :
    (s.modTerminals f).recirc = s.recirc := rfl
@[simp] theorem State.modTerminals_alarm (s : State) (f : Terminals → Terminals) :
    (s.modTerminals f).alarm = s.alarm := rfl
@[simp] theorem State.modTerminals_outputs (s : State) (f : Terminals → Terminals) :
    (s.modTerminals f).outputs = s.outputs := rfl
@[simp] theorem State.modTerminals_notices (s : State) (f : Terminals → Terminals) :
    (s.modTerminals f).notices = s.notices := rfl
@[simp] theorem State.modTerminals_clock (s : State) (f : Terminals → Terminals) :
    (s.modTerminals f).clock = s.clock := rfl
@[simp] theorem State.modTerminals_trend (s : State) (f : Terminals → Terminals) :
    (s.modTerminals f).trend = s.trend := rfl
@[simp] theorem State.modTerminals_link (s : State) (f : Terminals → Terminals) :
    (s.modTerminals f).link = s.link := rfl
@[simp] theorem State.modTerminals_tx (s : State) (f : Terminals → Terminals) :
    (s.modTerminals f).tx = s.tx := rfl
@[simp] theorem State.modTerminals_params (s : State) (f : Terminals → Terminals) :
    (s.modTerminals f).params = s.params := rfl
@[simp] theorem State.modTerminals_choices (s : State) (f : Terminals → Terminals) :
    (s.modTerminals f).choices = s.choices := rfl
@[simp] theorem State.modTerminals_powered (s : State) (f : Terminals → Terminals) :
    (s.modTerminals f).powered = s.powered := rfl
@[simp] theorem State.modTerminals_choiceCount (s : State) (f : Terminals → Terminals) :
    (s.modTerminals f).choiceCount = s.choiceCount := rfl
@[simp] theorem State.modTerminals_pending (s : State) (f : Terminals → Terminals) :
    (s.modTerminals f).pending = s.pending := rfl
@[simp] theorem State.modInterlock_sense (s : State) (f : Interlock → Interlock) :
    (s.modInterlock f).sense = s.sense := rfl
@[simp] theorem State.modInterlock_terminals (s : State) (f : Interlock → Interlock) :
    (s.modInterlock f).terminals = s.terminals := rfl
@[simp] theorem State.modInterlock_interlock (s : State) (f : Interlock → Interlock) :
    (s.modInterlock f).interlock = f s.interlock := rfl
@[simp] theorem State.modInterlock_drive (s : State) (f : Interlock → Interlock) :
    (s.modInterlock f).drive = s.drive := rfl
@[simp] theorem State.modInterlock_governor (s : State) (f : Interlock → Interlock) :
    (s.modInterlock f).governor = s.governor := rfl
@[simp] theorem State.modInterlock_supply (s : State) (f : Interlock → Interlock) :
    (s.modInterlock f).supply = s.supply := rfl
@[simp] theorem State.modInterlock_tanks (s : State) (f : Interlock → Interlock) :
    (s.modInterlock f).tanks = s.tanks := rfl
@[simp] theorem State.modInterlock_totals (s : State) (f : Interlock → Interlock) :
    (s.modInterlock f).totals = s.totals := rfl
@[simp] theorem State.modInterlock_thermal (s : State) (f : Interlock → Interlock) :
    (s.modInterlock f).thermal = s.thermal := rfl
@[simp] theorem State.modInterlock_valves (s : State) (f : Interlock → Interlock) :
    (s.modInterlock f).valves = s.valves := rfl
@[simp] theorem State.modInterlock_recirc (s : State) (f : Interlock → Interlock) :
    (s.modInterlock f).recirc = s.recirc := rfl
@[simp] theorem State.modInterlock_alarm (s : State) (f : Interlock → Interlock) :
    (s.modInterlock f).alarm = s.alarm := rfl
@[simp] theorem State.modInterlock_outputs (s : State) (f : Interlock → Interlock) :
    (s.modInterlock f).outputs = s.outputs := rfl
@[simp] theorem State.modInterlock_notices (s : State) (f : Interlock → Interlock) :
    (s.modInterlock f).notices = s.notices := rfl
@[simp] theorem State.modInterlock_clock (s : State) (f : Interlock → Interlock) :
    (s.modInterlock f).clock = s.clock := rfl
@[simp] theorem State.modInterlock_trend (s : State) (f : Interlock → Interlock) :
    (s.modInterlock f).trend = s.trend := rfl
@[simp] theorem State.modInterlock_link (s : State) (f : Interlock → Interlock) :
    (s.modInterlock f).link = s.link := rfl
@[simp] theorem State.modInterlock_tx (s : State) (f : Interlock → Interlock) :
    (s.modInterlock f).tx = s.tx := rfl
@[simp] theorem State.modInterlock_params (s : State) (f : Interlock → Interlock) :
    (s.modInterlock f).params = s.params := rfl
@[simp] theorem State.modInterlock_choices (s : State) (f : Interlock → Interlock) :
    (s.modInterlock f).choices = s.choices := rfl
@[simp] theorem State.modInterlock_powered (s : State) (f : Interlock → Interlock) :
    (s.modInterlock f).powered = s.powered := rfl
@[simp] theorem State.modInterlock_choiceCount (s : State) (f : Interlock → Interlock) :
    (s.modInterlock f).choiceCount = s.choiceCount := rfl
@[simp] theorem State.modInterlock_pending (s : State) (f : Interlock → Interlock) :
    (s.modInterlock f).pending = s.pending := rfl
@[simp] theorem State.modDrive_sense (s : State) (f : Drive → Drive) :
    (s.modDrive f).sense = s.sense := rfl
@[simp] theorem State.modDrive_terminals (s : State) (f : Drive → Drive) :
    (s.modDrive f).terminals = s.terminals := rfl
@[simp] theorem State.modDrive_interlock (s : State) (f : Drive → Drive) :
    (s.modDrive f).interlock = s.interlock := rfl
@[simp] theorem State.modDrive_drive (s : State) (f : Drive → Drive) :
    (s.modDrive f).drive = f s.drive := rfl
@[simp] theorem State.modDrive_governor (s : State) (f : Drive → Drive) :
    (s.modDrive f).governor = s.governor := rfl
@[simp] theorem State.modDrive_supply (s : State) (f : Drive → Drive) :
    (s.modDrive f).supply = s.supply := rfl
@[simp] theorem State.modDrive_tanks (s : State) (f : Drive → Drive) :
    (s.modDrive f).tanks = s.tanks := rfl
@[simp] theorem State.modDrive_totals (s : State) (f : Drive → Drive) :
    (s.modDrive f).totals = s.totals := rfl
@[simp] theorem State.modDrive_thermal (s : State) (f : Drive → Drive) :
    (s.modDrive f).thermal = s.thermal := rfl
@[simp] theorem State.modDrive_valves (s : State) (f : Drive → Drive) :
    (s.modDrive f).valves = s.valves := rfl
@[simp] theorem State.modDrive_recirc (s : State) (f : Drive → Drive) :
    (s.modDrive f).recirc = s.recirc := rfl
@[simp] theorem State.modDrive_alarm (s : State) (f : Drive → Drive) :
    (s.modDrive f).alarm = s.alarm := rfl
@[simp] theorem State.modDrive_outputs (s : State) (f : Drive → Drive) :
    (s.modDrive f).outputs = s.outputs := rfl
@[simp] theorem State.modDrive_notices (s : State) (f : Drive → Drive) :
    (s.modDrive f).notices = s.notices := rfl
@[simp] theorem State.modDrive_clock (s : State) (f : Drive → Drive) :
    (s.modDrive f).clock = s.clock := rfl
@[simp] theorem State.modDrive_trend (s : State) (f : Drive → Drive) :
    (s.modDrive f).trend = s.trend := rfl
@[simp] theorem State.modDrive_link (s : State) (f : Drive → Drive) :
    (s.modDrive f).link = s.link := rfl
@[simp] theorem State.modDrive_tx (s : State) (f : Drive → Drive) :
    (s.modDrive f).tx = s.tx := rfl
@[simp] theorem State.modDrive_params (s : State) (f : Drive → Drive) :
    (s.modDrive f).params = s.params := rfl
@[simp] theorem State.modDrive_choices (s : State) (f : Drive → Drive) :
    (s.modDrive f).choices = s.choices := rfl
@[simp] theorem State.modDrive_powered (s : State) (f : Drive → Drive) :
    (s.modDrive f).powered = s.powered := rfl
@[simp] theorem State.modDrive_choiceCount (s : State) (f : Drive → Drive) :
    (s.modDrive f).choiceCount = s.choiceCount := rfl
@[simp] theorem State.modDrive_pending (s : State) (f : Drive → Drive) :
    (s.modDrive f).pending = s.pending := rfl
@[simp] theorem State.modGovernor_sense (s : State) (f : Governor → Governor) :
    (s.modGovernor f).sense = s.sense := rfl
@[simp] theorem State.modGovernor_terminals (s : State) (f : Governor → Governor) :
    (s.modGovernor f).terminals = s.terminals := rfl
@[simp] theorem State.modGovernor_interlock (s : State) (f : Governor → Governor) :
    (s.modGovernor f).interlock = s.interlock := rfl
@[simp] theorem State.modGovernor_drive (s : State) (f : Governor → Governor) :
    (s.modGovernor f).drive = s.drive := rfl
@[simp] theorem State.modGovernor_governor (s : State) (f : Governor → Governor) :
    (s.modGovernor f).governor = f s.governor := rfl
@[simp] theorem State.modGovernor_supply (s : State) (f : Governor → Governor) :
    (s.modGovernor f).supply = s.supply := rfl
@[simp] theorem State.modGovernor_tanks (s : State) (f : Governor → Governor) :
    (s.modGovernor f).tanks = s.tanks := rfl
@[simp] theorem State.modGovernor_totals (s : State) (f : Governor → Governor) :
    (s.modGovernor f).totals = s.totals := rfl
@[simp] theorem State.modGovernor_thermal (s : State) (f : Governor → Governor) :
    (s.modGovernor f).thermal = s.thermal := rfl
@[simp] theorem State.modGovernor_valves (s : State) (f : Governor → Governor) :
    (s.modGovernor f).valves = s.valves := rfl
@[simp] theorem State.modGovernor_recirc (s : State) (f : Governor → Governor) :
    (s.modGovernor f).recirc = s.recirc := rfl
@[simp] theorem State.modGovernor_alarm (s : State) (f : Governor → Governor) :
    (s.modGovernor f).alarm = s.alarm := rfl
@[simp] theorem State.modGovernor_outputs (s : State) (f : Governor → Governor) :
    (s.modGovernor f).outputs = s.outputs := rfl
@[simp] theorem State.modGovernor_notices (s : State) (f : Governor → Governor) :
    (s.modGovernor f).notices = s.notices := rfl
@[simp] theorem State.modGovernor_clock (s : State) (f : Governor → Governor) :
    (s.modGovernor f).clock = s.clock := rfl
@[simp] theorem State.modGovernor_trend (s : State) (f : Governor → Governor) :
    (s.modGovernor f).trend = s.trend := rfl
@[simp] theorem State.modGovernor_link (s : State) (f : Governor → Governor) :
    (s.modGovernor f).link = s.link := rfl
@[simp] theorem State.modGovernor_tx (s : State) (f : Governor → Governor) :
    (s.modGovernor f).tx = s.tx := rfl
@[simp] theorem State.modGovernor_params (s : State) (f : Governor → Governor) :
    (s.modGovernor f).params = s.params := rfl
@[simp] theorem State.modGovernor_choices (s : State) (f : Governor → Governor) :
    (s.modGovernor f).choices = s.choices := rfl
@[simp] theorem State.modGovernor_powered (s : State) (f : Governor → Governor) :
    (s.modGovernor f).powered = s.powered := rfl
@[simp] theorem State.modGovernor_choiceCount (s : State) (f : Governor → Governor) :
    (s.modGovernor f).choiceCount = s.choiceCount := rfl
@[simp] theorem State.modGovernor_pending (s : State) (f : Governor → Governor) :
    (s.modGovernor f).pending = s.pending := rfl
@[simp] theorem State.modSupply_sense (s : State) (f : Supply → Supply) :
    (s.modSupply f).sense = s.sense := rfl
@[simp] theorem State.modSupply_terminals (s : State) (f : Supply → Supply) :
    (s.modSupply f).terminals = s.terminals := rfl
@[simp] theorem State.modSupply_interlock (s : State) (f : Supply → Supply) :
    (s.modSupply f).interlock = s.interlock := rfl
@[simp] theorem State.modSupply_drive (s : State) (f : Supply → Supply) :
    (s.modSupply f).drive = s.drive := rfl
@[simp] theorem State.modSupply_governor (s : State) (f : Supply → Supply) :
    (s.modSupply f).governor = s.governor := rfl
@[simp] theorem State.modSupply_supply (s : State) (f : Supply → Supply) :
    (s.modSupply f).supply = f s.supply := rfl
@[simp] theorem State.modSupply_tanks (s : State) (f : Supply → Supply) :
    (s.modSupply f).tanks = s.tanks := rfl
@[simp] theorem State.modSupply_totals (s : State) (f : Supply → Supply) :
    (s.modSupply f).totals = s.totals := rfl
@[simp] theorem State.modSupply_thermal (s : State) (f : Supply → Supply) :
    (s.modSupply f).thermal = s.thermal := rfl
@[simp] theorem State.modSupply_valves (s : State) (f : Supply → Supply) :
    (s.modSupply f).valves = s.valves := rfl
@[simp] theorem State.modSupply_recirc (s : State) (f : Supply → Supply) :
    (s.modSupply f).recirc = s.recirc := rfl
@[simp] theorem State.modSupply_alarm (s : State) (f : Supply → Supply) :
    (s.modSupply f).alarm = s.alarm := rfl
@[simp] theorem State.modSupply_outputs (s : State) (f : Supply → Supply) :
    (s.modSupply f).outputs = s.outputs := rfl
@[simp] theorem State.modSupply_notices (s : State) (f : Supply → Supply) :
    (s.modSupply f).notices = s.notices := rfl
@[simp] theorem State.modSupply_clock (s : State) (f : Supply → Supply) :
    (s.modSupply f).clock = s.clock := rfl
@[simp] theorem State.modSupply_trend (s : State) (f : Supply → Supply) :
    (s.modSupply f).trend = s.trend := rfl
@[simp] theorem State.modSupply_link (s : State) (f : Supply → Supply) :
    (s.modSupply f).link = s.link := rfl
@[simp] theorem State.modSupply_tx (s : State) (f : Supply → Supply) :
    (s.modSupply f).tx = s.tx := rfl
@[simp] theorem State.modSupply_params (s : State) (f : Supply → Supply) :
    (s.modSupply f).params = s.params := rfl
@[simp] theorem State.modSupply_choices (s : State) (f : Supply → Supply) :
    (s.modSupply f).choices = s.choices := rfl
@[simp] theorem State.modSupply_powered (s : State) (f : Supply → Supply) :
    (s.modSupply f).powered = s.powered := rfl
@[simp] theorem State.modSupply_choiceCount (s : State) (f : Supply → Supply) :
    (s.modSupply f).choiceCount = s.choiceCount := rfl
@[simp] theorem State.modSupply_pending (s : State) (f : Supply → Supply) :
    (s.modSupply f).pending = s.pending := rfl
@[simp] theorem State.modTanks_sense (s : State) (f : PerTank TankRecord → PerTank TankRecord) :
    (s.modTanks f).sense = s.sense := rfl
@[simp] theorem State.modTanks_terminals (s : State) (f : PerTank TankRecord → PerTank TankRecord) :
    (s.modTanks f).terminals = s.terminals := rfl
@[simp] theorem State.modTanks_interlock (s : State) (f : PerTank TankRecord → PerTank TankRecord) :
    (s.modTanks f).interlock = s.interlock := rfl
@[simp] theorem State.modTanks_drive (s : State) (f : PerTank TankRecord → PerTank TankRecord) :
    (s.modTanks f).drive = s.drive := rfl
@[simp] theorem State.modTanks_governor (s : State) (f : PerTank TankRecord → PerTank TankRecord) :
    (s.modTanks f).governor = s.governor := rfl
@[simp] theorem State.modTanks_supply (s : State) (f : PerTank TankRecord → PerTank TankRecord) :
    (s.modTanks f).supply = s.supply := rfl
@[simp] theorem State.modTanks_tanks (s : State) (f : PerTank TankRecord → PerTank TankRecord) :
    (s.modTanks f).tanks = f s.tanks := rfl
@[simp] theorem State.modTanks_totals (s : State) (f : PerTank TankRecord → PerTank TankRecord) :
    (s.modTanks f).totals = s.totals := rfl
@[simp] theorem State.modTanks_thermal (s : State) (f : PerTank TankRecord → PerTank TankRecord) :
    (s.modTanks f).thermal = s.thermal := rfl
@[simp] theorem State.modTanks_valves (s : State) (f : PerTank TankRecord → PerTank TankRecord) :
    (s.modTanks f).valves = s.valves := rfl
@[simp] theorem State.modTanks_recirc (s : State) (f : PerTank TankRecord → PerTank TankRecord) :
    (s.modTanks f).recirc = s.recirc := rfl
@[simp] theorem State.modTanks_alarm (s : State) (f : PerTank TankRecord → PerTank TankRecord) :
    (s.modTanks f).alarm = s.alarm := rfl
@[simp] theorem State.modTanks_outputs (s : State) (f : PerTank TankRecord → PerTank TankRecord) :
    (s.modTanks f).outputs = s.outputs := rfl
@[simp] theorem State.modTanks_notices (s : State) (f : PerTank TankRecord → PerTank TankRecord) :
    (s.modTanks f).notices = s.notices := rfl
@[simp] theorem State.modTanks_clock (s : State) (f : PerTank TankRecord → PerTank TankRecord) :
    (s.modTanks f).clock = s.clock := rfl
@[simp] theorem State.modTanks_trend (s : State) (f : PerTank TankRecord → PerTank TankRecord) :
    (s.modTanks f).trend = s.trend := rfl
@[simp] theorem State.modTanks_link (s : State) (f : PerTank TankRecord → PerTank TankRecord) :
    (s.modTanks f).link = s.link := rfl
@[simp] theorem State.modTanks_tx (s : State) (f : PerTank TankRecord → PerTank TankRecord) :
    (s.modTanks f).tx = s.tx := rfl
@[simp] theorem State.modTanks_params (s : State) (f : PerTank TankRecord → PerTank TankRecord) :
    (s.modTanks f).params = s.params := rfl
@[simp] theorem State.modTanks_choices (s : State) (f : PerTank TankRecord → PerTank TankRecord) :
    (s.modTanks f).choices = s.choices := rfl
@[simp] theorem State.modTanks_powered (s : State) (f : PerTank TankRecord → PerTank TankRecord) :
    (s.modTanks f).powered = s.powered := rfl
@[simp] theorem State.modTanks_choiceCount (s : State) (f : PerTank TankRecord → PerTank TankRecord) :
    (s.modTanks f).choiceCount = s.choiceCount := rfl
@[simp] theorem State.modTanks_pending (s : State) (f : PerTank TankRecord → PerTank TankRecord) :
    (s.modTanks f).pending = s.pending := rfl
@[simp] theorem State.modTotals_sense (s : State) (f : Totals → Totals) :
    (s.modTotals f).sense = s.sense := rfl
@[simp] theorem State.modTotals_terminals (s : State) (f : Totals → Totals) :
    (s.modTotals f).terminals = s.terminals := rfl
@[simp] theorem State.modTotals_interlock (s : State) (f : Totals → Totals) :
    (s.modTotals f).interlock = s.interlock := rfl
@[simp] theorem State.modTotals_drive (s : State) (f : Totals → Totals) :
    (s.modTotals f).drive = s.drive := rfl
@[simp] theorem State.modTotals_governor (s : State) (f : Totals → Totals) :
    (s.modTotals f).governor = s.governor := rfl
@[simp] theorem State.modTotals_supply (s : State) (f : Totals → Totals) :
    (s.modTotals f).supply = s.supply := rfl
@[simp] theorem State.modTotals_tanks (s : State) (f : Totals → Totals) :
    (s.modTotals f).tanks = s.tanks := rfl
@[simp] theorem State.modTotals_totals (s : State) (f : Totals → Totals) :
    (s.modTotals f).totals = f s.totals := rfl
@[simp] theorem State.modTotals_thermal (s : State) (f : Totals → Totals) :
    (s.modTotals f).thermal = s.thermal := rfl
@[simp] theorem State.modTotals_valves (s : State) (f : Totals → Totals) :
    (s.modTotals f).valves = s.valves := rfl
@[simp] theorem State.modTotals_recirc (s : State) (f : Totals → Totals) :
    (s.modTotals f).recirc = s.recirc := rfl
@[simp] theorem State.modTotals_alarm (s : State) (f : Totals → Totals) :
    (s.modTotals f).alarm = s.alarm := rfl
@[simp] theorem State.modTotals_outputs (s : State) (f : Totals → Totals) :
    (s.modTotals f).outputs = s.outputs := rfl
@[simp] theorem State.modTotals_notices (s : State) (f : Totals → Totals) :
    (s.modTotals f).notices = s.notices := rfl
@[simp] theorem State.modTotals_clock (s : State) (f : Totals → Totals) :
    (s.modTotals f).clock = s.clock := rfl
@[simp] theorem State.modTotals_trend (s : State) (f : Totals → Totals) :
    (s.modTotals f).trend = s.trend := rfl
@[simp] theorem State.modTotals_link (s : State) (f : Totals → Totals) :
    (s.modTotals f).link = s.link := rfl
@[simp] theorem State.modTotals_tx (s : State) (f : Totals → Totals) :
    (s.modTotals f).tx = s.tx := rfl
@[simp] theorem State.modTotals_params (s : State) (f : Totals → Totals) :
    (s.modTotals f).params = s.params := rfl
@[simp] theorem State.modTotals_choices (s : State) (f : Totals → Totals) :
    (s.modTotals f).choices = s.choices := rfl
@[simp] theorem State.modTotals_powered (s : State) (f : Totals → Totals) :
    (s.modTotals f).powered = s.powered := rfl
@[simp] theorem State.modTotals_choiceCount (s : State) (f : Totals → Totals) :
    (s.modTotals f).choiceCount = s.choiceCount := rfl
@[simp] theorem State.modTotals_pending (s : State) (f : Totals → Totals) :
    (s.modTotals f).pending = s.pending := rfl
@[simp] theorem State.modThermal_sense (s : State) (f : Thermal → Thermal) :
    (s.modThermal f).sense = s.sense := rfl
@[simp] theorem State.modThermal_terminals (s : State) (f : Thermal → Thermal) :
    (s.modThermal f).terminals = s.terminals := rfl
@[simp] theorem State.modThermal_interlock (s : State) (f : Thermal → Thermal) :
    (s.modThermal f).interlock = s.interlock := rfl
@[simp] theorem State.modThermal_drive (s : State) (f : Thermal → Thermal) :
    (s.modThermal f).drive = s.drive := rfl
@[simp] theorem State.modThermal_governor (s : State) (f : Thermal → Thermal) :
    (s.modThermal f).governor = s.governor := rfl
@[simp] theorem State.modThermal_supply (s : State) (f : Thermal → Thermal) :
    (s.modThermal f).supply = s.supply := rfl
@[simp] theorem State.modThermal_tanks (s : State) (f : Thermal → Thermal) :
    (s.modThermal f).tanks = s.tanks := rfl
@[simp] theorem State.modThermal_totals (s : State) (f : Thermal → Thermal) :
    (s.modThermal f).totals = s.totals := rfl
@[simp] theorem State.modThermal_thermal (s : State) (f : Thermal → Thermal) :
    (s.modThermal f).thermal = f s.thermal := rfl
@[simp] theorem State.modThermal_valves (s : State) (f : Thermal → Thermal) :
    (s.modThermal f).valves = s.valves := rfl
@[simp] theorem State.modThermal_recirc (s : State) (f : Thermal → Thermal) :
    (s.modThermal f).recirc = s.recirc := rfl
@[simp] theorem State.modThermal_alarm (s : State) (f : Thermal → Thermal) :
    (s.modThermal f).alarm = s.alarm := rfl
@[simp] theorem State.modThermal_outputs (s : State) (f : Thermal → Thermal) :
    (s.modThermal f).outputs = s.outputs := rfl
@[simp] theorem State.modThermal_notices (s : State) (f : Thermal → Thermal) :
    (s.modThermal f).notices = s.notices := rfl
@[simp] theorem State.modThermal_clock (s : State) (f : Thermal → Thermal) :
    (s.modThermal f).clock = s.clock := rfl
@[simp] theorem State.modThermal_trend (s : State) (f : Thermal → Thermal) :
    (s.modThermal f).trend = s.trend := rfl
@[simp] theorem State.modThermal_link (s : State) (f : Thermal → Thermal) :
    (s.modThermal f).link = s.link := rfl
@[simp] theorem State.modThermal_tx (s : State) (f : Thermal → Thermal) :
    (s.modThermal f).tx = s.tx := rfl
@[simp] theorem State.modThermal_params (s : State) (f : Thermal → Thermal) :
    (s.modThermal f).params = s.params := rfl
@[simp] theorem State.modThermal_choices (s : State) (f : Thermal → Thermal) :
    (s.modThermal f).choices = s.choices := rfl
@[simp] theorem State.modThermal_powered (s : State) (f : Thermal → Thermal) :
    (s.modThermal f).powered = s.powered := rfl
@[simp] theorem State.modThermal_choiceCount (s : State) (f : Thermal → Thermal) :
    (s.modThermal f).choiceCount = s.choiceCount := rfl
@[simp] theorem State.modThermal_pending (s : State) (f : Thermal → Thermal) :
    (s.modThermal f).pending = s.pending := rfl
@[simp] theorem State.modValves_sense (s : State) (f : PerValve Actuator → PerValve Actuator) :
    (s.modValves f).sense = s.sense := rfl
@[simp] theorem State.modValves_terminals (s : State) (f : PerValve Actuator → PerValve Actuator) :
    (s.modValves f).terminals = s.terminals := rfl
@[simp] theorem State.modValves_interlock (s : State) (f : PerValve Actuator → PerValve Actuator) :
    (s.modValves f).interlock = s.interlock := rfl
@[simp] theorem State.modValves_drive (s : State) (f : PerValve Actuator → PerValve Actuator) :
    (s.modValves f).drive = s.drive := rfl
@[simp] theorem State.modValves_governor (s : State) (f : PerValve Actuator → PerValve Actuator) :
    (s.modValves f).governor = s.governor := rfl
@[simp] theorem State.modValves_supply (s : State) (f : PerValve Actuator → PerValve Actuator) :
    (s.modValves f).supply = s.supply := rfl
@[simp] theorem State.modValves_tanks (s : State) (f : PerValve Actuator → PerValve Actuator) :
    (s.modValves f).tanks = s.tanks := rfl
@[simp] theorem State.modValves_totals (s : State) (f : PerValve Actuator → PerValve Actuator) :
    (s.modValves f).totals = s.totals := rfl
@[simp] theorem State.modValves_thermal (s : State) (f : PerValve Actuator → PerValve Actuator) :
    (s.modValves f).thermal = s.thermal := rfl
@[simp] theorem State.modValves_valves (s : State) (f : PerValve Actuator → PerValve Actuator) :
    (s.modValves f).valves = f s.valves := rfl
@[simp] theorem State.modValves_recirc (s : State) (f : PerValve Actuator → PerValve Actuator) :
    (s.modValves f).recirc = s.recirc := rfl
@[simp] theorem State.modValves_alarm (s : State) (f : PerValve Actuator → PerValve Actuator) :
    (s.modValves f).alarm = s.alarm := rfl
@[simp] theorem State.modValves_outputs (s : State) (f : PerValve Actuator → PerValve Actuator) :
    (s.modValves f).outputs = s.outputs := rfl
@[simp] theorem State.modValves_notices (s : State) (f : PerValve Actuator → PerValve Actuator) :
    (s.modValves f).notices = s.notices := rfl
@[simp] theorem State.modValves_clock (s : State) (f : PerValve Actuator → PerValve Actuator) :
    (s.modValves f).clock = s.clock := rfl
@[simp] theorem State.modValves_trend (s : State) (f : PerValve Actuator → PerValve Actuator) :
    (s.modValves f).trend = s.trend := rfl
@[simp] theorem State.modValves_link (s : State) (f : PerValve Actuator → PerValve Actuator) :
    (s.modValves f).link = s.link := rfl
@[simp] theorem State.modValves_tx (s : State) (f : PerValve Actuator → PerValve Actuator) :
    (s.modValves f).tx = s.tx := rfl
@[simp] theorem State.modValves_params (s : State) (f : PerValve Actuator → PerValve Actuator) :
    (s.modValves f).params = s.params := rfl
@[simp] theorem State.modValves_choices (s : State) (f : PerValve Actuator → PerValve Actuator) :
    (s.modValves f).choices = s.choices := rfl
@[simp] theorem State.modValves_powered (s : State) (f : PerValve Actuator → PerValve Actuator) :
    (s.modValves f).powered = s.powered := rfl
@[simp] theorem State.modValves_choiceCount (s : State) (f : PerValve Actuator → PerValve Actuator) :
    (s.modValves f).choiceCount = s.choiceCount := rfl
@[simp] theorem State.modValves_pending (s : State) (f : PerValve Actuator → PerValve Actuator) :
    (s.modValves f).pending = s.pending := rfl
@[simp] theorem State.modRecirc_sense (s : State) (f : List RecircCause → List RecircCause) :
    (s.modRecirc f).sense = s.sense := rfl
@[simp] theorem State.modRecirc_terminals (s : State) (f : List RecircCause → List RecircCause) :
    (s.modRecirc f).terminals = s.terminals := rfl
@[simp] theorem State.modRecirc_interlock (s : State) (f : List RecircCause → List RecircCause) :
    (s.modRecirc f).interlock = s.interlock := rfl
@[simp] theorem State.modRecirc_drive (s : State) (f : List RecircCause → List RecircCause) :
    (s.modRecirc f).drive = s.drive := rfl
@[simp] theorem State.modRecirc_governor (s : State) (f : List RecircCause → List RecircCause) :
    (s.modRecirc f).governor = s.governor := rfl
@[simp] theorem State.modRecirc_supply (s : State) (f : List RecircCause → List RecircCause) :
    (s.modRecirc f).supply = s.supply := rfl
@[simp] theorem State.modRecirc_tanks (s : State) (f : List RecircCause → List RecircCause) :
    (s.modRecirc f).tanks = s.tanks := rfl
@[simp] theorem State.modRecirc_totals (s : State) (f : List RecircCause → List RecircCause) :
    (s.modRecirc f).totals = s.totals := rfl
@[simp] theorem State.modRecirc_thermal (s : State) (f : List RecircCause → List RecircCause) :
    (s.modRecirc f).thermal = s.thermal := rfl
@[simp] theorem State.modRecirc_valves (s : State) (f : List RecircCause → List RecircCause) :
    (s.modRecirc f).valves = s.valves := rfl
@[simp] theorem State.modRecirc_recirc (s : State) (f : List RecircCause → List RecircCause) :
    (s.modRecirc f).recirc = f s.recirc := rfl
@[simp] theorem State.modRecirc_alarm (s : State) (f : List RecircCause → List RecircCause) :
    (s.modRecirc f).alarm = s.alarm := rfl
@[simp] theorem State.modRecirc_outputs (s : State) (f : List RecircCause → List RecircCause) :
    (s.modRecirc f).outputs = s.outputs := rfl
@[simp] theorem State.modRecirc_notices (s : State) (f : List RecircCause → List RecircCause) :
    (s.modRecirc f).notices = s.notices := rfl
@[simp] theorem State.modRecirc_clock (s : State) (f : List RecircCause → List RecircCause) :
    (s.modRecirc f).clock = s.clock := rfl
@[simp] theorem State.modRecirc_trend (s : State) (f : List RecircCause → List RecircCause) :
    (s.modRecirc f).trend = s.trend := rfl
@[simp] theorem State.modRecirc_link (s : State) (f : List RecircCause → List RecircCause) :
    (s.modRecirc f).link = s.link := rfl
@[simp] theorem State.modRecirc_tx (s : State) (f : List RecircCause → List RecircCause) :
    (s.modRecirc f).tx = s.tx := rfl
@[simp] theorem State.modRecirc_params (s : State) (f : List RecircCause → List RecircCause) :
    (s.modRecirc f).params = s.params := rfl
@[simp] theorem State.modRecirc_choices (s : State) (f : List RecircCause → List RecircCause) :
    (s.modRecirc f).choices = s.choices := rfl
@[simp] theorem State.modRecirc_powered (s : State) (f : List RecircCause → List RecircCause) :
    (s.modRecirc f).powered = s.powered := rfl
@[simp] theorem State.modRecirc_choiceCount (s : State) (f : List RecircCause → List RecircCause) :
    (s.modRecirc f).choiceCount = s.choiceCount := rfl
@[simp] theorem State.modRecirc_pending (s : State) (f : List RecircCause → List RecircCause) :
    (s.modRecirc f).pending = s.pending := rfl
@[simp] theorem State.modAlarm_sense (s : State) (f : Alarm → Alarm) :
    (s.modAlarm f).sense = s.sense := rfl
@[simp] theorem State.modAlarm_terminals (s : State) (f : Alarm → Alarm) :
    (s.modAlarm f).terminals = s.terminals := rfl
@[simp] theorem State.modAlarm_interlock (s : State) (f : Alarm → Alarm) :
    (s.modAlarm f).interlock = s.interlock := rfl
@[simp] theorem State.modAlarm_drive (s : State) (f : Alarm → Alarm) :
    (s.modAlarm f).drive = s.drive := rfl
@[simp] theorem State.modAlarm_governor (s : State) (f : Alarm → Alarm) :
    (s.modAlarm f).governor = s.governor := rfl
@[simp] theorem State.modAlarm_supply (s : State) (f : Alarm → Alarm) :
    (s.modAlarm f).supply = s.supply := rfl
@[simp] theorem State.modAlarm_tanks (s : State) (f : Alarm → Alarm) :
    (s.modAlarm f).tanks = s.tanks := rfl
@[simp] theorem State.modAlarm_totals (s : State) (f : Alarm → Alarm) :
    (s.modAlarm f).totals = s.totals := rfl
@[simp] theorem State.modAlarm_thermal (s : State) (f : Alarm → Alarm) :
    (s.modAlarm f).thermal = s.thermal := rfl
@[simp] theorem State.modAlarm_valves (s : State) (f : Alarm → Alarm) :
    (s.modAlarm f).valves = s.valves := rfl
@[simp] theorem State.modAlarm_recirc (s : State) (f : Alarm → Alarm) :
    (s.modAlarm f).recirc = s.recirc := rfl
@[simp] theorem State.modAlarm_alarm (s : State) (f : Alarm → Alarm) :
    (s.modAlarm f).alarm = f s.alarm := rfl
@[simp] theorem State.modAlarm_outputs (s : State) (f : Alarm → Alarm) :
    (s.modAlarm f).outputs = s.outputs := rfl
@[simp] theorem State.modAlarm_notices (s : State) (f : Alarm → Alarm) :
    (s.modAlarm f).notices = s.notices := rfl
@[simp] theorem State.modAlarm_clock (s : State) (f : Alarm → Alarm) :
    (s.modAlarm f).clock = s.clock := rfl
@[simp] theorem State.modAlarm_trend (s : State) (f : Alarm → Alarm) :
    (s.modAlarm f).trend = s.trend := rfl
@[simp] theorem State.modAlarm_link (s : State) (f : Alarm → Alarm) :
    (s.modAlarm f).link = s.link := rfl
@[simp] theorem State.modAlarm_tx (s : State) (f : Alarm → Alarm) :
    (s.modAlarm f).tx = s.tx := rfl
@[simp] theorem State.modAlarm_params (s : State) (f : Alarm → Alarm) :
    (s.modAlarm f).params = s.params := rfl
@[simp] theorem State.modAlarm_choices (s : State) (f : Alarm → Alarm) :
    (s.modAlarm f).choices = s.choices := rfl
@[simp] theorem State.modAlarm_powered (s : State) (f : Alarm → Alarm) :
    (s.modAlarm f).powered = s.powered := rfl
@[simp] theorem State.modAlarm_choiceCount (s : State) (f : Alarm → Alarm) :
    (s.modAlarm f).choiceCount = s.choiceCount := rfl
@[simp] theorem State.modAlarm_pending (s : State) (f : Alarm → Alarm) :
    (s.modAlarm f).pending = s.pending := rfl
@[simp] theorem State.modOutputs_sense (s : State) (f : Outputs → Outputs) :
    (s.modOutputs f).sense = s.sense := rfl
@[simp] theorem State.modOutputs_terminals (s : State) (f : Outputs → Outputs) :
    (s.modOutputs f).terminals = s.terminals := rfl
@[simp] theorem State.modOutputs_interlock (s : State) (f : Outputs → Outputs) :
    (s.modOutputs f).interlock = s.interlock := rfl
@[simp] theorem State.modOutputs_drive (s : State) (f : Outputs → Outputs) :
    (s.modOutputs f).drive = s.drive := rfl
@[simp] theorem State.modOutputs_governor (s : State) (f : Outputs → Outputs) :
    (s.modOutputs f).governor = s.governor := rfl
@[simp] theorem State.modOutputs_supply (s : State) (f : Outputs → Outputs) :
    (s.modOutputs f).supply = s.supply := rfl
@[simp] theorem State.modOutputs_tanks (s : State) (f : Outputs → Outputs) :
    (s.modOutputs f).tanks = s.tanks := rfl
@[simp] theorem State.modOutputs_totals (s : State) (f : Outputs → Outputs) :
    (s.modOutputs f).totals = s.totals := rfl
@[simp] theorem State.modOutputs_thermal (s : State) (f : Outputs → Outputs) :
    (s.modOutputs f).thermal = s.thermal := rfl
@[simp] theorem State.modOutputs_valves (s : State) (f : Outputs → Outputs) :
    (s.modOutputs f).valves = s.valves := rfl
@[simp] theorem State.modOutputs_recirc (s : State) (f : Outputs → Outputs) :
    (s.modOutputs f).recirc = s.recirc := rfl
@[simp] theorem State.modOutputs_alarm (s : State) (f : Outputs → Outputs) :
    (s.modOutputs f).alarm = s.alarm := rfl
@[simp] theorem State.modOutputs_outputs (s : State) (f : Outputs → Outputs) :
    (s.modOutputs f).outputs = f s.outputs := rfl
@[simp] theorem State.modOutputs_notices (s : State) (f : Outputs → Outputs) :
    (s.modOutputs f).notices = s.notices := rfl
@[simp] theorem State.modOutputs_clock (s : State) (f : Outputs → Outputs) :
    (s.modOutputs f).clock = s.clock := rfl
@[simp] theorem State.modOutputs_trend (s : State) (f : Outputs → Outputs) :
    (s.modOutputs f).trend = s.trend := rfl
@[simp] theorem State.modOutputs_link (s : State) (f : Outputs → Outputs) :
    (s.modOutputs f).link = s.link := rfl
@[simp] theorem State.modOutputs_tx (s : State) (f : Outputs → Outputs) :
    (s.modOutputs f).tx = s.tx := rfl
@[simp] theorem State.modOutputs_params (s : State) (f : Outputs → Outputs) :
    (s.modOutputs f).params = s.params := rfl
@[simp] theorem State.modOutputs_choices (s : State) (f : Outputs → Outputs) :
    (s.modOutputs f).choices = s.choices := rfl
@[simp] theorem State.modOutputs_powered (s : State) (f : Outputs → Outputs) :
    (s.modOutputs f).powered = s.powered := rfl
@[simp] theorem State.modOutputs_choiceCount (s : State) (f : Outputs → Outputs) :
    (s.modOutputs f).choiceCount = s.choiceCount := rfl
@[simp] theorem State.modOutputs_pending (s : State) (f : Outputs → Outputs) :
    (s.modOutputs f).pending = s.pending := rfl
@[simp] theorem State.modNotices_sense (s : State) (f : Notices → Notices) :
    (s.modNotices f).sense = s.sense := rfl
@[simp] theorem State.modNotices_terminals (s : State) (f : Notices → Notices) :
    (s.modNotices f).terminals = s.terminals := rfl
@[simp] theorem State.modNotices_interlock (s : State) (f : Notices → Notices) :
    (s.modNotices f).interlock = s.interlock := rfl
@[simp] theorem State.modNotices_drive (s : State) (f : Notices → Notices) :
    (s.modNotices f).drive = s.drive := rfl
@[simp] theorem State.modNotices_governor (s : State) (f : Notices → Notices) :
    (s.modNotices f).governor = s.governor := rfl
@[simp] theorem State.modNotices_supply (s : State) (f : Notices → Notices) :
    (s.modNotices f).supply = s.supply := rfl
@[simp] theorem State.modNotices_tanks (s : State) (f : Notices → Notices) :
    (s.modNotices f).tanks = s.tanks := rfl
@[simp] theorem State.modNotices_totals (s : State) (f : Notices → Notices) :
    (s.modNotices f).totals = s.totals := rfl
@[simp] theorem State.modNotices_thermal (s : State) (f : Notices → Notices) :
    (s.modNotices f).thermal = s.thermal := rfl
@[simp] theorem State.modNotices_valves (s : State) (f : Notices → Notices) :
    (s.modNotices f).valves = s.valves := rfl
@[simp] theorem State.modNotices_recirc (s : State) (f : Notices → Notices) :
    (s.modNotices f).recirc = s.recirc := rfl
@[simp] theorem State.modNotices_alarm (s : State) (f : Notices → Notices) :
    (s.modNotices f).alarm = s.alarm := rfl
@[simp] theorem State.modNotices_outputs (s : State) (f : Notices → Notices) :
    (s.modNotices f).outputs = s.outputs := rfl
@[simp] theorem State.modNotices_notices (s : State) (f : Notices → Notices) :
    (s.modNotices f).notices = f s.notices := rfl
@[simp] theorem State.modNotices_clock (s : State) (f : Notices → Notices) :
    (s.modNotices f).clock = s.clock := rfl
@[simp] theorem State.modNotices_trend (s : State) (f : Notices → Notices) :
    (s.modNotices f).trend = s.trend := rfl
@[simp] theorem State.modNotices_link (s : State) (f : Notices → Notices) :
    (s.modNotices f).link = s.link := rfl
@[simp] theorem State.modNotices_tx (s : State) (f : Notices → Notices) :
    (s.modNotices f).tx = s.tx := rfl
@[simp] theorem State.modNotices_params (s : State) (f : Notices → Notices) :
    (s.modNotices f).params = s.params := rfl
@[simp] theorem State.modNotices_choices (s : State) (f : Notices → Notices) :
    (s.modNotices f).choices = s.choices := rfl
@[simp] theorem State.modNotices_powered (s : State) (f : Notices → Notices) :
    (s.modNotices f).powered = s.powered := rfl
@[simp] theorem State.modNotices_choiceCount (s : State) (f : Notices → Notices) :
    (s.modNotices f).choiceCount = s.choiceCount := rfl
@[simp] theorem State.modNotices_pending (s : State) (f : Notices → Notices) :
    (s.modNotices f).pending = s.pending := rfl
@[simp] theorem State.modClock_sense (s : State) (f : Clock → Clock) :
    (s.modClock f).sense = s.sense := rfl
@[simp] theorem State.modClock_terminals (s : State) (f : Clock → Clock) :
    (s.modClock f).terminals = s.terminals := rfl
@[simp] theorem State.modClock_interlock (s : State) (f : Clock → Clock) :
    (s.modClock f).interlock = s.interlock := rfl
@[simp] theorem State.modClock_drive (s : State) (f : Clock → Clock) :
    (s.modClock f).drive = s.drive := rfl
@[simp] theorem State.modClock_governor (s : State) (f : Clock → Clock) :
    (s.modClock f).governor = s.governor := rfl
@[simp] theorem State.modClock_supply (s : State) (f : Clock → Clock) :
    (s.modClock f).supply = s.supply := rfl
@[simp] theorem State.modClock_tanks (s : State) (f : Clock → Clock) :
    (s.modClock f).tanks = s.tanks := rfl
@[simp] theorem State.modClock_totals (s : State) (f : Clock → Clock) :
    (s.modClock f).totals = s.totals := rfl
@[simp] theorem State.modClock_thermal (s : State) (f : Clock → Clock) :
    (s.modClock f).thermal = s.thermal := rfl
@[simp] theorem State.modClock_valves (s : State) (f : Clock → Clock) :
    (s.modClock f).valves = s.valves := rfl
@[simp] theorem State.modClock_recirc (s : State) (f : Clock → Clock) :
    (s.modClock f).recirc = s.recirc := rfl
@[simp] theorem State.modClock_alarm (s : State) (f : Clock → Clock) :
    (s.modClock f).alarm = s.alarm := rfl
@[simp] theorem State.modClock_outputs (s : State) (f : Clock → Clock) :
    (s.modClock f).outputs = s.outputs := rfl
@[simp] theorem State.modClock_notices (s : State) (f : Clock → Clock) :
    (s.modClock f).notices = s.notices := rfl
@[simp] theorem State.modClock_clock (s : State) (f : Clock → Clock) :
    (s.modClock f).clock = f s.clock := rfl
@[simp] theorem State.modClock_trend (s : State) (f : Clock → Clock) :
    (s.modClock f).trend = s.trend := rfl
@[simp] theorem State.modClock_link (s : State) (f : Clock → Clock) :
    (s.modClock f).link = s.link := rfl
@[simp] theorem State.modClock_tx (s : State) (f : Clock → Clock) :
    (s.modClock f).tx = s.tx := rfl
@[simp] theorem State.modClock_params (s : State) (f : Clock → Clock) :
    (s.modClock f).params = s.params := rfl
@[simp] theorem State.modClock_choices (s : State) (f : Clock → Clock) :
    (s.modClock f).choices = s.choices := rfl
@[simp] theorem State.modClock_powered (s : State) (f : Clock → Clock) :
    (s.modClock f).powered = s.powered := rfl
@[simp] theorem State.modClock_choiceCount (s : State) (f : Clock → Clock) :
    (s.modClock f).choiceCount = s.choiceCount := rfl
@[simp] theorem State.modClock_pending (s : State) (f : Clock → Clock) :
    (s.modClock f).pending = s.pending := rfl
@[simp] theorem State.modTrend_sense (s : State) (f : Trend → Trend) :
    (s.modTrend f).sense = s.sense := rfl
@[simp] theorem State.modTrend_terminals (s : State) (f : Trend → Trend) :
    (s.modTrend f).terminals = s.terminals := rfl
@[simp] theorem State.modTrend_interlock (s : State) (f : Trend → Trend) :
    (s.modTrend f).interlock = s.interlock := rfl
@[simp] theorem State.modTrend_drive (s : State) (f : Trend → Trend) :
    (s.modTrend f).drive = s.drive := rfl
@[simp] theorem State.modTrend_governor (s : State) (f : Trend → Trend) :
    (s.modTrend f).governor = s.governor := rfl
@[simp] theorem State.modTrend_supply (s : State) (f : Trend → Trend) :
    (s.modTrend f).supply = s.supply := rfl
@[simp] theorem State.modTrend_tanks (s : State) (f : Trend → Trend) :
    (s.modTrend f).tanks = s.tanks := rfl
@[simp] theorem State.modTrend_totals (s : State) (f : Trend → Trend) :
    (s.modTrend f).totals = s.totals := rfl
@[simp] theorem State.modTrend_thermal (s : State) (f : Trend → Trend) :
    (s.modTrend f).thermal = s.thermal := rfl
@[simp] theorem State.modTrend_valves (s : State) (f : Trend → Trend) :
    (s.modTrend f).valves = s.valves := rfl
@[simp] theorem State.modTrend_recirc (s : State) (f : Trend → Trend) :
    (s.modTrend f).recirc = s.recirc := rfl
@[simp] theorem State.modTrend_alarm (s : State) (f : Trend → Trend) :
    (s.modTrend f).alarm = s.alarm := rfl
@[simp] theorem State.modTrend_outputs (s : State) (f : Trend → Trend) :
    (s.modTrend f).outputs = s.outputs := rfl
@[simp] theorem State.modTrend_notices (s : State) (f : Trend → Trend) :
    (s.modTrend f).notices = s.notices := rfl
@[simp] theorem State.modTrend_clock (s : State) (f : Trend → Trend) :
    (s.modTrend f).clock = s.clock := rfl
@[simp] theorem State.modTrend_trend (s : State) (f : Trend → Trend) :
    (s.modTrend f).trend = f s.trend := rfl
@[simp] theorem State.modTrend_link (s : State) (f : Trend → Trend) :
    (s.modTrend f).link = s.link := rfl
@[simp] theorem State.modTrend_tx (s : State) (f : Trend → Trend) :
    (s.modTrend f).tx = s.tx := rfl
@[simp] theorem State.modTrend_params (s : State) (f : Trend → Trend) :
    (s.modTrend f).params = s.params := rfl
@[simp] theorem State.modTrend_choices (s : State) (f : Trend → Trend) :
    (s.modTrend f).choices = s.choices := rfl
@[simp] theorem State.modTrend_powered (s : State) (f : Trend → Trend) :
    (s.modTrend f).powered = s.powered := rfl
@[simp] theorem State.modTrend_choiceCount (s : State) (f : Trend → Trend) :
    (s.modTrend f).choiceCount = s.choiceCount := rfl
@[simp] theorem State.modTrend_pending (s : State) (f : Trend → Trend) :
    (s.modTrend f).pending = s.pending := rfl
@[simp] theorem State.modLink_sense (s : State) (f : Link → Link) :
    (s.modLink f).sense = s.sense := rfl
@[simp] theorem State.modLink_terminals (s : State) (f : Link → Link) :
    (s.modLink f).terminals = s.terminals := rfl
@[simp] theorem State.modLink_interlock (s : State) (f : Link → Link) :
    (s.modLink f).interlock = s.interlock := rfl
@[simp] theorem State.modLink_drive (s : State) (f : Link → Link) :
    (s.modLink f).drive = s.drive := rfl
@[simp] theorem State.modLink_governor (s : State) (f : Link → Link) :
    (s.modLink f).governor = s.governor := rfl
@[simp] theorem State.modLink_supply (s : State) (f : Link → Link) :
    (s.modLink f).supply = s.supply := rfl
@[simp] theorem State.modLink_tanks (s : State) (f : Link → Link) :
    (s.modLink f).tanks = s.tanks := rfl
@[simp] theorem State.modLink_totals (s : State) (f : Link → Link) :
    (s.modLink f).totals = s.totals := rfl
@[simp] theorem State.modLink_thermal (s : State) (f : Link → Link) :
    (s.modLink f).thermal = s.thermal := rfl
@[simp] theorem State.modLink_valves (s : State) (f : Link → Link) :
    (s.modLink f).valves = s.valves := rfl
@[simp] theorem State.modLink_recirc (s : State) (f : Link → Link) :
    (s.modLink f).recirc = s.recirc := rfl
@[simp] theorem State.modLink_alarm (s : State) (f : Link → Link) :
    (s.modLink f).alarm = s.alarm := rfl
@[simp] theorem State.modLink_outputs (s : State) (f : Link → Link) :
    (s.modLink f).outputs = s.outputs := rfl
@[simp] theorem State.modLink_notices (s : State) (f : Link → Link) :
    (s.modLink f).notices = s.notices := rfl
@[simp] theorem State.modLink_clock (s : State) (f : Link → Link) :
    (s.modLink f).clock = s.clock := rfl
@[simp] theorem State.modLink_trend (s : State) (f : Link → Link) :
    (s.modLink f).trend = s.trend := rfl
@[simp] theorem State.modLink_link (s : State) (f : Link → Link) :
    (s.modLink f).link = f s.link := rfl
@[simp] theorem State.modLink_tx (s : State) (f : Link → Link) :
    (s.modLink f).tx = s.tx := rfl
@[simp] theorem State.modLink_params (s : State) (f : Link → Link) :
    (s.modLink f).params = s.params := rfl
@[simp] theorem State.modLink_choices (s : State) (f : Link → Link) :
    (s.modLink f).choices = s.choices := rfl
@[simp] theorem State.modLink_powered (s : State) (f : Link → Link) :
    (s.modLink f).powered = s.powered := rfl
@[simp] theorem State.modLink_choiceCount (s : State) (f : Link → Link) :
    (s.modLink f).choiceCount = s.choiceCount := rfl
@[simp] theorem State.modLink_pending (s : State) (f : Link → Link) :
    (s.modLink f).pending = s.pending := rfl
@[simp] theorem State.modTx_sense (s : State) (f : Option TxFrame → Option TxFrame) :
    (s.modTx f).sense = s.sense := rfl
@[simp] theorem State.modTx_terminals (s : State) (f : Option TxFrame → Option TxFrame) :
    (s.modTx f).terminals = s.terminals := rfl
@[simp] theorem State.modTx_interlock (s : State) (f : Option TxFrame → Option TxFrame) :
    (s.modTx f).interlock = s.interlock := rfl
@[simp] theorem State.modTx_drive (s : State) (f : Option TxFrame → Option TxFrame) :
    (s.modTx f).drive = s.drive := rfl
@[simp] theorem State.modTx_governor (s : State) (f : Option TxFrame → Option TxFrame) :
    (s.modTx f).governor = s.governor := rfl
@[simp] theorem State.modTx_supply (s : State) (f : Option TxFrame → Option TxFrame) :
    (s.modTx f).supply = s.supply := rfl
@[simp] theorem State.modTx_tanks (s : State) (f : Option TxFrame → Option TxFrame) :
    (s.modTx f).tanks = s.tanks := rfl
@[simp] theorem State.modTx_totals (s : State) (f : Option TxFrame → Option TxFrame) :
    (s.modTx f).totals = s.totals := rfl
@[simp] theorem State.modTx_thermal (s : State) (f : Option TxFrame → Option TxFrame) :
    (s.modTx f).thermal = s.thermal := rfl
@[simp] theorem State.modTx_valves (s : State) (f : Option TxFrame → Option TxFrame) :
    (s.modTx f).valves = s.valves := rfl
@[simp] theorem State.modTx_recirc (s : State) (f : Option TxFrame → Option TxFrame) :
    (s.modTx f).recirc = s.recirc := rfl
@[simp] theorem State.modTx_alarm (s : State) (f : Option TxFrame → Option TxFrame) :
    (s.modTx f).alarm = s.alarm := rfl
@[simp] theorem State.modTx_outputs (s : State) (f : Option TxFrame → Option TxFrame) :
    (s.modTx f).outputs = s.outputs := rfl
@[simp] theorem State.modTx_notices (s : State) (f : Option TxFrame → Option TxFrame) :
    (s.modTx f).notices = s.notices := rfl
@[simp] theorem State.modTx_clock (s : State) (f : Option TxFrame → Option TxFrame) :
    (s.modTx f).clock = s.clock := rfl
@[simp] theorem State.modTx_trend (s : State) (f : Option TxFrame → Option TxFrame) :
    (s.modTx f).trend = s.trend := rfl
@[simp] theorem State.modTx_link (s : State) (f : Option TxFrame → Option TxFrame) :
    (s.modTx f).link = s.link := rfl
@[simp] theorem State.modTx_tx (s : State) (f : Option TxFrame → Option TxFrame) :
    (s.modTx f).tx = f s.tx := rfl
@[simp] theorem State.modTx_params (s : State) (f : Option TxFrame → Option TxFrame) :
    (s.modTx f).params = s.params := rfl
@[simp] theorem State.modTx_choices (s : State) (f : Option TxFrame → Option TxFrame) :
    (s.modTx f).choices = s.choices := rfl
@[simp] theorem State.modTx_powered (s : State) (f : Option TxFrame → Option TxFrame) :
    (s.modTx f).powered = s.powered := rfl
@[simp] theorem State.modTx_choiceCount (s : State) (f : Option TxFrame → Option TxFrame) :
    (s.modTx f).choiceCount = s.choiceCount := rfl
@[simp] theorem State.modTx_pending (s : State) (f : Option TxFrame → Option TxFrame) :
    (s.modTx f).pending = s.pending := rfl
@[simp] theorem State.modParams_sense (s : State) (f : Vector Int 64 → Vector Int 64) :
    (s.modParams f).sense = s.sense := rfl
@[simp] theorem State.modParams_terminals (s : State) (f : Vector Int 64 → Vector Int 64) :
    (s.modParams f).terminals = s.terminals := rfl
@[simp] theorem State.modParams_interlock (s : State) (f : Vector Int 64 → Vector Int 64) :
    (s.modParams f).interlock = s.interlock := rfl
@[simp] theorem State.modParams_drive (s : State) (f : Vector Int 64 → Vector Int 64) :
    (s.modParams f).drive = s.drive := rfl
@[simp] theorem State.modParams_governor (s : State) (f : Vector Int 64 → Vector Int 64) :
    (s.modParams f).governor = s.governor := rfl
@[simp] theorem State.modParams_supply (s : State) (f : Vector Int 64 → Vector Int 64) :
    (s.modParams f).supply = s.supply := rfl
@[simp] theorem State.modParams_tanks (s : State) (f : Vector Int 64 → Vector Int 64) :
    (s.modParams f).tanks = s.tanks := rfl
@[simp] theorem State.modParams_totals (s : State) (f : Vector Int 64 → Vector Int 64) :
    (s.modParams f).totals = s.totals := rfl
@[simp] theorem State.modParams_thermal (s : State) (f : Vector Int 64 → Vector Int 64) :
    (s.modParams f).thermal = s.thermal := rfl
@[simp] theorem State.modParams_valves (s : State) (f : Vector Int 64 → Vector Int 64) :
    (s.modParams f).valves = s.valves := rfl
@[simp] theorem State.modParams_recirc (s : State) (f : Vector Int 64 → Vector Int 64) :
    (s.modParams f).recirc = s.recirc := rfl
@[simp] theorem State.modParams_alarm (s : State) (f : Vector Int 64 → Vector Int 64) :
    (s.modParams f).alarm = s.alarm := rfl
@[simp] theorem State.modParams_outputs (s : State) (f : Vector Int 64 → Vector Int 64) :
    (s.modParams f).outputs = s.outputs := rfl
@[simp] theorem State.modParams_notices (s : State) (f : Vector Int 64 → Vector Int 64) :
    (s.modParams f).notices = s.notices := rfl
@[simp] theorem State.modParams_clock (s : State) (f : Vector Int 64 → Vector Int 64) :
    (s.modParams f).clock = s.clock := rfl
@[simp] theorem State.modParams_trend (s : State) (f : Vector Int 64 → Vector Int 64) :
    (s.modParams f).trend = s.trend := rfl
@[simp] theorem State.modParams_link (s : State) (f : Vector Int 64 → Vector Int 64) :
    (s.modParams f).link = s.link := rfl
@[simp] theorem State.modParams_tx (s : State) (f : Vector Int 64 → Vector Int 64) :
    (s.modParams f).tx = s.tx := rfl
@[simp] theorem State.modParams_params (s : State) (f : Vector Int 64 → Vector Int 64) :
    (s.modParams f).params = f s.params := rfl
@[simp] theorem State.modParams_choices (s : State) (f : Vector Int 64 → Vector Int 64) :
    (s.modParams f).choices = s.choices := rfl
@[simp] theorem State.modParams_powered (s : State) (f : Vector Int 64 → Vector Int 64) :
    (s.modParams f).powered = s.powered := rfl
@[simp] theorem State.modParams_choiceCount (s : State) (f : Vector Int 64 → Vector Int 64) :
    (s.modParams f).choiceCount = s.choiceCount := rfl
@[simp] theorem State.modParams_pending (s : State) (f : Vector Int 64 → Vector Int 64) :
    (s.modParams f).pending = s.pending := rfl
@[simp] theorem State.modChoices_sense (s : State) (f : List Nat → List Nat) :
    (s.modChoices f).sense = s.sense := rfl
@[simp] theorem State.modChoices_terminals (s : State) (f : List Nat → List Nat) :
    (s.modChoices f).terminals = s.terminals := rfl
@[simp] theorem State.modChoices_interlock (s : State) (f : List Nat → List Nat) :
    (s.modChoices f).interlock = s.interlock := rfl
@[simp] theorem State.modChoices_drive (s : State) (f : List Nat → List Nat) :
    (s.modChoices f).drive = s.drive := rfl
@[simp] theorem State.modChoices_governor (s : State) (f : List Nat → List Nat) :
    (s.modChoices f).governor = s.governor := rfl
@[simp] theorem State.modChoices_supply (s : State) (f : List Nat → List Nat) :
    (s.modChoices f).supply = s.supply := rfl
@[simp] theorem State.modChoices_tanks (s : State) (f : List Nat → List Nat) :
    (s.modChoices f).tanks = s.tanks := rfl
@[simp] theorem State.modChoices_totals (s : State) (f : List Nat → List Nat) :
    (s.modChoices f).totals = s.totals := rfl
@[simp] theorem State.modChoices_thermal (s : State) (f : List Nat → List Nat) :
    (s.modChoices f).thermal = s.thermal := rfl
@[simp] theorem State.modChoices_valves (s : State) (f : List Nat → List Nat) :
    (s.modChoices f).valves = s.valves := rfl
@[simp] theorem State.modChoices_recirc (s : State) (f : List Nat → List Nat) :
    (s.modChoices f).recirc = s.recirc := rfl
@[simp] theorem State.modChoices_alarm (s : State) (f : List Nat → List Nat) :
    (s.modChoices f).alarm = s.alarm := rfl
@[simp] theorem State.modChoices_outputs (s : State) (f : List Nat → List Nat) :
    (s.modChoices f).outputs = s.outputs := rfl
@[simp] theorem State.modChoices_notices (s : State) (f : List Nat → List Nat) :
    (s.modChoices f).notices = s.notices := rfl
@[simp] theorem State.modChoices_clock (s : State) (f : List Nat → List Nat) :
    (s.modChoices f).clock = s.clock := rfl
@[simp] theorem State.modChoices_trend (s : State) (f : List Nat → List Nat) :
    (s.modChoices f).trend = s.trend := rfl
@[simp] theorem State.modChoices_link (s : State) (f : List Nat → List Nat) :
    (s.modChoices f).link = s.link := rfl
@[simp] theorem State.modChoices_tx (s : State) (f : List Nat → List Nat) :
    (s.modChoices f).tx = s.tx := rfl
@[simp] theorem State.modChoices_params (s : State) (f : List Nat → List Nat) :
    (s.modChoices f).params = s.params := rfl
@[simp] theorem State.modChoices_choices (s : State) (f : List Nat → List Nat) :
    (s.modChoices f).choices = f s.choices := rfl
@[simp] theorem State.modChoices_powered (s : State) (f : List Nat → List Nat) :
    (s.modChoices f).powered = s.powered := rfl
@[simp] theorem State.modChoices_choiceCount (s : State) (f : List Nat → List Nat) :
    (s.modChoices f).choiceCount = s.choiceCount := rfl
@[simp] theorem State.modChoices_pending (s : State) (f : List Nat → List Nat) :
    (s.modChoices f).pending = s.pending := rfl
/-! ### The members of a per-name record -/

@[simp] theorem getTank_setTank_same {α : Type} (a : PerTank α) (t : Tank) (x : α) : getTank (setTank a t x) t = x := by
  cases t <;> rfl

theorem getTank_setTank {α : Type} (a : PerTank α) (t u : Tank) (x : α) :
    getTank (setTank a t x) u = if u = t then x else getTank a u := by
  cases t <;> cases u <;> rfl

@[simp] theorem getValve_setValve_same {α : Type} (a : PerValve α) (v : ValveRole) (x : α) :
    getValve (setValve a v x) v = x := by
  cases v <;> rfl

theorem getValve_setValve {α : Type} (a : PerValve α) (v w : ValveRole) (x : α) :
    getValve (setValve a v x) w = if w = v then x else getValve a w := by
  cases v <;> cases w <;> rfl

theorem getAnalog_setAnalog {α : Type} (a : Analog α) (c d : AnalogChannel) (x : α) :
    getAnalog (setAnalog a c x) d = if d = c then x else getAnalog a d := by
  cases c <;> cases d <;> rfl

theorem getPulse_setPulse {α : Type} (a : PerPulse α) (c d : PulseChannel) (x : α) :
    getPulse (setPulse a c x) d = if d = c then x else getPulse a d := by
  cases c <;> cases d <;> rfl

theorem getKind_setKind {α : Type} (a : PerKind α) (k j : GuardedKind) (x : α) :
    getKind (setKind a k x) j = if j = k then x else getKind a j := by
  cases k <;> cases j <;> rfl

@[simp] theorem tank_modTank_same (s : State) (t : Tank) (f : TankRecord → TankRecord) :
    (s.modTank t f).tank t = f (s.tank t) := by
  cases t <;> rfl

theorem tank_modTank (s : State) (t u : Tank) (f : TankRecord → TankRecord) :
    (s.modTank t f).tank u = if u = t then f (s.tank u) else s.tank u := by
  cases t <;> cases u <;> rfl

@[simp] theorem valve_modValve_same (s : State) (v : ValveRole) (f : Actuator → Actuator) :
    (s.modValve v f).valve v = f (s.valve v) := by
  cases v <;> rfl

theorem valve_modValve (s : State) (v w : ValveRole) (f : Actuator → Actuator) :
    (s.modValve v f).valve w = if w = v then f (s.valve w) else s.valve w := by
  cases v <;> cases w <;> rfl

end Sys2Proof.Machine
end

