-- ==== Sys2Proof/Laws/Order.lean ====
section
/-! SUPPORT. Units that act in either order: what a free order keeps, and that it runs each act exactly once. -/

namespace Sys2Proof.Machine

theorem insertByKey_perm {α : Type} (x : Nat × α) (l : List (Nat × α)) : (insertByKey x l).Perm (x :: l) := by
  induction l with
  | nil => exact .refl _
  | cons y ys ih =>
    unfold insertByKey
    split
    · exact (ih.cons y).trans (.swap x y ys)
    · exact .refl _

theorem foldl_insertByKey_perm {α : Type} (l acc : List (Nat × α)) :
    (l.foldl (fun a x => insertByKey x a) acc).Perm (l ++ acc) := by
  induction l generalizing acc with
  | nil => exact .refl _
  | cons x xs ih =>
    exact (ih _).trans (((insertByKey_perm x acc).append_left xs).trans List.perm_middle)

theorem withKeys_snd {α : Type} (ks : List Nat) (l : List α) : (withKeys ks l).map (·.2) = l := by
  induction l generalizing ks with
  | nil => cases ks <;> rfl
  | cons x xs ih => cases ks <;> simp [withKeys, ih]

/-- A free order is an order of the members, each once. -/
theorem arrange_perm {α : Type} (ks : List Nat) (l : List α) : (arrange ks l).Perm l := by
  have h := (foldl_insertByKey_perm (withKeys ks l) []).map (·.2)
  simpa [arrange, withKeys_snd] using h

theorem arrange_nil {α : Type} (ks : List Nat) : arrange ks ([] : List α) = [] :=
  List.Perm.eq_nil (arrange_perm ks [])

@[simp] theorem mem_arrange {α : Type} (ks : List Nat) (l : List α) (x : α) : x ∈ arrange ks l ↔ x ∈ l :=
  (arrange_perm ks l).mem_iff

theorem foldl_acts_keep {P : State → Prop} (l : List (State → State)) (h : ∀ f ∈ l, ∀ s, P s → P (f s)) (s : State)
    (hs : P s) : P (l.foldl (fun t f => f t) s) := by
  induction l generalizing s with
  | nil => exact hs
  | cons f fs ih =>
    exact ih (fun g hg => h g (List.mem_cons_of_mem _ hg)) (f s) (h f List.mem_cons_self s hs)

/-- What every act keeps and the free choices do not bear on, the acts in a free order keep. -/
theorem runInOrder_keeps {P : State → Prop} (hc : ∀ s f, P s → P (s.modChoices f)) (acts : List (State → State))
    (h : ∀ f ∈ acts, ∀ s, P s → P (f s)) (s : State) (hs : P s) : P (runInOrder acts s) :=
  foldl_acts_keep _ (fun f hf => h f ((mem_arrange _ _ _).1 hf)) _ (hc _ _ hs)

theorem foldl_acts_reach {P Q : State → Prop} (g : State → State) (l : List (State → State)) (hg : g ∈ l)
    (hP : ∀ f ∈ l, ∀ s, P s → P (f s)) (hQ : ∀ f ∈ l, ∀ s, Q s → Q (f s)) (hgQ : ∀ s, P s → Q (g s)) (s : State)
    (hs : P s) : Q (l.foldl (fun t f => f t) s) := by
  induction l generalizing s with
  | nil => cases hg
  | cons f fs ih =>
    rcases List.mem_cons.1 hg with rfl | hg
    · exact foldl_acts_keep fs (fun f hf => hQ f (List.mem_cons_of_mem _ hf)) _ (hgQ s hs)
    · exact ih hg (fun f hf => hP f (List.mem_cons_of_mem _ hf)) (fun f hf => hQ f (List.mem_cons_of_mem _ hf)) _
        (hP f List.mem_cons_self s hs)

/-- What one of the acts brings about and no act undoes holds after the acts in a free order. -/
theorem runInOrder_reaches {P Q : State → Prop} (hc : ∀ s f, P s → P (s.modChoices f)) (g : State → State)
    (acts : List (State → State)) (hg : g ∈ acts) (hP : ∀ f ∈ acts, ∀ s, P s → P (f s))
    (hQ : ∀ f ∈ acts, ∀ s, Q s → Q (f s)) (hgQ : ∀ s, P s → Q (g s)) (s : State) (hs : P s) :
    Q (runInOrder acts s) :=
  foldl_acts_reach g _ ((mem_arrange _ _ _).2 hg) (fun f hf => hP f ((mem_arrange _ _ _).1 hf))
    (fun f hf => hQ f ((mem_arrange _ _ _).1 hf)) hgQ _ (hc _ _ hs)

/-- A value that no act and no free choice changes stands after the acts in a free order. -/
theorem runInOrder_same {β : Type} (v : State → β) (hc : ∀ s f, v (s.modChoices f) = v s)
    (acts : List (State → State)) (h : ∀ f ∈ acts, ∀ s, v (f s) = v s) (s : State) : v (runInOrder acts s) = v s :=
  runInOrder_keeps (P := fun t => v t = v s) (fun t f ht => by rw [hc]; exact ht) acts
    (fun f hf t ht => by rw [h f hf]; exact ht) s rfl

end Sys2Proof.Machine
end

