-- ==== Sys2Proof/Laws/Settings.lean ====
section
/-! SUPPORT. What no unit's own act changes: the parameters, the assignment table, the lockout table, the Sense Unit, the
totalisers, the Link Unit, the time tag, the power, the queue of commands and their count. One lemma for each operation. -/

namespace Sys2Proof.Machine

/-- The part of the state that only the Link Unit's own writes, the scan and the gates change. -/
structure Settings where
  params : Vector Int 64
  assignment : Vector AssignRecord 16
  lockout : PerKind LockoutEntry
  sense : Sense
  totals : Totals
  link : Link
  clock : Clock
  powered : Bool
  pending : List Instr
  choiceCount : Nat

/-- The settings of a state. -/
def State.settings (s : State) : Settings :=
  { params := s.params, assignment := s.terminals.assignment, lockout := s.interlock.lockout, sense := s.sense
    totals := s.totals, link := s.link, clock := s.clock, powered := s.powered, pending := s.pending
    choiceCount := s.choiceCount }

/-! ### Changes of one block -/

@[simp] theorem settings_modDrive (s : State) (f : Drive → Drive) :
    (s.modDrive f).settings = s.settings := rfl
@[simp] theorem settings_modGovernor (s : State) (f : Governor → Governor) :
    (s.modGovernor f).settings = s.settings := rfl
@[simp] theorem settings_modSupply (s : State) (f : Supply → Supply) :
    (s.modSupply f).settings = s.settings := rfl
@[simp] theorem settings_modTanks (s : State) (f : PerTank TankRecord → PerTank TankRecord) :
    (s.modTanks f).settings = s.settings := rfl
@[simp] theorem settings_modThermal (s : State) (f : Thermal → Thermal) :
    (s.modThermal f).settings = s.settings := rfl
@[simp] theorem settings_modValves (s : State) (f : PerValve Actuator → PerValve Actuator) :
    (s.modValves f).settings = s.settings := rfl
@[simp] theorem settings_modRecirc (s : State) (f : List RecircCause → List RecircCause) :
    (s.modRecirc f).settings = s.settings := rfl
@[simp] theorem settings_modAlarm (s : State) (f : Alarm → Alarm) :
    (s.modAlarm f).settings = s.settings := rfl
@[simp] theorem settings_modOutputs (s : State) (f : Outputs → Outputs) :
    (s.modOutputs f).settings = s.settings := rfl
@[simp] theorem settings_modNotices (s : State) (f : Notices → Notices) :
    (s.modNotices f).settings = s.settings := rfl
@[simp] theorem settings_modTrend (s : State) (f : Trend → Trend) :
    (s.modTrend f).settings = s.settings := rfl
@[simp] theorem settings_modTx (s : State) (f : Option TxFrame → Option TxFrame) :
    (s.modTx f).settings = s.settings := rfl
@[simp] theorem settings_modChoices (s : State) (f : List Nat → List Nat) :
    (s.modChoices f).settings = s.settings := rfl
@[simp] theorem settings_modTank (s : State) (t : Tank) (f : TankRecord → TankRecord) :
    (s.modTank t f).settings = s.settings := rfl
@[simp] theorem settings_modValve (s : State) (v : ValveRole) (f : Actuator → Actuator) :
    (s.modValve v f).settings = s.settings := rfl
theorem settings_modInterlock (s : State) (f : Interlock → Interlock) (h : (f s.interlock).lockout = s.interlock.lockout) :
    (s.modInterlock f).settings = s.settings := by
  simp [State.settings, h]
theorem settings_modTerminals (s : State) (f : Terminals → Terminals)
    (h : (f s.terminals).assignment = s.terminals.assignment) : (s.modTerminals f).settings = s.settings := by
  simp [State.settings, h]
theorem settings_runInOrder (acts : List (State → State)) (h : ∀ f ∈ acts, ∀ s, (f s).settings = s.settings)
    (s : State) : (runInOrder acts s).settings = s.settings :=
  runInOrder_same State.settings (fun _ _ => rfl) acts h s

/-! ### The operations -/


@[simp] theorem settings_checkPressure (s : State) : (checkPressure s).settings = s.settings := by
  unfold checkPressure
  split <;> simp

@[simp] theorem settings_enqueue (n : Notice) (s : State) : (enqueue n s).settings = s.settings := by
  unfold enqueue
  split <;> simp

@[simp] theorem settings_record (k : NoticeKind) (b : NoticeBody) (s : State) : (record k b s).settings = s.settings := by
  unfold record
  split <;> simp

@[simp] theorem settings_protectiveEvent (s : State) : (protectiveEvent s).settings = s.settings := by
  rfl

@[simp] theorem settings_checkTrendHalf (s : State) : (checkTrendHalf s).settings = s.settings := by
  unfold checkTrendHalf
  split <;> simp

@[simp] theorem settings_takeSample (s : State) : (takeSample s).settings = s.settings := by
  unfold takeSample
  simp

@[simp] theorem settings_addAlarm (c : AlarmCause) (s : State) : (addAlarm c s).settings = s.settings := by
  unfold addAlarm
  split <;> simp

@[simp] theorem settings_removeAlarm (c : AlarmCause) (s : State) : (removeAlarm c s).settings = s.settings := by
  unfold removeAlarm
  split <;> simp

@[simp] theorem settings_clipDemand (s : State) : (clipDemand s).settings = s.settings := by
  unfold clipDemand
  simp only []
  (repeat' split) <;> simp

@[simp] theorem settings_refreshConditions (s : State) : (refreshConditions s).settings = s.settings := by
  rfl

@[simp] theorem settings_enterOpening (v : ValveRole) (s : State) : (enterOpening v s).settings = s.settings := by
  unfold enterOpening
  split <;> simp

@[simp] theorem settings_enterClosing (v : ValveRole) (s : State) : (enterClosing v s).settings = s.settings := by
  rfl

@[simp] theorem settings_beginTravel (v : ValveRole) (isOpen : Bool) (s : State) : (beginTravel v isOpen s).settings = s.settings := by
  unfold beginTravel
  split <;> simp

@[simp] theorem settings_carryOut (v : ValveRole) (isOpen : Bool) (s : State) : (carryOut v isOpen s).settings = s.settings := by
  unfold carryOut
  (repeat' split) <;> simp

@[simp] theorem settings_enterValveFault (v : ValveRole) (c : ValveFault) (s : State) : (enterValveFault v c s).settings = s.settings := by
  unfold enterValveFault
  simp

@[simp] theorem settings_expireTravel (v : ValveRole) (s : State) : (expireTravel v s).settings = s.settings := by
  unfold expireTravel
  (repeat' split) <;> simp

@[simp] theorem settings_expireRetry (v : ValveRole) (s : State) : (expireRetry v s).settings = s.settings := by
  unfold expireRetry
  split <;> simp

@[simp] theorem settings_feedbackChange (v : ValveRole) (asserted : Bool) (s : State) : (feedbackChange v asserted s).settings = s.settings := by
  unfold feedbackChange
  split <;> simp

@[simp] theorem settings_clearValveFault (v : ValveRole) (s : State) : (clearValveFault v s).settings = s.settings := by
  unfold clearValveFault
  simp only []
  (repeat' split) <;> simp

@[simp] theorem settings_addRecirc (c : RecircCause) (s : State) : (addRecirc c s).settings = s.settings := by
  unfold addRecirc
  (repeat' split) <;> simp

@[simp] theorem settings_removeRecirc (c : RecircCause) (s : State) : (removeRecirc c s).settings = s.settings := by
  unfold removeRecirc
  simp only []
  (repeat' split) <;> simp

@[simp] theorem settings_setPrimer (on : Bool) (s : State) : (setPrimer on s).settings = s.settings := by
  rfl

@[simp] theorem settings_setGeneral (t : Terminal) (r : OutputRecord) (s : State) : (setGeneral t r s).settings = s.settings := by
  rfl

@[simp] theorem settings_endPulse (o : PulsedOutput) (s : State) : (endPulse o s).settings = s.settings := by
  unfold endPulse
  (repeat' split) <;> simp

@[simp] theorem settings_applySafeState (t : Terminal) (s : State) : (applySafeState t s).settings = s.settings := by
  unfold applySafeState
  simp only []
  (repeat' split) <;> simp

@[simp] theorem settings_commandFill (t : Tank) (isOpen : Bool) (s : State) : (commandFill t isOpen s).settings = s.settings := by
  unfold commandFill
  split <;> simp

@[simp] theorem settings_recordStage (t : Tank) (old : FillStage) (c : FillCause) (s : State) : (recordStage t old c s).settings = s.settings := by
  unfold recordStage
  simp

@[simp] theorem settings_runBulk (t : Tank) (safety : Option SafetyTimer) (s : State) : (runBulk t safety s).settings = s.settings := by
  unfold runBulk
  simp

@[simp] theorem settings_runTopoff (t : Tank) (safety : Option SafetyTimer) (s : State) : (runTopoff t safety s).settings = s.settings := by
  unfold runTopoff
  simp

@[simp] theorem settings_enterBulk (t : Tank) (s : State) : (enterBulk t s).settings = s.settings := by
  unfold enterBulk
  simp

@[simp] theorem settings_enterTopoff (t : Tank) (s : State) : (enterTopoff t s).settings = s.settings := by
  unfold enterTopoff
  simp

@[simp] theorem settings_closeFill (t : Tank) (st : FillStage) (s : State) : (closeFill t st s).settings = s.settings := by
  unfold closeFill
  simp

@[simp] theorem settings_enterFullHold (t : Tank) (s : State) : (enterFullHold t s).settings = s.settings := by
  unfold enterFullHold
  simp

@[simp] theorem settings_enterStage (t : Tank) (st : FillStage) (s : State) : (enterStage t st s).settings = s.settings := by
  unfold enterStage
  split <;> simp

@[simp] theorem settings_evaluateTopoff (t : Tank) (s : State) : (evaluateTopoff t s).settings = s.settings := by
  unfold evaluateTopoff
  split <;> simp

@[simp] theorem settings_evaluateFill (t : Tank) (s : State) : (evaluateFill t s).settings = s.settings := by
  unfold evaluateFill
  (repeat' split) <;> simp

@[simp] theorem settings_suspendFill (t : Tank) (s : State) : (suspendFill t s).settings = s.settings := by
  unfold suspendFill
  simp

@[simp] theorem settings_resumeFill (t : Tank) (s : State) : (resumeFill t s).settings = s.settings := by
  unfold resumeFill
  simp only []
  (repeat' split) <;> simp

@[simp] theorem settings_reviewFill (t : Tank) (s : State) : (reviewFill t s).settings = s.settings := by
  unfold reviewFill
  (repeat' split) <;> simp

@[simp] theorem settings_reviewFills (s : State) : (reviewFills s).settings = s.settings := by
  unfold reviewFills forTanks
  refine settings_runInOrder _ ?_ _
  intro f hf s
  simp only [List.mem_cons, List.mem_nil_iff, or_false] at hf
  rcases hf with rfl | rfl <;> simp

@[simp] theorem settings_forceFillClosed (t : Tank) (s : State) : (forceFillClosed t s).settings = s.settings := by
  unfold forceFillClosed
  split <;> simp

@[simp] theorem settings_commandTankValve (t : Tank) (isOpen : Bool) (s : State) : (commandTankValve t isOpen s).settings = s.settings := by
  unfold commandTankValve
  (repeat' split) <;> simp

@[simp] theorem settings_closeTankValves (s : State) : (closeTankValves s).settings = s.settings := by
  unfold closeTankValves
  simp

@[simp] theorem settings_expireCycle (t : Tank) (s : State) : (expireCycle t s).settings = s.settings := by
  unfold expireCycle
  (repeat' split) <;> simp

@[simp] theorem settings_expireSafety (t : Tank) (s : State) : (expireSafety t s).settings = s.settings := by
  unfold expireSafety
  split <;> simp

@[simp] theorem settings_stopFill (t : Tank) (s : State) : (stopFill t s).settings = s.settings := by
  unfold stopFill
  split <;> simp

@[simp] theorem settings_derivePair (s : State) : (derivePair s).settings = s.settings := by
  rfl

@[simp] theorem settings_writeShadow (x : Setting) (s : State) : (writeShadow x s).settings = s.settings := by
  rfl

@[simp] theorem settings_recordOverride (k : OverrideKind) (before : Source) (c : CauseName) (s : State) : (recordOverride k before c s).settings = s.settings := by
  unfold recordOverride
  simp

@[simp] theorem settings_beginOverride (k : OverrideKind) (s : State) : (beginOverride k s).settings = s.settings := by
  unfold beginOverride
  split <;> simp

@[simp] theorem settings_endOverride (k : OverrideKind) (s : State) : (endOverride k s).settings = s.settings := by
  unfold endOverride
  split <;> simp

@[simp] theorem settings_governorReset (s : State) : (governorReset s).settings = s.settings := by
  rfl

@[simp] theorem settings_tryFallback (s : State) : (tryFallback s).settings = s.settings := by
  unfold tryFallback
  split <;> simp

@[simp] theorem settings_publishFallback (s : State) : (publishFallback s).settings = s.settings := by
  unfold publishFallback
  split <;> simp

@[simp] theorem settings_publishPulseLoss (s : State) : (publishPulseLoss s).settings = s.settings := by
  unfold publishPulseLoss
  (repeat' split) <;> simp

@[simp] theorem settings_expirePulseLoss (s : State) : (expirePulseLoss s).settings = s.settings := by
  unfold expirePulseLoss
  split <;> simp

@[simp] theorem settings_governPeriod (s : State) : (governPeriod s).settings = s.settings := by
  rfl

@[simp] theorem settings_setMode (m : OpMode) (c : ModeCause) (s : State) : (setMode m c s).settings = s.settings := by
  unfold setMode
  (repeat' split) <;> simp [settings_modInterlock]

@[simp] theorem settings_tripMode (c : ModeCause) (s : State) : (tripMode c s).settings = s.settings := by
  unfold tripMode
  simp

@[simp] theorem settings_modeOnExit (s : State) : (modeOnExit s).settings = s.settings := by
  unfold modeOnExit
  split <;> simp

@[simp] theorem settings_modeOnDisengaged (s : State) : (modeOnDisengaged s).settings = s.settings := by
  unfold modeOnDisengaged
  split <;> simp

@[simp] theorem settings_reviewStop (s : State) : (reviewStop s).settings = s.settings := by
  unfold reviewStop
  split <;> simp

@[simp] theorem settings_endRelease (value : Int) (s : State) : (endRelease value s).settings = s.settings := by
  unfold endRelease
  simp

@[simp] theorem settings_confirmRelease (s : State) : (confirmRelease s).settings = s.settings := by
  unfold confirmRelease
  split <;> simp

@[simp] theorem settings_startRelease (c : ReleaseCause) (s : State) : (startRelease c s).settings = s.settings := by
  rfl

@[simp] theorem settings_abortEngagement (a : AbortCause) (c : ReleaseCause) (conds : Option (List Condition)) (s : State) : (abortEngagement a c conds s).settings = s.settings := by
  unfold abortEngagement
  simp

@[simp] theorem settings_enterDriveFault (c : DriveFault) (s : State) : (enterDriveFault c s).settings = s.settings := by
  unfold enterDriveFault
  simp

@[simp] theorem settings_stopOutsideEngaged (s : State) : (stopOutsideEngaged s).settings = s.settings := by
  unfold stopOutsideEngaged
  split <;> simp

@[simp] theorem settings_conditionReport (l : List Condition) (s : State) : (conditionReport l s).settings = s.settings := by
  unfold conditionReport
  (repeat' split) <;> simp

@[simp] theorem settings_conditionEvent (s : State) : (conditionEvent s).settings = s.settings := by
  unfold conditionEvent
  (repeat' split) <;> simp

@[simp] theorem settings_reviewLowTank (s : State) : (reviewLowTank s).settings = s.settings := by
  unfold reviewLowTank
  simp only []
  (repeat' split) <;> simp

@[simp] theorem settings_setLimit (l : Nat) (s : State) : (setLimit l s).settings = s.settings := by
  unfold setLimit
  split <;> simp

@[simp] theorem settings_setSupply (st : SupplyState) (ph : Option Phase) (s : State) : (setSupply st ph s).settings = s.settings := by
  unfold setSupply
  (repeat' split) <;> simp

@[simp] theorem settings_selectTank (t : Tank) (s : State) : (selectTank t s).settings = s.settings := by
  unfold selectTank
  split <;> simp

@[simp] theorem settings_beginSwitchover (s : State) : (beginSwitchover s).settings = s.settings := by
  unfold beginSwitchover
  split <;> simp

@[simp] theorem settings_endSwitchover (s : State) : (endSwitchover s).settings = s.settings := by
  unfold endSwitchover
  split <;> simp

@[simp] theorem settings_enterNoSupply (c : ExhaustCause) (s : State) : (enterNoSupply c s).settings = s.settings := by
  unfold enterNoSupply
  simp

@[simp] theorem settings_startSettling (stuck : Bool) (s : State) :
    (startSettling stuck s).settings = s.settings := by
  rfl

@[simp] theorem settings_judgeTarget (s : State) : (judgeTarget s).settings = s.settings := by
  unfold judgeTarget
  simp only []
  (repeat' split) <;> simp

@[simp] theorem settings_openTarget (s : State) : (openTarget s).settings = s.settings := by
  unfold openTarget
  simp

@[simp] theorem settings_judgeOther (s : State) : (judgeOther s).settings = s.settings := by
  unfold judgeOther
  simp only []
  (repeat' split) <;> simp

@[simp] theorem settings_markSwitching (s : State) : (markSwitching s).settings = s.settings := by
  unfold markSwitching
  simp

@[simp] theorem settings_beginSwitch (s : State) : (beginSwitch s).settings = s.settings := by
  unfold beginSwitch
  simp

@[simp] theorem settings_emptyTankDecision (s : State) : (emptyTankDecision s).settings = s.settings := by
  unfold emptyTankDecision
  split <;> simp

@[simp] theorem settings_enterSwitching (s : State) : (enterSwitching s).settings = s.settings := by
  unfold enterSwitching
  split <;> simp

@[simp] theorem settings_feedFromTank (s : State) : (feedFromTank s).settings = s.settings := by
  unfold feedFromTank
  simp only []
  (repeat' split) <;> simp

@[simp] theorem settings_returnToTank (s : State) : (returnToTank s).settings = s.settings := by
  unfold returnToTank
  (repeat' split) <;> simp

@[simp] theorem settings_expireSettle (s : State) : (expireSettle s).settings = s.settings := by
  unfold expireSettle
  split <;> simp

@[simp] theorem settings_startQualifying (s : State) : (startQualifying s).settings = s.settings := by
  unfold startQualifying
  simp

@[simp] theorem settings_publishWindow (s : State) : (publishWindow s).settings = s.settings := by
  unfold publishWindow
  split <;> simp

@[simp] theorem settings_rejectHydrant (r : AttemptReason) (s : State) : (rejectHydrant r s).settings = s.settings := by
  unfold rejectHydrant
  simp

@[simp] theorem settings_failAttempt (r : AttemptReason) (s : State) : (failAttempt r s).settings = s.settings := by
  unfold failAttempt
  simp only []
  (repeat' split) <;> simp

@[simp] theorem settings_qualifyHydrant (ps : Int) (s : State) : (qualifyHydrant ps s).settings = s.settings := by
  unfold qualifyHydrant
  simp

@[simp] theorem settings_expireAttempt (s : State) : (expireAttempt s).settings = s.settings := by
  unfold expireAttempt
  (repeat' split) <;> simp

@[simp] theorem settings_startPriming (s : State) : (startPriming s).settings = s.settings := by
  unfold startPriming
  simp

@[simp] theorem settings_endPriming (s : State) : (endPriming s).settings = s.settings := by
  unfold endPriming
  split <;> simp

@[simp] theorem settings_recordPrimeFailed (c : PrimeCause) (ph : Option Phase) (s : State) : (recordPrimeFailed c ph s).settings = s.settings := by
  unfold recordPrimeFailed
  simp

@[simp] theorem settings_abandonPrime (c : PrimeCause) (s : State) : (abandonPrime c s).settings = s.settings := by
  unfold abandonPrime
  simp

@[simp] theorem settings_judgeClosingTank (s : State) : (judgeClosingTank s).settings = s.settings := by
  unfold judgeClosingTank
  (repeat' split) <;> simp

@[simp] theorem settings_startDraft (s : State) : (startDraft s).settings = s.settings := by
  unfold startDraft
  simp

@[simp] theorem settings_publishPrime (s : State) : (publishPrime s).settings = s.settings := by
  unfold publishPrime
  split <;> simp

@[simp] theorem settings_expirePrime (s : State) : (expirePrime s).settings = s.settings := by
  unfold expirePrime
  split <;> simp

@[simp] theorem settings_expirePrimerLimit (s : State) : (expirePrimerLimit s).settings = s.settings := by
  unfold expirePrimerLimit
  split <;> simp

@[simp] theorem settings_evaluateLimiter (s : State) : (evaluateLimiter s).settings = s.settings := by
  unfold evaluateLimiter
  simp only []
  (repeat' split) <;> simp

@[simp] theorem settings_limiterPeriod (s : State) : (limiterPeriod s).settings = s.settings := by
  unfold limiterPeriod
  split <;> simp

@[simp] theorem settings_actOnLoss (o : LossOutcome) (s : State) : (actOnLoss o s).settings = s.settings := by
  unfold actOnLoss
  split <;> simp

@[simp] theorem settings_takeLoss (s : State) : (takeLoss s).settings = s.settings := by
  unfold takeLoss
  split <;> simp

theorem settings_openTogether (t : Tank) {turn switch : State → State} {alone s : State}
    (ht : ∀ x : State, (turn x).settings = x.settings) (hw : ∀ x : State, (switch x).settings = x.settings)
    (ha : alone.settings = s.settings) : (openTogether t turn switch alone s).settings = s.settings := by
  unfold openTogether
  simp only []
  split
  · simp [ht, hw]
  · exact ha

@[simp] theorem settings_turnCycle (t : Tank) (s : State) : (turnCycle t s).settings = s.settings := rfl

theorem settings_switchWithCycle {switch : State → State} (hw : ∀ x : State, (switch x).settings = x.settings)
    (s : State) : (switchWithCycle switch s).settings = s.settings := by
  unfold switchWithCycle
  split
  · split
    · exact settings_openTogether _ (settings_turnCycle _) hw (hw s)
    · exact hw s
  · exact hw s

@[simp] theorem settings_switchWithCycle_takeLoss (s : State) :
    (switchWithCycle takeLoss s).settings = s.settings := settings_switchWithCycle settings_takeLoss s

@[simp] theorem settings_switchWithCycle_enterSwitching (s : State) :
    (switchWithCycle enterSwitching s).settings = s.settings := settings_switchWithCycle settings_enterSwitching s

@[simp] theorem settings_expireLoss (s : State) : (expireLoss s).settings = s.settings := by
  unfold expireLoss
  simp

@[simp] theorem settings_expireActivity (s : State) : (expireActivity s).settings = s.settings := by
  unfold expireActivity
  split <;> simp

@[simp] theorem settings_supplyOnLevel (t : Tank) (old : LevelState) (s : State) : (supplyOnLevel t old s).settings = s.settings := by
  unfold supplyOnLevel
  (repeat' split) <;> simp

@[simp] theorem settings_supplyOnValve (t : Tank) (s : State) : (supplyOnValve t s).settings = s.settings := by
  unfold supplyOnValve
  simp only []
  (repeat' split) <;> simp

@[simp] theorem settings_reportValve (v : ValveRole) (s : State) : (reportValve v s).settings = s.settings := by
  unfold reportValve
  split <;> simp

@[simp] theorem settings_supplyEnterEngaged (s : State) : (supplyEnterEngaged s).settings = s.settings := by
  unfold supplyEnterEngaged
  simp

@[simp] theorem settings_supplyLeaveEngaged (s : State) : (supplyLeaveEngaged s).settings = s.settings := by
  unfold supplyLeaveEngaged
  split <;> simp

@[simp] theorem settings_turnToBulk (t : Tank) (s : State) : (turnToBulk t s).settings = s.settings := by
  unfold turnToBulk
  simp

@[simp] theorem settings_evaluateStage (t : Tank) (s : State) : (evaluateStage t s).settings = s.settings := by
  unfold evaluateStage
  split
  · exact settings_openTogether _ (settings_turnToBulk _) settings_takeLoss (settings_evaluateFill _ _)
  · simp

@[simp] theorem settings_changeLevel (t : Tank) (st : LevelState) (s : State) : (changeLevel t st s).settings = s.settings := by
  unfold changeLevel
  simp only []
  rw [settings_reviewLowTank]
  refine (settings_runInOrder _ ?_ _).trans ?_
  · intro f hf s
    simp only [List.mem_cons, List.mem_nil_iff, or_false] at hf
    rcases hf with rfl | rfl | rfl <;> simp
  · simp

@[simp] theorem settings_setLevel (t : Tank) (st : LevelState) (s : State) : (setLevel t st s).settings = s.settings := by
  unfold setLevel
  split <;> simp

@[simp] theorem settings_evaluateLevel (t : Tank) (s : State) : (evaluateLevel t s).settings = s.settings := by
  unfold evaluateLevel
  simp

@[simp] theorem settings_beginEstimate (t : Tank) (c : EstimateCause) (s : State) : (beginEstimate t c s).settings = s.settings := by
  unfold beginEstimate
  split <;> simp

@[simp] theorem settings_takeLevel (t : Tank) (s : State) : (takeLevel t s).settings = s.settings := by
  unfold takeLevel
  simp only []
  (repeat' split) <;> simp

@[simp] theorem settings_reviewSettle (t : Tank) (s : State) : (reviewSettle t s).settings = s.settings := by
  unfold reviewSettle
  split <;> simp

@[simp] theorem settings_publishTank (t : Tank) (s : State) : (publishTank t s).settings = s.settings := by
  unfold publishTank
  split <;> simp

@[simp] theorem settings_motionTank (t : Tank) (s : State) : (motionTank t s).settings = s.settings := by
  unfold motionTank
  split <;> simp

@[simp] theorem settings_gateTank (feeding : Option Tank) (inc : Nat) (t : Tank) (s : State) : (gateTank feeding inc t s).settings = s.settings := by
  unfold gateTank
  (repeat' split) <;> simp

@[simp] theorem settings_recordReconciled (t : Tank) (r : Option Reconciliation) (s : State) : (recordReconciled t r s).settings = s.settings := by
  unfold recordReconciled
  split <;> simp

@[simp] theorem settings_expireTankSettle (t : Tank) (s : State) : (expireTankSettle t s).settings = s.settings := by
  unfold expireTankSettle
  split <;> simp

@[simp] theorem settings_endOverheat (s : State) : (endOverheat s).settings = s.settings := by
  unfold endOverheat
  split <;> simp

@[simp] theorem settings_setZone (z : Zone) (c : ZoneCause) (s : State) : (setZone z c s).settings = s.settings := by
  unfold setZone
  simp only []
  (repeat' split) <;> simp

@[simp] theorem settings_publishZone (s : State) : (publishZone s).settings = s.settings := by
  unfold publishZone
  simp only []
  (repeat' split) <;> simp

@[simp] theorem settings_raiseOverheat (s : State) : (raiseOverheat s).settings = s.settings := by
  unfold raiseOverheat
  simp

@[simp] theorem settings_publishNoFlow (s : State) : (publishNoFlow s).settings = s.settings := by
  unfold publishNoFlow
  split <;> simp

@[simp] theorem settings_expireNoFlow (s : State) : (expireNoFlow s).settings = s.settings := by
  unfold expireNoFlow
  split <;> simp

@[simp] theorem settings_dropNoFlow (s : State) : (dropNoFlow s).settings = s.settings := by
  unfold dropNoFlow
  split <;> simp

@[simp] theorem settings_expireFlowReturn (s : State) : (expireFlowReturn s).settings = s.settings := by
  unfold expireFlowReturn
  split <;> simp

@[simp] theorem settings_publishDryRun (s : State) : (publishDryRun s).settings = s.settings := by
  rfl

@[simp] theorem settings_expireDryRun (s : State) : (expireDryRun s).settings = s.settings := by
  unfold expireDryRun
  split <;> simp

@[simp] theorem settings_clearDryRun (s : State) : (clearDryRun s).settings = s.settings := by
  unfold clearDryRun
  split <;> simp

@[simp] theorem settings_operatorRecirc (on : Bool) (s : State) : (operatorRecirc on s).settings = s.settings := by
  unfold operatorRecirc
  split <;> simp

@[simp] theorem settings_thermalEnterEngaged (s : State) : (thermalEnterEngaged s).settings = s.settings := by
  unfold thermalEnterEngaged
  split <;> simp

@[simp] theorem settings_thermalLeaveEngaged (s : State) : (thermalLeaveEngaged s).settings = s.settings := by
  unfold thermalLeaveEngaged
  simp

@[simp] theorem settings_tanksOnPto (s : State) : (tanksOnPto s).settings = s.settings := by
  unfold tanksOnPto
  simp

@[simp] theorem settings_setInput (t : Terminal) (i : InputState) (s : State) : (setInput t i s).settings = s.settings := by
  rfl

/-- A change of the motion state changes no setting where the trip it may make changes none. -/
theorem settings_changeMotion (moving : Bool) (trip : ModeCause → State → State)
    (h : ∀ c s, (trip c s).settings = s.settings) (s : State) : (changeMotion moving trip s).settings = s.settings := by
  unfold changeMotion
  refine (settings_runInOrder _ ?_ _).trans ?_
  · intro f hf s
    simp only [List.mem_cons, List.mem_nil_iff, or_false] at hf
    rcases hf with rfl | rfl | rfl | rfl
    · simp
    · dsimp only
      split <;> simp [h]
    · simp
    · simp
  · simp [settings_modInterlock]

@[simp] theorem settings_tripByMotion (s : State) : (tripByMotion s).settings = s.settings := by
  unfold tripByMotion
  split <;> simp [settings_changeMotion]

@[simp] theorem settings_tripByOverspeed (s : State) : (tripByOverspeed s).settings = s.settings := by
  unfold tripByOverspeed
  split <;> simp

@[simp] theorem settings_tripByInput (t : Terminal) (s : State) : (tripByInput t s).settings = s.settings := by
  unfold tripByInput
  split <;> simp

@[simp] theorem settings_tripTogether (sample : Bool) (s : State) : (tripTogether sample s).settings = s.settings := by
  unfold tripTogether
  split
  · refine settings_runInOrder _ ?_ _
    intro f hf s
    simp only [tripActs, List.mem_append, List.mem_cons, List.mem_nil_iff, or_false] at hf
    rcases hf with (rfl | rfl) | hf
    · simp
    · simp
    · split at hf
      · obtain ⟨t, -, rfl⟩ := List.mem_map.1 hf
        simp
      · simp at hf
  · rfl

@[simp] theorem settings_handExit (sample : Bool) (s : State) : (handExit sample s).settings = s.settings := by
  unfold handExit
  refine (settings_runInOrder _ ?_ _).trans (settings_tripTogether sample s)
  intro f hf s
  simp only [List.mem_cons, List.mem_nil_iff, or_false] at hf
  rcases hf with rfl | rfl | rfl | rfl | rfl <;> simp

@[simp] theorem settings_endRampIfIdle (s : State) : (endRampIfIdle s).settings = s.settings := by
  unfold endRampIfIdle
  (repeat' split) <;> simp

@[simp] theorem settings_enterRampdown (c : ReleaseCause) (s : State) : (enterRampdown c s).settings = s.settings := by
  unfold enterRampdown
  simp

@[simp] theorem settings_disengageOrder (c : ReleaseCause) (s : State) : (disengageOrder c s).settings = s.settings := by
  unfold disengageOrder
  split <;> simp

@[simp] theorem settings_tripAndOrder (c : ModeCause) (s : State) : (tripAndOrder c s).settings = s.settings := by
  unfold tripAndOrder
  simp

@[simp] theorem settings_driveFault (c : DriveFault) (s : State) : (driveFault c s).settings = s.settings := by
  unfold driveFault
  split <;> simp

@[simp] theorem settings_stopEffect (s : State) : (stopEffect s).settings = s.settings := by
  unfold stopEffect
  split <;> simp

@[simp] theorem settings_panelStopAsserted (s : State) : (panelStopAsserted s).settings = s.settings := by
  unfold panelStopAsserted
  simp

@[simp] theorem settings_checkStationary (s : State) : (checkStationary s).settings = s.settings := by
  unfold checkStationary
  (repeat' split) <;> simp

@[simp] theorem settings_enterKindMode (k : Kind) (c : ModeCause) (s : State) : (enterKindMode k c s).settings = s.settings := by
  unfold enterKindMode
  split <;> simp

@[simp] theorem settings_modeOnEngaged (s : State) : (modeOnEngaged s).settings = s.settings := by
  unfold modeOnEngaged
  split <;> simp

@[simp] theorem settings_handEntry (s : State) : (handEntry s).settings = s.settings := by
  unfold handEntry
  refine settings_runInOrder _ ?_ _
  intro f hf s
  simp only [List.mem_cons, List.mem_nil_iff, or_false] at hf
  rcases hf with rfl | rfl | rfl | rfl | rfl <;> simp

@[simp] theorem settings_orderIfTripped (s : State) : (orderIfTripped s).settings = s.settings := by
  unfold orderIfTripped
  split <;> simp

@[simp] theorem settings_enterEngaged (c : Confirmation) (s : State) : (enterEngaged c s).settings = s.settings := by
  unfold enterEngaged
  simp

@[simp] theorem settings_enterShifting (s : State) : (enterShifting s).settings = s.settings := by
  unfold enterShifting
  simp only []
  (repeat' split) <;> simp

@[simp] theorem settings_startEngagement (k : Kind) (s : State) : (startEngagement k s).settings = s.settings := by
  unfold startEngagement
  simp only []
  (repeat' split) <;> simp

@[simp] theorem settings_publishDrive (s : State) : (publishDrive s).settings = s.settings := by
  unfold publishDrive
  split <;> simp

@[simp] theorem settings_expirePrecheck (s : State) : (expirePrecheck s).settings = s.settings := by
  unfold expirePrecheck
  split <;> simp

@[simp] theorem settings_expireFeedback (s : State) : (expireFeedback s).settings = s.settings := by
  unfold expireFeedback
  (repeat' split) <;> simp

@[simp] theorem settings_expireDriveSettle (s : State) : (expireDriveSettle s).settings = s.settings := by
  unfold expireDriveSettle
  split <;> simp

@[simp] theorem settings_expireRamp (s : State) : (expireRamp s).settings = s.settings := by
  unfold expireRamp
  split <;> simp

@[simp] theorem settings_expireRelease (s : State) : (expireRelease s).settings = s.settings := by
  unfold expireRelease
  (repeat' split) <;> simp

@[simp] theorem settings_expireWindow (s : State) : (expireWindow s).settings = s.settings := by
  rfl

@[simp] theorem settings_ptoFeedbackChange (asserted : Bool) (s : State) : (ptoFeedbackChange asserted s).settings = s.settings := by
  unfold ptoFeedbackChange
  (repeat' split) <;> simp

@[simp] theorem settings_clearDriveFault (s : State) : (clearDriveFault s).settings = s.settings := by
  unfold clearDriveFault
  simp

@[simp] theorem settings_setMoving (moving : Bool) (s : State) : (setMoving moving s).settings = s.settings :=
  settings_changeMotion moving tripAndOrder settings_tripAndOrder s

@[simp] theorem settings_expireRise (s : State) : (expireRise s).settings = s.settings := by
  unfold expireRise
  split <;> simp

@[simp] theorem settings_expireFall (s : State) : (expireFall s).settings = s.settings := by
  unfold expireFall
  split <;> simp

@[simp] theorem settings_publishMotion (s : State) : (publishMotion s).settings = s.settings := by
  unfold publishMotion
  apply settings_modInterlock
  split <;> rfl

@[simp] theorem settings_overspeedTimers (s : State) : (overspeedTimers s).settings = s.settings := by
  rfl

@[simp] theorem settings_publishRoll (s : State) : (publishRoll s).settings = s.settings := by
  unfold publishRoll
  (repeat' split) <;> simp

@[simp] theorem settings_expireRecovery (s : State) : (expireRecovery s).settings = s.settings := by
  unfold expireRecovery
  split <;> simp

@[simp] theorem settings_expireTrip (s : State) : (expireTrip s).settings = s.settings := by
  unfold expireTrip
  split <;> simp

@[simp] theorem settings_slideMode (s : State) : (slideMode s).settings = s.settings := by
  unfold slideMode
  (repeat' split) <;> simp [settings_modInterlock]

@[simp] theorem settings_publishVoltage (s : State) : (publishVoltage s).settings = s.settings := by
  unfold publishVoltage
  simp only []
  (repeat' split) <;> simp [settings_modInterlock]

@[simp] theorem settings_expireVoltage (s : State) : (expireVoltage s).settings = s.settings := by
  unfold expireVoltage
  (repeat' split) <;> simp [settings_modInterlock]

@[simp] theorem settings_publishEngineIdle (s : State) : (publishEngineIdle s).settings = s.settings := by
  unfold publishEngineIdle
  simp [settings_modInterlock]

@[simp] theorem settings_expireHot (s : State) : (expireHot s).settings = s.settings := by
  unfold expireHot
  (repeat' split) <;> simp

@[simp] theorem settings_tripOnLoss (c : ModeCause) (asserted : Bool) (s : State) : (tripOnLoss c asserted s).settings = s.settings := by
  unfold tripOnLoss
  split <;> simp

@[simp] theorem settings_deliverOrder (before : OpMode) (s : State) : (deliverOrder before s).settings = s.settings := by
  unfold deliverOrder
  split <;> simp

@[simp] theorem settings_deselectRoll (asserted : Bool) (s : State) : (deselectRoll asserted s).settings = s.settings := by
  unfold deselectRoll
  split <;> simp

@[simp] theorem settings_panelStopChange (asserted : Bool) (s : State) : (panelStopChange asserted s).settings = s.settings := by
  unfold panelStopChange
  split <;> simp

@[simp] theorem settings_recordInputChanged (t : Terminal) (asserted : Bool) (s : State) : (recordInputChanged t asserted s).settings = s.settings := by
  unfold recordInputChanged
  simp

@[simp] theorem settings_valveFeedbackChange (v : ValveRole) (asserted : Bool) (s : State) : (valveFeedbackChange v asserted s).settings = s.settings := by
  unfold valveFeedbackChange reportAfter
  dsimp only
  split <;> simp

@[simp] theorem settings_inputChange (t : Terminal) (r : Role) (asserted : Bool) (s : State) : (inputChange t r asserted s).settings = s.settings := by
  unfold inputChange
  split
  case h_1 | h_2 | h_3 | h_4 =>
    refine settings_runInOrder _ ?_ _
    intro f hf s
    simp only [List.mem_cons, List.mem_nil_iff, or_false] at hf
    rcases hf with rfl | rfl <;> simp
  all_goals simp

@[simp] theorem settings_sampleTerminal (levels : BitVec 16) (t : Terminal) (s : State) : (sampleTerminal levels t s).settings = s.settings := by
  unfold sampleTerminal
  simp only []
  (repeat' split) <;> simp

@[simp] theorem settings_sampleInputs (levels : BitVec 16) (s : State) : (sampleInputs levels s).settings = s.settings := by
  unfold sampleInputs
  refine (settings_deliverOrder _ _).trans (settings_runInOrder _ ?_ _)
  intro f hf s
  simp only [List.mem_append, List.mem_map, List.mem_singleton] at hf
  rcases hf with ⟨t, -, rfl⟩ | rfl <;> simp

@[simp] theorem settings_alignTerminal (old : AssignRecord) (t : Terminal) (s : State) : (alignTerminal old t s).settings = s.settings := by
  unfold alignTerminal
  simp only []
  (repeat' split) <;> simp

@[simp] theorem settings_changeKind (k : Kind) (s : State) : (changeKind k s).settings = s.settings := by
  unfold changeKind
  simp

@[simp] theorem settings_takeShadow (x : Setting) (s : State) : (takeShadow x s).settings = s.settings := by
  unfold takeShadow
  simp

@[simp] theorem settings_takeIdle (s : State) : (takeIdle s).settings = s.settings := by
  unfold takeIdle
  split <;> simp

@[simp] theorem settings_useReserve (s : State) : (useReserve s).settings = s.settings := by
  unfold useReserve
  (repeat' split) <;> simp

@[simp] theorem settings_startFill (t : Tank) (s : State) : (startFill t s).settings = s.settings := by
  unfold startFill
  simp

@[simp] theorem settings_silence (s : State) : (silence s).settings = s.settings := by
  rfl

end Sys2Proof.Machine
end

