-- ==== Sys2Proof/Laws/Operations.lean ====
section
/-! SUPPORT. What each shared operation can do, said once: arithmetic, sets kept in listing order, timers, the notice queue,
the alarm, the ceilings, the clutch, the valves, a trip that falls with an exit, the transmitter, and how a command is
run. -/

namespace Sys2Proof.Machine

/-! ### Arithmetic, sets, timers -/

theorem clampTo_bounds (lo hi v : Int) (h : lo ≤ hi) : lo ≤ clampTo lo hi v ∧ clampTo lo hi v ≤ hi := by
  unfold clampTo
  split
  · exact ⟨Int.le_refl _, h⟩
  · split <;> omega

theorem clampTo_of_mem (lo hi v : Int) (h₁ : lo ≤ v) (h₂ : v ≤ hi) : clampTo lo hi v = v := by
  unfold clampTo
  rw [if_neg (by omega), if_neg (by omega)]

theorem clampTo_eq (lo hi v : Int) (h : lo ≤ hi) : clampTo lo hi v = max lo (min v hi) := by
  unfold clampTo
  split
  · omega
  · split <;> omega

theorem countUp_eq (g n : Nat) (h : n ≤ g) : countUp g n = min (n + 1) g := by
  unfold countUp
  split <;> omega

theorem countUp_le (g n : Nat) : countUp g n ≤ g := by
  unfold countUp
  split <;> omega

@[simp] theorem mem_insertIn {α : Type} [DecidableEq α] (listing l : List α) (x y : α) :
    y ∈ insertIn listing x l ↔ y ∈ listing ∧ (y = x ∨ y ∈ l) := by
  simp [insertIn]

@[simp] theorem mem_removeFrom {α : Type} [DecidableEq α] (l : List α) (x y : α) :
    y ∈ removeFrom x l ↔ y ∈ l ∧ y ≠ x := by
  simp [removeFrom]

@[simp] theorem mem_allAlarmCauses (c : AlarmCause) : c ∈ allAlarmCauses := by cases c <;> decide
@[simp] theorem mem_allRecircCauses (c : RecircCause) : c ∈ allRecircCauses := by cases c <;> decide
@[simp] theorem mem_allOverrides (k : OverrideKind) : k ∈ allOverrides := by cases k <;> decide
@[simp] theorem mem_allGuardedKinds (k : GuardedKind) : k ∈ allGuardedKinds := by cases k <;> decide
@[simp] theorem mem_allValves (v : ValveRole) : v ∈ allValves := by cases v <;> decide
@[simp] theorem mem_allModes (m : OpMode) : m ∈ allModes := by cases m <;> decide
@[simp] theorem mem_allNoticeKinds (k : NoticeKind) : k ∈ allNoticeKinds := by cases k <;> decide
@[simp] theorem mem_allFlags (n : Fin 8) : n ∈ allFlags := by revert n; decide
@[simp] theorem mem_allTerminals (t : Terminal) : t ∈ allTerminals := by revert t; decide

@[simp] theorem mem_allConditions (c : Condition) : c ∈ allConditions := by
  cases c with
  | panelFlag n => revert n; decide
  | _ => decide

@[simp] theorem runTimer_isSome (ms : Nat) (t : Option Timer) : (runTimer ms t).isSome = true := by
  cases t <;> rfl

theorem timerWhile_isSome (holds : Bool) (ms : Nat) (t : Option Timer) : (timerWhile holds ms t).isSome = holds := by
  cases holds <;> simp [timerWhile]

/-! ### The notice queue and the trend ring -/

theorem markOldest_length (l : List Notice) : (markOldest l).length = l.length := by cases l <;> rfl

theorem joinQueue_length_le (n : Notice) (q : List Notice) (h : q.length ≤ queueCapacity) :
    (joinQueue n q).length ≤ queueCapacity := by
  unfold joinQueue
  split
  · simp; omega
  · simp [markOldest_length, queueCapacity] at *; omega

theorem joinRing_length_le (r : TrendRecord) (l : List TrendRecord) (h : l.length ≤ ringCapacity) :
    (joinRing r l).length ≤ ringCapacity := by
  unfold joinRing
  split
  · simp; omega
  · simp [ringCapacity] at *; omega

/-- The pressure check changes the pressure flag and the offers, or nothing. -/
theorem checkPressure_cases (s : State) :
    checkPressure s = s ∨
      (s.link.hold = true ∧ s.notices.pressure = false ∧ 16 ≤ s.notices.queue.length ∧
        checkPressure s = s.modNotices fun n => { n with pressure := true, offers := n.offers ++ [n.queue.length] }) := by
  unfold checkPressure
  split
  · next h => exact .inr ⟨h.1, h.2.1, h.2.2, rfl⟩
  · exact .inl rfl

/-- A record is discarded, or is stamped and joins the queue. -/
theorem record_cases (k : NoticeKind) (b : NoticeBody) (s : State) :
    (k ∈ s.notices.disabled ∧ record k b s = s) ∨
    (k ∉ s.notices.disabled ∧ record k b s = enqueue ⟨s.clock.tag, k, b, false⟩ s) := by
  by_cases h : k ∈ s.notices.disabled
  · exact .inl ⟨h, by simp [record, maskEnabled, h]⟩
  · exact .inr ⟨h, by simp [record, maskEnabled, h]⟩

/-- The queue after a stamped record joins it. -/
theorem enqueue_queue (n : Notice) (s : State) : (enqueue n s).notices.queue = joinQueue n s.notices.queue := by
  have h : ∀ t : State, (checkPressure t).notices.queue = t.notices.queue := by
    intro t
    rcases checkPressure_cases t with h | ⟨-, -, -, h⟩
    · rw [h]
    · rw [h]; rfl
  unfold enqueue
  rw [h]
  split <;> rfl

theorem record_queue_le (k : NoticeKind) (b : NoticeBody) (s : State) (h : s.notices.queue.length ≤ 32) :
    (record k b s).notices.queue.length ≤ 32 := by
  rcases record_cases k b s with ⟨-, e⟩ | ⟨-, e⟩ <;> rw [e]
  · exact h
  · rw [enqueue_queue]; exact joinQueue_length_le _ _ h

/-- The TREND_HALF check changes nothing but the armed flag and the notice it records. -/
theorem checkTrendHalf_cases (s : State) :
    checkTrendHalf s = s ∨
      (s.trend.armed = true ∧ 128 ≤ unreadCount s.trend ∧ checkTrendHalf s =
        record .trendHalf { value := some (unreadCount s.trend : Int) } (s.modTrend fun t => { t with armed := false })) := by
  unfold checkTrendHalf
  split
  · next h => exact .inr ⟨h.1, h.2, rfl⟩
  · exact .inl rfl

/-! ### The alarm -/

@[simp] theorem setPattern_causes (a : Alarm) : (setPattern a).causes = a.causes := by
  unfold setPattern
  split
  · rfl
  · rfl
  · split <;> rfl

@[simp] theorem setPattern_silenced (a : Alarm) : (setPattern a).silenced = a.silenced := by
  unfold setPattern
  split
  · rfl
  · rfl
  · split <;> rfl

/-- The pattern after either set has changed is the one the two sets call for. -/
theorem setPattern_pattern (a : Alarm) : (setPattern a).pattern = patternFor a.causes a.silenced := by
  unfold setPattern
  split
  · next h => exact h.symm
  · next h => exact h.symm
  · next h =>
    split
    · next g => rw [h]; exact g
    · exact h.symm

/-- A cause added joins the set; nothing else of the state but the alarm changes. -/
theorem addAlarm_cases (c : AlarmCause) (s : State) :
    (c ∈ s.alarm.causes ∧ addAlarm c s = s) ∨
    (c ∉ s.alarm.causes ∧ addAlarm c s =
      s.modAlarm fun a => setPattern { a with causes := insertIn allAlarmCauses c a.causes }) := by
  by_cases h : c ∈ s.alarm.causes
  · exact .inl ⟨h, if_pos h⟩
  · exact .inr ⟨h, if_neg h⟩

theorem removeAlarm_cases (c : AlarmCause) (s : State) :
    (c ∉ s.alarm.causes ∧ removeAlarm c s = s) ∨
    (c ∈ s.alarm.causes ∧ removeAlarm c s = s.modAlarm fun a =>
      setPattern { a with causes := removeFrom c a.causes, silenced := removeFrom c a.silenced }) := by
  by_cases h : c ∈ s.alarm.causes
  · exact .inr ⟨h, if_pos h⟩
  · exact .inl ⟨h, if_neg h⟩

@[simp] theorem mem_addAlarm (c d : AlarmCause) (s : State) :
    d ∈ (addAlarm c s).alarm.causes ↔ d = c ∨ d ∈ s.alarm.causes := by
  rcases addAlarm_cases c s with ⟨h, e⟩ | ⟨-, e⟩ <;> rw [e]
  · exact ⟨.inr, fun g => g.elim (fun x => x ▸ h) id⟩
  · simp [State.modAlarm]

@[simp] theorem mem_removeAlarm (c d : AlarmCause) (s : State) :
    d ∈ (removeAlarm c s).alarm.causes ↔ d ∈ s.alarm.causes ∧ d ≠ c := by
  rcases removeAlarm_cases c s with ⟨h, e⟩ | ⟨-, e⟩ <;> rw [e]
  · exact ⟨fun g => ⟨g, fun x => h (x ▸ g)⟩, And.left⟩
  · simp [State.modAlarm]

/-! ### The ceilings -/

/-- The clip takes the demand to the least ceiling where it stands above it, and changes nothing else but the report. -/
theorem clipDemand_cases (s : State) :
    (s.governor.demand ≤ leastCeiling (ceilings s) ∧ clipDemand s = s) ∨
    (leastCeiling (ceilings s) < s.governor.demand ∧ clipDemand s =
      s.modGovernor fun g => readCeilings (ceilings s) { g with demand := leastCeiling (ceilings s) }) := by
  by_cases h : leastCeiling (ceilings s) < s.governor.demand
  · exact .inr ⟨h, if_pos h⟩
  · exact .inl ⟨Nat.le_of_not_lt h, if_neg h⟩

theorem clipDemand_demand (s : State) :
    (clipDemand s).governor.demand = min s.governor.demand (leastCeiling (ceilings s)) := by
  rcases clipDemand_cases s with ⟨h, e⟩ | ⟨h, e⟩ <;> rw [e]
  · omega
  · show leastCeiling (ceilings s) = _
    omega

theorem leastCeiling_le (c : Ceilings) :
    leastCeiling c ≤ c.profile ∧ leastCeiling c ≤ c.mode ∧ leastCeiling c ≤ c.supply ∧ leastCeiling c ≤ c.thermal := by
  unfold leastCeiling
  omega

/-! ### Conditions -/

@[simp] theorem mem_trueConditions (s : State) (c : Condition) : c ∈ trueConditions s ↔ conditionHolds s c = true := by
  simp [trueConditions]

theorem mem_failingConditions (s : State) (k : GuardedKind) (c : Condition) :
    c ∈ failingConditions s k ↔ c ∈ (s.entry k).conds ∧ conditionHolds s c = false := by
  simp [failingConditions]

theorem engaging_eq_false (s : State) : engaging s.drive.pto = false ↔ NotShifting s := by
  cases h : s.drive.pto <;> simp [engaging, NotShifting, h]

/-- While the clutch is not being shifted a condition event evaluates the set and does nothing else. -/
theorem conditionEvent_notShifting (s : State) (h : NotShifting s) : conditionEvent s = refreshConditions s := by
  have he := (engaging_eq_false s).2 h
  unfold conditionEvent
  split
  · next e => unfold refreshConditions State.modInterlock; rw [e]
  · simp [he]

/-! ### The clutch sequence -/

@[simp] theorem toPto_pto (p : PtoState) (d : Drive) : (toPto p d).pto = p := rfl
@[simp] theorem toPto_clutch (p : PtoState) (d : Drive) : (toPto p d).clutch = clutchDriven p := rfl

theorem clutchDriven_iff (p : PtoState) : clutchDriven p = true ↔ p = .shifting ∨ p = .engaged ∨ p = .rampdown := by
  cases p <;> decide

/-- After a change of PTO state no timer of the drive runs but the start-up window, and that in DISENGAGED only. -/
theorem toPto_timers (p : PtoState) (d : Drive) :
    (toPto p d).precheck = none ∧ (toPto p d).feedback = none ∧ (toPto p d).settle = none ∧ (toPto p d).ramp = none ∧
    (toPto p d).releasing = none ∧ (p ≠ .disengaged → (toPto p d).window = none) :=
  ⟨rfl, rfl, rfl, rfl, rfl, fun h => if_neg h⟩

theorem confirmRelease_cases (s : State) :
    confirmRelease s = s ∨
    (s.drive.pto = .releasing ∧ s.qualified .ptoFb = some false ∧ confirmRelease s = endRelease 0 s) := by
  unfold confirmRelease
  split
  · next h => exact .inr ⟨h.1, h.2, rfl⟩
  · exact .inl rfl

/-! ### The valves -/

/-- Travel begun changes the valve's own record, and not its command. -/
theorem beginTravel_eq (v : ValveRole) (o : Bool) (s : State) :
    ∃ a : Actuator, a.openCmd = (s.valve v).openCmd ∧ a.state ≠ .fault ∧
      beginTravel v o s = { s with valves := setValve s.valves v a } := by
  cases o
  · exact ⟨{ s.valve v with state := .closing, tries := 0, retry := none, travel := startTimer (travelTime s v) }, rfl,
      by simp, rfl⟩
  · unfold beginTravel enterOpening
    rw [if_pos rfl]
    split
    · exact ⟨arrived .atOpen .confirmed (s.valve v), rfl, by simp [arrived], rfl⟩
    · exact ⟨{ s.valve v with state := .opening, tries := 1, retry := none, travel := startTimer (travelTime s v) }, rfl,
        by simp, rfl⟩

/-- A command changes the valve's own record only, which then holds that command; one equal to the command in force changes
nothing. -/
theorem carryOut_eq (v : ValveRole) (o : Bool) (s : State) :
    ((s.valve v).openCmd = o ∧ carryOut v o s = s) ∨
    ((s.valve v).openCmd ≠ o ∧ ∃ a : Actuator, a.openCmd = o ∧ (a.state = .fault ↔ (s.valve v).state = .fault) ∧
      carryOut v o s = { s with valves := setValve s.valves v a }) := by
  by_cases h : (s.valve v).openCmd = o
  · exact .inl ⟨h, if_pos h⟩
  · refine .inr ⟨h, ?_⟩
    unfold carryOut
    rw [if_neg h]
    dsimp only
    split
    · next hf => exact ⟨{ s.valve v with openCmd := o }, rfl, by simp [hf], rfl⟩
    · next hf =>
      obtain ⟨a, h₁, h₂, h₃⟩ := beginTravel_eq v o (s.modValve v fun a => { a with openCmd := o })
      refine ⟨a, ?_, by simp [h₂, hf], ?_⟩
      · rw [h₁]; cases v <;> rfl
      · rw [h₃]; cases v <;> rfl

theorem carryOut_openCmd (v : ValveRole) (o : Bool) (s : State) : ((carryOut v o s).valve v).openCmd = o := by
  rcases carryOut_eq v o s with ⟨h, e⟩ | ⟨-, a, h, -, e⟩ <;> rw [e]
  · exact h
  · cases v <;> exact h

theorem carryOut_other (v w : ValveRole) (o : Bool) (s : State) (h : w ≠ v) :
    (carryOut v o s).valve w = s.valve w := by
  rcases carryOut_eq v o s with ⟨-, e⟩ | ⟨-, a, -, -, e⟩ <;> rw [e]
  cases v <;> cases w <;> first | rfl | exact absurd rfl h

/-! ### Frames of the operations that record or clip -/

theorem checkPressure_frame (s : State) :
    ∃ n : Notices, n.disabled = s.notices.disabled ∧ checkPressure s = { s with notices := n } := by
  rcases checkPressure_cases s with h | ⟨-, -, -, h⟩
  · exact ⟨s.notices, rfl, h⟩
  · exact ⟨{ s.notices with
      pressure := true, offers := s.notices.offers ++ [s.notices.queue.length] }, rfl, h⟩

/-- Recording changes the queue of notices, its pressure offers and the queued mark of the frame being sent. -/
theorem record_frame (k : NoticeKind) (b : NoticeBody) (s : State) :
    ∃ (n : Notices) (x : Option TxFrame), n.disabled = s.notices.disabled ∧ (x.isSome = s.tx.isSome) ∧
      record k b s = { s with notices := n, tx := x } := by
  rcases record_cases k b s with ⟨-, e⟩ | ⟨-, e⟩ <;> rw [e]
  · exact ⟨s.notices, s.tx, rfl, rfl, rfl⟩
  · have hu : (unqueueSent s.tx).isSome = s.tx.isSome := by
      unfold unqueueSent
      split
      · next h => rw [h]; rfl
      · rfl
    unfold enqueue
    split
    · obtain ⟨n, hn, h⟩ := checkPressure_frame (s.modNotices fun x =>
        { x with queue := joinQueue ⟨s.clock.tag, k, b, false⟩ x.queue })
      exact ⟨n, s.tx, hn, rfl, h⟩
    · obtain ⟨n, hn, h⟩ := checkPressure_frame ((s.modTx unqueueSent).modNotices fun x =>
        { x with queue := joinQueue ⟨s.clock.tag, k, b, false⟩ x.queue })
      exact ⟨n, unqueueSent s.tx, hn, hu, h⟩

/-- A clip changes the demand, C, the binding ceiling and the inputs read, and the demand only downward. -/
theorem clipDemand_frame (s : State) :
    ∃ g : Governor, g.demand ≤ s.governor.demand ∧ clipDemand s = { s with governor := g } ∧
      g = { s.governor with demand := g.demand, ceiling := g.ceiling, binding := g.binding, inputs := g.inputs } := by
  rcases clipDemand_cases s with ⟨-, e⟩ | ⟨h, e⟩
  · exact ⟨s.governor, Nat.le_refl _, e, rfl⟩
  · exact ⟨readCeilings (ceilings s) { s.governor with demand := leastCeiling (ceilings s) }, Nat.le_of_lt h, e, rfl⟩

/-- A change of mode sets the mode, its ceiling and stops the overspeed timers; beside the Interlock Unit it changes the
governor's demand and report, the notices, and, into MOTION_TRIP, the trend's capture. -/
theorem setMode_frame (m : OpMode) (c : ModeCause) (s : State) :
    ∃ (g : Governor) (n : Notices) (x : Option TxFrame) (r : Trend), g.demand ≤ s.governor.demand ∧
      (m ≠ .motionTrip → r = s.trend) ∧
      setMode m c s = { s with
        interlock := { s.interlock with mode := m, ceiling := entryCeiling s m, recovery := none, trip := none }
        governor := g, notices := n, tx := x, trend := r } := by
  unfold setMode
  dsimp only
  obtain ⟨n, x, -, -, h⟩ := record_frame .modeChanged
    { old := some (.mode s.interlock.mode), new := some (.mode m), cause := some (.mode c) }
    (s.modInterlock fun i => { i with mode := m, ceiling := entryCeiling s m, recovery := none, trip := none })
  rw [h]
  split
  · obtain ⟨g, hg, e, -⟩ := clipDemand_frame (protectiveEvent { s.modInterlock fun i =>
      { i with mode := m, ceiling := entryCeiling s m, recovery := none, trip := none } with notices := n, tx := x })
    exact ⟨g, n, x, _, hg, fun hm => absurd ‹_› hm, e⟩
  · obtain ⟨g, hg, e, -⟩ := clipDemand_frame { s.modInterlock fun i =>
      { i with mode := m, ceiling := entryCeiling s m, recovery := none, trip := none } with notices := n, tx := x }
    exact ⟨g, n, x, s.trend, hg, fun _ => rfl, e⟩

/-! ### A trip that falls together with an exit from ENGAGED -/

theorem expiresNow_iff (t : Option Timer) (row : Instr) (s : State) : expiresNow t row s = true ↔ FallsNow t row s := by
  cases t <;> simp [expiresNow, isDue, FallsNow]

theorem lossCause_isSome (r : Role) : (lossCause r).isSome = true ↔ r = .parkBrake ∨ r = .neutral := by
  cases r <;> decide

theorem lossNow_isSome (s : State) (t : Terminal) : (lossNow s t).isSome = true ↔
    (s.terminals.assignment[t].role = .parkBrake ∨ s.terminals.assignment[t].role = .neutral) ∧
    s.terminals.inputs[t].asserted = true ∧ (sampledNext s t).asserted = false := by
  unfold lossNow
  split
  · next h => exact (lossCause_isSome _).trans ⟨fun hr => ⟨hr, h⟩, fun hr => hr.1⟩
  · next h => simp only [Option.isSome_none, Bool.false_eq_true, false_iff]; tauto

/-- A trip falls together with an exit exactly where the statements say so. -/
theorem tripsNow_iff (sample : Bool) (s : State) : tripsNow sample s = true ↔ TripWithExit sample s := by
  have hl : (allTerminals.any fun t => (lossNow s t).isSome) = true ↔ LostAtNextSample s := by
    rw [List.any_eq_true]
    constructor
    · rintro ⟨t, -, h⟩
      obtain ⟨hr, ha, hn⟩ := (lossNow_isSome s t).1 h
      unfold sampledNext waitingSample at hn
      dsimp only at hn
      split at hn
      · next l e => exact ⟨l, t, e, hr, ha, hn⟩
      · exact absurd (ha.symm.trans hn) (by decide)
    · rintro ⟨l, t, e, hr, ha, hn⟩
      refine ⟨t, mem_allTerminals t, (lossNow_isSome s t).2 ⟨hr, ha, ?_⟩⟩
      simpa only [sampledNext, waitingSample, e] using hn
  unfold tripsNow TripWithExit
  split <;> next h => simp only [h, reduceCtorEq, false_and, true_and, false_or, or_false, Bool.or_eq_true,
    Bool.and_eq_true, expiresNow_iff, hl, Bool.false_eq_true]

/-- Where no trip falls together with the exit, or the report of the exit is taken first, the exit is handed on alone. -/
theorem tripTogether_alone (sample : Bool) (s : State) (h : freeBit s = false ∨ ¬TripWithExit sample s) :
    tripTogether sample s = s := by
  refine if_neg ?_
  rintro ⟨hb, ht⟩
  rcases h with h | h
  · rw [h] at hb; cases hb
  · exact h ((tripsNow_iff sample s).1 ht)

/-- An order finds the drive as it stands, and changes nothing outside the states from which it releases (R32, R62). -/
theorem disengageOrder_ignored (c : ReleaseCause) (s : State)
    (h : s.drive.pto = .disengaged ∨ s.drive.pto = .rampdown ∨ s.drive.pto = .releasing ∨ s.drive.pto = .fault) :
    disengageOrder c s = s := by
  unfold disengageOrder
  rcases h with h | h | h | h <;> rw [h]

/-- The order of a trip is brought to the drive where the trip was made since, and else nothing happens. -/
theorem deliverOrder_cases (m : OpMode) (s : State) :
    (deliverOrder m s = s ∧ (m = .motionTrip ∨ s.interlock.mode ≠ .motionTrip)) ∨
    (deliverOrder m s = disengageOrder .motion s ∧ m ≠ .motionTrip ∧ s.interlock.mode = .motionTrip) := by
  unfold deliverOrder
  split
  · next h => exact .inr ⟨rfl, h⟩
  · next h => exact .inl ⟨rfl, by tauto⟩

/-! ### The supply, the fill valves and the transmitter -/

theorem clipDemand_supply (s : State) : (clipDemand s).supply = s.supply := by
  obtain ⟨g, -, e, -⟩ := clipDemand_frame s
  rw [e]

theorem removeAlarm_supply (c : AlarmCause) (s : State) : (removeAlarm c s).supply = s.supply := by
  rcases removeAlarm_cases c s with ⟨-, e⟩ | ⟨-, e⟩ <;> rw [e]
  rfl

/-- A limit set is the limit; the supply state, the selected tank and the timers but the activity timer stand. -/
theorem setLimit_supply (l : Nat) (s : State) :
    (setLimit l s).supply = { s.supply with
      limit := l, activity := activityAfter s.supply.limit l s.supply.activity
      lossLatch := if l < 1000 then s.supply.lossLatch else false } := by
  unfold setLimit
  rw [clipDemand_supply]
  split
  · rfl
  · rw [removeAlarm_supply]; rfl

/-- The Tank Unit's command of a fill valve changes that valve, the tank's record of the command and the notices. -/
theorem commandFill_frame (t : Tank) (o : Bool) (s : State) :
    ∃ (a : Actuator) (b : Bool) (n : Notices) (x : Option TxFrame),
      (a.openCmd = true → (s.valve (tankValve t)).openCmd = false ∨ (s.valve (fillValve t)).openCmd = true) ∧
      commandFill t o s = { s with
        tanks := setTank s.tanks t { s.tank t with fillOpen := b }, valves := setValve s.valves (fillValve t) a
        notices := n, tx := x } := by
  have same : setValve s.valves (fillValve t) (s.valve (fillValve t)) = s.valves := by cases t <;> rfl
  unfold commandFill
  split
  · obtain ⟨n, x, -, -, h⟩ := record_frame .valveInterlock
      { subject := some (.valve (fillValve t)), cause := some (.blockedBy (tankValve t)) }
      (s.modTank t fun r => { r with fillOpen := false })
    refine ⟨s.valve (fillValve t), false, n, x, fun h => .inr h, ?_⟩
    rw [h, same]
    rfl
  · next hn =>
    rcases carryOut_eq (fillValve t) o (s.modTank t fun r => { r with fillOpen := o }) with ⟨h, e⟩ | ⟨-, a, h, -, e⟩
    · refine ⟨s.valve (fillValve t), o, s.notices, s.tx, fun h => .inr h, ?_⟩
      rw [e, same]
      rfl
    · refine ⟨a, o, s.notices, s.tx, fun ha => .inl ?_, e⟩
      rw [h] at ha
      by_contra hc
      exact hn ⟨ha, by simpa using hc⟩

/-! ### The transmitter, and how a command is run -/

/-- A free transmitter begins the first of what is offered; else it stands. -/
theorem startTransmitter_cases (s : State) :
    startTransmitter s = s ∨
    ∃ f, s.tx = none ∧ nextFrame s = some f ∧ startTransmitter s = (withdrawOffer f s).modTx fun _ => some f := by
  unfold startTransmitter
  split
  · exact .inl rfl
  · next h =>
    split
    · next f hf => exact .inr ⟨f, by simpa using h, hf, rfl⟩
    · exact .inl rfl

/-- The end of a command changes the transmitter, the reply offered and the frames offered, and nothing else. -/
theorem finish_frame (s : State) :
    ∃ (tx : Option TxFrame) (r : Option Reply) (l : List Nat),
      finish s = { s with
        tx := tx, link := { s.link with reply := r }, notices := { s.notices with offers := l }, choices := [] } := by
  rcases startTransmitter_cases s with h | ⟨f, -, -, h⟩
  · exact ⟨s.tx, s.link.reply, s.notices.offers, by unfold finish; rw [h]; rfl⟩
  · cases f with
    | reply r => exact ⟨_, none, s.notices.offers, by unfold finish; rw [h]; rfl⟩
    | pressure n => exact ⟨_, s.link.reply, s.notices.offers.drop 1, by unfold finish; rw [h]; rfl⟩
    | notice n t q => exact ⟨_, s.link.reply, s.notices.offers, by unfold finish; rw [h]; rfl⟩

theorem command_powered (f : State → State) (s : State) (h : s.powered = true) :
    command f s = .next (finish (f s.fresh)) := by
  simp [command, h]

theorem command_unpowered (f : State → State) (s : State) (h : s.powered = false) : command f s = .next s := by
  simp [command, h]

/-- Every request row presents its request. -/
theorem exec_of_request (i : Instr) (s : State) (tag : Byte) (r : Request) (h : i.request? = some (tag, r)) :
    exec i s = present tag r s := by
  cases i <;> simp [Instr.request?] at h <;> obtain ⟨rfl, rfl⟩ := h <;> rfl

theorem canTake_fresh (s : State) (h : Ready s) : canTake s.fresh = true := by
  simp [canTake, State.fresh, h.2.1, h.2.2]

/-- A request that can be taken is taken at once. -/
theorem present_ready (tag : Byte) (r : Request) (s : State) (hr : r.wellFormed = true) (h : Ready s) :
    present tag r s = .next (finish (takeRequest tag r s.fresh)) := by
  simp [present, hr, command, h.1, arriveRequest, canTake_fresh s h]

/-- A request taken leaves what its owning unit leaves, with the request in hand and the reply ready. -/
theorem takeRequest_eq (tag : Byte) (r : Request) (s : State) :
    takeRequest tag r s =
      let a := act r (holdRequest r.code tag s)
      { a.state with link := { a.state.link with reply := some ⟨r.code + 128, tag, a.result, a.body⟩ } } := rfl

end Sys2Proof.Machine
end

