-- ==== Sys2Proof/Laws/PerInstr.lean ====
section
/-! SUPPORT. Statements made per command: the form of the command as syntax. An event row can always come; a request row
carries a kind code of R210's table, and can come exactly where its fields fit the 253 parameter bytes of a frame (R196). -/

namespace Sys2Proof.Laws.RequestForm

/-- An event row is well formed; a request row carries one of the 39 kind codes and is well formed exactly where its fields
fit a frame. -/
def Statement (i : Instr) : Prop :=
  (i.request? = none → i.wellFormed = true) ∧
  ∀ (tag : Byte) (r : Request), i.request? = some (tag, r) →
    1 ≤ r.code.toNat ∧ r.code.toNat ≤ 39 ∧ (i.wellFormed = true ↔ r.size ≤ maxParams)

theorem of_event (i : Instr) (h : i.request? = none) : Statement i :=
  ⟨fun _ => by unfold Instr.wellFormed; rw [h], fun tag r g => by rw [h] at g; cases g⟩

theorem of_request (i : Instr) (tag : Byte) (r : Request) (h : i.request? = some (tag, r))
    (hc : 1 ≤ r.code.toNat ∧ r.code.toNat ≤ 39) : Statement i := by
  refine ⟨fun g => (by rw [h] at g; cases g), fun tag' r' g => ?_⟩
  rw [h] at g
  cases g
  refine ⟨hc.1, hc.2, ?_⟩
  unfold Instr.wellFormed
  rw [h]
  exact decide_eq_true_iff

theorem powerOn : Statement .powerOn := of_event _ rfl
theorem powerLoss : Statement .powerLoss := of_event _ rfl
theorem partRestart : Statement .partRestart := of_event _ rfl
theorem frameComplete (check : Byte) : Statement (.frameComplete check) := of_event _ rfl
theorem framingError : Statement .framingError := of_event _ rfl
theorem frameGapTimeout : Statement .frameGapTimeout := of_event _ rfl
theorem frameSent : Statement .frameSent := of_event _ rfl
theorem supervisionTimeout : Statement .supervisionTimeout := of_event _ rfl
theorem analogScan (codes : Analog (BitVec 12)) : Statement (.analogScan codes) := of_event _ rfl
theorem inputSample (levels : BitVec 16) : Statement (.inputSample levels) := of_event _ rfl
theorem pulseInput (ch : PulseChannel) : Statement (.pulseInput ch) := of_event _ rfl
theorem gateComplete : Statement .gateComplete := of_event _ rfl
theorem governorPeriod : Statement .governorPeriod := of_event _ rfl
theorem timeTagTick : Statement .timeTagTick := of_event _ rfl
theorem trendSample : Statement .trendSample := of_event _ rfl
theorem riseTimerExpiry : Statement .riseTimerExpiry := of_event _ rfl
theorem fallTimerExpiry : Statement .fallTimerExpiry := of_event _ rfl
theorem recoveryTimerExpiry : Statement .recoveryTimerExpiry := of_event _ rfl
theorem tripTimerExpiry : Statement .tripTimerExpiry := of_event _ rfl
theorem voltageTimerExpiry : Statement .voltageTimerExpiry := of_event _ rfl
theorem precheckTimerExpiry : Statement .precheckTimerExpiry := of_event _ rfl
theorem feedbackTimerExpiry : Statement .feedbackTimerExpiry := of_event _ rfl
theorem driveSettleExpiry : Statement .driveSettleExpiry := of_event _ rfl
theorem rampTimerExpiry : Statement .rampTimerExpiry := of_event _ rfl
theorem releaseTimerExpiry : Statement .releaseTimerExpiry := of_event _ rfl
theorem startUpWindowExpiry : Statement .startUpWindowExpiry := of_event _ rfl
theorem pulseLossTimerExpiry : Statement .pulseLossTimerExpiry := of_event _ rfl
theorem attemptTimerExpiry : Statement .attemptTimerExpiry := of_event _ rfl
theorem primeTimerExpiry : Statement .primeTimerExpiry := of_event _ rfl
theorem primerLimitExpiry : Statement .primerLimitExpiry := of_event _ rfl
theorem switchSettleExpiry : Statement .switchSettleExpiry := of_event _ rfl
theorem lossTimerExpiry : Statement .lossTimerExpiry := of_event _ rfl
theorem limiterActivityExpiry : Statement .limiterActivityExpiry := of_event _ rfl
theorem tankSettleExpiry (tank : Tank) : Statement (.tankSettleExpiry tank) := of_event _ rfl
theorem cycleTimerExpiry (tank : Tank) : Statement (.cycleTimerExpiry tank) := of_event _ rfl
theorem safetyTimerExpiry (tank : Tank) : Statement (.safetyTimerExpiry tank) := of_event _ rfl
theorem hotTimerExpiry : Statement .hotTimerExpiry := of_event _ rfl
theorem noFlowTimerExpiry : Statement .noFlowTimerExpiry := of_event _ rfl
theorem flowReturnExpiry : Statement .flowReturnExpiry := of_event _ rfl
theorem dryRunTimerExpiry : Statement .dryRunTimerExpiry := of_event _ rfl
theorem travelTimerExpiry (valve : ValveRole) : Statement (.travelTimerExpiry valve) := of_event _ rfl
theorem retryPauseExpiry (valve : ValveRole) : Statement (.retryPauseExpiry valve) := of_event _ rfl
theorem pulseCountdownEnd (output : PulsedOutput) : Statement (.pulseCountdownEnd output) := of_event _ rfl
theorem alarmBlink : Statement .alarmBlink := of_event _ rfl
theorem identify (tag : Byte) : Statement (.identify tag) :=
  of_request _ _ _ rfl ⟨by simp [Request.code], by simp [Request.code]⟩
theorem readMeasurements (tag : Byte) : Statement (.readMeasurements tag) :=
  of_request _ _ _ rfl ⟨by simp [Request.code], by simp [Request.code]⟩
theorem readStatus (tag : Byte) (sect : Byte) : Statement (.readStatus tag sect) :=
  of_request _ _ _ rfl ⟨by simp [Request.code], by simp [Request.code]⟩
theorem readInputs (tag : Byte) : Statement (.readInputs tag) :=
  of_request _ _ _ rfl ⟨by simp [Request.code], by simp [Request.code]⟩
theorem readTotals (tag : Byte) : Statement (.readTotals tag) :=
  of_request _ _ _ rfl ⟨by simp [Request.code], by simp [Request.code]⟩
theorem readTanks (tag : Byte) : Statement (.readTanks tag) :=
  of_request _ _ _ rfl ⟨by simp [Request.code], by simp [Request.code]⟩
theorem readTrend (tag : Byte) (start : BitVec 16) (count : Byte) : Statement (.readTrend tag start count) :=
  of_request _ _ _ rfl ⟨by simp [Request.code], by simp [Request.code]⟩
theorem readLinkErrors (tag : Byte) : Statement (.readLinkErrors tag) :=
  of_request _ _ _ rfl ⟨by simp [Request.code], by simp [Request.code]⟩
theorem readParam (tag : Byte) (ident : Byte) : Statement (.readParam tag ident) :=
  of_request _ _ _ rfl ⟨by simp [Request.code], by simp [Request.code]⟩
theorem writeParam (tag : Byte) (ident : Byte) (value : BitVec 32) : Statement (.writeParam tag ident value) :=
  of_request _ _ _ rfl ⟨by simp [Request.code], by simp [Request.code]⟩
theorem writeAssignment (tag : Byte) (records : List AssignmentField) : Statement (.writeAssignment tag records) :=
  of_request _ _ _ rfl ⟨by simp [Request.code], by simp [Request.code]⟩
theorem readAssignment (tag : Byte) : Statement (.readAssignment tag) :=
  of_request _ _ _ rfl ⟨by simp [Request.code], by simp [Request.code]⟩
theorem writeLockout (tag : Byte) (kind : Byte) (modes : Byte) (conds : BitVec 24) : Statement (.writeLockout tag kind modes conds) :=
  of_request _ _ _ rfl ⟨by simp [Request.code], by simp [Request.code]⟩
theorem readLockout (tag : Byte) (kind : Byte) : Statement (.readLockout tag kind) :=
  of_request _ _ _ rfl ⟨by simp [Request.code], by simp [Request.code]⟩
theorem writeVolumeTable (tag : Byte) (tank : Byte) (points : List PointField) : Statement (.writeVolumeTable tag tank points) :=
  of_request _ _ _ rfl ⟨by simp [Request.code], by simp [Request.code]⟩
theorem readVolumeTable (tag : Byte) (tank : Byte) : Statement (.readVolumeTable tag tank) :=
  of_request _ _ _ rfl ⟨by simp [Request.code], by simp [Request.code]⟩
theorem panelFlags (tag : Byte) (clears : List Byte) (sets : List Byte) : Statement (.panelFlags tag clears sets) :=
  of_request _ _ _ rfl ⟨by simp [Request.code], by simp [Request.code]⟩
theorem engage (tag : Byte) (kind : Byte) : Statement (.engage tag kind) :=
  of_request _ _ _ rfl ⟨by simp [Request.code], by simp [Request.code]⟩
theorem disengage (tag : Byte) : Statement (.disengage tag) :=
  of_request _ _ _ rfl ⟨by simp [Request.code], by simp [Request.code]⟩
theorem changeKind (tag : Byte) (kind : Byte) : Statement (.changeKind tag kind) :=
  of_request _ _ _ rfl ⟨by simp [Request.code], by simp [Request.code]⟩
theorem clearFault (tag : Byte) (target : Byte) : Statement (.clearFault tag target) :=
  of_request _ _ _ rfl ⟨by simp [Request.code], by simp [Request.code]⟩
theorem setPressure (tag : Byte) (value : BitVec 16) : Statement (.setPressure tag value) :=
  of_request _ _ _ rfl ⟨by simp [Request.code], by simp [Request.code]⟩
theorem setSpeed (tag : Byte) (value : BitVec 16) : Statement (.setSpeed tag value) :=
  of_request _ _ _ rfl ⟨by simp [Request.code], by simp [Request.code]⟩
theorem step (tag : Byte) (direction : Byte) : Statement (.step tag direction) :=
  of_request _ _ _ rfl ⟨by simp [Request.code], by simp [Request.code]⟩
theorem idle (tag : Byte) : Statement (.idle tag) :=
  of_request _ _ _ rfl ⟨by simp [Request.code], by simp [Request.code]⟩
theorem setSupply (tag : Byte) (source : Byte) : Statement (.setSupply tag source) :=
  of_request _ _ _ rfl ⟨by simp [Request.code], by simp [Request.code]⟩
theorem useReserve (tag : Byte) : Statement (.useReserve tag) :=
  of_request _ _ _ rfl ⟨by simp [Request.code], by simp [Request.code]⟩
theorem fillStart (tag : Byte) (tank : Byte) : Statement (.fillStart tag tank) :=
  of_request _ _ _ rfl ⟨by simp [Request.code], by simp [Request.code]⟩
theorem fillStop (tag : Byte) (tank : Byte) : Statement (.fillStop tag tank) :=
  of_request _ _ _ rfl ⟨by simp [Request.code], by simp [Request.code]⟩
theorem recirc (tag : Byte) (setting : Byte) : Statement (.recirc tag setting) :=
  of_request _ _ _ rfl ⟨by simp [Request.code], by simp [Request.code]⟩
theorem silence (tag : Byte) : Statement (.silence tag) :=
  of_request _ _ _ rfl ⟨by simp [Request.code], by simp [Request.code]⟩
theorem setOutput (tag : Byte) (terminal : Byte) (setting : Byte) : Statement (.setOutput tag terminal setting) :=
  of_request _ _ _ rfl ⟨by simp [Request.code], by simp [Request.code]⟩
theorem pulseOutput (tag : Byte) (terminal : Byte) (duration : BitVec 16) : Statement (.pulseOutput tag terminal duration) :=
  of_request _ _ _ rfl ⟨by simp [Request.code], by simp [Request.code]⟩
theorem resetTotal (tag : Byte) (totaliser : Byte) : Statement (.resetTotal tag totaliser) :=
  of_request _ _ _ rfl ⟨by simp [Request.code], by simp [Request.code]⟩
theorem setTime (tag : Byte) (value : BitVec 32) (resolution : Byte) : Statement (.setTime tag value resolution) :=
  of_request _ _ _ rfl ⟨by simp [Request.code], by simp [Request.code]⟩
theorem noticeMask (tag : Byte) (disables : List Byte) (enables : List Byte) : Statement (.noticeMask tag disables enables) :=
  of_request _ _ _ rfl ⟨by simp [Request.code], by simp [Request.code]⟩
theorem holdReports (tag : Byte) : Statement (.holdReports tag) :=
  of_request _ _ _ rfl ⟨by simp [Request.code], by simp [Request.code]⟩
theorem resumeReports (tag : Byte) : Statement (.resumeReports tag) :=
  of_request _ _ _ rfl ⟨by simp [Request.code], by simp [Request.code]⟩
theorem resetPart (tag : Byte) : Statement (.resetPart tag) :=
  of_request _ _ _ rfl ⟨by simp [Request.code], by simp [Request.code]⟩
theorem byteReceived (b : Byte) : Statement (.byteReceived b) := of_event _ rfl

end Sys2Proof.Laws.RequestForm
end

