-- ==== Sys2Proof/Tests/Slice0.lean ====
section
/-! SUPPORT. Tests: commands that cannot exist, the spec's worked examples, and for each statement of
Certificates/Slice0/Obligations.lean a state and operands that meet its hypotheses. Every expected value is the spec's. -/

open Sys2Proof Sys2Proof.Machine

namespace Sys2Proof.Tests

/-! ### Small states -/

/-- A running timer. -/
def ticking : Option Timer := some ⟨1000, 0⟩

/-- The state a command leaves. -/
def after (c : Instr) (s : State) : State :=
  match exec c s with
  | .next t => t
  | .fault _ => s
  | .refused _ => s

/-- The part ENGAGED on tank feed (R47, R48, R30), MAIN_VALVE open. -/
def pumping (k : Kind) : State :=
  { State.reset with
    drive := { startDrive with
      pto := .engaged, kind := some k, confirmation := some .unconfirmed, clutch := true, window := none, lastTries := 1 }
    interlock := { startInterlock with
      mode := if k = .roll then .pumpRoll else .pumpStationary, ceiling := if k = .roll then 350 else 1000 }
    supply := { startSupply with state := .tank }
    valves := { State.reset.valves with mainValve := { startActuator with openCmd := true, state := .atOpen } } }

/-- The pumping part with another supply state and phase. -/
def supplied (x : SupplyState) (p : Option Phase) : State :=
  { pumping .stationary with supply := { startSupply with state := x, phase := p } }

/-- The part in a PTO state between DISENGAGED and ENGAGED, with its timers. -/
def driven (d : Drive) : State := { State.reset with drive := { d with kind := some .stationary, window := none } }

/-- A terminal's input state set. -/
def withInput (s : State) (t : Terminal) (on : Bool) : State :=
  { s with terminals := { s.terminals with inputs := s.terminals.inputs.set t ⟨on, some on, 0⟩ } }

/-- T3, PTO_FB by default, made a general input: no PTO_FB is assigned. -/
def withoutFb (s : State) : State :=
  { s with terminals := { s.terminals with
      assignment := s.terminals.assignment.set 2 { role := .generalIn, polarity := .activeHigh, q := 5, safe := none } } }

/-- T8, GENERAL_IN by default, made a general output. -/
def withOutput (s : State) : State :=
  { s with terminals := { s.terminals with
      assignment := s.terminals.assignment.set 7
        { role := .generalOut, polarity := .activeHigh, q := 5, safe := some .off } } }

/-- An entry of the lockout table that nothing passes, and one that everything passes in a mode (R40). -/
def entryFor (k : GuardedKind) (e : LockoutEntry) (s : State) : State :=
  { s with interlock := { s.interlock with lockout := setKind s.interlock.lockout k e } }

/-- The part with an intake pressure published. -/
def intakeAt (p : Int) (s : State) : State :=
  { s with sense := { s.sense with front := { s.sense.front with
      values := { s.sense.front.values with intakeP := p } } } }

/-- The part with a tank's record replaced. -/
def withMain (r : TankRecord) (s : State) : State := { s with tanks := { s.tanks with main := r } }

/-- A tank of the interpolation example of chapter 6. -/
def shaped : List (Nat × Nat) := [(0, 0), (200, 300), (800, 1800), (1400, 3000)]

/-- A valve on its way, with its command. -/
def travelling (v : ValveRole) (a : Actuator) (s : State) : State :=
  { s with valves := setValve State.reset.valves v ({ a with travel := ticking }) }

/-- The part fed from a hydrant, its tank valves closed, with MAIN measured. -/
def filling (v : Nat) (x : FillStage) : State :=
  withMain { startTank .main with
      headKnown := true, volume := some v, state := .normal, stage := x
      safety := if x = .bulk ∨ x = .topoff then some ⟨0, 60000⟩ else none
      phase := if x = .topoff then some .openPhase else none
      cycle := if x = .topoff then ticking else none }
    { supplied .hydrant none with valves := State.reset.valves }

/-! ### Commands that cannot exist (R196), and words that spell none -/

theorem test_long_assignment : (Instr.writeAssignment 0 (List.replicate 43 ⟨16, 0, 0, 5, 0, 0⟩)).wellFormed = false ∧
    (Instr.writeAssignment 0 (List.replicate 42 ⟨16, 0, 0, 5, 0, 0⟩)).wellFormed = true := by decide

theorem test_long_volume_table : (Instr.writeVolumeTable 0 32 (List.replicate 63 ⟨0, 0⟩)).wellFormed = false ∧
    (Instr.writeVolumeTable 0 32 (List.replicate 62 ⟨0, 0⟩)).wellFormed = true := by decide

theorem test_long_panel_flags : (Instr.panelFlags 0 (List.replicate 252 0) []).wellFormed = false ∧
    (Instr.panelFlags 0 (List.replicate 200 0) (List.replicate 51 0)).wellFormed = true := by decide +kernel

theorem test_long_notice_mask : (Instr.noticeMask 0 [] (List.replicate 252 0)).wellFormed = false ∧
    (Instr.noticeMask 0 (List.replicate 251 0) []).wellFormed = true := by decide +kernel

theorem test_long_request_is_refused (l : List Byte) (h : l.length = 252) :
    exec (.panelFlags 0 l []) State.reset = .refused .frameTooLong :=
  if_neg (by simp [Request.wellFormed, Request.size, maxParams, h])

theorem test_no_row_has_bits : decodeTableWord 8 1 = none ∧ decodeTableWord 0 0 = none := by decide

/-! ### Worked examples of the spec -/

/-- R2. -/
theorem test_scaling : scaleCode 0 4000 1044 = 1000 ∧ scaleCode 0 4000 2048 = 2000 ∧
    scaleCode (-100) 2000 40 = -100 ∧ scaleCode (-100) 2000 231 = 0 := by decide

/-- R3: at k = 2 seeded at 1000, three scans at 1100 and one at 1000. -/
theorem test_filter : filterStep 2 1000 none = 1000 ∧ filterStep 2 1100 (some 1000) = 1025 ∧
    filterStep 2 1100 (some 1025) = 1043 ∧ filterStep 2 1100 (some 1043) = 1057 ∧
    filterStep 2 1000 (some 1057) = 1043 := by decide

/-- Chapter 1, flow and volume over three gates: the three values and the volumes. -/
theorem test_gate_values :
    pulseValue (pulseRow State.reset .dischargeFlow) [37, 37, 37, 37, 37] = 7400 ∧
    pulseValue (pulseRow State.reset .engineSpeed) [96, 100] = 490 ∧
    pulseValue (pulseRow State.reset .roadSpeed) [1, 2, 2, 2, 2] = 81 ∧
    (37 * 100000 + 0) / 300 = 12333 ∧ (37 * 100000 + 200) / 300 = 12334 := by decide

/-- Chapter 10, checking an IDENTIFY frame. -/
theorem test_identify_frame : crc8 [2] = 14 ∧ crc8 [2, 1] = 45 ∧ crc8 [2, 1, 0] = 195 ∧
    requestFrame 0 .identify = [167, 2, 1, 0, 195] := by decide +kernel

/-- R206: the identity, and the cause of the start. -/
theorem test_identify_reply : (after (.identify 9) State.reset).link.reply =
    some ⟨129, 9, .ok, [0x14, 0xBE, 0x0C, 0xA8, 1, 1, 0]⟩ := by decide

/-- Chapter 6, interpolating a shaped tank. -/
theorem test_interpolation : tableVolume shaped 137 = 205 ∧ tableVolume shaped 500 = 1050 ∧
    tableVolume shaped 800 = 1800 ∧ tableVolume shaped 1399 = 2998 ∧ tableVolume shaped 1500 = 3000 := by decide

/-- A shaped MAIN tank with a volume and a level state. -/
def shapedTank (v : Nat) (x : LevelState) : State :=
  withMain { startTank .main with table := shaped, volume := some v, state := x, headKnown := true } State.reset

/-- R131, R132 with the 3000 L tank: its thresholds. -/
theorem test_thresholds : fullAt (shapedTank 0 .empty) .main = 2850 ∧ topoffAt (shapedTank 0 .empty) .main = 2700 ∧
    lowAt (shapedTank 0 .empty) .main = 750 ∧ emptyAt (shapedTank 0 .empty) .main = 150 ∧
    hysteresis (shapedTank 0 .empty) .main = 60 := by decide

/-- R132 with the 3000 L tank: where each state is entered and left. -/
theorem test_level_states : nextLevel (shapedTank 750 .normal) .main = .low ∧
    nextLevel (shapedTank 800 .low) .main = .low ∧ nextLevel (shapedTank 811 .low) .main = .normal ∧
    nextLevel (shapedTank 150 .low) .main = .empty ∧ nextLevel (shapedTank 210 .empty) .main = .empty ∧
    nextLevel (shapedTank 211 .empty) .main = .low ∧ nextLevel (shapedTank 2850 .normal) .main = .full ∧
    nextLevel (shapedTank 2790 .full) .main = .full ∧ nextLevel (shapedTank 2789 .full) .main = .normal := by decide

/-- Chapter 6, crossing the reporting limit and the accumulator limit. -/
theorem test_totals : addVolume 12333 ⟨4294960000, false, false⟩ = ⟨4294972333, true, false⟩ ∧
    reported ⟨4294972333, true, false⟩ = 4294967295 ∧
    addVolume 12333 ⟨68719472333, true, false⟩ = ⟨68719476735, true, true⟩ ∧
    addVolume 12334 ⟨0, false, false⟩ = ⟨12334, false, false⟩ := by decide

/-- Chapter 5, qualifying a hydrant: the three windows and the floor. -/
theorem test_hydrant_windows :
    attemptFailure State.reset ⟨200, 82000, 388, 431, false⟩ = some .unsteady ∧
    attemptFailure State.reset ⟨200, 82000, 92, 436, false⟩ = some .range ∧
    attemptFailure State.reset ⟨200, 84000, 412, 428, false⟩ = none ∧ qualifiedFloor State.reset 420 = 165 := by decide

/-- The pumping part of chapter 4's example, with a demand, an accumulator and a discharge pressure. -/
def approaching (d : Nat) (a p : Int) : State :=
  { pumping .stationary with
    governor := { startGovernor with shadow := .pressure 1000, active := .pressure 1000, demand := d, acc := a }
    sense := { State.reset.sense with front := { startSet with values := { startSet.values with dischargeP := p } } } }

/-- Chapter 4, an approach to setpoint: periods 1 to 3, and the overshoot further on. -/
theorem test_governor_periods :
    (governPeriod (approaching 200 0 700)).governor.demand = 210 ∧
    (governPeriod (approaching 200 0 700)).governor.acc = 0 ∧
    (governPeriod (approaching 210 0 740)).governor.demand = 220 ∧
    (governPeriod (approaching 220 0 775)).governor.demand = 230 ∧
    (governPeriod (approaching 560 10240 990)).governor.demand = 535 ∧
    (governPeriod (approaching 560 10240 990)).governor.acc = 10280 := by decide

/-- Chapter 6, dead-reckoning: the settle timer expires with 380 L estimated at a level of 194 mm. -/
theorem test_reconciliation :
    (after (.tankSettleExpiry .main) (withMain { startTank .main with
      level := 194, headKnown := true, volume := some 380, state := .low, estimating := some .moving
      frozen := some 1200, estimate := some 380000, settle := ticking } (pumping .roll))).tanks.main.recon =
      some ⟨380, 388, 8, .moving, false⟩ := by decide

/-- R79. -/
theorem test_setpoints : storedPressure 2500 = 2400 ∧ storedPressure 1003 = 1005 ∧ storedPressure 1002 = 1000 ∧
    storedSpeed 712 = 700 ∧ storedSpeed 713 = 725 := by decide

/-- R178, R180: an alarm silenced, and a pulse of 65,535 that has no end. -/
theorem test_silence_and_pulse :
    (after (.silence 3) (addAlarm .warm State.reset)).alarm = ⟨[.warm], [.warm], .silent, false, none⟩ ∧
    (after (.pulseOutput 3 23 65535) (withOutput State.reset)).outputs.general[7] = ⟨true, none⟩ ∧
    (after (.setOutput 3 16 1) State.reset).link.reply = some ⟨160, 3, .badValue, []⟩ := by decide

/-- R199: with a request in hand and four frames waiting, a fifth is dropped and counted. -/
theorem test_fifth_frame_is_dropped :
    (after (.idle 1) { State.reset with link := { startLink .powerOn with
      inHand := some ⟨1, 0⟩, buffer := List.replicate 4 ⟨1, 0, []⟩ } }).link.overrun = 1 := by decide

/-- R148, with the accumulator of chapter 6's example. -/
theorem test_reset_total : (after (.resetTotal 5 41) { State.reset with
      totals := ⟨⟨4294984666, true, false⟩, zeroTotal⟩ }).totals.incident = zeroTotal := by decide

/-! ### The hypotheses of each statement, met

One theorem per statement; each conjunct is one clause's hypotheses together, on a state and operands that meet them, at the
boundary values of a range. A clause whose only hypothesis is power or Ready is met by the state after reset. -/

theorem reset_is_ready : State.reset.powered = true ∧ Ready State.reset ∧ Ready (pumping .roll) := by decide

theorem witness_StepRunsFrontCommand :
    ({ State.reset with pending := [.alarmBlink, .powerLoss] } : State).pending = .alarmBlink :: [.powerLoss] := by decide

theorem witness_EmptyQueueLetsAMillisecondPass :
    (let s : State := { State.reset with powered := false }; s.pending = [] ∧ s.powered = false) ∧
    (let s : State := { State.reset with
        drive := { startDrive with pto := .rampdown, ramp := some ⟨3000, 2999⟩ }
        link := { startLink .powerOn with supervision := some ⟨1000, 1000⟩ }
        tanks := ⟨{ startTank .main with stage := .bulk, safety := some ⟨3, 1200000⟩ }, startTank .reserve⟩
        outputs := { startOutputs with general := startOutputs.general.set 7 ⟨true, some 1⟩ } }
     s.pending = [] ∧ s.powered = true ∧ s.drive.ramp = some ⟨3000, 2999⟩ ∧
      s.link.supervision = some ⟨1000, 1000⟩ ∧ (s.tank .main).safety = some ⟨3, 1200000⟩ ∧
      s.outputs.general[7].countdown = some 1) := by decide

theorem witness_PowerStartsAndStopsThePart :
    (let s : State := { State.reset with powered := false }
     s.powered = false ∧ (Instr.identify 1).wellFormed = true ∧ Instr.identify 1 ≠ .powerOn) := by decide

theorem witness_ResetPartRestartsAfterItsReply :
    (Ready State.reset ∧ State.reset.drive.pto = .disengaged) ∧
    (Ready (pumping .roll) ∧ (pumping .roll).drive.pto ≠ .disengaged) ∧
    (let r : Reply := ⟨167, 0, .ok, []⟩
     let s : State := { State.reset with tx := some (.reply r), link := { startLink .powerOn with resetTaken := true } }
     s.powered = true ∧ s.tx = some (.reply r) ∧ s.link.resetTaken = true) ∧
    (State.reset.powered = true ∧ State.reset.link.resetTaken = false) := by decide

theorem witness_RequestEncodingRoundTrip :
    (Request.writeAssignment (List.replicate 42 ⟨16, 0, 0, 5, 0, 0⟩)).wellFormed = true ∧
    (Request.resetPart).wellFormed = true ∧
    ([22, 3].length ≤ 253 ∧ parseRequest 22 [22, 3] = .request (.setPressure 5635)) := by decide

theorem witness_FrameOnTheLineIsItsRequest :
    ((Request.setPressure 1000).wellFormed = true ∧ State.reset.link.rx = none) ∧
    (let s : State := { State.reset with link := { startLink .powerOn with
        rx := some ⟨frameBody (Request.setPressure 1000).code 7 (Request.setPressure 1000).params, ⟨5, 0⟩⟩ } }
     s.powered = true ∧ (Request.setPressure 1000).wellFormed = true ∧
      s.link.rx = some ⟨frameBody (Request.setPressure 1000).code 7 (Request.setPressure 1000).params, ⟨5, 0⟩⟩) ∧
    State.reset.link.state ≠ .linkLost ∧
    ({ startLink .powerOn with state := .linkLost } : Link).state = .linkLost := by decide

/-- The part with bytes of a frame gathered. -/
def gathering (bs : List Byte) : State :=
  { State.reset with link := { startLink .powerOn with rx := some ⟨bs, ⟨5, 0⟩⟩ } }

theorem witness_ReceiverHuntsAndGathers :
    (State.reset.powered = true ∧ State.reset.link.rx = none ∧ (0xA6 : Byte) ≠ 0xA7 ∧ (0xA8 : Byte) ≠ 0xA7) ∧
    ((gathering []).powered = true ∧ (gathering []).link.rx = some ⟨[], ⟨5, 0⟩⟩ ∧ ¬ 2 ≤ (1 : Byte).toNat ∧
      2 ≤ (2 : Byte).toNat) ∧
    ((gathering [2, 1]).powered = true ∧ (gathering [2, 1]).link.rx = some ⟨2 :: [1], ⟨5, 0⟩⟩ ∧
      [(1 : Byte)].length ≠ (2 : Byte).toNat) ∧
    ((gathering [2, 1, 9]).link.rx = some ⟨2 :: [1, 9], ⟨5, 0⟩⟩ ∧ [(1 : Byte), 9].length = (2 : Byte).toNat) ∧
    (gathering [2]).link.rx.isSome = true ∧
    ((gathering (frameBody 1 0 [])).powered = true ∧ ([] : List Byte).length ≤ 253 ∧
      (gathering (frameBody 1 0 [])).link.rx = some ⟨frameBody 1 0 [], ⟨5, 0⟩⟩) := by decide

theorem witness_wrong_check_byte : (194 : Byte) ≠ crc8 (frameBody 1 0 []) := by decide +kernel

/-- The part with a frame being sent. -/
def sending (f : Option TxFrame) : State := { State.reset with tx := f }

theorem witness_FrameSentAndTheNextFrame :
    let r : Reply := ⟨129, 0, .ok, []⟩
    let n : Notice := startedNotice .powerOn
    ((sending none).powered = true ∧ (sending none).tx = none) ∧
    (State.reset.powered = true ∧ State.reset.tx = some (.notice n 0 true)) ∧
    ((sending (some (.pressure 16))).powered = true ∧ (sending (some (.pressure 16))).tx = some (.pressure 16)) ∧
    ((sending (some (.reply r))).powered = true ∧ (sending (some (.reply r))).tx = some (.reply r) ∧
      (sending (some (.reply r))).link.resetTaken = false ∧ (sending (some (.reply r))).link.buffer = []) ∧
    (let s : State := { sending (some (.reply r)) with link := { startLink .powerOn with
        buffer := [⟨(Request.setPressure 1000).code, 4, (Request.setPressure 1000).params⟩] } }
     s.powered = true ∧ s.tx = some (.reply r) ∧ s.link.resetTaken = false ∧
      s.link.buffer = [⟨(Request.setPressure 1000).code, 4, (Request.setPressure 1000).params⟩] ∧
      (Request.setPressure 1000).wellFormed = true) ∧
    -- waiting frames of an unknown kind and of a length that does not fit
    (∀ f ∈ [(⟨0, 4, []⟩ : Frame), ⟨40, 4, []⟩, ⟨22, 4, [1]⟩],
      let s : State := { sending (some (.reply r)) with link := { startLink .powerOn with buffer := [f, f, f, f] } }
      s.powered = true ∧ s.tx = some (.reply r) ∧ s.link.resetTaken = false ∧ s.link.buffer = f :: [f, f, f]) ∧
    (let s : State := { sending none with link := { startLink .powerOn with reply := some r } }
     s.tx = none ∧ s.link.reply = some r) ∧
    (let s : State := { sending none with notices := { startNotices .powerOn with offers := [16] } }
     s.tx = none ∧ s.link.reply = none ∧ s.notices.offers = 16 :: []) ∧
    ((sending none).tx = none ∧ (sending none).link.reply = none ∧ (sending none).notices.offers = [] ∧
      (sending none).notices.queue = n :: []) ∧
    (sending (some (.pressure 16))).tx = some (.pressure 16) := by decide

theorem witness_SupervisionTimeoutLosesTheLink :
    (let s : State := { State.reset with link := { startLink .powerOn with state := .linkUp, supervision := ticking } }
     s.powered = true ∧ s.link.state = .linkUp ∧ s.link.supervision.isSome = true) ∧
    (State.reset.powered = true ∧ State.reset.link.state ≠ .linkUp) ∧
    (withOutput State.reset).terminals.assignment[(7 : Terminal)].role = .generalOut := by decide

theorem witness_RequestsWaitOrAreDropped :
    ∀ n ∈ [3, 4],
      let s : State := { State.reset with link := { startLink .powerOn with
        inHand := some ⟨1, 0⟩, buffer := List.replicate n ⟨1, 0, []⟩ } }
      (Instr.idle 1).request? = some (1, .idle) ∧ (Request.idle).wellFormed = true ∧ s.powered = true ∧
        ¬(s.link.inHand = none ∧ s.link.buffer = []) ∧ s.link.buffer.length = n := by decide

theorem witness_RequestTakenIsAnsweredOnce :
    ((Instr.idle 1).request? = some (1, .idle) ∧ (Request.idle).wellFormed = true ∧ Ready State.reset) ∧
    ((Instr.panelFlags 1 (List.replicate 252 0) []).request? = some (1, .panelFlags (List.replicate 252 0) []) ∧
      (Request.panelFlags (List.replicate 252 0) []).wellFormed = false) ∧
    ((0 : Byte).toNat = 0 ∧ 39 < (40 : Byte).toNat) ∧
    (1 ≤ (1 : Byte).toNat ∧ (39 : Byte).toNat ≤ 39 ∧ [(5 : Byte)].length ≤ 253 ∧
      ∀ r : Request, r.code = 1 ∨ r.code = 39 → r.params ≠ [5]) := by
  refine ⟨by decide, by decide +kernel, by decide, by decide, by decide, by decide, ?_⟩
  intro r
  cases r <;> simp [Request.code, Request.params]

/-- A queue of n records. -/
def queued (n : Nat) : Notices := { startNotices .powerOn with queue := List.replicate n (startedNotice .powerOn) }

theorem witness_RecordJoinsTheQueue :
    NoticeKind.inputChanged ∈ State.reset.notices.disabled ∧
    (NoticeKind.started ∉ State.reset.notices.disabled ∧ (queued 31).queue.length < 32) ∧
    (let s : State := { State.reset with notices := queued 32 }
     NoticeKind.started ∉ s.notices.disabled ∧ 32 ≤ s.notices.queue.length ∧
      s.notices.queue = startedNotice .powerOn :: startedNotice .powerOn :: (queued 30).queue ∧
      s.tx = some (.notice (startedNotice .powerOn) 0 true)) := by decide

/-! #### Measurement and terminal inputs -/

theorem witness_ScaledValueIsRounded :
    ((40 : Nat) ≤ 40 ∧ (40 : Nat) ≤ 4055) ∧ ((40 : Nat) ≤ 4055 ∧ (4055 : Nat) ≤ 4055) ∧ ((0 : Int) ≤ 4000) ∧
    ((-100 : Int) ≤ 2000) ∧ (startChannel 0).health = .ok ∧ (startChannel 0).filtered = none := by decide

theorem witness_FilterAndHealthRuns :
    (startChannel 0).health = .ok ∧
    (let r : ChannelRecord := { startChannel 0 with good := true, published := 700 }
     ∀ n ∈ [1, 49, 50, 51], r.health = .ok ∧ r.good = true ∧ 1 ≤ n) ∧
    (let r : ChannelRecord := { startChannel 0 with health := .failed, outRun := 50 }
     ∀ n ∈ [0, 8, 9], r.health ≠ .ok ∧ r.inRun = 0 ∧ (List.replicate n (700 : Int)).length < 10) := by decide

theorem witness_codes_and_runs :
    (∀ code ∈ [40, 4055], 40 ≤ code ∧ code ≤ 4055) ∧ (∀ code ∈ [39, 4056], code < 40 ∨ 4055 < code) ∧
    -- a channel never good, and one that breaks off a recovery run
    ((startChannel 0).good = false ∧ (startChannel 0).health = .ok ∧ (startChannel 0).inRun = 0) ∧
    (∀ n ∈ [48, 49], ({ startChannel 0 with health := .stale, outRun := n, inRun := 3 } : ChannelRecord).health = .stale) ∧
    ({ startChannel 0 with health := .failed, good := true, inRun := 9 } : ChannelRecord).health = .failed := by decide

/-- A set of codes in range. -/
def codes : Analog (BitVec 12) := ⟨1044, 231, 2048, 2048, 40, 4055⟩

theorem witness_AnalogScanPublishesTheSet : State.reset.powered = true ∧ codes.dischargeP = 1044 := by decide

/-- The pulse channels with values measured: engine speed, road speed and flow. -/
def pulsing (e r f : Nat) (s : State) : State :=
  { s with sense := { s.sense with pulses :=
      ⟨{ startPulse with value := e }, { startPulse with value := r }, { startPulse with value := f }⟩ } }

/-- The part as it stands when a scan's set is published, before the blocks read it. -/
def atPublication (c : Analog (BitVec 12)) (s : State) : State := swapSets (allAnalog.foldl (scanChannel c) s)

/-- The part in which a set is published with engine speed, road speed and flow, and a health for all channels. -/
def showing (e r f : Nat) (h : Health) (s : State) : State :=
  { s with sense := { s.sense with front := { s.sense.front with pulse := ⟨e, r, f⟩, health := ⟨h, h, h, h, h, h⟩ } } }

/-- The state each clause of the first rule starts from, and the set it then reads: motion on each side of its two speeds,
the supply at 10.4 and 10.5 V, the temperature FAILED and about each bound of the zones, and the speeds about the roll
speed limit of 8.0 km/h, its recovery (7.0) and its trip (13.0). -/
theorem witness_PublishedSetRunsTheWatches :
    (∀ v ∈ [19, 20], (pulsing 0 v 0 State.reset).powered = true ∧
      (atPublication codes (pulsing 0 v 0 State.reset)).roadSpeed = v ∧ State.reset.interlock.moving = false) ∧
    (∀ v ∈ [9, 10],
      let s : State := { State.reset with interlock := { startInterlock with moving := true } }
      (atPublication codes (pulsing 0 v 0 s)).roadSpeed = v ∧ s.interlock.moving = true) ∧
    ((atPublication ⟨40, 231, 40, 40, 2122, 1195⟩ State.reset).published .supplyV = 104 ∧
      (atPublication ⟨40, 231, 40, 40, 2122, 1206⟩ State.reset).published .supplyV = 105 ∧
      State.reset.interlock.voltageOk = false) ∧
    (let s : State := { State.reset with sense := { State.reset.sense with channels :=
        { State.reset.sense.channels with pumpTemp := { startChannel (-40) with health := .failed, outRun := 50 } } } }
     (atPublication ⟨40, 231, 40, 40, 4095, 40⟩ s).healthOf .pumpTemp = .failed) ∧
    (∀ p ∈ [(Zone.normal, (2122 : BitVec 12), (59 : Int)), (.normal, 2143, 60), (.warm, 2016, 54), (.warm, 2037, 55),
        (.hot, 2333, 69), (.hot, 2354, 70), (.warm, 2439, 74), (.warm, 2460, 75)],
      let s : State := { State.reset with thermal := { startThermal with zone := p.1 } }
      s.thermal.unknown = false ∧ (atPublication ⟨40, 231, 40, 40, p.2.1, 40⟩ s).published .pumpTemp = p.2.2 ∧
        (atPublication ⟨40, 231, 40, 40, p.2.1, 40⟩ s).healthOf .pumpTemp ≠ .failed ∧ s.param 52 + 10 ≤ s.param 53) ∧
    (∀ v ∈ [80, 81], (atPublication codes (pulsing 0 v 0 (pumping .roll))).roadSpeed = v ∧
      (pumping .roll).drive.pto = .engaged ∧ (pumping .roll).interlock.mode = .pumpRoll) ∧
    (∀ v ∈ [70, 71, 130, 131],
      let s : State := { pumping .roll with interlock := { startInterlock with mode := .rollOverspeed, ceiling := 350 } }
      (atPublication codes (pulsing 0 v 0 s)).roadSpeed = v ∧ s.drive.pto = .engaged ∧
        s.interlock.mode = .rollOverspeed) := by decide

/-- The acts of the watches: each clause's hypotheses, on both sides of its bound. -/
theorem witness_watches :
    -- CHANNEL_FAULT at the fiftieth code out of range, CHANNEL_RECOVERED at the tenth in range
    (∀ p ∈ [((⟨some 5, 5, .stale, 49, 0, true⟩ : ChannelRecord), (0 : BitVec 12), Health.failed),
        (⟨some 5, 5, .failed, 50, 9, true⟩, 40, .ok)],
      let s : State := { State.reset with sense := { State.reset.sense with channels :=
        { State.reset.sense.channels with dischargeP := p.1 } } }
      (getAnalog (scanChannel ⟨p.2.1, 40, 40, 40, 40, 40⟩ s .dischargeP).sense.channels .dischargeP).health = p.2.2) ∧
    ((showing 0 81 0 .ok (pumping .roll)).interlock.mode = .pumpRoll ∧
      (showing 0 81 0 .ok (pumping .roll)).paramNat 23 < (showing 0 81 0 .ok (pumping .roll)).roadSpeed) ∧
    -- the drive at 900 and 901 rpm
    (∀ p ∈ [PtoState.precheck, .rampdown],
      let d : Drive := { startDrive with pto := p, release := if p = .rampdown then some .operator else none }
      let s := showing 900 0 0 .ok (driven d)
      s.drive.pto = p ∧ s.engineSpeed ≤ s.paramNat 24 ∧ s.qualified .ptoFb = some false ∧
        (withoutFb s).qualified .ptoFb = none ∧ (showing 901 0 0 .ok s).paramNat 24 < (showing 901 0 0 .ok s).engineSpeed ∧
        (p = .rampdown → s.drive.release = some .operator)) ∧
    (State.reset.drive.pto ≠ .precheck ∧ State.reset.drive.pto ≠ .rampdown) ∧
    -- sensor fallback: it ends, it begins, and neither
    (let s : State := { approaching 0 0 0 with
        governor := { startGovernor with shadow := .pressure 1000, overrides := [.sensorFallback], captured := some 1500 } }
     s.healthOf .dischargeP = .ok ∧ .sensorFallback ∈ s.governor.overrides ∧ (showing 0 0 0 .stale s).healthOf .dischargeP = .stale) ∧
    (let s := showing 1500 0 0 .failed (approaching 0 0 0)
     s.healthOf .dischargeP = .failed ∧ s.drive.pto = .engaged ∧ s.governor.shadow.isPressure = true ∧
      .sensorFallback ∉ s.governor.overrides) ∧
    (State.reset.healthOf .dischargeP = .ok ∧ .sensorFallback ∉ State.reset.governor.overrides ∧
      (showing 0 0 0 .failed State.reset).healthOf .dischargeP = .failed ∧
      (showing 0 0 0 .failed State.reset).drive.pto ≠ .engaged) ∧
    -- the supply's window, and the Thermal Monitor's no-flow watch
    (State.reset.supply.attempt = none ∧
      ({ State.reset with supply := { startSupply with attempt := ticking } } : State).supply.attempt.isSome = true) ∧
    (State.reset.drive.pto ≠ .engaged ∧ (pumping .roll).drive.pto = .engaged) ∧
    -- a tank read, one whose head channel fails, and one being estimated
    (∀ h ∈ [Health.ok, .stale, .failed],
      (showing 0 0 0 h State.reset).healthOf (headChannel .main) = h ∧
        ((showing 0 0 0 h State.reset).tank .main).estimating = none) ∧
    ((withMain { startTank .main with estimating := some .moving, estimate := some 5 } State.reset).tank
      .main).estimating.isSome = true := by decide

theorem witness_InputSampleQualifiesEveryInput :
    State.reset.powered = true ∧
    (let r : AssignRecord := startRecord 0
     (∀ n ∈ [1, 4, 5], 1 ≤ r.q ∧ freshInput.counter = 0 ∧
      freshInput.asserted ≠ (true == (r.polarity == .activeHigh)) ∧ 1 ≤ n ∧ n ≤ r.q) ∧
     -- a run of three broken by a sample that agrees, and the contrary samples before the change and at it
     freshInput.asserted = (false == (r.polarity == .activeHigh)) ∧
     sampleInput r false { freshInput with counter := 3 } = { freshInput with sample := some false } ∧
     (sampleInput r true { freshInput with counter := 3 }).asserted = false ∧
     (sampleInput r true { freshInput with counter := 4 }).asserted = true) := by decide

theorem witness_PulsesAndGates :
    State.reset.powered = true ∧ 1 ≤ State.reset.paramNat 21 ∧
    (∀ n ∈ [0, 65534, 65535], ({ startPulse with current := n } : PulseRecord).current = n) ∧
    [37, 37] = ([] : List Nat) ++ [37, 37] := by decide

/-- The greatest count of a gate, and a totaliser at the edge of its first flag. -/
theorem witness_greatest_increment :
    TotalSound (getTotal State.reset.totals .incident) ∧ TotalSound ⟨4294967295, false, false⟩ ∧
    State.reset.sense.pulses.dischargeFlow.current ≤ 65535 ∧ ({ startPulse with current := 65535 } : PulseRecord).current ≤ 65535 ∧
    1 ≤ State.reset.paramNat 21 ∧ State.reset.sense.remainder < State.reset.paramNat 21 := by decide

/-- The part with INCIDENT at an accumulator, its flags as that has them, and an empty notice queue. -/
def totalling (a : Nat) : State :=
  { State.reset with
    totals := { State.reset.totals with incident := ⟨a, decide (4294967295 < a), decide (a = 68719476735)⟩ }
    notices := { startNotices .powerOn with queue := [] } }

/-- An increment of 1 to the last value below each flag, to the first with it, and past both. -/
theorem test_overflow_notices :
    [4294967294, 4294967295, 68719476733, 68719476734, 68719476735].map
      (fun a => (addTotal .incident 1 (totalling a)).notices.queue.length) = [0, 1, 0, 1, 0] := by decide

/-! #### The Pressure Governor -/

theorem witness_GovernorPeriodBoundsTheDemand :
    State.reset.powered = true ∧ State.reset.drive.pto ≠ .engaged ∧
    ({ pumping .roll with interlock := { startInterlock with mode := .rollOverspeed, ceiling := 20 } } : State).interlock.mode
      = .rollOverspeed := by decide

theorem witness_GovernorPeriodComputation :
    (let s := approaching 200 0 700
     s.drive.pto = .engaged ∧ s.governor.frozen = false ∧ s.governor.active = .pressure 1000 ∧
      (700 : Int) = s.published .dischargeP ∧ (24 : Int) = s.param 30 ∧ (4 : Int) = s.param 31) ∧
    (let s : State := { pumping .stationary with governor := { startGovernor with active := .speed 1500 } }
     s.drive.pto = .engaged ∧ s.governor.frozen = false ∧ s.governor.active = .speed 1500 ∧
      (0 : Int) = (s.engineSpeed : Int) ∧ (8 : Int) = s.param 32 ∧ (2 : Int) = s.param 33) ∧
    ((pumping .roll).drive.pto = .engaged ∧ (pumping .roll).governor.frozen = false ∧
      (pumping .roll).governor.active = .idle) ∧
    (let s : State := { pumping .roll with governor := { startGovernor with frozen := true } }
     s.drive.pto = .engaged ∧ s.governor.frozen = true) ∧
    State.reset.drive.pto ≠ .engaged ∧
    (let s := supplied .draftPriming none
     s.powered = true ∧ s.interlock.mode ≠ .rollOverspeed ∧ s.supply.state = .draftPriming) ∧
    ({ startGovernor with loss := ticking } : Governor).loss.isSome = true := by decide

/-- Ceilings that tie, about the demand, in ENGAGED and out of it. -/
theorem witness_binding_ceiling :
    (∀ p ∈ [((1000 : Nat), (1000 : Nat), CeilingSource.profile), (350, 350, .mode), (1000, 350, .supply)],
      let s : State := { pumping .stationary with
        interlock := { startInterlock with ceiling := p.1 }, supply := { startSupply with state := .tank, limit := p.2.1 } }
      s.drive.pto = .engaged ∧ (governPeriod s).governor.binding = p.2.2 ∧
        min (min (s.paramNat 27) s.interlock.ceiling) (min (supplyCeiling s) (thermalCeiling s)) = min p.1 p.2.1) ∧
    State.reset.drive.pto ≠ .engaged ∧
    (∀ d ∈ [350, 351], ({ startGovernor with demand := d } : Governor).demand = d) := by decide

/-- Intake pressures at the edges of the limiter's bands, for the tank floor of -20 kPa. -/
theorem witness_LimiterTable :
    ∀ p ∈ [(-21 : Int), -20, -1, 0],
      let s := intakeAt p (supplied .tank none)
      limiterRuns s.supply.state = true ∧ s.healthOf .intakeP ≠ .failed ∧ s.published .intakeP = p ∧ s.param 36 = -20 ∧
        1000 ≤ s.supply.limit := by decide

theorem witness_LimiterTable_failed :
    let s : State := { supplied .draft none with sense := { State.reset.sense with front := { startSet with
      health := { startSet.health with intakeP := .failed } } } }
    limiterRuns s.supply.state = true ∧ s.healthOf .intakeP = .failed := by decide

theorem witness_limiter_stands : limiterRuns State.reset.supply.state = false ∧ State.reset.powered = true := by decide

theorem witness_SetpointRequestsWriteTheShadow :
    -- a raise refused in ROAD, a raise that passes, and a fall
    (Ready State.reset ∧ isRaise State.reset.governor.shadow (.pressure 300) = true ∧
      judge State.reset .raiseSetpoint ≠ .passed) ∧
    (Ready (pumping .stationary) ∧ judge (pumping .stationary) .raiseSetpoint = .passed ∧
      (pumping .stationary).governor.overrides = [] ∧ (pumping .stationary).healthOf .dischargeP ≠ .failed) ∧
    (Ready (approaching 0 0 0) ∧
      isRaise (approaching 0 0 0).governor.shadow (.pressure (storedPressure (300 : BitVec 16).toNat)) = false ∧
      isRaise (approaching 0 0 0).governor.shadow (.speed (storedSpeed (3000 : BitVec 16).toNat)) = true) ∧
    (let s : State := { pumping .stationary with sense := { State.reset.sense with front := { startSet with
        health := { startSet.health with dischargeP := .failed } } } }
     Ready s ∧ judge s .raiseSetpoint = .passed ∧ s.governor.overrides = [] ∧ s.governor.source = .shadow ∧
      s.drive.pto = .engaged ∧ s.healthOf .dischargeP = .failed) := by decide

theorem witness_SetpointsAreStoredOnTheirStep :
    Ready (pumping .roll) ∧ judge (pumping .roll) .raiseSetpoint = .passed ∧
    ∀ n ∈ [299, 300, 302, 303, 2400, 2401], 300 ≤ storedPressure n ∧ storedPressure n ≤ 2400 := by decide

/-- The pumping part with a setpoint. -/
def setTo (x : Setting) : State :=
  { pumping .stationary with governor := { startGovernor with shadow := x, active := x } }

theorem witness_StepAndIdleRequests :
    (Ready State.reset ∧ 2 ≤ (2 : Byte).toNat) ∧ State.reset.governor.shadow = .idle ∧
    -- at the top, within and at the bottom of each range, and from IDLE
    (∀ x ∈ [Setting.pressure 2400, .pressure 2365, .pressure 300, .speed 3000, .speed 700, .idle],
      Ready (setTo x) ∧ (setTo x).governor.overrides = [] ∧ (setTo x).governor.shadow = x ∧
        (setTo x).healthOf .dischargeP ≠ .failed ∧ judge (setTo x) .raiseSetpoint = .passed) ∧
    (Ready (supplied .tank none) ∧ ¬(.priming ∈ (supplied .tank none).governor.overrides ∧
      (supplied .tank none).supply.state = .draftPriming)) ∧
    (let s : State := { supplied .draftPriming (some .priming) with
        governor := { startGovernor with overrides := [.priming] } }
     Ready s ∧ .priming ∈ s.governor.overrides ∧ s.supply.state = .draftPriming) := by decide

/-- A step up from the top and from IDLE, and one down within and to the bottom of the range, with what judges and defers
each: a raise refused in ROAD, a step down that no judgement permits, an override that governs, and one that begins. -/
theorem witness_steps :
    (StepsTo (setTo (.pressure 2400)) 0 (.pressure 2400) false ∧
      StepsTo (setTo (.pressure 1000)) 1 (.pressure 965) true ∧ StepsTo (setTo (.speed 700)) 1 (.speed 700) false ∧
      StepsTo State.reset 0 (.pressure 300) false) ∧
    (Ready State.reset ∧ isRaise State.reset.governor.shadow (.pressure 300) = true ∧
      judge State.reset .raiseSetpoint ≠ .passed) ∧
    (let s := entryFor .raiseSetpoint ⟨[], []⟩ (setTo (.pressure 1000))
     Ready s ∧ judge s .raiseSetpoint ≠ .passed ∧ isRaise s.governor.shadow (.pressure 965) = false) ∧
    (let s : State := { setTo (.pressure 1000) with governor := { startGovernor with
        shadow := .pressure 1000, active := .pressure 500, overrides := [.switchover], source := .over .switchover } }
     Ready s ∧ .switchover ∈ s.governor.overrides ∧ s.governor.source = .over .switchover ∧
      judge s .raiseSetpoint = .passed) ∧
    (let s := showing 1500 0 0 .failed (setTo (.pressure 1000))
     s.drive.pto = .engaged ∧ s.healthOf .dischargeP = .failed ∧ s.governor.overrides = []) :=
  ⟨⟨⟨2435, .inl ⟨rfl, by decide, .inl ⟨2400, rfl, .inl ⟨rfl, rfl⟩⟩⟩⟩,
    ⟨965, .inl ⟨rfl, by decide, .inl ⟨1000, rfl, .inr ⟨rfl, rfl⟩⟩⟩⟩,
    ⟨675, .inr ⟨rfl, by decide, 700, rfl, .inr ⟨rfl, rfl⟩⟩⟩,
    ⟨0, .inl ⟨rfl, by decide, .inr ⟨rfl, rfl, rfl⟩⟩⟩⟩,
   by decide, by decide, by decide, by decide⟩

theorem witness_ActivePairFollowsTheOverrides :
    (startGovernor.shadow = .idle ∧ startGovernor.overrides = []) ∧
    (∀ k ∈ allOverrides,
      let g : Governor := { startGovernor with
        shadow := .pressure 1000, active := .pressure 1000, overrides := [k], captured := some 1500, frozen := true }
      k ∈ g.overrides ∧ g.shadow ≠ .idle ∧ (∀ j ∈ g.overrides, k.ctorIdx ≤ j.ctorIdx) ∧ g.source ≠ .over k ∧
        g.captured = some 1500 ∧ g.active ≠ .idle ∧ g.frozen = true) := by decide

/-! #### Motion, modes and interlocks -/

theorem witness_JudgementDecidesGuardedRequests :
    State.reset.interlock.mode ∉ (State.reset.entry .raiseSetpoint).modes ∧
    ((pumping .roll).interlock.mode ∈ ((pumping .roll).entry .raiseSetpoint).modes ∧
      ∀ c ∈ ((pumping .roll).entry .raiseSetpoint).conds, conditionHolds (pumping .roll) c = true) ∧
    (State.reset.interlock.mode ∈ (State.reset.entry .engageStationary).modes ∧
      ¬∀ c ∈ (State.reset.entry .engageStationary).conds, conditionHolds State.reset c = true) := by decide

/-- Every form of guarded request meets a refusal of both sorts: with its entry emptied of modes, and with a panel flag
required that is clear. -/
theorem witness_refused_requests :
    (∀ k ∈ [GuardedKind.engageStationary, .engageRoll],
      Ready (entryFor k ⟨[], []⟩ State.reset) ∧ State.reset.drive.pto = .disengaged ∧
      judge (entryFor k ⟨[], []⟩ State.reset) k = .wrongMode .road ∧
      judge (entryFor k ⟨[.road], [.panelFlag 7]⟩ State.reset) k = .failing [.panelFlag 7]) ∧
    (∀ k ∈ allGuardedKinds,
      Ready (entryFor k ⟨[], []⟩ (withOutput (pumping .roll))) ∧
      judge (entryFor k ⟨[], []⟩ (withOutput (pumping .roll))) k = .wrongMode .pumpRoll ∧
      judge (entryFor k ⟨[.pumpRoll], [.panelFlag 0]⟩ (withOutput (pumping .roll))) k = .failing [.panelFlag 0]) ∧
    (pumping .roll).supply.state = .tank ∧ (pumping .roll).governor.shadow = .idle ∧
    isRaise .idle (.pressure (storedPressure 300)) = true ∧ isRaise .idle (.speed (storedSpeed 700)) = true ∧
    (withOutput (pumping .roll)).terminals.assignment[(7 : Terminal)].role = .generalOut := by decide

/-- A part whose interlock timers run. -/
def timing (s : State) : State :=
  { s with interlock := { s.interlock with
      rise := ticking, fall := ticking, recovery := ticking, trip := ticking, voltage := ticking } }

theorem witness_MotionTimersMoveTheState :
    ((timing State.reset).powered = true ∧ (timing State.reset).interlock.rise.isSome = true ∧
      (timing State.reset).interlock.fall.isSome = true ∧ NotShifting (timing State.reset) ∧
      (timing State.reset).interlock.mode ≠ .pumpStationary) ∧
    (State.reset.interlock.rise = none ∧ State.reset.interlock.fall = none) := by decide

theorem witness_MotionTripStopsThePump :
    (let s := withoutFb (timing (pumping .stationary))
     s.powered = true ∧ s.drive.pto = .engaged ∧ s.qualified .ptoFb ≠ some false ∧ s.interlock.rise.isSome = true ∧
      s.interlock.mode = .pumpStationary) ∧
    (let s := withInput (timing (pumping .roll)) 2 true
     s.powered = true ∧ s.drive.pto = .engaged ∧ s.qualified .ptoFb ≠ some false ∧ s.interlock.trip.isSome = true) := by
  decide

theorem witness_RecoveryAndVoltageExpiry :
    ((timing (pumping .roll)).powered = true ∧ (timing (pumping .roll)).interlock.recovery.isSome = true) ∧
    ((timing State.reset).interlock.voltage.isSome = true ∧ NotShifting (timing State.reset)) ∧
    (State.reset.interlock.recovery = none ∧ State.reset.interlock.trip = none ∧
      State.reset.interlock.voltage = none) := by decide

theorem witness_PanelFlagsAndLockoutWrites :
    (Ready State.reset ∧ NotShifting State.reset ∧ [(0 : Byte), 7].length ≤ 8 ∧ (∀ b ∈ [(0 : Byte), 7], b.toNat < 8)) ∧
    (List.replicate 9 (0 : Byte)).length + ([] : List Byte).length ≤ 251 ∧
    (8 < (List.replicate 9 (0 : Byte)).length ∧ ∃ b ∈ [(8 : Byte)], 8 ≤ b.toNat) ∧
    (Ready (pumping .roll) ∧ (pumping .roll).drive.pto ≠ .disengaged) ∧
    (10 ≤ (10 : Byte).toNat ∧ (0x20 : Byte).extractLsb' 0 3 = 0 ∧ (0x04 : Byte).extractLsb' 0 3 ≠ 0 ∧
      (0x20 : BitVec 24).extractLsb' 0 5 = 0 ∧ (0x10 : BitVec 24).extractLsb' 0 5 ≠ 0) := by decide

/-! #### The drive -/

/-- The reset part in which both kinds of engagement are permitted. -/
def willing : State :=
  entryFor .engageStationary ⟨[.road], []⟩ (entryFor .engageRoll ⟨[.road], []⟩ State.reset)

theorem witness_EngageStartsThePrecheck :
    (Ready State.reset ∧ 2 ≤ (2 : Byte).toNat) ∧ (pumping .roll).drive.pto ≠ .disengaged ∧
    (∀ k ∈ [Kind.stationary, .roll],
      Ready willing ∧ willing.drive.pto = .disengaged ∧ judge willing (engageEntry k) = .passed ∧
      willing.qualified .ptoFb ≠ some true ∧
      Ready (withInput willing 2 true) ∧ judge (withInput willing 2 true) (engageEntry k) = .passed ∧
      (withInput willing 2 true).qualified .ptoFb = some true) := by decide

theorem witness_DisengageReleasesThePump :
    (∀ p ∈ [PtoState.rampdown, .disengaged, .releasing, .fault, .precheck, .shifting, .settle],
      Ready (driven { startDrive with pto := p }) ∧ (driven { startDrive with pto := p }).drive.pto = p ∧
      (driven { startDrive with pto := p }).qualified .ptoFb = some false ∧
      (driven { startDrive with pto := p }).interlock.mode ≠ .motionTrip ∧
      (withInput (driven { startDrive with pto := p }) 2 true).qualified .ptoFb ≠ some false) ∧
    (Ready (withoutFb (pumping .roll)) ∧ (withoutFb (pumping .roll)).drive.pto = .engaged ∧
      (withoutFb (pumping .roll)).qualified .ptoFb ≠ some false ∧
      isPumping (withoutFb (pumping .roll)).interlock.mode = true) := by decide

/-- The pump about to be released, the rise and trip timers at an age, with rows waiting in the queue. -/
def leaving (m : OpMode) (age : Nat) (rows : List Instr) : State :=
  { withoutFb (pumping .stationary) with
    interlock := { startInterlock with mode := m, ceiling := 350, rise := some ⟨1000, age⟩, trip := some ⟨2000, age⟩ }
    pending := rows }

/-- The same, with the parking brake set and one contrary sample short of being lost. -/
def releasingBrake (rows : List Instr) : State :=
  { leaving .pumpStationary 5 rows with terminals := { (leaving .pumpStationary 5 rows).terminals with
      inputs := State.reset.terminals.inputs.set 0 ⟨true, some true, 4⟩ } }

/-- A trip that falls with the exit: a timer at its period, its row waiting, the brake lost at the sample that waits; and
none: a timer 1 ms short of it, another mode, an exit that is a sample's own. -/
theorem witness_trip_with_exit :
    TripWithExit true (leaving .pumpStationary 1000 []) ∧ ¬TripWithExit true (leaving .pumpStationary 999 []) ∧
    TripWithExit true (leaving .pumpStationary 5 [.timeTagTick, .riseTimerExpiry]) ∧
    TripWithExit true (leaving .rollOverspeed 2000 []) ∧ ¬TripWithExit true (leaving .rollOverspeed 1999 []) ∧
    ¬TripWithExit true (leaving .pumpRoll 2000 [.riseTimerExpiry, .tripTimerExpiry]) ∧
    TripWithExit true (releasingBrake [.inputSample 0]) ∧ ¬TripWithExit false (releasingBrake [.inputSample 0]) ∧
    ¬TripWithExit true (releasingBrake [.inputSample 1, .inputSample 0]) ∧
    (∀ m ∈ [OpMode.pumpStationary, .rollOverspeed], isPumping (leaving m 0 []).interlock.mode = true ∧
      (leaving m 0 []).drive.pto = .engaged ∧ (leaving m 0 []).qualified .ptoFb ≠ some false) := by
  simp only [← tripsNow_iff]
  decide

/-- DISENGAGE as the rise timer falls (R32): the report of the exit first, then the trip first. -/
theorem test_trip_before_report :
    (modeOnExit (tripTogether true { leaving .pumpStationary 1000 [] with choices := [0] })).interlock.mode = .road ∧
    (modeOnExit (tripTogether true { leaving .pumpStationary 1000 [] with choices := [1] })).interlock.mode
      = .motionTrip := by decide

/-- The cause of the release stays OPERATOR with the trip taken first. -/
theorem test_trip_keeps_the_cause :
    (disengageOrder .operator { leaving .pumpStationary 1000 [] with choices := [1] }).drive.release = some .operator := by
  decide

theorem witness_DriveTimersEndTheirStates :
    (let s := driven { startDrive with pto := .precheck, precheck := ticking }
     s.powered = true ∧ s.drive.precheck.isSome = true ∧ s.interlock.mode ≠ .motionTrip) ∧
    (let s := driven { startDrive with pto := .rampdown, ramp := ticking, clutch := true, release := some .operator }
     s.powered = true ∧ s.drive.ramp.isSome = true ∧ s.drive.release = some .operator ∧
      s.qualified .ptoFb = some false ∧ s.interlock.mode ≠ .motionTrip ∧ (withoutFb s).qualified .ptoFb ≠ some false) ∧
    (let s := driven { startDrive with pto := .releasing, releasing := ticking, release := some .operator }
     s.powered = true ∧ s.drive.releasing.isSome = true ∧ s.drive.pto = .releasing ∧
      (withInput s 2 true).qualified .ptoFb = some true ∧ (withoutFb s).qualified .ptoFb = none ∧
      s.interlock.mode ≠ .motionTrip) ∧
    (State.reset.drive.precheck = none ∧ State.reset.drive.ramp = none ∧ State.reset.drive.releasing = none ∧
      State.reset.drive.feedback = none ∧ State.reset.drive.settle = none) := by decide

theorem witness_timers_in_motion_trip :
    let tripped := fun s : State => { s with interlock := { s.interlock with mode := .motionTrip } }
    (let s := tripped (driven { startDrive with pto := .rampdown, ramp := ticking, clutch := true, release := some .motion })
     s.powered = true ∧ s.interlock.mode = .motionTrip ∧ s.drive.ramp.isSome = true ∧ s.drive.release.isSome = true ∧
      s.qualified .ptoFb = some false) ∧
    (let s := tripped (withoutFb (driven
        { startDrive with pto := .releasing, releasing := ticking, release := some .motion }))
     s.powered = true ∧ s.interlock.mode = .motionTrip ∧ s.drive.releasing.isSome = true ∧
      s.qualified .ptoFb = none) ∧
    (tripped (driven { startDrive with pto := .precheck, precheck := ticking })).drive.precheck.isSome = true ∧
    (let s := tripped (driven { startDrive with pto := .fault, fault := some .lostFeedback })
     Ready s ∧ s.drive.pto = .fault ∧ s.drive.clutch = false ∧ s.qualified .ptoFb ≠ some true ∧
      s.interlock.mode = .motionTrip) := by decide

/-- A shift in progress. -/
def shifting (k : Kind) (n : Nat) : State :=
  { State.reset with drive := { startDrive with
      pto := .shifting, kind := some k, tries := n, clutch := true, feedback := ticking, window := none } }

theorem witness_TriesAndEngagement :
    ((shifting .roll 1).powered = true ∧ (shifting .roll 1).drive.feedback.isSome = true ∧
      (shifting .roll 1).qualified .ptoFb ≠ none ∧ (shifting .roll 1).drive.tries < (shifting .roll 1).paramNat 26) ∧
    ((shifting .roll 2).paramNat 26 ≤ (shifting .roll 2).drive.tries ∧ (shifting .roll 2).drive.pto = .shifting) ∧
    (let s := driven { startDrive with pto := .settle, settle := ticking }
     s.drive.settle.isSome = true ∧ s.qualified .ptoFb ≠ some true) ∧
    ((withoutFb (shifting .roll 1)).qualified .ptoFb = none ∧
      (withoutFb (shifting .roll 1)).drive.kind = some .roll) ∧
    (let s := withInput (withoutFb (shifting .stationary 1)) 0 true
     s.qualified .ptoFb = none ∧ s.drive.kind = some .stationary ∧ s.interlock.moving = false ∧
      s.asserted .parkBrake = true) ∧
    (let s := withoutFb (shifting .stationary 1)
     s.qualified .ptoFb = none ∧ s.drive.kind = some .stationary ∧ s.asserted .parkBrake = false) ∧
    -- PTO_FB found asserted as the settle timer expires, with the parking brake set and not set
    (∀ b ∈ [true, false],
      let s := withInput (withInput (driven { startDrive with pto := .settle, settle := ticking, tries := 1 }) 2 true) 0 b
      s.powered = true ∧ s.drive.settle.isSome = true ∧ s.qualified .ptoFb = some true ∧
        s.drive.kind = some .stationary ∧ s.interlock.moving = false ∧ s.asserted .parkBrake = b) := by decide

theorem witness_ChangeKindChangesTheMode :
    (Ready State.reset ∧ 2 ≤ (2 : Byte).toNat) ∧
    (let s := entryFor .changeToRoll ⟨[.pumpStationary], []⟩ (pumping .stationary)
     Ready s ∧ judge s (changeEntry .roll) = .passed) ∧
    (let s := withInput (entryFor .changeToStationary ⟨[.pumpRoll], []⟩ (pumping .roll)) 0 true
     Ready s ∧ judge s (changeEntry .stationary) = .passed ∧ s.interlock.moving = false ∧
      s.asserted .parkBrake = true) ∧
    -- an entry that may not stand: the brake off, and moving with the brake on
    (∀ b ∈ [false, true],
      let p := withInput (withoutFb (pumping .roll)) 0 b
      let s := entryFor .changeToStationary ⟨[.pumpRoll], []⟩ { p with interlock := { p.interlock with moving := b } }
      Ready s ∧ judge s .changeToStationary = .passed ∧ (s.interlock.moving = true ∨ s.asserted .parkBrake = false) ∧
        s.drive.pto = .engaged ∧ s.qualified .ptoFb ≠ some false) := by decide

/-- An input one sample short of its Q. -/
def almost (s : State) (t : Terminal) (on : Bool) : State :=
  { s with terminals := { s.terminals with inputs := s.terminals.inputs.set t ⟨!on, some on, 4⟩ } }

/-- T1 qualifies at its fifth sample, on and off, every other input standing. -/
theorem witness_only_change :
    State.reset.powered = true ∧ OnlyChange (almost State.reset 0 true) 1 0 true ∧
    OnlyChange (almost State.reset 7 false) 0 7 false := by decide

/-- The part in a PTO state, PANEL_STOP asserted or not. -/
def stopped (p : PtoState) (on : Bool) : State := withInput (driven { startDrive with pto := p }) 4 on

theorem witness_input_changes :
    -- PARK_BRAKE and NEUTRAL, and ROLL_SELECT, at 900 and 901 rpm
    (∀ e ∈ [900, 901],
      let s := showing e 0 0 .ok (withoutFb (pumping .stationary))
      s.interlock.mode = .pumpStationary ∧ s.drive.pto = .engaged ∧ s.qualified .ptoFb ≠ some false ∧ s.engineSpeed = e) ∧
    (∀ m ∈ [OpMode.pumpRoll, .rollOverspeed],
      let s : State := { withoutFb (pumping .roll) with interlock := { startInterlock with mode := m, ceiling := 350 } }
      s.interlock.mode = m ∧ s.drive.pto = .engaged ∧ s.qualified .ptoFb ≠ some false) ∧
    (State.reset.interlock.mode ≠ .pumpStationary ∧ State.reset.interlock.mode ≠ .pumpRoll ∧
      State.reset.interlock.mode ≠ .rollOverspeed) ∧
    -- PANEL_STOP in each PTO state
    ((withInput (withoutFb (pumping .roll)) 4 true).drive.pto = .engaged ∧
      (withInput (withoutFb (pumping .roll)) 4 true).qualified .ptoFb ≠ some false ∧
      isPumping (withInput (withoutFb (pumping .roll)) 4 true).interlock.mode = true) ∧
    (∀ p ∈ [PtoState.precheck, .shifting, .settle],
      let s := withoutFb (stopped p true)
      ¬NotShifting s ∧ s.asserted .panelStop = true ∧ s.qualified .ptoFb ≠ some false) ∧
    LockoutWithinFixed (withoutFb (stopped .settle true)) ∧
    (∀ p ∈ [PtoState.disengaged, .fault, .releasing, .rampdown],
      (withoutFb (stopped p true)).drive.pto = p ∧ (withoutFb (stopped p true)).qualified .ptoFb ≠ some false) ∧
    (∀ p ∈ [PtoState.disengaged, .fault, .releasing], NotShifting (stopped p false) ∧
      (stopped p false).drive.pto = p ∧ (stopped p false).asserted .panelStop = false) := by decide

theorem witness_orders_of_trips :
    (∀ e ∈ [900, 901],
      let s := showing e 0 0 .ok (withoutFb (pumping .stationary))
      let t : State := { s with interlock := { s.interlock with mode := .motionTrip, ceiling := 0 } }
      s.interlock.mode = .pumpStationary ∧ NotShifting s ∧ OpMode.pumpStationary ≠ .motionTrip ∧
        t.interlock.mode = .motionTrip ∧ t.drive.pto = .engaged ∧ t.qualified .ptoFb ≠ some false ∧ t.engineSpeed = e) ∧
    (∀ p ∈ [PtoState.rampdown, .releasing, .fault, .disengaged], (driven { startDrive with pto := p }).drive.pto = p) := by
  decide

/-- The brake and PANEL_STOP in one sample, the brake first (R32): the trip's order finds RELEASING and changes nothing. -/
theorem test_order_finds_releasing :
    let s := leaving .pumpStationary 5 []
    let u := deliverOrder .pumpStationary (inputChange 4 .panelStop true (inputChange 0 .parkBrake false s))
    (u.interlock.mode, u.drive.pto, u.drive.release) = (.motionTrip, .releasing, some .panelStop) := by decide

/-- A shift in progress whose engagement needs certain conditions, its report of conditions out of date. -/
def needing (p : PtoState) (l : List Condition) (s : State) : State :=
  entryFor .engageRoll ⟨[.road], l⟩ { s with
    drive := { s.drive with pto := p, kind := some .roll }, interlock := { s.interlock with conditions := [] } }

theorem witness_condition_reports :
    NotShifting State.reset ∧
    (let s := needing .settle [] State.reset
     ¬NotShifting s ∧ trueConditions s ≠ s.interlock.conditions ∧ s.drive.kind = some .roll ∧
      failingConditions s (engageEntry .roll) = []) ∧
    (let s := needing .precheck [.engineAtIdle]
        { State.reset with interlock := { startInterlock with engineAtIdle := false } }
     s.drive.pto = .precheck ∧ failingConditions s (engageEntry .roll) = [.engineAtIdle] ∧
      trueConditions s ≠ s.interlock.conditions) ∧
    (∀ p ∈ [PtoState.precheck, .shifting, .settle],
      let s := needing p [.voltageOk] State.reset
      ¬NotShifting s ∧ trueConditions s ≠ s.interlock.conditions ∧
        failingConditions s (engageEntry .roll) = [.voltageOk] ∧ s.qualified .ptoFb = some false ∧
        s.interlock.mode ≠ .motionTrip ∧ (needing p [.voltageOk] (withoutFb State.reset)).qualified .ptoFb = none) ∧
    (let s := needing .shifting [.stopClear] (withInput (withoutFb State.reset) 4 true)
     ¬NotShifting s ∧ trueConditions s ≠ s.interlock.conditions ∧
      failingConditions s (engageEntry .roll) = [.stopClear] ∧ s.qualified .ptoFb ≠ some false) := by decide

theorem witness_ClearFaultClearsItsTarget :
    (let s := driven { startDrive with pto := .fault, fault := some .stuck }
     Ready s ∧ s.drive.pto = .fault ∧ s.drive.clutch = false ∧ s.qualified .ptoFb ≠ some true ∧
      s.interlock.mode ≠ .motionTrip) ∧
    (Ready State.reset ∧ State.reset.drive.pto ≠ .fault ∧ State.reset.thermal.latch = false ∧
      (∀ v ∈ allValves, (State.reset.valve v).state ≠ .fault)) ∧
    (let s : State := { State.reset with thermal := { startThermal with latch := true } }
     Ready s ∧ NotShifting s ∧ s.thermal.latch = true) ∧
    (∀ b ∈ [(33 : Byte), 39, 45, 48], (b.toNat < 34 ∨ 39 ≤ b.toNat) ∧ b ≠ 46 ∧ b ≠ 47) := by decide

theorem witness_valve_faults :
    -- every valve, its feedback as commanded, not as commanded, and absent
    (∀ v ∈ allValves, ∀ cmd ∈ [false, true],
      let s : State := { State.reset with
        valves := setValve State.reset.valves v ({ startActuator with openCmd := cmd, state := .fault, fault := some .noOpen }) }
      Ready s ∧ (s.valve v).state = .fault ∧ (s.valve v).openCmd = cmd ∧ s.supply.state ≠ .switching ∧
        s.supply.state ≠ .draftPriming ∧ (∀ w ∈ allValves, w ≠ v → (s.valve w).state ≠ .fault)) ∧
    (feedback State.reset .mainValve = some false ∧ feedback (withInput State.reset 5 true) .mainValve = some true ∧
      feedback (withInput State.reset 6 true) .reserveValve = some true ∧ feedback State.reset .mainFill = none) := by decide

theorem witness_unwatched : Unwatched State.reset .mainValve ∧ Unwatched State.reset .recircValve ∧
    Unwatched (supplied .switching (some .openingTarget)) .reserveValve ∧
    Unwatched (supplied .switching (some .closingOther)) .mainValve := by
  refine ⟨?_, ?_, ?_, ?_⟩ <;> intro t <;> cases t <;> decide

/-- PTO_FB and the valves' feedback, in each state that takes a change. -/
theorem witness_feedback_changes :
    ((driven { startDrive with pto := .precheck }).drive.pto = .precheck ∧ State.reset.drive.pto = .disengaged ∧
      State.reset.drive.window.isSome = true) ∧
    ((shifting .roll 1).drive.pto = .shifting ∧ (shifting .roll 1).drive.kind = some .roll ∧
      (withInput (shifting .stationary 1) 0 true).drive.kind = some .stationary ∧
      (withInput (shifting .stationary 1) 0 true).interlock.moving = false ∧
      (withInput (shifting .stationary 1) 0 true).asserted .parkBrake = true) ∧
    ((pumping .roll).drive.pto = .engaged ∧ isPumping (pumping .roll).interlock.mode = true) ∧
    (∀ m ∈ [OpMode.road, .motionTrip],
      let s : State := { driven { startDrive with pto := .releasing, release := some .operator } with
        interlock := { startInterlock with mode := m } }
      s.drive.pto = .releasing ∧ s.interlock.mode = m) ∧
    ((pumping .roll).drive.pto ≠ .precheck ∧ (pumping .roll).drive.pto ≠ .shifting ∧
      (pumping .roll).drive.pto ≠ .disengaged) ∧
    (feedbackRole .mainValve = some .mainValveFb ∧ feedbackRole .reserveValve = some .reserveValveFb ∧
      feedbackRole .recircValve = some .recircFb) ∧
    (∀ x ∈ [ValveState.opening, .closing, .atOpen, .atClosed, .fault],
      let s := travelling .mainValve { startActuator with state := x } State.reset
      (s.valve .mainValve).state = x ∧ feedback s .mainValve ≠ some true) := by decide

/-! #### The supply -/

theorem witness_SupplyRequestsByState :
    (Ready State.reset ∧ 3 ≤ (3 : Byte).toNat) ∧
    (∀ x ∈ [SupplyState.idle, .tank, .hydrantQualifying, .hydrant, .draftPriming, .draft, .switching, .noSupply],
      Ready (supplied x none) ∧ (supplied x none).supply.state = x) ∧
    (let s := withMain { startTank .main with state := .empty, volume := some 0 } (supplied .noSupply none)
     Ready s ∧ s.supply.state = .noSupply ∧ (s.tank s.supply.selected).state = .empty ∧
      judge s .supplyHydrant = .passed) ∧
    (supplied .noSupply none).supply.selected = .main ∧
    ((supplied .noSupply none).tank .main).state ≠ .empty ∧
    -- a draft that primes at once, and one that closes MAIN first
    (let s : State := { supplied .tank none with valves := State.reset.valves }
     Ready s ∧ s.supply.state = .tank ∧ judge s .supplyDraft = .passed ∧ s.drive.pto = .engaged ∧
      (∀ v ∈ [ValveRole.mainValve, .reserveValve], (s.valve v).openCmd = false ∧ (s.valve v).state = .atClosed) ∧
      .priming ∉ s.governor.overrides) ∧
    (let s := supplied .tank none
     Ready s ∧ s.supply.state = .tank ∧ judge s .supplyDraft = .passed ∧ s.valves.mainValve.openCmd = true ∧
      s.valves.mainValve.state = .atOpen ∧ s.valves.reserveValve.state ≠ .fault ∧
      s.valves.reserveValve.openCmd = false) ∧
    -- USE_RESERVE
    (∀ x ∈ [SupplyState.tank, .noSupply, .switching, .hydrantQualifying, .hydrant, .draftPriming, .draft],
      Ready (supplied x none) ∧ NotShifting (supplied x none) ∧ judge (supplied x none) .useReserve = .passed ∧
      (supplied x none).supply.selected = .main) ∧
    (let s : State := { pumping .roll with supply := { startSupply with state := .tank, selected := .reserve } }
     Ready s ∧ judge s .useReserve = .passed ∧ s.supply.selected = .reserve) ∧
    (supplied .tank none).tanks.reserve.state ≠ .empty := by decide

/-- A supply on a hydrant, in a tank's level states and with both tank valves given. -/
def onHydrant (x : SupplyState) (main reserve : LevelState) (m r : Actuator) : State :=
  { supplied x none with
    tanks := ⟨{ startTank .main with state := main }, { startTank .reserve with state := reserve }⟩
    valves := { State.reset.valves with mainValve := m, reserveValve := r } }

/-- A valve in FAULT with its command. -/
def faulty (c : ValveFault) (isOpen : Bool) : Actuator :=
  { startActuator with openCmd := isOpen, state := .fault, fault := some c }

theorem witness_back_to_the_tank :
    -- the levels of the selected tank, and RESERVE allowed
    (∀ x ∈ [SupplyState.hydrant, .draft, .hydrantQualifying, .noSupply], ∀ l ∈ [LevelState.unknown, .low, .empty],
      let s := onHydrant x l .normal startActuator startActuator
      Ready s ∧ s.supply.state = x ∧ (s.tank s.supply.selected).state = l ∧ s.supply.selected = .main ∧
        s.tanks.reserve.state ≠ .empty ∧ s.param 44 ≠ 1 ∧
        ({ s with params := s.params.set 43 1 } : State).param 44 = 1) ∧
    (onHydrant .hydrant .empty .empty startActuator startActuator).tanks.reserve.state = .empty ∧
    -- the valves: the other one open and closed, and each in FAULT
    (∀ r ∈ [startActuator, { startActuator with openCmd := true, state := .atOpen }],
      let s := onHydrant .hydrant .low .normal startActuator r
      (s.valve (tankValve s.supply.selected)).state ≠ .fault ∧
        (s.valve (tankValve (otherTank s.supply.selected))).state ≠ .fault) ∧
    (∀ c ∈ [ValveFault.noOpen, .stuckOpen],
      (onHydrant .hydrant .low .normal (faulty c false) (faulty c true)).valves.mainValve.fault = some c) ∧
    -- a fill under way as the hydrant is left
    ((filling 1000 .bulk).supply.state = .hydrant ∧ (filling 1000 .bulk).tanks.main.stage = .bulk) := by decide

theorem witness_draft_valves :
    ∀ r ∈ [startActuator, faulty .noOpen false, faulty .stuckOpen true, { startActuator with state := .closing }],
      let s : State := { supplied .tank none with valves := { State.reset.valves with reserveValve := r } }
      Ready s ∧ s.supply.state = .tank ∧ judge s .supplyDraft = .passed ∧
        (closedValve s .reserve).state = r.state ∧ (closedValve s .main).state = .atClosed := by decide

theorem test_switch_from_hydrant :
    -- RESERVE_VALVE closed: the target opens at once in OPENING_TARGET; open: it is closed first
    (let u := enterSwitching (onHydrant .hydrant .low .normal startActuator startActuator)
     u.supply.state = .switching ∧ u.supply.switchFrom = .hydrant ∧ u.supply.phase = some .openingTarget ∧
      u.valves.mainValve.openCmd = true ∧ u.valves.reserveValve.openCmd = false) ∧
    (let u := enterSwitching (onHydrant .draft .low .normal startActuator
        { startActuator with openCmd := true, state := .atOpen })
     u.supply.state = .switching ∧ u.supply.switchFrom = .draft ∧ u.supply.phase = some .closingOther ∧
      u.valves.mainValve.openCmd = false ∧ u.valves.reserveValve.openCmd = false) := by decide

/-- A hydrant being qualified, with a window and the attempts counted. -/
def qualifying (w : Window) (n : Nat) : State :=
  { supplied .hydrantQualifying none with
    supply := { startSupply with state := .hydrantQualifying, attempt := ticking, window := w, attempts := n } }

theorem witness_AttemptExpiryJudgesTheHydrant :
    -- the limits of each test
    (∀ p ∈ [((99 : Int), (1200 : Int)), (100, 1201), (100, 120), (100, 121), (1180, 1200)],
      (⟨200, 40000, p.1, p.2, false⟩ : Window).failed = false ∧ (⟨200, 40000, p.1, p.2, false⟩ : Window).count ≠ 0) ∧
    ((0 : Int) ≤ 420 ∧ State.reset.param 39 = 1 ∧
      ({ State.reset with params := State.reset.params.set 38 0 } : State).param 39 ≠ 1) ∧
    (let s := qualifying ⟨200, 84000, 412, 428, false⟩ 2
     s.powered = true ∧ s.supply.attempt.isSome = true ∧ attemptFailure s s.supply.window = none ∧
      s.supply.state = .hydrantQualifying) ∧
    (let s := qualifying ⟨200, 82000, 92, 436, false⟩ 5
     s.supply.attempt.isSome = true ∧ attemptFailure s s.supply.window = some .range ∧ s.supply.attempts + 1 < 7) ∧
    (let s := qualifying ⟨0, 0, 0, 0, true⟩ 6
     s.supply.attempt.isSome = true ∧ attemptFailure s s.supply.window = some .sensor ∧ 6 ≤ s.supply.attempts) ∧
    State.reset.supply.attempt = none := by decide

/-- A supply with every timer running. -/
def supplyTiming (x : SupplyState) : State :=
  { pumping .stationary with supply := { startSupply with
      state := x, prime := ticking, primerLimit := ticking, primeHeld := true, settle := ticking, switchHeld := true
      loss := ticking, activity := ticking } }

theorem witness_PrimeTimersEndThePriming :
    ((supplyTiming .draftPriming).powered = true ∧ (supplyTiming .draftPriming).supply.prime.isSome = true ∧
      (supplyTiming .draftPriming).supply.primerLimit.isSome = true ∧
      (supplyTiming .draftPriming).supply.primeHeld = true) ∧
    (State.reset.supply.prime = none ∧ State.reset.supply.primerLimit = none) := by decide

theorem witness_primes_given_up :
    (let s : State := { supplied .draftPriming (some .priming) with governor := { startGovernor with
        overrides := [.priming] } }
     Ready s ∧ s.supply.state = .draftPriming ∧ .priming ∈ s.governor.overrides) ∧
    (let s : State := { supplied .draftPriming (some .closingTank) with
        valves := { State.reset.valves with reserveValve := faulty .stuckOpen false } }
     s.supply.state = .draftPriming ∧ s.supply.phase = some .closingTank ∧
      (s.valve .reserveValve).state = .fault ∧ (s.valve .reserveValve).fault = some .stuckOpen) ∧
    (let s := supplied .draftPriming (some .priming)
     NotShifting s ∧ s.supply.state = .draftPriming ∧ s.tanks.main.stage = .off ∧ s.tanks.reserve.stage = .off) := by
  decide

theorem witness_SupplyTimersAct :
    (∀ b ∈ [false, true],
      let s : State := { supplyTiming .switching with
        supply := { (supplyTiming .switching).supply with phase := some .settling, targetStuck := b } }
      s.powered = true ∧ s.supply.settle.isSome = true ∧ s.supply.switchHeld = true ∧ s.supply.targetStuck = b ∧
        s.supply.activity.isSome = true) ∧
    (let s : State := { supplyTiming .hydrant with params := State.reset.params.set 42 0 }
     s.powered = true ∧ s.supply.loss.isSome = true ∧ s.param 43 ≠ 1) ∧
    (let s : State := { supplied .hydrant none with supply := { startSupply with state := .hydrant, loss := ticking } }
     s.supply.loss.isSome = true ∧ s.param 43 = 1 ∧ (s.tank s.supply.selected).state ≠ .empty ∧
      s.supply.switchHeld = false ∧ s.drive.pto = .engaged) ∧
    -- MAIN empty: no other tank allowed, and RESERVE
    (∀ n ∈ [(0 : Int), 1],
      let s : State := withMain { startTank .main with state := .empty, volume := some 0 } { supplied .hydrant none with
        params := State.reset.params.set 43 n, supply := { startSupply with state := .hydrant, loss := ticking } }
      s.powered = true ∧ s.supply.loss.isSome = true ∧ s.param 43 = 1 ∧ s.param 44 = n ∧ s.supply.selected = .main ∧
        s.tanks.main.state = .empty ∧ s.tanks.reserve.state ≠ .empty ∧ s.supply.switchHeld = false ∧
        s.drive.pto = .engaged) ∧
    (State.reset.supply.settle = none ∧ State.reset.supply.loss = none ∧ State.reset.supply.activity = none) := by decide

/-- A loss timer that expires together with a tank's top-off cycle, due to open the fill valve: MAIN's, or RESERVE's with
MAIN empty and RESERVE allowed. -/
def lossWithCycle (t : Tank) : State :=
  let s := filling 1800 .topoff
  let r := { s.tanks.main with phase := some .closedPhase, cycle := some ⟨3000, 3000⟩ }
  let u : State := { s with supply := { s.supply with loss := ticking }, choices := [1] }
  match t with
  | .main => withMain r u
  | .reserve => { u with
      tanks := ⟨{ startTank .main with state := .empty, volume := some 0 }, { r with volume := some 540 }⟩
      params := u.params.set 43 1 }

theorem witness_loss_with_cycle :
    ∀ t : Tank, (lossWithCycle t).powered = true ∧ (lossWithCycle t).supply.loss.isSome = true ∧
      Ready (lossWithCycle t) ∧ (lossWithCycle t).param 43 = 1 ∧
      (t = (lossWithCycle t).supply.selected ∧ ((lossWithCycle t).tank t).state ≠ .empty ∨
        t = .reserve ∧ (lossWithCycle t).supply.selected = .main ∧ (lossWithCycle t).param 44 = 1 ∧
          (lossWithCycle t).tanks.main.state = .empty ∧ (lossWithCycle t).tanks.reserve.state ≠ .empty) ∧
      ((lossWithCycle t).tank t).stage = .topoff ∧ ((lossWithCycle t).tank t).phase = some .closedPhase ∧
      ((lossWithCycle t).tank t).cycle = some ⟨3000, 3000⟩ ∧ fillPermission (lossWithCycle t) t = true ∧
      freeBit (lossWithCycle t) = true ∧ ((expireLoss (lossWithCycle t)).valve (tankValve t)).openCmd = true := by
  intro t; cases t <;> decide

theorem witness_supply_valves_arrive :
    -- a target that opens, at its feedback or, with none, at its travel time, and one that cannot
    (let s := travelling .mainValve { startActuator with state := .opening, openCmd := true, tries := 2 }
        (supplied .switching (some .openingTarget))
     s.powered = true ∧ s.supply.state = .switching ∧ s.supply.phase = some .openingTarget ∧
      tankValve s.supply.selected = .mainValve ∧ (s.valve .mainValve).state = .opening ∧
      (s.valve .mainValve).travel.isSome = true ∧ (s.valve .mainValve).tries = 2 ∧
      feedback s .mainValve = some false) ∧
    (let s := { travelling .mainValve { startActuator with state := .opening, openCmd := true, tries := 1 }
        (supplied .switching (some .openingTarget)) with terminals := { State.reset.terminals with
          assignment := State.reset.terminals.assignment.set 5
            { role := .generalIn, polarity := .activeHigh, q := 5, safe := none } } }
     (s.valve .mainValve).state = .opening ∧ (s.valve .mainValve).travel.isSome = true ∧ feedback s .mainValve = none) ∧
    -- the other valve closed with the target AT_CLOSED, and in FAULT STUCK_OPEN
    (∀ a ∈ [startActuator, { startActuator with state := .fault, fault := some .stuckOpen }],
      let s : State := { supplied .switching (some .closingOther) with valves :=
        { State.reset.valves with mainValve := a, reserveValve := { startActuator with state := .closing, travel := ticking } } }
      s.supply.state = .switching ∧ s.supply.phase = some .closingOther ∧ (s.valve .mainValve) = a ∧
        a.openCmd = false ∧ (s.valve .reserveValve).state = .closing ∧ (s.valve .reserveValve).openCmd = false ∧
        feedback s .mainValve ≠ some true) ∧
    -- CLOSING_TANK, the other tank valve AT_CLOSED and in FAULT NO_OPEN, and this one found open
    (∀ a ∈ [startActuator, { startActuator with state := .fault, fault := some .noOpen }],
      let s : State := { supplied .draftPriming (some .closingTank) with valves :=
        { State.reset.valves with mainValve := { startActuator with state := .closing, travel := ticking }, reserveValve := a } }
      s.powered = true ∧ s.supply.state = .draftPriming ∧ s.supply.phase = some .closingTank ∧
        (s.valve .mainValve).state = .closing ∧ (s.valve .mainValve).travel.isSome = true ∧ s.valve .reserveValve = a ∧
        s.drive.pto = .engaged ∧ .priming ∉ s.governor.overrides ∧ feedback s .mainValve ≠ some true ∧
        feedback (withInput s 5 true) .mainValve = some true) := by decide

/-! #### Tanks -/

theorem witness_MeasuredVolumeIsInterpolated :
    ((99 : Nat) < (100, 300).1) ∧
    (ascending ([(0, 0), (200, 300), (800, 1800)] ++ [(1400, 3000)]) = true ∧ (1400, 3000).1 ≤ 1400) ∧
    (∀ h ∈ [200, 799], ascending ([(0, 0)] ++ (200, 300) :: (800, 1800) :: [(1400, 3000)]) = true ∧ 200 ≤ h ∧ h < 800) ∧
    ascending shaped = true ∧
    ((shapedTank 0 .empty).tank .main).level = ((0 : Nat) : Int) := by decide

theorem witness_LevelStateHasItsBands :
    (State.reset.tank .main).volume = none ∧
    (∀ v ∈ [150, 151, 210, 211, 750, 751, 810, 811, 2789, 2790, 2849, 2850],
      ((shapedTank v .low).tank .main).volume = some v) := by decide

theorem witness_evaluations :
    -- a published set, a gate and the end of an estimate
    ((State.reset.tank .main).estimating = none ∧ State.reset.healthOf (headChannel .main) = .ok) ∧
    (let s := withMain { startTank .main with
        estimating := some .moving, estimate := some 380000, settle := ticking } State.reset
     s.powered = true ∧ (s.tank .main).estimating.isSome = true ∧ (s.tank .main).estimate = some 380000 ∧
      (s.tank .main).settle.isSome = true) ∧
    -- a level state that stands, and one that changes
    nextLevel (shapedTank 810 .low) .main = ((shapedTank 810 .low).tank .main).state ∧
    nextLevel (shapedTank 811 .low) .main ≠ ((shapedTank 811 .low).tank .main).state := by decide

theorem witness_supply_on_level :
    let s := fun (x : SupplyState) (l : LevelState) =>
      withMain { startTank .main with state := l, volume := some 0 } (supplied x none)
    ((s .hydrant .empty).supply.state = .hydrant ∧ ((s .tank .low).tank .main).state ≠ .empty ∧
      (s .tank .low).supply.state ≠ .noSupply ∧ Tank.reserve ≠ (s .tank .empty).supply.selected ∧
      (s .noSupply .low).supply.state = .noSupply ∧ LevelState.unknown ≠ .empty) ∧
    (∀ x ∈ [SupplyState.tank, .switching, .hydrantQualifying],
      (s x .empty).supply.state = x ∧ (s x .empty).supply.selected = .main ∧ ((s x .empty).tank .main).state = .empty ∧
        (s x .empty).param 44 ≠ 1 ∧ (s x .empty).drive.pto = .engaged) ∧
    (let u : State := { s .tank .empty with
        params := State.reset.params.set 43 1
        valves := { State.reset.valves with mainValve := { startActuator with state := .atOpen, openCmd := true } } }
     u.supply.state = .tank ∧ u.supply.selected = .main ∧ u.tanks.main.state = .empty ∧ u.param 44 = 1 ∧
      u.tanks.reserve.state ≠ .empty ∧ u.drive.pto = .engaged ∧ u.valves.mainValve.openCmd = true ∧
      u.valves.mainValve.state = .atOpen) ∧
    (let u : State := { s .noSupply .low with valves := State.reset.valves }
     u.supply.state = .noSupply ∧ u.supply.selected = .main ∧ (u.tank .main).state ≠ .empty ∧
      (u.valve .reserveValve).openCmd = false ∧ (u.valve .mainValve).state ≠ .fault) := by decide

theorem witness_FillRequestsAndTimers :
    (Ready State.reset ∧ (34 : Byte) ≠ 32 ∧ (34 : Byte) ≠ 33 ∧ (31 : Byte) ≠ 32 ∧ (31 : Byte) ≠ 33) ∧
    (∀ x ∈ [FillStage.bulk, .topoff, .fullHold, .suspended],
      Ready (filling 1000 x) ∧ judge (filling 1000 x) .fillStart = .passed ∧ ((filling 1000 x).tank .main).stage ≠ .off ∧
      ((filling 1000 x).tank .main).stage ≠ .timeout) ∧
    (Ready (pumping .stationary) ∧ judge (pumping .stationary) .fillStart = .passed ∧
      ((pumping .stationary).tank .main).stage = .off ∧ fillPermission (pumping .stationary) .main = false) ∧
    (∀ v ∈ [1699, 1700, 1899, 1900],
      Ready (filling v .off) ∧ judge (filling v .off) .fillStart = .passed ∧ ((filling v .off).tank .main).stage = .off ∧
      fillPermission (filling v .off) .main = true ∧ ((filling v .off).tank .main).volume = some v) ∧
    ((filling 1800 .topoff).powered = true ∧ ((filling 1800 .topoff).tank .main).cycle.isSome = true ∧
      ((filling 1800 .topoff).tank .main).phase = some .openPhase ∧
      ((filling 1800 .topoff).valve (tankValve .main)).openCmd = false) ∧
    (((filling 1000 .bulk).tank .main).stage = .bulk) ∧
    ((State.reset.tank .main).cycle = none ∧ (State.reset.tank .main).stage ≠ .bulk ∧
      (State.reset.tank .main).stage ≠ .topoff) := by decide

theorem witness_fill_evaluations :
    (State.reset.tank .main).volume = none ∧
    (∀ p ∈ [(1799, FillStage.bulk), (1800, .bulk), (1899, .bulk), (1900, .bulk), (1899, .topoff), (1900, .topoff),
        (1699, .fullHold), (1700, .fullHold), (0, .off)],
      let s := filling p.1 p.2
      (s.tank .main).volume = some p.1 ∧ (s.tank .main).stage = p.2 ∧ (s.valve (tankValve .main)).openCmd = false ∧
        s.supply.loss = none) ∧
    -- a return to BULK at the instant of a supply loss, which opens the tank
    (let s : State := { filling 1699 .fullHold with
        choices := [1], supply := { startSupply with state := .hydrant, loss := some ⟨3000, 3000⟩ } }
     (s.tank .main).volume = some 1699 ∧ (s.tank .main).stage = .fullHold ∧ 1699 < refillAt s .main ∧
      fillPermission s .main = true ∧ s.supply.loss = some ⟨3000, 3000⟩ ∧ freeBit s = true ∧ s.param 43 = 1 ∧
      s.supply.selected = .main ∧ (s.tank .main).state ≠ .empty ∧ (s.valve .reserveValve).openCmd = false ∧
      (s.valve .reserveValve).state = .atClosed ∧ (s.valve .mainValve).state ≠ .fault ∧
      ((evaluateStage .main s).valve .mainValve).openCmd = true) := by decide

theorem witness_permission_reviewed :
    (((filling 1000 .off).tank .main).stage = .off ∧ ((filling 1000 .bulk).tank .main).stage ≠ .suspended ∧
      fillPermission (filling 1000 .bulk) .main = true) ∧
    (∀ x ∈ [FillStage.bulk, .topoff, .fullHold, .suspended],
      let s : State := { filling 1000 x with interlock := { (pumping .stationary).interlock with moving := true } }
      (s.tank .main).stage = x ∧ fillPermission s .main = false) ∧
    -- resumed at the refill threshold and below it, and in the stage left and another
    (∀ p ∈ [(1700, FillStage.fullHold), (1699, .fullHold), (1000, .bulk), (1800, .topoff), (1800, .bulk)],
      let s := withMain { (filling p.1 .suspended).tanks.main with
        suspendedFrom := some p.2, safety := if p.2 = .fullHold then none else some ⟨9, 60000⟩ } (filling p.1 .suspended)
      (s.tank .main).stage = .suspended ∧ fillPermission s .main = true ∧ (s.tank .main).volume = some p.1) := by decide

theorem witness_SettledTankIsReconciled :
    (let s := withMain { startTank .main with
        level := 194, headKnown := true, volume := some 380, state := .low, estimating := some .moving
        frozen := some 1200, estimate := some 380000, settle := ticking } (pumping .roll)
     s.powered = true ∧ (s.tank .main).settle.isSome = true ∧ (s.tank .main).estimating = some .moving ∧
      (s.tank .main).estimate = some 380000) ∧
    (let s := withMain { startTank .main with estimating := some .moving, settle := ticking } State.reset
     s.powered = true ∧ (s.tank .main).settle.isSome = true ∧ (s.tank .main).estimate = none) ∧
    (State.reset.tank .reserve).settle = none ∧
    -- an estimate, of the tank that feeds the pump and of one that does not, that a gate's volume exceeds and one it does not
    (∀ e ∈ [0, 12332, 12333, 380000],
      let s := withMain { startTank .main with
        headKnown := true, volume := some (e / 1000), estimating := some .moving, estimate := some e } (pumping .roll)
      s.powered = true ∧ 1 ≤ s.paramNat 21 ∧ (s.tank .main).estimating.isSome = true ∧
        (s.tank .main).estimate = some e ∧ s.supply.selected = .main ∧ s.supply.state = .tank ∧
        (s.tank .reserve).estimating = none) ∧
    ((supplied .hydrant none).supply.state ≠ .tank ∧ (supplied .hydrant none).supply.state ≠ .switching ∧
      (supplied .switching (some .settling)).supply.phase = some .settling) := by decide

/-! #### Temperature, valves, outputs -/

/-- The pumping part with the Thermal Monitor's timers running. -/
def heating : State :=
  { pumping .stationary with
    thermal := { startThermal with
      hot := ticking, noFlow := ticking, flowReturn := ticking, dry := ticking, noFlowHeld := true } }

theorem witness_ThermalTimersAndRecirculation :
    (heating.powered = true ∧ heating.thermal.hot.isSome = true ∧ heating.param 57 ≠ 1) ∧
    (let s := withoutFb { heating with params := State.reset.params.set 56 1 }
     s.thermal.hot.isSome = true ∧ s.param 57 = 1 ∧ s.drive.pto = .engaged ∧ s.qualified .ptoFb ≠ some false) ∧
    (heating.thermal.noFlow.isSome = true ∧ heating.recirc = []) ∧
    (heating.thermal.flowReturn.isSome = true ∧ heating.thermal.noFlowHeld = true ∧
      RecircCause.noFlow ∈ ({ heating with recirc := [.noFlow] } : State).recirc) ∧
    (heating.thermal.dry.isSome = true ∧ NotShifting heating) ∧
    (Ready State.reset ∧ 2 ≤ (2 : Byte).toNat ∧ State.reset.recirc = [] ∧
      ({ State.reset with recirc := [.operator] } : State).recirc ≠ []) ∧
    (State.reset.thermal.hot = none ∧ State.reset.thermal.noFlow = none ∧ State.reset.thermal.flowReturn = none ∧
      State.reset.thermal.dry = none) := by decide

/-- The part in a zone with a temperature published in a health. -/
def warmed (z : Zone) (t : Int) (h : Health) : State :=
  { pumping .stationary with
    thermal := { startThermal with zone := z, thermalHeld := z != .normal, overheat := z == .hot }
    sense := { State.reset.sense with front := { State.reset.sense.front with
      values := { State.reset.sense.front.values with pumpTemp := t }
      health := { State.reset.sense.front.health with pumpTemp := h } } } }

/-- Temperatures about the edges of each zone's band, by the default thresholds of 60 and 75 degrees. -/
theorem witness_zones :
    (∀ p ∈ [(Zone.normal, (59 : Int)), (.normal, 60), (.warm, 54), (.warm, 55), (.warm, 74), (.warm, 75), (.hot, 69), (.hot, 70)],
      let s := warmed p.1 p.2 .ok
      s.healthOf .pumpTemp = .ok ∧ s.thermal.unknown = false ∧ s.published .pumpTemp = p.2 ∧ s.thermal.zone = p.1 ∧
        s.param 52 = 60 ∧ s.param 53 = 75) ∧
    (warmed .hot 20 .failed).healthOf .pumpTemp = .failed ∧ (warmed .warm 20 .stale).healthOf .pumpTemp = .stale ∧
    (let s : State := { warmed .warm 54 .ok with thermal := { startThermal with zone := .warm, unknown := true } }
     s.healthOf .pumpTemp = .ok ∧ s.thermal.unknown = true) ∧
    -- a change of zone, the demand at the new ceiling and above it
    (Zone.hot ≠ startThermal.zone ∧ (∀ d ∈ [300, 301],
      let s : State := { pumping .stationary with governor := { startGovernor with demand := d } }
      s.governor.demand = d ∧ s.drive.pto = .engaged ∧ s.thermal.zone ≠ .hot ∧ s.paramNat 55 = 300)) ∧
    (warmed .hot 80 .ok).thermal.overheat = true := by decide

theorem test_zone_change :
    (let u := publishZone (warmed .hot 69 .ok)
     u.thermal.zone = .warm ∧ u.thermal.overheat = false ∧ thermalCeiling u = 750) ∧
    (publishZone (warmed .hot 70 .ok)).thermal.zone = .hot ∧
    (let u := publishZone (warmed .normal 80 .ok)
     u.thermal.zone = .hot ∧ u.thermal.hot = some ⟨60000, 0⟩ ∧ u.recirc = [.thermal] ∧ u.alarm.causes = [.warm] ∧
      thermalCeiling u = 300 ∧ u.valves.recircValve.openCmd = true) := by decide

theorem witness_ValveTravelEnds :
    (let s := travelling .mainFill { startActuator with state := .opening, openCmd := true, tries := 1 } State.reset
     s.powered = true ∧ (s.valve .mainFill).travel.isSome = true ∧ (s.valve .mainFill).state = .opening ∧
      feedback s .mainFill = none) ∧
    (∀ n ∈ [1, 2],
      let s := travelling .mainValve { startActuator with state := .opening, openCmd := true, tries := n } State.reset
      (s.valve .mainValve).travel.isSome = true ∧ s.supply.state = .idle ∧ (s.valve .mainValve).state = .opening ∧
        feedback s .mainValve ≠ none ∧ (s.valve .mainValve).tries = n) ∧
    (let s := travelling .reserveValve { startActuator with state := .closing } (supplied .draft none)
     (s.valve .reserveValve).state = .closing ∧ s.supply.state = .draft ∧ feedback s .reserveValve ≠ some true ∧
      feedback (withInput s 6 true) .reserveValve = some true) ∧
    (({ startActuator with retry := ticking } : Actuator).retry.isSome = true) ∧
    (let s := travelling .mainValve { startActuator with state := .opening, openCmd := true, tries := 2 }
        (supplied .tank none)
     s.powered = true ∧ s.supply.state = .tank ∧ tankValve s.supply.selected = .mainValve ∧
      (s.valve .mainValve).travel.isSome = true ∧ (s.valve .mainValve).state = .opening ∧
      (s.valve .mainValve).tries = 2 ∧ feedback s .mainValve = some false) ∧
    (let s := travelling .reserveValve { startActuator with state := .closing } (supplied .switching (some .closingOther))
     s.supply.state = .switching ∧ s.supply.phase = some .closingOther ∧
      tankValve (otherTank s.supply.selected) = .reserveValve ∧ (s.valve .reserveValve).travel.isSome = true ∧
      (s.valve .reserveValve).state = .closing ∧ (s.valve .reserveValve).openCmd = false ∧
      feedback s .reserveValve ≠ some true ∧ (s.valve .mainValve).state = .atClosed ∧
      (s.valve .mainValve).openCmd = false ∧ feedback s .mainValve ≠ some true) ∧
    ((State.reset.valve .recircValve).travel = none ∧ (State.reset.valve .recircValve).retry = none) := by decide

theorem witness_OutputsPulsesAndAlarm :
    (Ready State.reset ∧ (∀ b ∈ [(15 : Byte), 16, 31, 32], ∀ t ∈ allTerminals, b.toNat = 16 + t.val →
      State.reset.terminals.assignment[t].role ≠ .generalOut)) ∧
    2 ≤ (2 : Byte).toNat ∧
    (Ready (withOutput State.reset) ∧ (withOutput State.reset).terminals.assignment[(7 : Terminal)].role = .generalOut ∧
      judge (withOutput State.reset) .generalOutput = .passed ∧ (1 : Byte).toNat < 2) ∧
    ((∀ d ∈ startAlarm.silenced, d ∈ startAlarm.causes) ∧ AlarmCause.warm ∉ startAlarm.causes ∧
      startAlarm.pattern ≠ .intermittent) ∧
    AlarmCause.warm ∈ (addAlarm .warm State.reset).alarm.causes :=
  ⟨by decide, by decide, by decide, by decide, by decide⟩

/-! #### Parameters, tables and readings -/

theorem witness_ParametersAreReadAndWritten :
    (Ready State.reset ∧ 64 < (65 : Byte).toNat) ∧
    (∀ n : Fin 64, (paramTable[n.val]?).isSome = true) ∧
    (paramTable[0]? = some ⟨0, 0, 4000, true⟩ ∧ (pumping .roll).drive.pto ≠ .disengaged ∧ Ready (pumping .roll)) ∧
    (paramTable[12]? = some ⟨2, 0, 5, false⟩ ∧ 13 ≤ (12 : Fin 64).val + 1 ∧
      (12 : Fin 64).val + 1 ∉ [21, 22, 24, 27, 45, 46, 47, 48, 49, 52, 53, 54, 55]) ∧
    (paramTable[63]? = some ⟨1000, 200, 5000, false⟩ ∧
      (63 : Fin 64).val + 1 ∉ [21, 22, 24, 27, 45, 46, 47, 48, 49, 52, 53, 54, 55]) ∧
    (State.reset.drive.pto = .disengaged ∧ (0 : Fin 64).val = channelIndex .dischargeP ∧
      (11 : Fin 64).val = 6 + channelIndex .supplyV) ∧
    ((26 : Fin 64).val + 1 ∈ [27, 54, 55] ∧ (54 : Fin 64).val + 1 ∈ [27, 54, 55] ∧
      (paramTable[26]?).isSome = true ∧ (paramTable[54]?).isSome = true) ∧
    ((pumping .roll).interlock.mode = .pumpRoll ∧ State.reset.interlock.mode ≠ .pumpRoll) ∧
    (NotShifting State.reset ∧
      (let s := driven { startDrive with pto := .shifting }
       let t : State := { s with interlock := { s.interlock with conditions := trueConditions s } }
       ¬NotShifting t ∧ t.interlock.conditions = trueConditions t)) ∧
    (45 ≤ (44 : Fin 64).val + 1 ∧ (48 : Fin 64).val + 1 ≤ 49) := by decide

/-- R131: the default percentages, in their order. -/
theorem witness_percentages : (List.range 5).map (fun n => State.reset.param (45 + n)) = [95, 90, 85, 25, 5] := by decide

theorem witness_ReadingsAnswerTheState :
    Ready State.reset ∧ (∀ n ∈ [(1 : Byte), 7], 1 ≤ n.toNat ∧ n.toNat ≤ 7) ∧ 8 < (9 : Byte).toNat ∧
    (34 : Byte) ≠ 32 ∧ (34 : Byte) ≠ 33 := by decide

theorem witness_TableWritesReplaceTheirRecords :
    (Ready (pumping .roll) ∧ ([] : List AssignmentField).length ≤ 42 ∧ (pumping .roll).drive.pto ≠ .disengaged) ∧
    (Ready State.reset ∧ State.reset.drive.pto = .disengaged ∧
      (∀ f ∈ [(⟨15, 0, 0, 5, 0, 0⟩ : AssignmentField), ⟨32, 0, 0, 5, 0, 0⟩, ⟨16, 18, 0, 5, 0, 0⟩, ⟨16, 0, 2, 5, 0, 0⟩],
        f.terminal.toNat < 16 ∨ 32 ≤ f.terminal.toNat ∨ 18 ≤ f.role.toNat ∨ 2 ≤ f.polarity.toNat) ∧
      ¬([(⟨16, 8, 0, 5, 0, 0⟩ : AssignmentField), ⟨16, 8, 0, 5, 0, 0⟩].map (·.terminal)).Nodup) ∧
    -- a presence byte of 2, and T8 made GENERAL_OUT with no safe state and with a fourth one
    (2 ≤ (2 : Byte).toNat ∧
      ∀ f ∈ [(⟨23, 17, 0, 5, 0, 0⟩ : AssignmentField), ⟨23, 17, 0, 5, 1, 3⟩],
        f.role = BitVec.ofNat 8 Role.generalOut.ctorIdx ∧ (f.safePresent = 0 ∨ 3 ≤ f.safe.toNat)) ∧
    -- what a changed record leaves of an asserted input, of one that turns to an output, and of a pulse that loses its role
    (let i : InputState := ⟨true, some true, 3⟩
     inputAfter (startRecord 0) (startRecord 0) i = i ∧
     inputAfter (startRecord 0) { startRecord 0 with q := 6 } i = ⟨false, some true, 0⟩ ∧
     inputAfter (startRecord 0) (startRecord 8) i = ⟨false, none, 0⟩ ∧
     outputAfter { startRecord 0 with role := .generalOut } (startRecord 0) ⟨true, some 7⟩ = ⟨false, none⟩ ∧
     outputAfter { startRecord 0 with role := .generalOut } { startRecord 0 with role := .generalOut, q := 6 }
       ⟨true, some 7⟩ = ⟨true, some 7⟩) ∧
    -- T1's role asked for T2
    ((1 : Terminal) ≠ 0 ∧ State.reset.terminals.assignment[(0 : Terminal)].role = .parkBrake ∧
      (17 : Byte) = BitVec.ofNat 8 (16 + (1 : Terminal).val) ∧ (0 : Byte) = BitVec.ofNat 8 Role.parkBrake.ctorIdx) ∧
    -- T8 made GENERAL_OUT with safe state OFF and Q beyond its range
    (AssignmentSound State.reset ∧ (23 : Byte) = BitVec.ofNat 8 (16 + (7 : Terminal).val) ∧
      (17 : Byte) = BitVec.ofNat 8 Role.generalOut.ctorIdx ∧ (0 : Byte) = BitVec.ofNat 8 Polarity.activeHigh.ctorIdx ∧
      (1 : Byte).toNat ≤ 1 ∧ (2 : Byte).toNat ≤ 2) ∧
    -- tables refused for their length, a value, their order and their capacity, and one taken
    ([(⟨0, 0⟩ : PointField)].length < 2 ∧ 16 < (List.replicate 17 (⟨0, 0⟩ : PointField)).length ∧
      3000 < (3001 : BitVec 16).toNat ∧ 60000 < (60001 : BitVec 16).toNat ∧
      ([⟨9, 1⟩, ⟨9, 2⟩] : List PointField) = [] ++ ⟨9, 1⟩ :: ⟨9, 2⟩ :: [] ∧
      (∀ p ∈ ([⟨0, 0⟩, ⟨9, 0⟩] : List PointField), p.volume = 0)) := by decide

/-- Three records of one request: T1 and T2 exchange their roles, Q below and above its range, and T8 becomes GENERAL_OUT. -/
def threeFields : List AssignmentField := [⟨16, 1, 1, 0, 0, 0⟩, ⟨17, 0, 0, 16, 0, 0⟩, ⟨23, 17, 0, 5, 1, 2⟩]

/-- The records they write. -/
def threeRecords : List (Terminal × AssignRecord) :=
  [(0, ⟨.neutral, .activeLow, 1, none⟩), (1, ⟨.parkBrake, .activeHigh, 15, none⟩),
   (7, ⟨.generalOut, .activeHigh, 5, some .on⟩)]

theorem witness_several_records :
    Ready State.reset ∧ State.reset.drive.pto = .disengaged ∧ threeFields.length ≤ 42 ∧ threeRecords ≠ [] ∧
    (threeRecords.map (·.1)).Nodup ∧
    List.Forall₂ (fun (f : AssignmentField) (p : Terminal × AssignRecord) =>
      f.terminal = BitVec.ofNat 8 (16 + p.1.val) ∧ f.role = BitVec.ofNat 8 p.2.role.ctorIdx ∧
      f.polarity = BitVec.ofNat 8 p.2.polarity.ctorIdx ∧ p.2.q = max 1 (min f.q.toNat 15) ∧ f.safePresent.toNat ≤ 1 ∧
      (p.2.role = .generalOut → f.safePresent = 1 ∧
        ∃ x : SafeState, p.2.safe = some x ∧ f.safe = BitVec.ofNat 8 x.ctorIdx) ∧
      (p.2.role ≠ .generalOut → p.2.safe = none)) threeFields threeRecords ∧
    (let table := threeRecords.foldl (fun a p => a.set p.1 p.2) State.reset.terminals.assignment
     ∀ t w : Terminal, t ≠ w → isDedicated table[t].role = true → table[t].role ≠ table[w].role) ∧
    -- T2's role written to T1 alone stands on two terminals
    (let table := (threeRecords.take 1).foldl (fun a p => a.set p.1 p.2) State.reset.terminals.assignment
     (0 : Terminal) ≠ 1 ∧ table[(0 : Terminal)].role = table[(1 : Terminal)].role ∧
       isDedicated table[(0 : Terminal)].role = true) :=
  ⟨by decide, by decide, by decide, by decide, by decide,
   .cons ⟨by decide, by decide, by decide, by decide, by decide, by decide, by decide⟩
     (.cons ⟨by decide, by decide, by decide, by decide, by decide, by decide, by decide⟩
       (.cons ⟨by decide, by decide, by decide, by decide, by decide, fun _ => ⟨rfl, .on, rfl, rfl⟩, by decide⟩ .nil)),
   by decide, by decide⟩

theorem witness_volume_table_taken :
    let l : List PointField := [⟨0, 0⟩, ⟨3000, 60000⟩]
    2 ≤ l.length ∧ l.length ≤ 16 ∧ (∀ p ∈ l, p.level.toNat ≤ 3000 ∧ p.volume.toNat ≤ 60000) ∧
    (∀ a p q r, l = a ++ p :: q :: r → p.level.toNat < q.level.toNat ∧ p.volume.toNat ≤ q.volume.toNat) ∧
    (∃ p ∈ l, p.volume ≠ 0) := by
  refine ⟨by decide, by decide, by decide, ?_, by decide⟩
  intro a p q r h
  match a, h with
  | [], h => simp at h; obtain ⟨rfl, rfl, -⟩ := h; decide
  | [_], h => simp at h
  | _ :: _ :: _, h => simp at h

theorem witness_ClockMaskHoldAndTotals :
    (Ready State.reset ∧ (∀ b ∈ [(0 : Byte), 31], b.toNat < 32) ∧ [(0 : Byte), 31].length ≤ 32) ∧
    (32 ≤ (32 : Byte).toNat ∧ [(32 : Byte)].length + ([] : List Byte).length ≤ 251) ∧
    (let s : State := { State.reset with link := { startLink .powerOn with hold := true } }
     Ready s ∧ s.link.hold = true) ∧
    State.reset.link.hold = false ∧ (42 : Byte) ≠ 41 := by decide

/-- A trend record of an index. -/
def sampled (n : Nat) : TrendRecord := { snapshot State.reset with index := n }

/-- The part with two records in the ring, across the wrap of the index. -/
def trended : State :=
  { State.reset with trend := { startTrend with ring := [sampled 65535, sampled 0], nextIndex := 1 } }

theorem witness_TrendRingIsTakenAndRead :
    (Ready State.reset ∧ 8 < (9 : Byte).toNat ∧ (∀ n ∈ [(1 : Byte), 8], 1 ≤ n.toNat ∧ n.toNat ≤ 8)) ∧
    (State.reset.trend.ring = [] ∧ (1 : BitVec 16).toNat ≠ State.reset.trend.nextIndex ∧
      (0 : BitVec 16).toNat = State.reset.trend.nextIndex) ∧
    (Ready trended ∧ inRing trended.trend (2 : BitVec 16).toNat = false ∧ (2 : BitVec 16).toNat ≠ trended.trend.nextIndex ∧
      inRing trended.trend (65534 : BitVec 16).toNat = false ∧
      inRing trended.trend (1 : BitVec 16).toNat = false ∧ (1 : BitVec 16).toNat = trended.trend.nextIndex ∧
      trended.trend.ring.head? = some (sampled 65535) ∧ trended.trend.ring.getLast? = some (sampled 0)) ∧
    (inRing trended.trend (65535 : BitVec 16).toNat = true ∧ trended.trend.ring = [] ++ sampled 65535 :: [sampled 0] ∧
      (sampled 65535).index = (65535 : BitVec 16).toNat ∧
      ((sampled 65535 :: [sampled 0]).take 1).getLast? = some (sampled 65535) ∧
      (sampled 65535 :: [sampled 0]).getLast? = some (sampled 0) ∧ trended.trend.marker = none) ∧
    -- a marker out of the ring, one a read moves forward, and one an older read leaves
    (∀ m ∈ [65534, 65535, 0],
      let x : Trend := { trended.trend with marker := some m, armed := false }
      x.marker = some m ∧ (m = 65534 → ∀ y ∈ x.ring, y.index ≠ m)) ∧
    (trended.trend.ring = [] ++ sampled 65535 :: [sampled 0] ∧
      trended.trend.ring = [sampled 65535] ++ sampled 0 :: [] ∧ (sampled 65535).index ≠ (sampled 0).index ∧
      ∃ y ∈ [sampled 0], y.index = (sampled 0).index) := by decide

theorem test_unread :
    [none, some 65534, some 65535, some 0].map (fun m => unreadCount { trended.trend with marker := m }) = [2, 2, 1, 0] := by
  decide

/-! #### Invariants -/

/-- The pumping part with a command waiting. -/
def busy : State := { pumping .roll with pending := [.timeTagTick, .idle 4] }

theorem witness_invariants :
    DriveSound busy ∧ ModeFollowsPto busy ∧ OverspeedTimersPlaced busy ∧ LockoutWithinFixed busy ∧
    SupplyFollowsPto busy ∧ SupplyTimersPlaced busy.supply ∧ PhaseFollowsState busy.supply ∧ DemandBounded busy ∧
    ValvePairsApart busy ∧ BuffersBounded busy :=
  ⟨by decide, by decide, by decide, by decide, by decide, by decide, by decide, by decide, by decide, by decide⟩

theorem witness_invariants_of_settings :
    ParamsInRange busy ∧ ThresholdsOrdered busy ∧ AssignmentSound busy ∧ TotalSound busy.totals.incident ∧
    TankSound busy.tanks.main ∧ AlarmSound busy.alarm ∧ (∀ v ∈ allValves, ActuatorSound (busy.valve v)) :=
  ⟨by decide, by decide, by decide, by decide, by decide, by decide, by decide⟩

theorem witness_RecordsSound : RecordsSound busy :=
  ⟨by decide, by decide, by decide, by decide, by decide, by decide⟩

/-- A step of that part answers next, so the invariants' hypotheses are met together. -/
theorem witness_step : ∃ t, step busy = .next t := ⟨_, rfl⟩

end Sys2Proof.Tests
end

section
/-! PROOFS. Measurement and terminal inputs: the rounded quotient (spec 1.4), the scaling of a code in range (R2) and the
first scan of a channel (R1, R3). -/

namespace Sys2Proof.Machine

/-! ### The rounded quotient -/

/-- Half the divisor added before the division makes the floor the nearest whole number. -/
theorem two_mul_add_half_ediv_sub_le (n : Int) {d : Nat} (hd : 0 < d) :
    2 * (d * ((2 * n + d) / (2 * d)) - n).natAbs ≤ d := by
  have hdiv := Int.mul_ediv_add_emod (2 * n + d) (2 * d)
  have hnonneg := Int.emod_nonneg (2 * n + d) (b := 2 * d) (by omega)
  have hlt := Int.emod_lt_of_pos (2 * n + d) (b := 2 * d) (by omega)
  rw [mul_assoc] at hdiv
  omega

theorem two_mul_roundQuotient_sub_le (n : Int) {d : Nat} (hd : 0 < d) :
    2 * (d * roundQuotient n d - n).natAbs ≤ d := by
  unfold roundQuotient
  split
  · exact two_mul_add_half_ediv_sub_le n hd
  · have hmirror := two_mul_add_half_ediv_sub_le (-n) hd
    rw [mul_neg]
    omega

/-- An odd divisor leaves no half: twice the distance is even. -/
theorem two_mul_roundQuotient_sub_lt (n : Int) {d : Nat} (hd : d % 2 = 1) :
    2 * (d * roundQuotient n d - n).natAbs < d := by
  have hle := two_mul_roundQuotient_sub_le n (d := d) (by omega)
  omega

theorem le_roundQuotient {lo n : Int} {d : Nat} (hd : 0 < d) (h : d * lo ≤ n) : lo ≤ roundQuotient n d := by
  by_contra hlt
  have hnear := two_mul_roundQuotient_sub_le n hd
  have hstep : (d : Int) * roundQuotient n d ≤ d * (lo - 1) :=
    mul_le_mul_of_nonneg_left (by omega) (by omega)
  rw [mul_sub_one] at hstep
  omega

theorem roundQuotient_le {n hi : Int} {d : Nat} (hd : 0 < d) (h : n ≤ d * hi) : roundQuotient n d ≤ hi := by
  by_contra hlt
  have hnear := two_mul_roundQuotient_sub_le n hd
  have hstep : (d : Int) * (hi + 1) ≤ d * roundQuotient n d :=
    mul_le_mul_of_nonneg_left (by omega) (by omega)
  rw [mul_add_one] at hstep
  omega

theorem roundQuotient_mul {d : Nat} (hd : 0 < d) (m : Int) : roundQuotient (d * m) d = m :=
  le_antisymm (roundQuotient_le hd le_rfl) (le_roundQuotient hd le_rfl)

/-! ### The scaling of a code (R2) -/

theorem scaleCode_sub_zero (zero full : Int) (code : Nat) :
    scaleCode zero full code - zero = roundQuotient (((code : Int) - 40) * (full - zero)) 4015 :=
  add_sub_cancel_left ..

theorem scaleCode_near (zero full : Int) (code : Nat) :
    2 * (4015 * (scaleCode zero full code - zero) - ((code : Int) - 40) * (full - zero)).natAbs < 4015 := by
  rw [scaleCode_sub_zero]
  exact two_mul_roundQuotient_sub_lt _ rfl

/-- The product lies between 0 and 4015 spans, so its quotient between 0 and the span. -/
theorem scaleCode_mem_of_rising {zero full : Int} {code : Nat} (h₁ : 40 ≤ code) (h₂ : code ≤ 4055) (h : zero ≤ full) :
    zero ≤ scaleCode zero full code ∧ scaleCode zero full code ≤ full := by
  have hspan : 0 ≤ full - zero := by omega
  have hlo : 0 ≤ ((code : Int) - 40) * (full - zero) := mul_nonneg (by omega) hspan
  have hhi : ((code : Int) - 40) * (full - zero) ≤ 4015 * (full - zero) := mul_le_mul_of_nonneg_right (by omega) hspan
  have hq := scaleCode_sub_zero zero full code
  have hq₁ := le_roundQuotient (lo := 0) (d := 4015) (by decide) (by simpa using hlo)
  have hq₂ := roundQuotient_le (d := 4015) (by decide) hhi
  omega

theorem scaleCode_mem_of_falling {zero full : Int} {code : Nat} (h₁ : 40 ≤ code) (h₂ : code ≤ 4055) (h : full ≤ zero) :
    full ≤ scaleCode zero full code ∧ scaleCode zero full code ≤ zero := by
  have hspan : full - zero ≤ 0 := by omega
  have hlo : 4015 * (full - zero) ≤ ((code : Int) - 40) * (full - zero) :=
    mul_le_mul_of_nonpos_right (by omega) hspan
  have hhi : ((code : Int) - 40) * (full - zero) ≤ 0 := mul_nonpos_of_nonneg_of_nonpos (by omega) hspan
  have hq := scaleCode_sub_zero zero full code
  have hq₁ := le_roundQuotient (d := 4015) (by decide) hlo
  have hq₂ := roundQuotient_le (hi := 0) (d := 4015) (by decide) (by simpa using hhi)
  omega

theorem scaleCode_first (zero full : Int) : scaleCode zero full 40 = zero := by
  have hprod : (((40 : Nat) : Int) - 40) * (full - zero) = (4015 : Nat) * 0 := by simp
  rw [scaleCode, hprod, roundQuotient_mul (by decide), add_zero]

theorem scaleCode_last (zero full : Int) : scaleCode zero full 4055 = full := by
  have hprod : (((4055 : Nat) : Int) - 40) * (full - zero) = (4015 : Nat) * (full - zero) := rfl
  rw [scaleCode, hprod, roundQuotient_mul (by decide), add_sub_cancel]

/-! ### A channel's first code in range (R1, R3) -/

theorem inRange_iff (code : Nat) : inRange code = true ↔ 40 ≤ code ∧ code ≤ 4055 := by
  simp [inRange]

theorem scanRecord_of_inRange {s : State} {c : AnalogChannel} {code : Nat} {r : ChannelRecord} (h₁ : 40 ≤ code)
    (h₂ : code ≤ 4055) :
    scanRecord s c code r =
      goodCode (filterShift s c) (scaleCode (zeroValue s c) (fullValue s c) code) (publishHeld (zeroValue s c) r) :=
  if_pos ((inRange_iff code).2 ⟨h₁, h₂⟩)

theorem publishHeld_of_ok {zero : Int} {r : ChannelRecord} (h : r.health = .ok) : publishHeld zero r = r := by
  simp only [publishHeld, h]

theorem goodCode_published_of_ok {k : Nat} {x : Int} {r : ChannelRecord} (h : r.health = .ok) :
    (goodCode k x r).published = filterStep k x r.filtered := by
  simp only [goodCode, h]

@[simp] theorem filterStep_none (k : Nat) (x : Int) : filterStep k x none = x := rfl

theorem scanRecord_published_of_seeding {s : State} {c : AnalogChannel} {code : Nat} {r : ChannelRecord}
    (h₁ : 40 ≤ code) (h₂ : code ≤ 4055) (hok : r.health = .ok) (hnone : r.filtered = none) :
    (scanRecord s c code r).published = scaleCode (zeroValue s c) (fullValue s c) code := by
  rw [scanRecord_of_inRange h₁ h₂, publishHeld_of_ok hok, goodCode_published_of_ok hok, hnone, filterStep_none]

/-- Settles O14: the quotient is the nearest whole number at an odd divisor, which bounds the scaled value and fixes it at
both ends of the band; the first code of an OK channel publishes it. -/
theorem scaledValueIsRounded : Obligations.ScaledValueIsRounded :=
  ⟨fun zero full code h₁ h₂ =>
    ⟨scaleCode_near zero full code, scaleCode_mem_of_rising h₁ h₂, scaleCode_mem_of_falling h₁ h₂⟩,
    fun zero full => ⟨scaleCode_first zero full, scaleCode_last zero full⟩,
    by decide,
    fun _ _ _ _ h₁ h₂ hok hnone => scanRecord_published_of_seeding h₁ h₂ hok hnone⟩

end Sys2Proof.Machine
end

section
/-! PROOFS. Operating modes and the road lockout: what a judgement finds (R42), which guarded requests come to one, and how
a request it refuses is answered (R200). -/

namespace Sys2Proof.Machine

/-! ### What a judgement finds (R42) -/

theorem judge_of_mode_not_mem {s : State} {k : GuardedKind} (hmode : s.interlock.mode ∉ (s.entry k).modes) :
    judge s k = .wrongMode s.interlock.mode :=
  if_pos hmode

theorem judge_of_failingConditions_eq_nil {s : State} {k : GuardedKind} (hmode : s.interlock.mode ∈ (s.entry k).modes)
    (hnone : failingConditions s k = []) : judge s k = .passed := by
  rw [judge, if_neg (not_not_intro hmode), hnone]

theorem judge_of_failingConditions_ne_nil {s : State} {k : GuardedKind} (hmode : s.interlock.mode ∈ (s.entry k).modes)
    (hsome : failingConditions s k ≠ []) : judge s k = .failing (failingConditions s k) := by
  rw [judge, if_neg (not_not_intro hmode)]
  split
  · contradiction
  · rfl

theorem failingConditions_eq_nil_iff (s : State) (k : GuardedKind) :
    failingConditions s k = [] ↔ ∀ c ∈ (s.entry k).conds, conditionHolds s c = true := by
  simp [List.eq_nil_iff_forall_not_mem, mem_failingConditions]

/-! ### Answers left to a judgement -/

/-- The answer is that of a request judged under the kind, whatever the request does where the judgement passes. -/
def GuardedBy (k : GuardedKind) (s : State) (x : Answer) : Prop := ∃ taken : Answer, x = guarded k s taken

theorem guardedBy_guarded (k : GuardedKind) (s : State) (taken : Answer) : GuardedBy k s (guarded k s taken) :=
  ⟨taken, rfl⟩

theorem GuardedBy.eq_of_wrongMode {k : GuardedKind} {s : State} {x : Answer} {m : OpMode} (h : GuardedBy k s x)
    (hj : judge s k = .wrongMode m) : x = ⟨s, .refused, [0, BitVec.ofNat 8 m.ctorIdx]⟩ := by
  obtain ⟨taken, rfl⟩ := h
  simp only [guarded, hj, codeByte]

theorem GuardedBy.eq_of_failing {k : GuardedKind} {s : State} {x : Answer} {l : List Condition} (h : GuardedBy k s x)
    (hj : judge s k = .failing l) : x = ⟨s, .refused, 1 :: conditionBytes l⟩ := by
  obtain ⟨taken, rfl⟩ := h
  simp only [guarded, hj]

/-! ### The guarded requests (R41) -/

theorem guardedBy_engage {s : State} {b : Byte} {kind : Kind} (hkind : kindOfCode b = some kind)
    (hpto : s.drive.pto = .disengaged) : GuardedBy (engageEntry kind) s (act (.engage b) s) := by
  simp only [act, actEngage, hkind, hpto, ne_eq, not_true_eq_false, if_false]
  exact guardedBy_guarded ..

theorem guardedBy_changeKind {b : Byte} {kind : Kind} (s : State) (hkind : kindOfCode b = some kind) :
    GuardedBy (changeEntry kind) s (act (.changeKind b) s) := by
  simp only [act, actChangeKind, hkind]
  exact guardedBy_guarded ..

theorem guardedBy_supplyToHydrant {s : State} (h : s.supply.state = .tank ∨ s.supply.state = .noSupply) :
    GuardedBy .supplyHydrant s (supplyToHydrant s) := by
  unfold supplyToHydrant
  rcases h with h | h <;> rw [h] <;> exact guardedBy_guarded ..

theorem guardedBy_supplyToDraft {s : State} (h : s.supply.state = .tank) :
    GuardedBy .supplyDraft s (supplyToDraft s) := by
  unfold supplyToDraft
  rw [h]
  exact guardedBy_guarded ..

theorem guardedBy_fillStart {b : Byte} {t : Tank} (s : State) (htank : tankOfCode b = some t) :
    GuardedBy .fillStart s (act (.fillStart b) s) := by
  simp only [act, actFillStart, htank]
  exact guardedBy_guarded ..

theorem guardedBy_writeSetting {s : State} {x : Setting} (adjusted : Bool) (hraise : isRaise s.governor.shadow x = true) :
    GuardedBy .raiseSetpoint s (writeSetting x adjusted s) := by
  rw [writeSetting, if_pos hraise]
  exact guardedBy_guarded ..

theorem lt_clampSetpoint {lo hi d : Int} {n : Nat} (hlohi : lo ≤ hi) (hn : n < hi) (hd : 0 < d) :
    n < (clampSetpoint lo hi (n + d)).1 := by
  simp only [clampSetpoint, clampTo_eq lo hi _ hlohi]
  omega

/-- Below the top of its range a step up lifts the setpoint, and from IDLE it leaves IDLE: both are raises (R80). -/
theorem guardedBy_stepUp {s : State} (h : s.governor.shadow = .idle ∨
      (∃ p, p < 2400 ∧ s.governor.shadow = .pressure p) ∨ ∃ r, r < 3000 ∧ s.governor.shadow = .speed r) :
    GuardedBy .raiseSetpoint s (stepUp s) := by
  obtain h | ⟨p, hp, h⟩ | ⟨r, hr, h⟩ := h <;> simp only [stepUp, h] <;> apply guardedBy_writeSetting <;> rw [h]
  case inl => rfl
  case inr.inl =>
    have hlift : p < (clampSetpoint 300 2400 (p + 35)).1 := lt_clampSetpoint (by decide) (by omega) (by decide)
    simpa only [isRaise, decide_eq_true_eq] using hlift
  case inr.inr =>
    have hlift : r < (clampSetpoint 700 3000 (r + 25)).1 := lt_clampSetpoint (by decide) (by omega) (by decide)
    simpa only [isRaise, decide_eq_true_eq] using hlift

theorem terminalOfCode_terminalCode (t : Terminal) : terminalOfCode (BitVec.ofNat 8 (terminalCode t)) = some t := by
  revert t
  decide

theorem generalOutOfCode_terminalCode {s : State} {t : Terminal}
    (hrole : s.terminals.assignment[t].role = .generalOut) :
    generalOutOfCode s (BitVec.ofNat 8 (terminalCode t)) = some t := by
  rw [generalOutOfCode, terminalOfCode_terminalCode, Option.filter_some, hrole]
  rfl

theorem exists_settingOfCode {b : Byte} (hb : b.toNat < 2) : ∃ on, settingOfCode b = some on := by
  unfold settingOfCode
  obtain h | h : b.toNat = 0 ∨ b.toNat = 1 := by omega
  all_goals rw [h]; exact ⟨_, rfl⟩

theorem guardedBy_setOutput {s : State} {t : Terminal} {b : Byte}
    (hrole : s.terminals.assignment[t].role = .generalOut) (hb : b.toNat < 2) :
    GuardedBy .generalOutput s (act (.setOutput (BitVec.ofNat 8 (terminalCode t)) b) s) := by
  obtain ⟨on, hon⟩ := exists_settingOfCode hb
  simp only [act, actSetOutput, generalOutOfCode_terminalCode hrole, hon]
  exact guardedBy_guarded ..

theorem guardedBy_pulseOutput {s : State} {t : Terminal} (n : BitVec 16)
    (hrole : s.terminals.assignment[t].role = .generalOut) :
    GuardedBy .generalOutput s (act (.pulseOutput (BitVec.ofNat 8 (terminalCode t)) n) s) := by
  simp only [act, actPulseOutput, generalOutOfCode_terminalCode hrole]
  exact guardedBy_guarded ..

/-! ### A refusal (R42, R200) -/

/-- No judgement looks at the link or at the model's free choices. -/
theorem judge_holdRequest_fresh (s : State) (code tag : Byte) (k : GuardedKind) :
    judge (holdRequest code tag s.fresh) k = judge s k := rfl

/-- A request whose unit changes nothing leaves the state as it stood, with the request in hand and its reply ready. -/
theorem exec_of_act_unchanged {i : Instr} {tag code : Byte} {r : Request} {s : State} {res : Result} {body : List Byte}
    (hi : i.request? = some (tag, r)) (hcode : r.code = code) (hr : r.wellFormed = true) (hs : Ready s)
    (hact : act r (holdRequest code tag s.fresh) = ⟨holdRequest code tag s.fresh, res, body⟩) :
    exec i s = .next (finish (s.fresh.answered code tag res body)) := by
  rw [exec_of_request i s tag r hi, present_ready tag r s hr hs, takeRequest_eq, hcode, hact]
  rfl

theorem exec_of_guardedBy {i : Instr} {tag code : Byte} {r : Request} {k : GuardedKind} {s : State}
    (hi : i.request? = some (tag, r)) (hcode : r.code = code) (hr : r.wellFormed = true) (hs : Ready s)
    (h : GuardedBy k (holdRequest code tag s.fresh) (act r (holdRequest code tag s.fresh))) :
    (∀ m, judge s k = .wrongMode m →
      exec i s = .next (finish (s.fresh.answered code tag .refused [0, BitVec.ofNat 8 m.ctorIdx]))) ∧
    ∀ l, judge s k = .failing l →
      exec i s = .next (finish (s.fresh.answered code tag .refused (1 :: conditionBytes l))) :=
  ⟨fun _ hj => exec_of_act_unchanged hi hcode hr hs (h.eq_of_wrongMode ((judge_holdRequest_fresh ..).trans hj)),
    fun _ hj => exec_of_act_unchanged hi hcode hr hs (h.eq_of_failing ((judge_holdRequest_fresh ..).trans hj))⟩

/-- Settles O27: a judgement is decided by the mode and by whether a required condition fails; each listed request leaves its
answer to the judgement, and a refusal by it is the state as it stood with the detail. -/
theorem judgementDecidesGuardedRequests : Obligations.JudgementDecidesGuardedRequests := by
  constructor
  · intro s k
    refine ⟨judge_of_mode_not_mem,
      fun hmode hall => judge_of_failingConditions_eq_nil hmode ((failingConditions_eq_nil_iff s k).2 hall),
      fun hmode hnot => ?_⟩
    have hsome : failingConditions s k ≠ [] := mt (failingConditions_eq_nil_iff s k).1 hnot
    exact ⟨failingConditions s k, judge_of_failingConditions_ne_nil hmode hsome, hsome, List.filter_sublist,
      mem_failingConditions s k⟩
  · intro s i tag code k hs hform
    obtain ⟨rfl, rfl, rfl, hpto⟩ | ⟨rfl, rfl, rfl, hpto⟩ | ⟨rfl, rfl, rfl⟩ | ⟨rfl, rfl, rfl⟩ | ⟨rfl, rfl, rfl, hsupply⟩ |
      ⟨rfl, rfl, rfl, hsupply⟩ | ⟨rfl, rfl, rfl⟩ | ⟨rfl, rfl, rfl⟩ | ⟨rfl, rfl, rfl⟩ | ⟨v, rfl, rfl, rfl, hraise⟩ |
      ⟨v, rfl, rfl, rfl, hraise⟩ | ⟨rfl, rfl, rfl, hshadow⟩ |
      ⟨t, hrole, rfl, ⟨b, hb, rfl, rfl⟩ | ⟨n, rfl, rfl⟩⟩ := hform
    · exact exec_of_guardedBy rfl rfl rfl hs (guardedBy_engage (kind := .stationary) rfl hpto)
    · exact exec_of_guardedBy rfl rfl rfl hs (guardedBy_engage (kind := .roll) rfl hpto)
    · exact exec_of_guardedBy rfl rfl rfl hs (guardedBy_changeKind (kind := .stationary) _ rfl)
    · exact exec_of_guardedBy rfl rfl rfl hs (guardedBy_changeKind (kind := .roll) _ rfl)
    · exact exec_of_guardedBy rfl rfl rfl hs (guardedBy_supplyToHydrant hsupply)
    · exact exec_of_guardedBy rfl rfl rfl hs (guardedBy_supplyToDraft hsupply)
    · exact exec_of_guardedBy rfl rfl rfl hs (guardedBy_guarded ..)
    · exact exec_of_guardedBy rfl rfl rfl hs (guardedBy_fillStart (t := .main) _ rfl)
    · exact exec_of_guardedBy rfl rfl rfl hs (guardedBy_fillStart (t := .reserve) _ rfl)
    · exact exec_of_guardedBy rfl rfl rfl hs (guardedBy_writeSetting _ hraise)
    · exact exec_of_guardedBy rfl rfl rfl hs (guardedBy_writeSetting _ hraise)
    · exact exec_of_guardedBy rfl rfl rfl hs (guardedBy_stepUp hshadow)
    · exact exec_of_guardedBy rfl rfl rfl hs (guardedBy_setOutput hrole hb)
    · exact exec_of_guardedBy rfl rfl rfl hs (guardedBy_pulseOutput n hrole)

end Sys2Proof.Machine
end

section
/-! PROOFS. The pressure governor: the step a setpoint is stored on (R79), what a shadow write changes and what it leaves
unchanged (R81, R85, R86, R91), and how a taken write is answered (R84, R200). -/

namespace Sys2Proof.Machine

/-! ### The nearest step of a range (R79) -/

/-- Half of an odd step added before the division makes the floor the nearest multiple. -/
theorem two_mul_nearestMultiple_sub_lt {d : Nat} (hd : d % 2 = 1) (c : Nat) :
    2 * ((((c + d / 2) / d * d : Nat) : Int) - c).natAbs < d := by
  have hdiv := Nat.div_add_mod' (c + d / 2) d
  have hlt := Nat.mod_lt (c + d / 2) (y := d) (by omega)
  omega

theorem le_nearestMultiple {lo c d : Nat} (hlo : d ∣ lo) (h : lo ≤ c) : lo ≤ (c + d / 2) / d * d :=
  calc lo = lo / d * d := (Nat.div_mul_cancel hlo).symm
    _ ≤ (c + d / 2) / d * d := Nat.mul_le_mul_right d (Nat.div_le_div_right (by omega))

theorem nearestMultiple_le {hi c d : Nat} (hd : 0 < d) (hhi : d ∣ hi) (h : c ≤ hi) : (c + d / 2) / d * d ≤ hi := by
  obtain ⟨k, rfl⟩ := hhi
  have hquot : (c + d / 2) / d < k + 1 := by
    rw [Nat.div_lt_iff_lt_mul hd, Nat.succ_mul, Nat.mul_comm k d]
    omega
  rw [Nat.mul_comm d k]
  exact Nat.mul_le_mul_right d (Nat.le_of_lt_succ hquot)

/-- A range whose ends lie on the step keeps the nearest multiple of each value clamped to it. -/
theorem nearestMultiple_of_clamped {lo hi d : Nat} (hd : d % 2 = 1) (hlo : d ∣ lo) (hhi : d ∣ hi) (h : lo ≤ hi) (v : Nat) :
    let n := (min (max v lo) hi + d / 2) / d * d
    lo ≤ n ∧ n ≤ hi ∧ n % d = 0 ∧ 2 * ((n : Int) - (max lo (min v hi) : Nat)).natAbs < d := by
  have hclamp : max lo (min v hi) = min (max v lo) hi := by omega
  rw [hclamp]
  exact ⟨le_nearestMultiple hlo (by omega), nearestMultiple_le (by omega) hhi (by omega), Nat.mul_mod_left ..,
    two_mul_nearestMultiple_sub_lt hd _⟩

theorem storedPressure_nearest (v : Nat) :
    300 ≤ storedPressure v ∧ storedPressure v ≤ 2400 ∧ storedPressure v % 5 = 0 ∧
      2 * ((storedPressure v : Int) - (max 300 (min v 2400) : Nat)).natAbs < 5 :=
  nearestMultiple_of_clamped (lo := 300) (hi := 2400) (d := 5) (by decide) (by decide) (by decide) (by decide) v

theorem storedSpeed_nearest (v : Nat) :
    700 ≤ storedSpeed v ∧ storedSpeed v ≤ 3000 ∧ storedSpeed v % 25 = 0 ∧
      2 * ((storedSpeed v : Int) - (max 700 (min v 3000) : Nat)).natAbs < 25 :=
  nearestMultiple_of_clamped (lo := 700) (hi := 3000) (d := 25) (by decide) (by decide) (by decide) (by decide) v

/-! ### What a derivation, an override and a shadow write change (R85, R86, R91, R94) -/

theorem deriveFreeze_frame (g : Governor) :
    ∃ frozen reseed, deriveFreeze g = { g with frozen := frozen, reseed := reseed } := by
  unfold deriveFreeze
  split
  · split <;> exact ⟨_, _, rfl⟩
  · exact ⟨_, _, rfl⟩

theorem derivePair_frame (s : State) :
    ∃ frozen reseed, derivePair s = { s with governor := { s.governor with
      active := derivedPair s s.governor, source := governingSource s.governor, frozen := frozen, reseed := reseed } } := by
  obtain ⟨frozen, reseed, h⟩ := deriveFreeze_frame { s.governor with
    active := derivedPair s s.governor, source := governingSource s.governor
    reseed := s.governor.reseed || needsReseed s.governor (derivedPair s s.governor) (governingSource s.governor) }
  exact ⟨frozen, reseed, congrArg (fun g => { s with governor := g }) h⟩

/-- An order to begin an override keeps the shadow, the controller's records and every override in the set. -/
theorem beginOverride_frame (k : OverrideKind) (s : State) :
    ∃ (g : Governor) (n : Notices) (x : Option TxFrame),
      g = { s.governor with
        active := g.active, overrides := g.overrides, source := g.source, frozen := g.frozen, reseed := g.reseed } ∧
      (∀ j ∈ s.governor.overrides, j ∈ g.overrides) ∧
      beginOverride k s = { s with governor := g, notices := n, tx := x } := by
  unfold beginOverride
  split
  · obtain ⟨frozen, reseed, hderive⟩ := derivePair_frame
      (s.modGovernor fun g => { g with overrides := insertIn allOverrides k g.overrides })
    rw [hderive]
    obtain ⟨n, x, -, -, hrecord⟩ := record_frame .overrideChanged _ _
    refine ⟨_, n, x, ?_, ?_, hrecord⟩
    · rfl
    · intro j hj
      exact (mem_insertIn ..).2 ⟨mem_allOverrides j, .inr hj⟩
  · exact ⟨s.governor, s.notices, s.tx, rfl, fun _ hj => hj, rfl⟩

theorem tryFallback_frame (s : State) :
    ∃ (g : Governor) (n : Notices) (x : Option TxFrame),
      g = { s.governor with
        active := g.active, overrides := g.overrides, captured := g.captured, source := g.source, frozen := g.frozen
        reseed := g.reseed } ∧
      (∀ j ∈ s.governor.overrides, j ∈ g.overrides) ∧
      tryFallback s = { s with governor := g, notices := n, tx := x } := by
  unfold tryFallback
  split
  · obtain ⟨g, n, x, hg, hmem, hbegin⟩ := beginOverride_frame .sensorFallback
      (s.modGovernor fun g => { g with captured := some (capturedSpeed s.engineSpeed) })
    refine ⟨g, n, x, ?_, hmem, hbegin⟩
    rw [hg]
    rfl
  · exact ⟨s.governor, s.notices, s.tx, rfl, fun _ hj => hj, rfl⟩

/-- A taken shadow write stores the shadow and keeps the demand and the accumulator; outside the governor it changes
nothing but the notices. -/
theorem takeShadow_frame (x : Setting) (s : State) :
    ∃ (g : Governor) (n : Notices) (tx : Option TxFrame),
      g = { s.governor with
        shadow := x, active := g.active, overrides := g.overrides, captured := g.captured, source := g.source
        frozen := g.frozen, reseed := g.reseed } ∧
      (∀ j ∈ s.governor.overrides, j ∈ g.overrides) ∧
      takeShadow x s = { s with governor := g, notices := n, tx := tx } := by
  obtain ⟨g, n, tx, hg, hmem, htry⟩ := tryFallback_frame (writeShadow x s)
  obtain ⟨frozen, reseed, hderive⟩ := derivePair_frame (tryFallback (writeShadow x s))
  rw [takeShadow, hderive, htry]
  refine ⟨_, n, tx, ?_, ?_, rfl⟩
  · rw [hg]
    rfl
  · exact hmem

theorem takeShadow_shadow (x : Setting) (s : State) : (takeShadow x s).governor.shadow = x := by
  obtain ⟨g, n, tx, hg, -, htake⟩ := takeShadow_frame x s
  rw [htake, hg]

theorem takeShadow_link (x : Setting) (s : State) : (takeShadow x s).link = s.link := by
  obtain ⟨g, n, tx, -, -, htake⟩ := takeShadow_frame x s
  rw [htake]

/-! ### How a setpoint request is answered (R80, R84) -/

theorem act_setPressure (v : BitVec 16) (s : State) : act (.setPressure v) s =
    writeSetting (.pressure (storedPressure v.toNat)) (decide (storedPressure v.toNat ≠ v.toNat)) s := by
  rw [decide_not]
  rfl

theorem act_setSpeed (v : BitVec 16) (s : State) : act (.setSpeed v) s =
    writeSetting (.speed (storedSpeed v.toNat)) (decide (storedSpeed v.toNat ≠ v.toNat)) s := by
  rw [decide_not]
  rfl

theorem guarded_of_passed {k : GuardedKind} {s : State} (taken : Answer) (h : judge s k = .passed) :
    guarded k s taken = taken := by
  simp only [guarded, h]

theorem writeSetting_of_taken {s : State} {x : Setting} (adjusted : Bool)
    (h : isRaise s.governor.shadow x = false ∨ judge s .raiseSetpoint = .passed) :
    writeSetting x adjusted s = shadowAnswer x adjusted s := by
  unfold writeSetting
  split
  · next hraise =>
    exact guarded_of_passed _ (h.resolve_left (by simp [hraise]))
  · rfl

theorem shadowResult_of_overrides_eq_nil {s : State} (adjusted : Bool) (h : s.governor.overrides = []) :
    shadowResult adjusted s = if adjusted then .adjusted else .ok :=
  if_neg fun hdeferred => hdeferred.1 h

/-- The state a taken shadow write leaves, its request in hand. -/
def shadowWritten (code tag : Byte) (x : Setting) (s : State) : State := takeShadow x (holdRequest code tag s.fresh)

theorem shadowWritten_shadow (code tag : Byte) (x : Setting) (s : State) :
    (shadowWritten code tag x s).governor.shadow = x :=
  takeShadow_shadow ..

theorem shadowWritten_inHand (code tag : Byte) (x : Setting) (s : State) :
    (shadowWritten code tag x s).link.inHand = some ⟨code, tag⟩ := by
  rw [shadowWritten, takeShadow_link]
  rfl

/-- A request taken at once leaves what its unit leaves, answered, where the unit keeps it in hand. -/
theorem exec_of_act {i : Instr} {tag code : Byte} {r : Request} {s u : State} {res : Result} {body : List Byte}
    (hi : i.request? = some (tag, r)) (hcode : r.code = code) (hr : r.wellFormed = true) (hs : Ready s)
    (hact : act r (holdRequest code tag s.fresh) = ⟨u, res, body⟩) (hhand : u.link.inHand = some ⟨code, tag⟩) :
    exec i s = .next (finish (u.answered code tag res body)) := by
  rw [exec_of_request i s tag r hi, present_ready tag r s hr hs, takeRequest_eq, hcode, hact, State.answered, ← hhand]

/-- A setpoint request that is no raise, or whose raise passes, is taken and answered. -/
theorem exec_setpoint {s : State} {i : Instr} {tag code : Byte} {v : BitVec 16} {x : Setting} {adjusted : Bool}
    (hs : Ready s)
    (hform : (i = .setPressure tag v ∧ code = 22 ∧ x = .pressure (storedPressure v.toNat) ∧
        adjusted = decide (storedPressure v.toNat ≠ v.toNat)) ∨
      (i = .setSpeed tag v ∧ code = 23 ∧ x = .speed (storedSpeed v.toNat) ∧
        adjusted = decide (storedSpeed v.toNat ≠ v.toNat)))
    (htaken : isRaise s.governor.shadow x = false ∨ judge s .raiseSetpoint = .passed) :
    exec i s = .next (finish ((shadowWritten code tag x s).answered code tag
      (shadowResult adjusted (shadowWritten code tag x s)) (setpointBytes (shadowWritten code tag x s)))) := by
  have hwrite : writeSetting x adjusted (holdRequest code tag s.fresh) =
      shadowAnswer x adjusted (holdRequest code tag s.fresh) := writeSetting_of_taken adjusted htaken
  obtain ⟨rfl, rfl, rfl, rfl⟩ | ⟨rfl, rfl, rfl, rfl⟩ := hform
  · exact exec_of_act rfl rfl rfl hs ((act_setPressure ..).trans hwrite) (shadowWritten_inHand ..)
  · exact exec_of_act rfl rfl rfl hs ((act_setSpeed ..).trans hwrite) (shadowWritten_inHand ..)

/-- Settles O23: clamping to a range whose ends lie on the odd step and rounding half up is the nearest step, and a taken
write leaves the stored value as the shadow and answers ADJUSTED where it differs from the value written. -/
theorem setpointsAreStoredOnTheirStep : Obligations.SetpointsAreStoredOnTheirStep :=
  ⟨storedPressure_nearest, storedSpeed_nearest, by decide, fun s _ tag code _ x adjusted hs hform htaken =>
    ⟨shadowWritten code tag x s, shadowResult adjusted (shadowWritten code tag x s), exec_setpoint hs hform htaken,
      shadowWritten_shadow .., shadowResult_of_overrides_eq_nil adjusted⟩⟩

end Sys2Proof.Machine
end

section
/-! PROOFS. The volume a tank's table gives for a level (R127): the points that decide it, and how it grows with
the level. -/

namespace Sys2Proof.Machine

/-! ### The order of the points (R126) -/

/-- One point after another, as R126 orders them. -/
def PointOrder (p q : Nat × Nat) : Prop := p.1 < q.1 ∧ p.2 ≤ q.2

theorem PointOrder.trans {p q r : Nat × Nat} (h : PointOrder p q) (h' : PointOrder q r) : PointOrder p r :=
  ⟨h.1.trans h'.1, h.2.trans h'.2⟩

theorem ascending_cons_cons {p q : Nat × Nat} {l : List (Nat × Nat)} :
    ascending (p :: q :: l) = true ↔ PointOrder p q ∧ ascending (q :: l) = true := by
  simp only [ascending, PointOrder, Bool.and_eq_true, decide_eq_true_eq]

theorem ascending_iff_isChain (l : List (Nat × Nat)) : ascending l = true ↔ l.IsChain PointOrder := by
  induction l with
  | nil => simp [ascending]
  | cons p l ih =>
    cases l with
    | nil => simp [ascending]
    | cons q l => rw [ascending_cons_cons, ih, List.isChain_cons_cons]

theorem pointOrder_of_ascending {p q : Nat × Nat} {l : List (Nat × Nat)} (h : ascending (p :: l) = true) (hq : q ∈ l) :
    PointOrder p q :=
  haveI : IsTrans (Nat × Nat) PointOrder := ⟨fun _ _ _ => PointOrder.trans⟩
  List.rel_of_pairwise_cons ((ascending_iff_isChain _).1 h).pairwise hq

/-! ### The points that decide the volume -/

theorem tableVolume_of_lt_head {p : Nat × Nat} {h : Nat} (hp : h < p.1) (l : List (Nat × Nat)) :
    tableVolume (p :: l) h = p.2 := by
  cases l with
  | nil => rfl
  | cons q l => exact if_pos hp

theorem tableVolume_between {p q : Nat × Nat} {h : Nat} (hp : p.1 ≤ h) (hq : h < q.1) (l : List (Nat × Nat)) :
    tableVolume (p :: q :: l) h = p.2 + (q.2 - p.2) * (h - p.1) / (q.1 - p.1) := by
  rw [tableVolume, if_neg hp.not_gt, if_pos hq]

theorem tableVolume_tail {p q : Nat × Nat} {h : Nat} (hpq : PointOrder p q) (hq : q.1 ≤ h) (l : List (Nat × Nat)) :
    tableVolume (p :: q :: l) h = tableVolume (q :: l) h := by
  rw [tableVolume, if_neg (hpq.1.le.trans hq).not_gt, if_neg hq.not_gt]

/-- Points in front of one at or below the level do not count. -/
theorem tableVolume_append {l r : List (Nat × Nat)} {p : Nat × Nat} {h : Nat} (hasc : ascending (l ++ p :: r) = true)
    (hp : p.1 ≤ h) : ascending (p :: r) = true ∧ tableVolume (l ++ p :: r) h = tableVolume (p :: r) h := by
  induction l with
  | nil => exact ⟨hasc, rfl⟩
  | cons a l ih =>
    cases l with
    | nil =>
      obtain ⟨hap, htail⟩ := ascending_cons_cons.1 hasc
      exact ⟨htail, tableVolume_tail hap hp r⟩
    | cons b l =>
      obtain ⟨hab, htail⟩ := ascending_cons_cons.1 hasc
      have hbp : PointOrder b p := pointOrder_of_ascending htail (by simp)
      obtain ⟨hpr, hvolume⟩ := ih htail
      exact ⟨hpr, (tableVolume_tail hab (hbp.1.le.trans hp) _).trans hvolume⟩

theorem tableVolume_head {p : Nat × Nat} {l : List (Nat × Nat)} (hasc : ascending (p :: l) = true) :
    tableVolume (p :: l) p.1 = p.2 := by
  cases l with
  | nil => rfl
  | cons q l =>
    obtain ⟨hpq, -⟩ := ascending_cons_cons.1 hasc
    simp [tableVolume_between le_rfl hpq.1]

/-! ### Never less for a higher level -/

theorem tableVolume_le_of_lt {p q : Nat × Nat} {h : Nat} (hpq : PointOrder p q) (hq : h < q.1) (l : List (Nat × Nat)) :
    tableVolume (p :: q :: l) h ≤ q.2 := by
  obtain hp | hp := Nat.lt_or_ge h p.1
  · exact (tableVolume_of_lt_head hp _).trans_le hpq.2
  · have hpart : (q.2 - p.2) * (h - p.1) / (q.1 - p.1) ≤ q.2 - p.2 :=
      Nat.div_le_of_le_mul (by rw [Nat.mul_comm]; exact Nat.mul_le_mul_right _ (by omega))
    have hvolumes : p.2 ≤ q.2 := hpq.2
    rw [tableVolume_between hp hq]
    omega

theorem le_tableVolume {p : Nat × Nat} {l : List (Nat × Nat)} (hasc : ascending (p :: l) = true) (h : Nat) :
    p.2 ≤ tableVolume (p :: l) h := by
  induction l generalizing p with
  | nil => exact le_rfl
  | cons q l ih =>
    obtain ⟨hpq, htail⟩ := ascending_cons_cons.1 hasc
    obtain hp | hp := Nat.lt_or_ge h p.1
    · exact (tableVolume_of_lt_head hp _).ge
    obtain hq | hq := Nat.lt_or_ge h q.1
    · exact (Nat.le_add_right ..).trans_eq (tableVolume_between hp hq l).symm
    · exact (hpq.2.trans (ih htail)).trans_eq (tableVolume_tail hpq hq l).symm

theorem tableVolume_mono {l : List (Nat × Nat)} {h k : Nat} (hasc : ascending l = true) (hk : h ≤ k) :
    tableVolume l h ≤ tableVolume l k := by
  induction l with
  | nil => exact le_rfl
  | cons p l ih =>
    cases l with
    | nil => exact le_rfl
    | cons q l =>
      obtain ⟨hpq, htail⟩ := ascending_cons_cons.1 hasc
      obtain hp | hp := Nat.lt_or_ge h p.1
      · exact (tableVolume_of_lt_head hp _).trans_le (le_tableVolume hasc k)
      obtain hq | hq := Nat.lt_or_ge k q.1
      · rw [tableVolume_between hp (hk.trans_lt hq), tableVolume_between (hp.trans hk) hq]
        gcongr
      rw [tableVolume_tail hpq hq]
      obtain hq' | hq' := Nat.lt_or_ge h q.1
      · exact (tableVolume_le_of_lt hpq hq' l).trans (le_tableVolume htail k)
      · exact (tableVolume_tail hpq hq' l).trans_le (ih htail)

/-- Settles O42: the points before the last one at or below the level do not count, so a level is read off the two
points it lies between; growth with the level is by induction over the table. -/
theorem measuredVolumeIsInterpolated : Obligations.MeasuredVolumeIsInterpolated := by
  refine ⟨fun l p h hp => tableVolume_of_lt_head hp l, fun l p h hasc hp => (tableVolume_append hasc hp).2,
    fun l r p q h hasc hp hq => (tableVolume_append hasc hp).2.trans (tableVolume_between hp hq r),
    fun l h k => tableVolume_mono, fun l r p hasc => ?_, fun s t h hlevel => ?_⟩
  · obtain ⟨htail, hvolume⟩ := tableVolume_append hasc le_rfl
    exact hvolume.trans (tableVolume_head htail)
  · rw [measuredVolume, hlevel, Int.toNat_natCast]

end Sys2Proof.Machine
end

section
/-! PROOFS. What the units' acts are made of: every act is a chain of small changes, each of one part of the state, and
each with what the records' rules ask of it (R71, R97, R125, R147, R166, R174, R177). A rule that every small change keeps
is kept by every act, and a part that no change of a chain names stands. -/

namespace Sys2Proof.Machine

/-! ### The small changes -/

/-- What a small change may touch. `watch` is the Interlock Unit but for its mode and its evaluated conditions; `demand` is
the demand clipped by the ceilings, `governor` the rest of the governor but for its shadow, which is `setpoint`'s; `enter`
and `leave` let the supply leave IDLE and come to it; `tank` is a tank's record but for its volume and level state, which
are `level`'s, its table, which is `tables`', and its level reading and estimate, which are `readings`'; `cause` is whether one of `keptCauses` stands in the alarm; `zone` is the thermal zone and whether it is unknown; `general` are the GENERAL_OUT terminals beside the primer; `event` is a condition event with all that it brings about while the clutch is shifted (R39, R55). -/
inductive Part where
  | sense | inputs | watch | flags | conditions | mode | drive | demand | governor | setpoint | supply | enter | leave
  | tank (t : Tank) | level (t : Tank) | readings | tables | totals | thermal | zone | valve (v : ValveRole) | recirc | alarm | cause (c : AlarmCause) | outputs | general | notices | trend | event
deriving DecidableEq

/-- What the supply record keeps whatever its state: its timers and its phase in their own states (R97). -/
abbrev SupplyFits (x : Supply) : Prop := SupplyTimersPlaced x ∧ PhaseFollowsState x

/-- A tank's record but for the tie of its volume to its level state (R125). -/
abbrev FillSound (r : TankRecord) : Prop :=
  (r.estimating = none → r.frozen = none ∧ r.estimate = none ∧ r.settle = none) ∧
  (r.suspendedFrom.isSome = true ↔ r.stage = .suspended) ∧
  (r.safety.isSome = true ↔ r.stage = .bulk ∨ r.stage = .topoff ∨
    r.stage = .suspended ∧ (r.suspendedFrom = some .bulk ∨ r.suspendedFrom = some .topoff)) ∧
  (r.phase.isSome = true ↔ r.stage = .topoff) ∧ (r.cycle.isSome = true ↔ r.stage = .topoff)

/-- A tank's level state is UNKNOWN exactly while it has no volume (R125, R132). -/
def LevelTied (r : TankRecord) : Prop := r.volume = none ↔ r.state = .unknown

/-- The valves that stand in a pair with a valve (R174). -/
def pairedWith : ValveRole → List ValveRole
  | .mainValve => [.reserveValve, .mainFill]
  | .reserveValve => [.mainValve, .reserveFill]
  | .mainFill => [.mainValve]
  | .reserveFill => [.reserveValve]
  | .recircValve => []

/-- What a tank's record holds beside its volume, level state, table and fill: its level reading and its estimate. -/
abbrev TankRecord.readings (r : TankRecord) :
    Int × Bool × Option EstimateCause × Option Nat × Option Nat × Option Timer × Option Reconciliation :=
  (r.level, r.headKnown, r.estimating, r.frozen, r.estimate, r.settle, r.recon)

/-- No valve paired with this one is commanded OPEN. -/
def MayOpen (s : State) (v : ValveRole) : Prop := ∀ w ∈ pairedWith v, (s.valve w).openCmd = false

/-- The alarm causes whose presence is followed: only the acts that name one add or remove it. -/
def keptCauses : List AlarmCause := [.motion, .voltage, .stop, .ptoFault, .valve]

/-- What a condition event may touch while the clutch is shifted. -/
def eventParts : List Part := [.conditions, .drive, .mode, .alarm, .cause .motion, .cause .stop, .notices, .demand]

/-- Chains of small changes of the parts in K. With `b` no change of the chain lowers a ceiling but that the demand is
clipped after it (R71). -/
inductive Moves : List Part → Bool → State → State → Prop
  | refl (K : List Part) (b : Bool) (s : State) : Moves K b s s
  | trans {K : List Part} {b : Bool} {s t u : State} (h₁ : Moves K b s t) (h₂ : Moves K b t u) : Moves K b s u
  | choices (K : List Part) (b : Bool) (s : State) (f : List Nat → List Nat) : Moves K b s (s.modChoices f)
  | sense {K : List Part} (b : Bool) (hK : .sense ∈ K) (s : State) (f : Sense → Sense) : Moves K b s (s.modSense f)
  | input {K : List Part} (b : Bool) (hK : .inputs ∈ K) (s : State) (t : Terminal) (i : InputState) :
      Moves K b s (setInput t i s)
  | watch {K : List Part} (b : Bool) (hK : .watch ∈ K) (s : State) (f : Interlock → Interlock)
      (hf : f s.interlock = { f s.interlock with
        mode := s.interlock.mode, ceiling := s.interlock.ceiling, recovery := s.interlock.recovery
        trip := s.interlock.trip, lockout := s.interlock.lockout, conditions := s.interlock.conditions })
      (hg : .flags ∈ K ∨ (f s.interlock).flags = s.interlock.flags) : Moves K b s (s.modInterlock f)
  | conditions {K : List Part} (b : Bool) (hK : .conditions ∈ K) (s : State) : Moves K b s (refreshConditions s)
  | mode {K : List Part} (b : Bool) (hK : .mode ∈ K) (s : State) (f : Interlock → Interlock)
      (hf : f s.interlock = { s.interlock with
        mode := (f s.interlock).mode, ceiling := (f s.interlock).ceiling, recovery := (f s.interlock).recovery
        trip := (f s.interlock).trip })
      (hb : b = true → s.interlock.ceiling ≤ (f s.interlock).ceiling) : Moves K b s (s.modInterlock f)
  | drive {K : List Part} (b : Bool) (hK : .drive ∈ K) (s : State) (f : Drive → Drive) : Moves K b s (s.modDrive f)
  | governor {K : List Part} (b : Bool) (hK : .governor ∈ K) (s : State) (f : Governor → Governor)
      (hf : (f s.governor).demand ≤ s.governor.demand)
      (hs : .setpoint ∈ K ∨ (f s.governor).shadow = s.governor.shadow ∧
        (s.governor.shadow = .idle → s.governor.active = .idle → (f s.governor).active = .idle)) :
      Moves K b s (s.modGovernor f)
  | clip {K : List Part} (b : Bool) (hK : .demand ∈ K) {s t : State} (h : Moves K false s t) :
      Moves K b s (clipDemand t)
  | supply {K : List Part} (b : Bool) (hK : .supply ∈ K) (s : State) (f : Supply → Supply)
      (hf : SupplyFits s.supply → SupplyFits (f s.supply))
      (henter : .enter ∈ K ∨ s.supply.state ≠ .idle ∨ (f s.supply).state = .idle)
      (hleave : .leave ∈ K ∨ s.supply.state = .idle ∨ (f s.supply).state ≠ .idle)
      (hb : b = true → supplyCeiling s ≤ supplyCeiling (s.modSupply f)) : Moves K b s (s.modSupply f)
  | tank {K : List Part} (b : Bool) (t : Tank) (hK : .tank t ∈ K) (s : State) (f : TankRecord → TankRecord)
      (hv : (f (s.tank t)).volume = (s.tank t).volume) (hl : (f (s.tank t)).state = (s.tank t).state)
      (hf : FillSound (s.tank t) → FillSound (f (s.tank t)))
      (ht : .tables ∈ K ∨ (f (s.tank t)).table = (s.tank t).table := by exact .inr rfl)
      (hr : .readings ∈ K ∨ (f (s.tank t)).readings = (s.tank t).readings := by exact .inr rfl) : Moves K b s (s.modTank t f)
  | level {K : List Part} (b : Bool) (t : Tank) (hK : .level t ∈ K) (s : State) (f : TankRecord → TankRecord)
      (ht : LevelTied (f (s.tank t)))
      (hf : FillSound (s.tank t) → FillSound (f (s.tank t)))
      (htab : .tables ∈ K ∨ (f (s.tank t)).table = (s.tank t).table := by exact .inr rfl)
      (hr : .readings ∈ K ∨ (f (s.tank t)).readings = (s.tank t).readings := by exact .inr rfl) : Moves K b s (s.modTank t f)
  | totals {K : List Part} (b : Bool) (hK : .totals ∈ K) (s : State) (f : Totals → Totals)
      (hi : TotalSound s.totals.incident → TotalSound (f s.totals).incident)
      (hr : TotalSound s.totals.run → TotalSound (f s.totals).run) : Moves K b s (s.modTotals f)
  | thermal {K : List Part} (b : Bool) (hK : .thermal ∈ K) (s : State) (f : Thermal → Thermal)
      (hb : b = true → thermalCeiling s ≤ thermalCeiling (s.modThermal f))
      (hz : .zone ∈ K ∨ (f s.thermal).zone = s.thermal.zone ∧ (f s.thermal).unknown = s.thermal.unknown :=
        by exact .inr ⟨rfl, rfl⟩) : Moves K b s (s.modThermal f)
  | valve {K : List Part} (b : Bool) (v : ValveRole) (hK : .valve v ∈ K) (s : State) (f : Actuator → Actuator)
      (ho : (f (s.valve v)).openCmd = (s.valve v).openCmd)
      (hf : ActuatorSound (s.valve v) → ActuatorSound (f (s.valve v))) : Moves K b s (s.modValve v f)
  | command {K : List Part} (b : Bool) (v : ValveRole) (hK : .valve v ∈ K) (s : State) (o : Bool)
      (ho : o = true → MayOpen s v) : Moves K b s (s.modValve v fun a => { a with openCmd := o })
  | recirc {K : List Part} (b : Bool) (hK : .recirc ∈ K) (s : State) (f : List RecircCause → List RecircCause) :
      Moves K b s (s.modRecirc f)
  | alarm {K : List Part} (b : Bool) (hK : .alarm ∈ K) (s : State) (f : Alarm → Alarm)
      (hf : AlarmSound s.alarm → AlarmSound (f s.alarm))
      (hc : ∀ c ∈ keptCauses, .cause c ∈ K ∨ (c ∈ (f s.alarm).causes ↔ c ∈ s.alarm.causes)) : Moves K b s (s.modAlarm f)
  | outputs {K : List Part} (b : Bool) (hK : .outputs ∈ K) (s : State) (f : Outputs → Outputs)
      (hg : .general ∈ K ∨ (f s.outputs).general = s.outputs.general := by exact .inr rfl) :
      Moves K b s (s.modOutputs f)
  | record {K : List Part} (b : Bool) (hK : .notices ∈ K) (s : State) (k : NoticeKind) (n : NoticeBody) :
      Moves K b s (record k n s)
  | protect {K : List Part} (b : Bool) (hK : .trend ∈ K) (s : State) : Moves K b s (protectiveEvent s)
  | event {K : List Part} (b : Bool) (hK : .event ∈ K) (s : State) (h : Moves eventParts b s (conditionEvent s)) :
      Moves K b s (conditionEvent s)

theorem Moves.mono {K L : List Part} {b : Bool} {s t : State} (h : Moves K b s t) (hKL : K ⊆ L) : Moves L b s t := by
  induction h with
  | refl => exact .refl ..
  | trans _ _ ih₁ ih₂ => exact .trans (ih₁ hKL) (ih₂ hKL)
  | choices => exact .choices ..
  | sense b hK => exact .sense b (hKL hK) ..
  | input b hK => exact .input b (hKL hK) ..
  | watch b hK s f hf hg => exact .watch b (hKL hK) s f hf (hg.imp_left (hKL ·))
  | conditions b hK => exact .conditions b (hKL hK) ..
  | mode b hK s f hf hb => exact .mode b (hKL hK) s f hf hb
  | drive b hK => exact .drive b (hKL hK) ..
  | governor b hK s f hf hs => exact .governor b (hKL hK) s f hf (hs.imp_left (hKL ·))
  | clip b hK _ ih => exact .clip b (hKL hK) (ih hKL)
  | supply b hK s f hf henter hleave hb =>
    exact .supply b (hKL hK) s f hf (henter.imp_left (hKL ·)) (hleave.imp_left (hKL ·)) hb
  | tank b t hK s f hv hl hf ht hr =>
    exact .tank b t (hKL hK) s f hv hl hf (ht.imp_left (hKL ·)) (hr.imp_left (hKL ·))
  | level b t hK s f ht hf htab hr =>
    exact .level b t (hKL hK) s f ht hf (htab.imp_left (hKL ·)) (hr.imp_left (hKL ·))
  | totals b hK s f hi hr => exact .totals b (hKL hK) s f hi hr
  | thermal b hK s f hb hz => exact .thermal b (hKL hK) s f hb (hz.imp_left (hKL ·))
  | valve b v hK s f ho hf => exact .valve b v (hKL hK) s f ho hf
  | command b v hK s o ho => exact .command b v (hKL hK) s o ho
  | recirc b hK => exact .recirc b (hKL hK) ..
  | alarm b hK s f hf hc => exact .alarm b (hKL hK) s f hf fun c h => (hc c h).imp_left (hKL ·)
  | outputs b hK s f hg => exact .outputs b (hKL hK) s f (hg.imp_left (hKL ·))
  | record b hK => exact .record b (hKL hK) ..
  | protect b hK => exact .protect b (hKL hK) ..
  | event b hK s h => exact .event b (hKL hK) s h

end Sys2Proof.Machine
end

section
/-! PROOFS. Chains of small changes through the notices, the trend, the alarm, the valves and the fills. -/

namespace Sys2Proof.Machine

variable {K : List Part} {b : Bool} {s x : State}

/-! ### Chains through the operations: notices, trend, alarm -/

theorem moves_record {k : NoticeKind} {n : NoticeBody} (hK : .notices ∈ K) (h : Moves K b s x) :
    Moves K b s (record k n x) :=
  h.trans (.record b hK ..)

theorem moves_protect (hK : .trend ∈ K) (h : Moves K b s x) : Moves K b s (protectiveEvent x) :=
  h.trans (.protect b hK _)

/-- The pattern set afresh is sound where the silenced causes are causes and an intermittent pattern keeps its blink. -/
theorem alarmSound_setPattern {a : Alarm} (hsil : ∀ c ∈ a.silenced, c ∈ a.causes)
    (hblink : a.pattern = .intermittent → a.blink.isSome = true) : AlarmSound (setPattern a) := by
  refine ⟨by simpa using hsil, by simpa using setPattern_pattern a, ?_⟩
  unfold setPattern
  split
  · simp
  · simp
  · split
    · next hp => simp [hp, hblink hp]
    · simp [startTimer]

theorem moves_addAlarm {c : AlarmCause} (hK : .alarm ∈ K) (h : Moves K b s x)
    (hc : c ∉ keptCauses ∨ .cause c ∈ K := by exact .inl (by decide)) : Moves K b s (addAlarm c x) := by
  obtain ⟨-, e⟩ | ⟨-, e⟩ := addAlarm_cases c x <;> rw [e]
  · exact h
  · refine h.trans (.alarm b hK x _ (fun ⟨hsil, _, _, _, hblink⟩ => alarmSound_setPattern ?_ hblink.2)
      fun d hd => ?_)
    · intro d hd
      simpa using .inr (hsil d hd)
    · obtain rfl | hdc := eq_or_ne d c
      · exact .inl (hc.resolve_left (absurd hd))
      · exact .inr (by simp [hdc])

theorem moves_removeAlarm {c : AlarmCause} (hK : .alarm ∈ K) (h : Moves K b s x)
    (hc : c ∉ keptCauses ∨ .cause c ∈ K := by exact .inl (by decide)) : Moves K b s (removeAlarm c x) := by
  obtain ⟨-, e⟩ | ⟨-, e⟩ := removeAlarm_cases c x <;> rw [e]
  · exact h
  · refine h.trans (.alarm b hK x _ (fun ⟨hsil, _, _, _, hblink⟩ => alarmSound_setPattern ?_ hblink.2)
      fun d hd => ?_)
    · intro d hd
      simp only [mem_removeFrom] at hd ⊢
      exact ⟨hsil d hd.1, hd.2⟩
    · obtain rfl | hdc := eq_or_ne d c
      · exact .inl (hc.resolve_left (absurd hd))
      · exact .inr (by simp [hdc])

theorem moves_runInOrder {acts : List (State → State)} (hacts : ∀ f ∈ acts, ∀ y, Moves K b y (f y))
    (h : Moves K b s x) : Moves K b s (runInOrder acts x) :=
  runInOrder_keeps (P := Moves K b s) (fun _ _ hy => hy.trans (.choices ..)) acts
    (fun f hf y hy => hy.trans (hacts f hf y)) x h

/-! ### Valves -/

theorem actuatorSound_arrived {st : ValveState} {c : Confirmation} {a : Actuator} (ha : a.state ≠ .fault)
    (hst : st ≠ .fault) (h : ActuatorSound a) : ActuatorSound (arrived st c a) := by
  obtain ⟨-, -, hfault, -, -⟩ := h
  simp [ActuatorSound, arrived, hst, hfault, ha]

theorem actuatorSound_enterOpening {n : Nat} {a : Actuator} (ha : a.state ≠ .fault) (h : ActuatorSound a) :
    ActuatorSound { a with state := .opening, tries := 1, retry := none, travel := startTimer n } := by
  obtain ⟨-, -, hfault, -, -⟩ := h
  simp [ActuatorSound, hfault, ha]

theorem actuatorSound_enterClosing {n : Nat} {a : Actuator} (ha : a.state ≠ .fault) (h : ActuatorSound a) :
    ActuatorSound { a with state := .closing, tries := 0, retry := none, travel := startTimer n } := by
  obtain ⟨-, -, hfault, -, -⟩ := h
  simp [ActuatorSound, hfault, ha]

theorem moves_enterOpening {v : ValveRole} (hK : .valve v ∈ K) (hv : (x.valve v).state ≠ .fault) (h : Moves K b s x) :
    Moves K b s (enterOpening v x) := by
  unfold enterOpening
  split
  · exact h.trans (.valve b v hK x _ rfl (actuatorSound_arrived hv (by simp)))
  · exact h.trans (.valve b v hK x _ rfl (actuatorSound_enterOpening hv))

theorem moves_enterClosing {v : ValveRole} (hK : .valve v ∈ K) (hv : (x.valve v).state ≠ .fault) (h : Moves K b s x) :
    Moves K b s (enterClosing v x) :=
  h.trans (.valve b v hK x _ rfl (actuatorSound_enterClosing hv))

theorem moves_beginTravel {v : ValveRole} {o : Bool} (hK : .valve v ∈ K) (hv : (x.valve v).state ≠ .fault)
    (h : Moves K b s x) : Moves K b s (beginTravel v o x) := by
  cases o
  · exact moves_enterClosing hK hv h
  · exact moves_enterOpening hK hv h

theorem moves_carryOut {v : ValveRole} {o : Bool} (hK : .valve v ∈ K) (ho : o = true → MayOpen x v)
    (h : Moves K b s x) : Moves K b s (carryOut v o x) := by
  have hcommand := h.trans (.command b v hK x o ho)
  unfold carryOut
  split
  · exact h
  · dsimp only
    split
    · exact hcommand
    · next hv => exact moves_beginTravel hK (by simpa using hv) hcommand

theorem moves_enterValveFault {v : ValveRole} {c : ValveFault} (hK : .valve v ∈ K) (hn : .notices ∈ K)
    (ha : .alarm ∈ K) (hc : .cause .valve ∈ K) (h : Moves K b s x) : Moves K b s (enterValveFault v c x) :=
  moves_addAlarm ha (moves_record hn (h.trans (.valve b v hK x _ rfl fun _ => by simp [ActuatorSound]))) (.inr hc)

theorem moves_expireTravel {v : ValveRole} (hK : .valve v ∈ K) (hn : .notices ∈ K) (ha : .alarm ∈ K)
    (hc : .cause .valve ∈ K) (h : Moves K b s x) : Moves K b s (expireTravel v x) := by
  have harrive : ∀ st c, (x.valve v).state ≠ .fault → st ≠ .fault → Moves K b s (x.modValve v (arrived st c)) :=
    fun st c hv hst => h.trans (.valve b v hK x _ rfl (actuatorSound_arrived hv hst))
  unfold expireTravel
  split
  · exact h
  split
  · next hv _ => exact harrive _ _ (by simp [hv]) (by simp)
  · next hv _ =>
    split
    · refine h.trans (.valve b v hK x _ rfl fun hs => ?_)
      obtain ⟨htries, -, hfault, -, -⟩ := hs
      simp [ActuatorSound, hv, htries, hfault]
    · exact moves_enterValveFault hK hn ha hc h
  · next hv _ => exact harrive _ _ (by simp [hv]) (by simp)
  · next hv _ => exact harrive _ _ (by simp [hv]) (by simp)
  · exact moves_enterValveFault hK hn ha hc h
  · exact h

theorem moves_expireRetry {v : ValveRole} (hK : .valve v ∈ K) (h : Moves K b s x) : Moves K b s (expireRetry v x) := by
  unfold expireRetry
  split
  · exact h
  · next hretry =>
    refine h.trans (.valve b v hK x _ rfl fun ⟨_, _, hfault, _, hopening⟩ => ?_)
    have hv : (x.valve v).state = .opening := hopening (by simpa [Option.isSome_iff_ne_none] using hretry)
    simp [ActuatorSound, hfault, hv]

theorem moves_feedbackChange {v : ValveRole} {asserted : Bool} (hK : .valve v ∈ K) (h : Moves K b s x) :
    Moves K b s (feedbackChange v asserted x) := by
  unfold feedbackChange
  split
  · next hv => exact h.trans (.valve b v hK x _ rfl (actuatorSound_arrived (by simp [hv]) (by simp)))
  · next hv => exact h.trans (.valve b v hK x _ rfl (actuatorSound_arrived (by simp [hv]) (by simp)))
  · next hv => exact moves_enterOpening hK (by simp [hv]) h
  · next hv => exact moves_enterClosing hK (by simp [hv]) h
  · exact h

theorem valve_removeAlarm (c : AlarmCause) (s : State) (v : ValveRole) : (removeAlarm c s).valve v = s.valve v := by
  obtain ⟨-, e⟩ | ⟨-, e⟩ := removeAlarm_cases c s
  · rw [e]
  · rw [e]
    rfl

theorem moves_clearValveFault {v : ValveRole} (hK : .valve v ∈ K) (ha : .alarm ∈ K) (hc : .cause .valve ∈ K)
    (h : Moves K b s x) : Moves K b s (clearValveFault v x) := by
  unfold clearValveFault
  extract_lets seen t u
  have hseen : seen.1 ≠ .fault := by
    show (match feedback x v with
      | some true => (ValveState.atOpen, Confirmation.confirmed)
      | some false => (.atClosed, .confirmed)
      | none => (if (x.valve v).openCmd then .atOpen else .atClosed, .unconfirmed)).1 ≠ .fault
    (repeat' split)
    all_goals simp
  have ht : Moves K b s t := h.trans (.valve b v hK x _ rfl fun _ => by simp [ActuatorSound, arrived, hseen])
  have hu : Moves K b s u ∧ (u.valve v).state ≠ .fault := by
    have hstate : (t.valve v).state ≠ .fault := by simpa [t, arrived] using hseen
    show Moves K b s (if anyValveFault t then t else removeAlarm .valve t) ∧
      ((if anyValveFault t then t else removeAlarm .valve t).valve v).state ≠ .fault
    split
    · exact ⟨ht, hstate⟩
    · exact ⟨moves_removeAlarm ha ht (.inr hc), by rwa [valve_removeAlarm]⟩
  split
  · exact hu.1
  · exact moves_beginTravel hK hu.2 hu.1

theorem mayOpen_recircValve (s : State) : MayOpen s .recircValve := by simp [MayOpen, pairedWith]

theorem moves_addRecirc {c : RecircCause} (hK : .valve .recircValve ∈ K) (hr : .recirc ∈ K) (h : Moves K b s x) :
    Moves K b s (addRecirc c x) := by
  have ht := h.trans (.recirc b hr x (insertIn allRecircCauses c))
  unfold addRecirc
  split
  · exact h
  · dsimp only
    split
    · exact moves_carryOut hK (fun _ => mayOpen_recircValve _) ht
    · exact ht

theorem moves_removeRecirc {c : RecircCause} (hK : .valve .recircValve ∈ K) (hr : .recirc ∈ K) (h : Moves K b s x) :
    Moves K b s (removeRecirc c x) := by
  have ht := h.trans (.recirc b hr x (removeFrom c))
  unfold removeRecirc
  split
  · dsimp only
    split
    · exact moves_carryOut hK (by simp) ht
    · exact ht
  · exact h

/-! ### Filling -/

/-- What the Tank Unit's filling of a tank touches. -/
def fillParts (t : Tank) : List Part := [.tank t, .valve (fillValve t), .notices]

variable {t : Tank}

theorem fillSound_fillOpen (o : Bool) {r : TankRecord} (h : FillSound r) : FillSound { r with fillOpen := o } := h

theorem pairedWith_fillValve (t : Tank) : pairedWith (fillValve t) = [tankValve t] := by cases t <;> rfl

theorem valve_modTank (s : State) (t : Tank) (f : TankRecord → TankRecord) (v : ValveRole) :
    (s.modTank t f).valve v = s.valve v := rfl

theorem moves_commandFill {o : Bool} (hK : fillParts t ⊆ K) (h : Moves K b s x) : Moves K b s (commandFill t o x) := by
  have htank : ∀ p : Bool, Moves K b s (x.modTank t fun r => { r with fillOpen := p }) := fun p =>
    h.trans (.tank b t (hK (by simp [fillParts])) x _ rfl rfl (fillSound_fillOpen p))
  unfold commandFill
  split
  · exact moves_record (hK (by simp [fillParts])) (htank false)
  · next hn =>
    refine moves_carryOut (hK (by simp [fillParts])) (fun ho => ?_) (htank o)
    simp only [MayOpen, pairedWith_fillValve, List.mem_singleton, forall_eq]
    by_contra hopen
    exact hn ⟨ho, by simpa [valve_modTank] using hopen⟩

theorem moves_recordStage {old : FillStage} {c : FillCause} (hK : fillParts t ⊆ K) (h : Moves K b s x) :
    Moves K b s (recordStage t old c x) :=
  moves_record (hK (by simp [fillParts])) h

/-- A fill set to a stage by its fields, its volume and level state kept. -/
theorem moves_stage {f : TankRecord → TankRecord} (hK : fillParts t ⊆ K) (hv : (f (x.tank t)).volume = (x.tank t).volume)
    (hl : (f (x.tank t)).state = (x.tank t).state) (hf : FillSound (x.tank t) → FillSound (f (x.tank t)))
    (h : Moves K b s x) (ht : (f (x.tank t)).table = (x.tank t).table := by rfl)
    (hr : .readings ∈ K ∨ (f (x.tank t)).readings = (x.tank t).readings := by exact .inr rfl) :
    Moves K b s (x.modTank t f) :=
  h.trans (.tank b t (hK (by simp [fillParts])) x f hv hl hf (.inr ht) hr)

theorem moves_runBulk {safety : Option SafetyTimer} (hK : fillParts t ⊆ K)
    (hs : FillSound (x.tank t) → safety.isSome = true) (h : Moves K b s x) : Moves K b s (runBulk t safety x) := by
  refine moves_commandFill hK (moves_stage hK rfl rfl (fun hr => ?_) h)
  exact ⟨hr.1, by simp [hs hr]⟩

theorem moves_runTopoff {safety : Option SafetyTimer} (hK : fillParts t ⊆ K)
    (hs : FillSound (x.tank t) → safety.isSome = true) (h : Moves K b s x) : Moves K b s (runTopoff t safety x) := by
  refine moves_commandFill hK (moves_stage hK rfl rfl (fun hr => ?_) h)
  exact ⟨hr.1, by simp [hs hr, startTimer]⟩

theorem moves_enterBulk (hK : fillParts t ⊆ K) (h : Moves K b s x) : Moves K b s (enterBulk t x) :=
  moves_runBulk hK (fun _ => rfl) h

theorem moves_enterTopoff (hK : fillParts t ⊆ K) (h : Moves K b s x) : Moves K b s (enterTopoff t x) :=
  moves_runTopoff hK (fun _ => rfl) h

theorem moves_closeFill {st : FillStage} (hK : fillParts t ⊆ K) (hst : st = .off ∨ st = .fullHold ∨ st = .timeout)
    (h : Moves K b s x) : Moves K b s (closeFill t st x) := by
  refine moves_commandFill hK (moves_stage hK rfl rfl (fun hr => ?_) h)
  obtain rfl | rfl | rfl := hst <;> exact ⟨hr.1, by simp⟩

theorem moves_enterFullHold (hK : fillParts t ⊆ K) (h : Moves K b s x) : Moves K b s (enterFullHold t x) :=
  moves_closeFill hK (by simp) h

theorem moves_enterStage {st : FillStage} (hK : fillParts t ⊆ K) (h : Moves K b s x) :
    Moves K b s (enterStage t st x) := by
  unfold enterStage
  split
  · exact moves_enterBulk hK h
  · exact moves_enterTopoff hK h
  · exact moves_enterFullHold hK h
  all_goals exact h

theorem moves_evaluateTopoff (hK : fillParts t ⊆ K) (h : Moves K b s x) : Moves K b s (evaluateTopoff t x) := by
  unfold evaluateTopoff
  split
  · exact moves_recordStage hK (moves_enterFullHold hK h)
  · exact h

theorem moves_evaluateFill (hK : fillParts t ⊆ K) (h : Moves K b s x) : Moves K b s (evaluateFill t x) := by
  unfold evaluateFill
  split
  · split
    · exact moves_evaluateTopoff hK (moves_recordStage hK (moves_enterTopoff hK h))
    · exact h
  · exact moves_evaluateTopoff hK h
  · split
    · exact moves_recordStage hK (moves_enterBulk hK h)
    · exact h
  · exact h

theorem moves_suspendFill (hK : fillParts t ⊆ K)
    (hst : (x.tank t).stage = .bulk ∨ (x.tank t).stage = .topoff ∨ (x.tank t).stage = .fullHold) (h : Moves K b s x) :
    Moves K b s (suspendFill t x) := by
  refine moves_recordStage hK (moves_commandFill hK (moves_stage hK rfl rfl (fun ⟨hest, _, hsafe, _, _⟩ => ?_) h))
  obtain hst | hst | hst := hst <;> exact ⟨hest, by simp [hsafe, hst]⟩

theorem moves_resumeFill (hK : fillParts t ⊆ K) (hst : (x.tank t).stage = .suspended) (h : Moves K b s x) :
    Moves K b s (resumeFill t x) := by
  have hsafe : ∀ st, st = .bulk ∨ st = .topoff → (x.tank t).suspendedFrom = some st → FillSound (x.tank t) →
      (x.tank t).safety.isSome = true := by
    rintro st hb hfrom ⟨-, -, hsafe, -, -⟩
    obtain rfl | rfl := hb <;> simp [hsafe, hst, hfrom]
  refine moves_recordStage hK ?_
  split
  · next hfrom =>
    split
    · next e => exact moves_runBulk hK (hsafe _ (.inl e) hfrom) h
    · next e => exact moves_runTopoff hK (hsafe _ (.inr e) hfrom) h
    · exact moves_enterStage hK h
  · exact moves_enterStage hK h

theorem moves_reviewFill (hK : fillParts t ⊆ K) (h : Moves K b s x) : Moves K b s (reviewFill t x) := by
  have hlost : (x.tank t).stage = .bulk ∨ (x.tank t).stage = .topoff ∨ (x.tank t).stage = .fullHold →
      Moves K b s (if fillPermission x t then x else suspendFill t x) := by
    intro hst
    split
    · exact h
    · exact moves_suspendFill hK hst h
  unfold reviewFill
  split
  · next hst => exact hlost (.inl hst)
  · next hst => exact hlost (.inr (.inl hst))
  · next hst => exact hlost (.inr (.inr hst))
  · next hst =>
    split
    · exact moves_resumeFill hK hst h
    · exact h
  all_goals exact h

/-- What the filling of both tanks touches. -/
def fillsParts : List Part := fillParts .main ++ fillParts .reserve

theorem fillParts_subset (t : Tank) : fillParts t ⊆ fillsParts := by cases t <;> decide

theorem moves_forTanks {f : Tank → State → State} (hf : ∀ t y, Moves K b y (f t y)) (h : Moves K b s x) :
    Moves K b s (forTanks f x) := by
  refine moves_runInOrder ?_ h
  intro g hg y
  simp only [List.mem_cons, List.not_mem_nil, or_false] at hg
  obtain rfl | rfl := hg
  · exact hf .main y
  · exact hf .reserve y

theorem moves_reviewFills (hK : fillsParts ⊆ K) (h : Moves K b s x) : Moves K b s (reviewFills x) :=
  moves_forTanks (fun t _ => moves_reviewFill (List.Subset.trans (fillParts_subset t) hK) (.refl ..)) h

theorem moves_expireCycle (hK : fillParts t ⊆ K) (h : Moves K b s x) : Moves K b s (expireCycle t x) := by
  have hcycle : ∀ p ms, (x.tank t).cycle.isSome = true →
      Moves K b s (x.modTank t fun r => { r with phase := some p, cycle := startTimer ms }) := by
    intro p ms hrun
    refine moves_stage hK rfl rfl (fun ⟨hest, hsus, hsafe, hphase, hcyc⟩ => ?_) h
    have hst : (x.tank t).stage = .topoff := hcyc.1 hrun
    exact ⟨hest, by simp [startTimer, hsus, hsafe, hst]⟩
  unfold expireCycle
  split
  · exact h
  · next hrun =>
    have hrun : (x.tank t).cycle.isSome = true := by simpa [Option.isSome_iff_ne_none] using hrun
    split
    · exact moves_commandFill hK (hcycle _ _ hrun)
    · exact moves_commandFill hK (hcycle _ _ hrun)
    · exact h

theorem moves_expireSafety (hK : fillParts t ⊆ K) (h : Moves K b s x) : Moves K b s (expireSafety t x) := by
  unfold expireSafety
  split
  case h_1 | h_2 => exact moves_record (hK (by simp [fillParts])) (moves_closeFill hK (by simp) h)
  all_goals exact h

theorem moves_stopFill (hK : fillParts t ⊆ K) (h : Moves K b s x) : Moves K b s (stopFill t x) := by
  unfold stopFill
  split
  · exact h
  · exact moves_recordStage hK (moves_closeFill hK (by simp) h)

theorem moves_startFill (hK : fillParts t ⊆ K) (h : Moves K b s x) : Moves K b s (startFill t x) :=
  moves_recordStage hK (moves_enterStage hK h)

end Sys2Proof.Machine
end

section
/-! PROOFS. Chains of small changes through the governor, the operating mode, a release and a condition event. -/

namespace Sys2Proof.Machine

variable {K : List Part} {b : Bool} {s x : State}

/-! ### The governor -/

theorem moves_governor {f : Governor → Governor} (hK : .governor ∈ K) (hf : (f x.governor).demand ≤ x.governor.demand)
    (h : Moves K b s x) (hs : .setpoint ∈ K ∨ (f x.governor).shadow = x.governor.shadow ∧
      (x.governor.shadow = .idle → x.governor.active = .idle → (f x.governor).active = .idle) := by
        exact .inr ⟨rfl, fun _ hact => hact⟩) : Moves K b s (x.modGovernor f) :=
  h.trans (.governor b hK x f hf hs)

theorem deriveFreeze_demand (g : Governor) : (deriveFreeze g).demand = g.demand := by
  obtain ⟨_, _, e⟩ := deriveFreeze_frame g
  rw [e]

/-- A derivation keeps the shadow, and an empty shadow has an empty pair (R86). -/
theorem derivePair_idle (s : State) : (derivePair s).governor.shadow = s.governor.shadow ∧
    (s.governor.shadow = .idle → s.governor.active = .idle → (derivePair s).governor.active = .idle) := by
  obtain ⟨_, _, e⟩ := derivePair_frame s
  rw [e]
  refine ⟨rfl, fun hidle _ => ?_⟩
  show derivedPair s s.governor = _
  rw [derivedPair, governingSource, if_pos hidle]
  exact hidle

theorem moves_derivePair (hK : .governor ∈ K) (h : Moves K b s x) : Moves K b s (derivePair x) :=
  moves_governor hK (deriveFreeze_demand _).le h (.inr (derivePair_idle x))

theorem moves_beginOverride {k : OverrideKind} (hK : .governor ∈ K) (hn : .notices ∈ K) (h : Moves K b s x) :
    Moves K b s (beginOverride k x) := by
  unfold beginOverride
  split
  · exact moves_record hn (moves_derivePair hK (moves_governor hK le_rfl h))
  · exact h

theorem moves_endOverride {k : OverrideKind} (hK : .governor ∈ K) (hn : .notices ∈ K) (h : Moves K b s x) :
    Moves K b s (endOverride k x) := by
  unfold endOverride
  split
  · exact moves_record hn (moves_derivePair hK (moves_governor hK le_rfl h))
  · exact h

theorem moves_tryFallback (hK : .governor ∈ K) (hn : .notices ∈ K) (h : Moves K b s x) :
    Moves K b s (tryFallback x) := by
  unfold tryFallback
  split
  · exact moves_beginOverride hK hn (moves_governor hK le_rfl h)
  · exact h

theorem moves_publishFallback (hK : .governor ∈ K) (hn : .notices ∈ K) (h : Moves K b s x) :
    Moves K b s (publishFallback x) := by
  unfold publishFallback
  split
  · exact moves_endOverride hK hn h
  · exact moves_tryFallback hK hn h

theorem moves_publishPulseLoss (hK : .governor ∈ K) (h : Moves K b s x) : Moves K b s (publishPulseLoss x) := by
  unfold publishPulseLoss
  split
  · split
    · exact h
    · exact moves_governor hK le_rfl h
  · exact moves_governor hK le_rfl h

theorem moves_expirePulseLoss (hK : .governor ∈ K) (h : Moves K b s x) : Moves K b s (expirePulseLoss x) := by
  unfold expirePulseLoss
  split
  · exact h
  · exact moves_governor hK le_rfl h

theorem moves_takeShadow {v : Setting} (hK : .governor ∈ K) (hS : .setpoint ∈ K) (hn : .notices ∈ K) (h : Moves K b s x) :
    Moves K b s (takeShadow v x) :=
  moves_derivePair hK (moves_tryFallback hK hn (moves_governor hK le_rfl h (.inl hS)))

/-! ### The operating mode -/

/-- What a change of mode touches, the entry into MOTION_TRIP apart. -/
def modeParts : List Part := [.mode, .notices, .demand]

theorem moves_setMode {m : OpMode} {c : ModeCause} (hK : modeParts ⊆ K) (ht : m = .motionTrip → .trend ∈ K)
    (h : Moves K b s x) : Moves K b s (setMode m c x) := by
  have hn : Part.notices ∈ K := hK (by simp [modeParts])
  refine h.trans (.clip b (hK (by simp [modeParts])) ?_)
  have hmode : Moves K false x (x.modInterlock fun i =>
      { i with mode := m, ceiling := entryCeiling x m, recovery := none, trip := none }) :=
    .mode false (hK (by simp [modeParts])) x _ rfl (by simp)
  split
  · next hm => exact moves_protect (ht hm) (moves_record hn hmode)
  · exact moves_record hn hmode

theorem moves_tripMode {c : ModeCause} (hK : modeParts ⊆ K) (ht : .trend ∈ K) (ha : .alarm ∈ K) (hm : .cause .motion ∈ K)
    (h : Moves K b s x) : Moves K b s (tripMode c x) :=
  moves_setMode hK (fun _ => ht) (moves_addAlarm ha h (.inr hm))

theorem moves_modeOnExit (hK : modeParts ⊆ K) (h : Moves K b s x) : Moves K b s (modeOnExit x) := by
  unfold modeOnExit
  split
  · exact moves_setMode hK (by simp) h
  · exact h

theorem moves_modeOnDisengaged (hK : modeParts ⊆ K) (ha : .alarm ∈ K) (hm : .cause .motion ∈ K) (h : Moves K b s x) :
    Moves K b s (modeOnDisengaged x) := by
  unfold modeOnDisengaged
  split
  · exact moves_removeAlarm ha (moves_setMode hK (by simp) h) (.inr hm)
  · exact h

/-! ### The clutch outside ENGAGED, and condition events -/

theorem moves_drive {f : Drive → Drive} (hK : .drive ∈ K) (h : Moves K b s x) : Moves K b s (x.modDrive f) :=
  h.trans (.drive b hK x f)

theorem moves_reviewStop (ha : .alarm ∈ K) (hs : .cause .stop ∈ K) (h : Moves K b s x) : Moves K b s (reviewStop x) := by
  unfold reviewStop
  split
  · exact moves_removeAlarm ha h (.inr hs)
  · exact h

theorem moves_refreshConditions (hK : .conditions ∈ K) (h : Moves K b s x) : Moves K b s (refreshConditions x) :=
  h.trans (.conditions b hK x)

/-- What a release and a change of mode touch. -/
def releaseParts : List Part := [.drive, .mode, .alarm, .cause .motion, .cause .stop, .notices, .demand]

theorem modeParts_subset_releaseParts : modeParts ⊆ releaseParts := by decide

theorem moves_endRelease {v : Int} (hK : releaseParts ⊆ K) (h : Moves K b s x) : Moves K b s (endRelease v x) :=
  moves_modeOnDisengaged (List.Subset.trans modeParts_subset_releaseParts hK) (hK (by simp [releaseParts]))
    (hK (by simp [releaseParts])) <| moves_reviewStop (hK (by simp [releaseParts])) (hK (by simp [releaseParts])) <| moves_record (hK (by simp [releaseParts])) <|
    moves_drive (hK (by simp [releaseParts])) h

theorem moves_confirmRelease (hK : releaseParts ⊆ K) (h : Moves K b s x) : Moves K b s (confirmRelease x) := by
  unfold confirmRelease
  split
  · exact moves_endRelease hK h
  · exact h

theorem moves_startRelease {c : ReleaseCause} (hK : releaseParts ⊆ K) (h : Moves K b s x) :
    Moves K b s (startRelease c x) :=
  moves_drive (hK (by simp [releaseParts])) h

theorem moves_abortEngagement {a : AbortCause} {c : ReleaseCause} {l : Option (List Condition)} (hK : releaseParts ⊆ K)
    (h : Moves K b s x) : Moves K b s (abortEngagement a c l x) :=
  moves_confirmRelease hK (moves_record (hK (by simp [releaseParts])) (moves_startRelease hK h))

theorem moves_stopOutsideEngaged (hK : releaseParts ⊆ K) (h : Moves K b s x) : Moves K b s (stopOutsideEngaged x) := by
  have hstop := moves_addAlarm (c := .stop) (hK (by simp [releaseParts])) h (.inr (hK (by simp [releaseParts])))
  unfold stopOutsideEngaged
  split
  case h_1 | h_2 | h_3 => exact moves_abortEngagement hK hstop
  case h_4 => exact moves_confirmRelease hK (moves_startRelease hK hstop)
  case h_5 => exact hstop
  all_goals exact h

theorem moves_conditionReport {l : List Condition} (hK : releaseParts ⊆ K) (h : Moves K b s x) :
    Moves K b s (conditionReport l x) := by
  unfold conditionReport
  split
  · exact moves_stopOutsideEngaged hK h
  split
  case h_1 | h_2 | h_3 =>
    split
    · exact h
    · exact moves_abortEngagement hK h
  all_goals exact h

theorem moves_eventParts (b : Bool) (x : State) : Moves eventParts b x (conditionEvent x) := by
  have ht : Moves eventParts b x (refreshConditions x) := .conditions b (by decide) x
  have hsub : releaseParts ⊆ eventParts := by decide
  unfold conditionEvent
  split
  · exact .refl ..
  dsimp only
  split
  · split
    · exact moves_conditionReport hsub ht
    · exact ht
  · exact ht

theorem moves_conditionEvent (hK : .event ∈ K) (h : Moves K b s x) : Moves K b s (conditionEvent x) :=
  h.trans (.event b hK x (moves_eventParts b x))

end Sys2Proof.Machine
end

section
/-! PROOFS. What a chain of small changes leaves unchanged, part by part. -/

namespace Sys2Proof.Machine

variable {K : List Part} {b : Bool} {s t u : State}

/-! ### What a chain leaves unchanged -/

/-- Part by part what stands from s to t where K does not name the part; the last fields stand whatever K names. -/
structure Stands (K : List Part) (s t : State) : Prop where
  sense : .sense ∉ K → t.sense = s.sense
  inputs : .inputs ∉ K → t.terminals = s.terminals
  watch : .watch ∉ K → t.interlock = { s.interlock with
    mode := t.interlock.mode, ceiling := t.interlock.ceiling, recovery := t.interlock.recovery
    trip := t.interlock.trip, conditions := t.interlock.conditions }
  flags : .flags ∉ K → t.interlock.flags = s.interlock.flags
  conditions : .conditions ∉ K → .event ∉ K → t.interlock.conditions = s.interlock.conditions
  mode : .mode ∉ K → .event ∉ K → t.interlock.mode = s.interlock.mode ∧ t.interlock.ceiling = s.interlock.ceiling ∧
    t.interlock.recovery = s.interlock.recovery ∧ t.interlock.trip = s.interlock.trip
  drive : .drive ∉ K → .event ∉ K → t.drive = s.drive
  governor : .governor ∉ K → .demand ∉ K → .event ∉ K → t.governor = s.governor
  pair : .governor ∉ K → t.governor = { s.governor with
    demand := t.governor.demand, ceiling := t.governor.ceiling, binding := t.governor.binding
    inputs := t.governor.inputs }
  setpoint : .setpoint ∉ K → t.governor.shadow = s.governor.shadow ∧
    (s.governor.shadow = .idle → s.governor.active = .idle → t.governor.active = .idle)
  supply : .supply ∉ K → t.supply = s.supply
  tank : ∀ a, .tank a ∉ K → .level a ∉ K → t.tank a = s.tank a
  level : ∀ a, .level a ∉ K → (t.tank a).volume = (s.tank a).volume ∧ (t.tank a).state = (s.tank a).state
  tables : ∀ a, .tables ∉ K → (t.tank a).table = (s.tank a).table
  readings : ∀ a, .readings ∉ K → (t.tank a).readings = (s.tank a).readings
  totals : .totals ∉ K → t.totals = s.totals
  thermal : .thermal ∉ K → t.thermal = s.thermal
  zone : .zone ∉ K → t.thermal.zone = s.thermal.zone ∧ t.thermal.unknown = s.thermal.unknown
  valve : ∀ v, .valve v ∉ K → t.valve v = s.valve v
  recirc : .recirc ∉ K → t.recirc = s.recirc
  alarm : .alarm ∉ K → .event ∉ K → t.alarm = s.alarm
  cause : ∀ c ∈ keptCauses, .cause c ∉ K → (.cause c ∈ eventParts → .event ∉ K) →
    (c ∈ t.alarm.causes ↔ c ∈ s.alarm.causes)
  outputs : .outputs ∉ K → t.outputs = s.outputs
  general : .general ∉ K → t.outputs.general = s.outputs.general
  notices : .notices ∉ K → .event ∉ K → t.notices = s.notices ∧ t.tx = s.tx
  trend : .trend ∉ K → t.trend = s.trend
  params : t.params = s.params
  assignment : t.terminals.assignment = s.terminals.assignment
  lockout : t.interlock.lockout = s.interlock.lockout
  link : t.link = s.link
  clock : t.clock = s.clock
  powered : t.powered = s.powered
  pending : t.pending = s.pending
  choiceCount : t.choiceCount = s.choiceCount
  disabled : t.notices.disabled = s.notices.disabled
  sending : t.tx.isSome = s.tx.isSome

theorem Stands.refl (K : List Part) (s : State) : Stands K s s := by
  constructor <;> intros <;> simp

theorem Stands.trans (h : Stands K s t) (g : Stands K t u) : Stands K s u where
  sense hK := (g.sense hK).trans (h.sense hK)
  inputs hK := (g.inputs hK).trans (h.inputs hK)
  watch hK := by rw [g.watch hK, h.watch hK]
  flags hK := (g.flags hK).trans (h.flags hK)
  conditions hK hE := (g.conditions hK hE).trans (h.conditions hK hE)
  mode hK hE := by
    obtain ⟨hm, hc, hr, ht⟩ := h.mode hK hE
    obtain ⟨gm, gc, gr, gt⟩ := g.mode hK hE
    exact ⟨gm.trans hm, gc.trans hc, gr.trans hr, gt.trans ht⟩
  drive hK hE := (g.drive hK hE).trans (h.drive hK hE)
  governor hK hD hE := (g.governor hK hD hE).trans (h.governor hK hD hE)
  pair hK := by rw [g.pair hK, h.pair hK]
  setpoint hK := by
    obtain ⟨hs, ha⟩ := h.setpoint hK
    obtain ⟨gs, ga⟩ := g.setpoint hK
    exact ⟨gs.trans hs, fun hidle hact => ga (hs.trans hidle) (ha hidle hact)⟩
  supply hK := (g.supply hK).trans (h.supply hK)
  tank a hK hL := (g.tank a hK hL).trans (h.tank a hK hL)
  level a hK := ⟨(g.level a hK).1.trans (h.level a hK).1, (g.level a hK).2.trans (h.level a hK).2⟩
  tables a hK := (g.tables a hK).trans (h.tables a hK)
  readings a hK := (g.readings a hK).trans (h.readings a hK)
  totals hK := (g.totals hK).trans (h.totals hK)
  thermal hK := (g.thermal hK).trans (h.thermal hK)
  zone hK := ⟨(g.zone hK).1.trans (h.zone hK).1, (g.zone hK).2.trans (h.zone hK).2⟩
  valve v hK := (g.valve v hK).trans (h.valve v hK)
  recirc hK := (g.recirc hK).trans (h.recirc hK)
  alarm hK hE := (g.alarm hK hE).trans (h.alarm hK hE)
  cause c hc hK hE := (g.cause c hc hK hE).trans (h.cause c hc hK hE)
  outputs hK := (g.outputs hK).trans (h.outputs hK)
  general hK := (g.general hK).trans (h.general hK)
  notices hK hE := ⟨(g.notices hK hE).1.trans (h.notices hK hE).1, (g.notices hK hE).2.trans (h.notices hK hE).2⟩
  trend hK := (g.trend hK).trans (h.trend hK)
  params := g.params.trans h.params
  assignment := g.assignment.trans h.assignment
  lockout := g.lockout.trans h.lockout
  link := g.link.trans h.link
  clock := g.clock.trans h.clock
  powered := g.powered.trans h.powered
  pending := g.pending.trans h.pending
  choiceCount := g.choiceCount.trans h.choiceCount
  disabled := g.disabled.trans h.disabled
  sending := g.sending.trans h.sending

theorem stands_record (hK : .notices ∈ K) (k : NoticeKind) (n : NoticeBody) (s : State) : Stands K s (record k n s) := by
  obtain ⟨m, x, hd, hx, e⟩ := record_frame k n s
  rw [e]
  refine { Stands.refl K s with notices := fun h => absurd hK h, disabled := hd, sending := hx, .. }

theorem stands_clipDemand (hK : .demand ∈ K) (s : State) : Stands K s (clipDemand s) := by
  obtain ⟨g, -, e, hg⟩ := clipDemand_frame s
  rw [e]
  exact { Stands.refl K s with
    governor := fun _ h => absurd hK h
    pair := fun _ => hg
    setpoint := fun _ => ⟨(congrArg Governor.shadow hg :), fun _ ha => (congrArg Governor.active hg).trans ha⟩ }

theorem stands_modTank {a : Tank} {f : TankRecord → TankRecord} (s : State)
    (hL : .level a ∈ K ∨ .tank a ∈ K ∧ (f (s.tank a)).volume = (s.tank a).volume ∧ (f (s.tank a)).state = (s.tank a).state)
    (htab : .tables ∈ K ∨ (f (s.tank a)).table = (s.tank a).table)
    (hr : .readings ∈ K ∨ (f (s.tank a)).readings = (s.tank a).readings) :
    Stands K s (s.modTank a f) where
  __ := Stands.refl K s
  tank c hT hl := by
    rw [tank_modTank, if_neg]
    rintro rfl
    exact hL.elim hl (hT ·.1)
  level c hl := by
    rw [tank_modTank]
    split
    · next hc =>
      subst hc
      exact (hL.resolve_left hl).2
    · exact ⟨rfl, rfl⟩
  tables c hK := by
    rw [tank_modTank]
    split
    · next hc =>
      subst hc
      exact htab.resolve_left hK
    · rfl
  readings c hK := by
    rw [tank_modTank]
    split
    · next hc =>
      subst hc
      exact hr.resolve_left hK
    · rfl

theorem stands_modValve {v : ValveRole} {f : Actuator → Actuator} (hK : .valve v ∈ K) (s : State) :
    Stands K s (s.modValve v f) where
  __ := Stands.refl K s
  valve w hw := by
    rw [valve_modValve, if_neg]
    rintro rfl
    exact hw hK

/-- A condition event touches no part but its own and those of its release. -/
theorem stands_of_eventParts (hE : .event ∈ K) (h : Stands eventParts s t) : Stands K s t where
  sense _ := h.sense (by decide)
  inputs _ := h.inputs (by decide)
  watch _ := h.watch (by decide)
  flags _ := h.flags (by decide)
  conditions _ hn := absurd hE hn
  mode _ hn := absurd hE hn
  drive _ hn := absurd hE hn
  governor _ _ hn := absurd hE hn
  pair _ := h.pair (by decide)
  setpoint _ := h.setpoint (by decide)
  supply _ := h.supply (by decide)
  tank a _ _ := h.tank a (by cases a <;> decide) (by cases a <;> decide)
  level a _ := h.level a (by cases a <;> decide)
  tables a _ := h.tables a (by decide)
  readings a _ := h.readings a (by decide)
  totals _ := h.totals (by decide)
  thermal _ := h.thermal (by decide)
  zone _ := h.zone (by decide)
  valve v _ := h.valve v (by cases v <;> decide)
  recirc _ := h.recirc (by decide)
  alarm _ hn := absurd hE hn
  cause c hc _ hn := h.cause c hc (fun hm => hn hm hE) fun _ => by decide
  outputs _ := h.outputs (by decide)
  general _ := h.general (by decide)
  notices _ hn := absurd hE hn
  trend _ := h.trend (by decide)
  __ := h

theorem Moves.stands (h : Moves K b s t) : Stands K s t := by
  induction h with
  | refl K b s => exact .refl K s
  | trans _ _ ih₁ ih₂ => exact ih₁.trans ih₂
  | choices K b s f => exact { Stands.refl K s with }
  | @sense K b hK s f => exact { Stands.refl K s with sense := fun h => absurd hK h }
  | @input K b hK s t i => exact { Stands.refl K s with inputs := fun h => absurd hK h }
  | @watch K b hK s f hf hg =>
    exact { Stands.refl K s with
      watch := fun h => absurd hK h
      flags := fun h => hg.resolve_left h
      conditions := fun _ _ => (congrArg Interlock.conditions hf :)
      mode := fun _ _ => ⟨(congrArg Interlock.mode hf :), (congrArg Interlock.ceiling hf :), (congrArg Interlock.recovery hf :),
        (congrArg Interlock.trip hf :)⟩
      lockout := (congrArg Interlock.lockout hf :) }
  | @conditions K b hK s => exact { Stands.refl K s with conditions := fun h => absurd hK h, watch := fun _ => rfl }
  | @mode K b hK s f hf _ =>
    exact { Stands.refl K s with
      watch := fun _ => hf.trans (by rw [State.modInterlock_interlock, hf])
      flags := fun _ => (congrArg Interlock.flags hf :)
      conditions := fun _ _ => (congrArg Interlock.conditions hf :)
      mode := fun h => absurd hK h
      lockout := (congrArg Interlock.lockout hf :) }
  | @drive K b hK s f => exact { Stands.refl K s with drive := fun h => absurd hK h }
  | @governor K b hK s f _ hs =>
    exact { Stands.refl K s with
      governor := fun h => absurd hK h, pair := fun h => absurd hK h, setpoint := fun h => hs.resolve_left h }
  | clip b hK _ ih => exact ih.trans (stands_clipDemand hK _)
  | @supply K b hK s f => exact { Stands.refl K s with supply := fun h => absurd hK h }
  | tank b t hK s f hv hl _ ht hr => exact stands_modTank s (.inr ⟨hK, hv, hl⟩) ht hr
  | level b t hK s f _ _ htab hr => exact stands_modTank s (.inl hK) htab hr
  | @totals K b hK s f _ _ => exact { Stands.refl K s with totals := fun h => absurd hK h }
  | @thermal K b hK s f _ hz =>
    exact { Stands.refl K s with thermal := fun h => absurd hK h, zone := fun h => hz.resolve_left h }
  | valve b v hK s f _ _ => exact stands_modValve hK s
  | command b v hK s o _ => exact stands_modValve hK s
  | @recirc K b hK s f => exact { Stands.refl K s with recirc := fun h => absurd hK h }
  | @alarm K b hK s f _ hc =>
    exact { Stands.refl K s with alarm := fun h => absurd hK h, cause := fun c hm hn _ => (hc c hm).resolve_left hn }
  | @outputs K b hK s f hg =>
    exact { Stands.refl K s with outputs := fun h => absurd hK h, general := fun h => hg.resolve_left h }
  | @record K b hK s k n => exact stands_record hK k n s
  | @protect K b hK s => exact { Stands.refl K s with trend := fun h => absurd hK h }
  | event b hK s _ ih => exact stands_of_eventParts hK ih

end Sys2Proof.Machine
end

section
/-! PROOFS. What every chain of small changes keeps of the records' rules (R71, R97, R99, R125, R147, R166, R174, R177, R187,
R192). -/

namespace Sys2Proof.Machine

variable {K : List Part} {b : Bool} {s t u : State}

/-! ### What every chain keeps -/

theorem stands_record_notices (k : NoticeKind) (n : NoticeBody) (s : State) : Stands [.notices] s (record k n s) :=
  stands_record (by decide) k n s

theorem stands_clipDemand_governor (s : State) : Stands [.demand] s (clipDemand s) := stands_clipDemand (by decide) s

theorem record_supply (k : NoticeKind) (n : NoticeBody) (s : State) : (record k n s).supply = s.supply :=
  (stands_record_notices k n s).supply (by decide)

theorem Moves.supplyFits (h : Moves K b s t) : SupplyFits s.supply → SupplyFits t.supply := by
  induction h with
  | trans _ _ ih₁ ih₂ => exact ih₂ ∘ ih₁
  | supply _ _ _ _ hf => exact hf
  | @clip _ b hK s t h ih => rwa [(stands_clipDemand_governor t).supply (by decide)]
  | record b hK s k n => rw [(stands_record_notices k n s).supply (by decide)]; exact id
  | event _ _ _ _ ih => exact ih
  | _ => exact id

/-- The supply does not leave IDLE where a chain does not say so. -/
theorem Moves.supply_idle (h : Moves K b s t) (hK : .enter ∉ K) (hs : s.supply.state = .idle) :
    t.supply.state = .idle := by
  induction h with
  | trans _ _ ih₁ ih₂ => exact ih₂ hK (ih₁ hK hs)
  | supply _ _ _ _ _ henter => exact (henter.resolve_left hK).resolve_left (not_not_intro hs)
  | @clip _ b _ s t h ih => rw [(stands_clipDemand_governor t).supply (by decide)]; exact ih hK hs
  | record b _ s k n => rw [(stands_record_notices k n s).supply (by decide)]; exact hs
  | event _ _ _ _ ih => exact ih (by decide) hs
  | _ => exact hs

/-- The supply does not come to IDLE where a chain does not say so. -/
theorem Moves.supply_ne_idle (h : Moves K b s t) (hK : .leave ∉ K) (hs : s.supply.state ≠ .idle) :
    t.supply.state ≠ .idle := by
  induction h with
  | trans _ _ ih₁ ih₂ => exact ih₂ hK (ih₁ hK hs)
  | supply _ _ _ _ _ _ hleave => exact (hleave.resolve_left hK).resolve_left hs
  | @clip _ b _ s t h ih => rw [(stands_clipDemand_governor t).supply (by decide)]; exact ih hK hs
  | record b _ s k n => rw [(stands_record_notices k n s).supply (by decide)]; exact hs
  | event _ _ _ _ ih => exact ih (by decide) hs
  | _ => exact hs

theorem fillSound_modTank {a c : Tank} {f : TankRecord → TankRecord} (hf : FillSound (s.tank c) → FillSound (f (s.tank c)))
    (hs : FillSound (s.tank a)) : FillSound ((s.modTank c f).tank a) := by
  rw [tank_modTank]
  split
  · next h => exact h ▸ hf (h ▸ hs)
  · exact hs

theorem Moves.fillSound (h : Moves K b s t) (a : Tank) : FillSound (s.tank a) → FillSound (t.tank a) := by
  induction h with
  | trans _ _ ih₁ ih₂ => exact ih₂ ∘ ih₁
  | tank b c _ s f _ _ hf => exact fillSound_modTank hf
  | level b c _ s f _ hf => exact fillSound_modTank hf
  | @clip _ b _ s t h ih =>
    rwa [(stands_clipDemand_governor t).tank a (by cases a <;> decide) (by cases a <;> decide)]
  | record b _ s k n =>
    rw [(stands_record_notices k n s).tank a (by cases a <;> decide) (by cases a <;> decide)]
    exact id
  | event _ _ _ _ ih => exact ih
  | _ => exact id

theorem levelTied_modTank {a c : Tank} {f : TankRecord → TankRecord} (hf : LevelTied (s.tank c) → LevelTied (f (s.tank c)))
    (hs : LevelTied (s.tank a)) : LevelTied ((s.modTank c f).tank a) := by
  rw [tank_modTank]
  split
  · next h => exact h ▸ hf (h ▸ hs)
  · exact hs

theorem Moves.levelTied (h : Moves K b s t) (a : Tank) : LevelTied (s.tank a) → LevelTied (t.tank a) := by
  induction h with
  | trans _ _ ih₁ ih₂ => exact ih₂ ∘ ih₁
  | tank b c _ s f hv hl _ => exact levelTied_modTank (by rw [LevelTied, LevelTied, hv, hl]; exact id)
  | level b c _ s f ht _ => exact levelTied_modTank fun _ => ht
  | @clip _ b _ s t h ih =>
    rwa [(stands_clipDemand_governor t).tank a (by cases a <;> decide) (by cases a <;> decide)]
  | record b _ s k n =>
    rw [(stands_record_notices k n s).tank a (by cases a <;> decide) (by cases a <;> decide)]
    exact id
  | event _ _ _ _ ih => exact ih
  | _ => exact id

theorem actuatorSound_modValve {v w : ValveRole} {f : Actuator → Actuator}
    (hf : ActuatorSound (s.valve w) → ActuatorSound (f (s.valve w))) (hs : ActuatorSound (s.valve v)) :
    ActuatorSound ((s.modValve w f).valve v) := by
  rw [valve_modValve]
  split
  · next h => exact h ▸ hf (h ▸ hs)
  · exact hs

theorem Moves.actuatorSound (h : Moves K b s t) (v : ValveRole) : ActuatorSound (s.valve v) → ActuatorSound (t.valve v) := by
  induction h with
  | trans _ _ ih₁ ih₂ => exact ih₂ ∘ ih₁
  | valve b w _ s f _ hf => exact actuatorSound_modValve hf
  | command b w _ s o _ => exact actuatorSound_modValve id
  | @clip _ b _ s t h ih => rwa [(stands_clipDemand_governor t).valve v (by cases v <;> decide)]
  | record b _ s k n => rw [(stands_record_notices k n s).valve v (by cases v <;> decide)]; exact id
  | event _ _ _ _ ih => exact ih
  | _ => exact id

theorem mem_pairedWith_comm {v w : ValveRole} (h : v ∈ pairedWith w) : w ∈ pairedWith v := by
  revert h
  cases v <;> cases w <;> decide

theorem not_mem_pairedWith_self (v : ValveRole) : v ∉ pairedWith v := by cases v <;> decide

/-- R174, said valve by valve: a valve commanded OPEN may be. -/
def PairsApart (s : State) : Prop := ∀ v, (s.valve v).openCmd = true → MayOpen s v

theorem pairsApart_iff (s : State) : PairsApart s ↔ ValvePairsApart s := by
  constructor
  · intro h
    refine ⟨fun ⟨hm, hr⟩ => ?_, fun ⟨hm, hf⟩ => ?_, fun ⟨hr, hf⟩ => ?_⟩
    · exact absurd (h .mainValve hm .reserveValve (by decide)) (by simpa [State.valve, getValve] using hr)
    · exact absurd (h .mainValve hm .mainFill (by decide)) (by simpa [State.valve, getValve] using hf)
    · exact absurd (h .reserveValve hr .reserveFill (by decide)) (by simpa [State.valve, getValve] using hf)
  · rintro ⟨hmr, hmf, hrf⟩ v hv w hw
    cases v <;> cases w <;> simp_all [pairedWith, State.valve, getValve]

theorem pairsApart_of_commands (ho : ∀ v, (t.valve v).openCmd = (s.valve v).openCmd) (hs : PairsApart s) :
    PairsApart t := fun v hv w hw => (ho w).trans (hs v ((ho v).symm.trans hv) w hw)

theorem valve_modValve_openCmd {v : ValveRole} {f : Actuator → Actuator} (ho : (f (s.valve v)).openCmd = (s.valve v).openCmd)
    (w : ValveRole) : ((s.modValve v f).valve w).openCmd = (s.valve w).openCmd := by
  rw [valve_modValve]
  split
  · next h => exact h ▸ ho
  · rfl

theorem pairsApart_command {v : ValveRole} {o : Bool} (ho : o = true → MayOpen s v) (hs : PairsApart s) :
    PairsApart (s.modValve v fun a => { a with openCmd := o }) := by
  have hcmd : ∀ w, ((s.modValve v fun a => { a with openCmd := o }).valve w).openCmd =
      if w = v then o else (s.valve w).openCmd := by
    intro w
    rw [valve_modValve]
    split <;> rfl
  intro w hw u hu
  rw [hcmd] at hw ⊢
  split at hw
  · next hwv =>
    subst hwv
    rw [if_neg (by rintro rfl; exact not_mem_pairedWith_self _ hu)]
    exact ho hw u hu
  · split
    · next huv =>
      subst huv
      by_contra hopen
      have := ho (by simpa using hopen) w (mem_pairedWith_comm hu)
      exact absurd (hw.symm.trans this) (by decide)
    · exact hs w hw u hu

theorem Moves.pairsApart (h : Moves K b s t) : PairsApart s → PairsApart t := by
  induction h with
  | trans _ _ ih₁ ih₂ => exact ih₂ ∘ ih₁
  | valve b w _ s f ho _ => exact pairsApart_of_commands (valve_modValve_openCmd ho)
  | command b w _ s o ho => exact pairsApart_command ho
  | @clip _ b _ s t h ih =>
    exact pairsApart_of_commands (fun v => by rw [(stands_clipDemand_governor t).valve v (by cases v <;> decide)]) ∘ ih
  | record b _ s k n =>
    exact pairsApart_of_commands fun v => by rw [(stands_record_notices k n s).valve v (by cases v <;> decide)]
  | event _ _ _ _ ih => exact ih
  | _ => exact pairsApart_of_commands fun _ => rfl

theorem Moves.alarmSound (h : Moves K b s t) : AlarmSound s.alarm → AlarmSound t.alarm := by
  induction h with
  | trans _ _ ih₁ ih₂ => exact ih₂ ∘ ih₁
  | alarm _ _ _ _ hf => exact hf
  | @clip _ b _ s t h ih => rwa [(stands_clipDemand_governor t).alarm (by decide) (by decide)]
  | record b _ s k n => rw [(stands_record_notices k n s).alarm (by decide) (by decide)]; exact id
  | event _ _ _ _ ih => exact ih
  | _ => exact id

/-- Both totalisers as R147 has them. -/
def TotalsSound (x : Totals) : Prop := TotalSound x.incident ∧ TotalSound x.run

theorem Moves.totalsSound (h : Moves K b s t) : TotalsSound s.totals → TotalsSound t.totals := by
  induction h with
  | trans _ _ ih₁ ih₂ => exact ih₂ ∘ ih₁
  | totals _ _ _ _ hi hr => exact fun h => ⟨hi h.1, hr h.2⟩
  | @clip _ b _ s t h ih => rwa [(stands_clipDemand_governor t).totals (by decide)]
  | record b _ s k n => rw [(stands_record_notices k n s).totals (by decide)]; exact id
  | event _ _ _ _ ih => exact ih
  | _ => exact id

theorem Moves.queue_le (h : Moves K b s t) : s.notices.queue.length ≤ 32 → t.notices.queue.length ≤ 32 := by
  induction h with
  | trans _ _ ih₁ ih₂ => exact ih₂ ∘ ih₁
  | record b _ s k n => exact record_queue_le k n s
  | @clip _ b _ s t h ih => rwa [((stands_clipDemand_governor t).notices (by decide) (by decide)).1]
  | event _ _ _ _ ih => exact ih
  | _ => exact id

theorem Moves.trend_eq (h : Moves K b s t) :
    t.trend.ring = s.trend.ring ∧ (s.trend.fast ≤ 30 → t.trend.fast ≤ 30) := by
  induction h with
  | trans _ _ ih₁ ih₂ => exact ⟨ih₂.1.trans ih₁.1, ih₂.2 ∘ ih₁.2⟩
  | protect b _ s => exact ⟨rfl, fun _ => le_rfl⟩
  | @clip _ b _ s t h ih => rwa [(stands_clipDemand_governor t).trend (by decide)]
  | record b _ s k n => rw [(stands_record_notices k n s).trend (by decide)]; exact ⟨rfl, id⟩
  | event _ _ _ _ ih => exact ih
  | _ => exact ⟨rfl, id⟩

/-- No small change raises the demand (R71). -/
theorem Moves.demand_le (h : Moves K b s t) : t.governor.demand ≤ s.governor.demand := by
  induction h with
  | trans _ _ ih₁ ih₂ => exact ih₂.trans ih₁
  | governor _ _ _ _ hf => exact hf
  | @clip _ b _ s t h ih => exact (clipDemand_demand t).trans_le ((min_le_left ..).trans ih)
  | record b _ s k n => rw [(stands_record_notices k n s).governor (by decide) (by decide) (by decide)]
  | event _ _ _ _ ih => exact ih
  | _ => exact le_rfl

/-- R71: the demand lies under the four ceilings. -/
def UnderCeilings (s : State) : Prop := s.governor.demand ≤ leastCeiling (ceilings s)

theorem underCeilings_iff (s : State) : UnderCeilings s ↔
    s.governor.demand ≤ profileCeiling s ∧ s.governor.demand ≤ s.interlock.ceiling ∧
    s.governor.demand ≤ supplyCeiling s ∧ s.governor.demand ≤ thermalCeiling s := by
  unfold UnderCeilings leastCeiling ceilings
  dsimp only
  omega

/-- The demand stays under ceilings that it does not pass and that no one lowers. -/
theorem underCeilings_of_le (hd : t.governor.demand ≤ s.governor.demand) (hp : t.params = s.params)
    (hm : s.interlock.ceiling ≤ t.interlock.ceiling) (hx : supplyCeiling s ≤ supplyCeiling t)
    (ht : thermalCeiling s ≤ thermalCeiling t) (hs : UnderCeilings s) : UnderCeilings t := by
  rw [underCeilings_iff] at hs ⊢
  have hprofile : profileCeiling t = profileCeiling s := by simp only [profileCeiling, State.paramNat, State.param, hp]
  omega

theorem ceilings_clipDemand (s : State) : ceilings (clipDemand s) = ceilings s := by
  obtain ⟨g, -, e, -⟩ := clipDemand_frame s
  rw [e]
  rfl

theorem underCeilings_clipDemand (s : State) : UnderCeilings (clipDemand s) := by
  unfold UnderCeilings
  rw [ceilings_clipDemand, clipDemand_demand]
  exact min_le_right ..

theorem underCeilings_record (k : NoticeKind) (n : NoticeBody) (s : State) : UnderCeilings s → UnderCeilings (record k n s) := by
  obtain ⟨_, _, -, -, e⟩ := record_frame k n s
  rw [e]
  exact id

theorem Moves.underCeilings (h : Moves K true s t) : UnderCeilings s → UnderCeilings t := by
  generalize hb : true = b at h
  induction h with
  | trans _ _ ih₁ ih₂ => exact ih₂ hb ∘ ih₁ hb
  | watch b _ s f hf => exact underCeilings_of_le le_rfl rfl (le_of_eq (congrArg Interlock.ceiling hf).symm) le_rfl le_rfl
  | mode b _ s f _ hc => exact underCeilings_of_le le_rfl rfl (hc hb.symm) le_rfl le_rfl
  | governor b _ s f hf => exact underCeilings_of_le hf rfl le_rfl le_rfl le_rfl
  | clip b _ _ _ => exact fun _ => underCeilings_clipDemand _
  | supply b _ s f _ _ _ hc => exact underCeilings_of_le le_rfl rfl le_rfl (hc hb.symm) le_rfl
  | thermal b _ s f hc => exact underCeilings_of_le le_rfl rfl le_rfl le_rfl (hc hb.symm)
  | record b _ s k n => exact underCeilings_record k n s
  | event _ _ _ _ ih => exact ih hb
  | _ => exact id

end Sys2Proof.Machine
end

section
/-! PROOFS. Chains of small changes through the tank-to-pump valves, the supply states, a switch and the return to tank feed. -/

namespace Sys2Proof.Machine

variable {K : List Part} {b : Bool} {s x y : State}

/-! ### The tank-to-pump valves -/

/-- What a command of a tank-to-pump valve touches, the fills it bears on included. -/
def feedParts : List Part := [.valve .mainValve, .valve .reserveValve] ++ fillsParts

theorem fillsParts_subset_feedParts : fillsParts ⊆ feedParts := by decide

theorem fillParts_subset_feedParts (t : Tank) : fillParts t ⊆ feedParts := by cases t <;> decide

theorem moves_forceFillClosed {t : Tank} (hK : fillParts t ⊆ K) (h : Moves K b s x) :
    Moves K b s (forceFillClosed t x) := by
  unfold forceFillClosed
  split
  · exact (moves_carryOut (hK (by simp [fillParts])) (by simp) h).trans
      (.tank b t (hK (by simp [fillParts])) _ _ rfl rfl (fillSound_fillOpen false))
  · exact h

theorem forceFillClosed_openCmd (t : Tank) (s : State) : ((forceFillClosed t s).valve (fillValve t)).openCmd = false := by
  unfold forceFillClosed
  split
  · exact carryOut_openCmd ..
  · next h => simpa using h

theorem tankValve_part_not_mem_fillParts (t u : Tank) : Part.valve (tankValve t) ∉ fillParts u := by
  cases t <;> cases u <;> decide

theorem pairedWith_tankValve (t : Tank) (w : ValveRole) :
    w ∈ pairedWith (tankValve t) ↔ w = tankValve (otherTank t) ∨ w = fillValve t := by
  cases t <;> cases w <;> decide

theorem moves_commandTankValve {t : Tank} {o : Bool} (hK : feedParts ⊆ K) (h : Moves K b s x) :
    Moves K b s (commandTankValve t o x) := by
  have hfill : fillParts t ⊆ K := List.Subset.trans (fillParts_subset_feedParts t) hK
  have hvalve : .valve (tankValve t) ∈ K := hK (by cases t <;> decide)
  unfold commandTankValve
  split
  · split
    · exact moves_record (hfill (by simp [fillParts])) h
    · next hother =>
      refine moves_reviewFill hfill (moves_carryOut hvalve (fun _ w hw => ?_) (moves_forceFillClosed hfill h))
      obtain rfl | rfl := (pairedWith_tankValve t w).1 hw
      · rw [(moves_forceFillClosed (b := true) (List.Subset.refl _) (.refl _ _ x)).stands.valve _
          (tankValve_part_not_mem_fillParts _ t)]
        simpa using hother
      · exact forceFillClosed_openCmd t x
  · exact moves_reviewFill hfill (moves_carryOut hvalve (by simp) h)

theorem moves_closeTankValves (hK : feedParts ⊆ K) (h : Moves K b s x) : Moves K b s (closeTankValves x) :=
  moves_commandTankValve hK (moves_commandTankValve hK h)

theorem commandTankValve_supply (t : Tank) (o : Bool) (s : State) : (commandTankValve t o s).supply = s.supply :=
  (moves_commandTankValve (b := true) (List.Subset.refl _) (.refl _ _ s)).stands.supply (by decide)

theorem closeTankValves_supply (s : State) : (closeTankValves s).supply = s.supply := by
  simp only [closeTankValves, commandTankValve_supply]

/-! ### The supply record -/

/-- What the Supply Unit's acts touch, its leaving IDLE and its coming to it apart. -/
def supplyParts : List Part :=
  [.supply, .governor, .demand, .alarm, .thermal, .outputs, .trend, .event] ++ feedParts

theorem feedParts_subset_supplyParts : feedParts ⊆ supplyParts := by decide

/-- What a switch and the return to tank feed touch: no output of the primer, and no trend. -/
def switchParts : List Part := [.supply, .governor, .demand, .alarm, .thermal, .event] ++ feedParts

theorem feedParts_subset_switchParts : feedParts ⊆ switchParts := by decide

/-- The supply may leave IDLE in a chain over K, or does not stand in it. -/
abbrev MayFeed (K : List Part) (x : State) : Prop := .enter ∈ K ∨ x.supply.state ≠ .idle

theorem mayFeed_of_supply_eq (h : y.supply = x.supply) (hx : MayFeed K x) : MayFeed K y := by rwa [MayFeed, h]

theorem supplyCeiling_eq {s t : State} (hst : t.supply.state = s.supply.state) (hl : t.supply.limit = s.supply.limit) :
    supplyCeiling t = supplyCeiling s := by
  unfold supplyCeiling
  rw [hst, hl]

/-- The supply record changed within its state, its limit kept. -/
theorem moves_supply {f : Supply → Supply} (hK : .supply ∈ K) (hst : (f x.supply).state = x.supply.state)
    (hl : (f x.supply).limit = x.supply.limit) (hf : SupplyFits x.supply → SupplyFits (f x.supply))
    (h : Moves K b s x) : Moves K b s (x.modSupply f) := by
  refine h.trans (.supply b hK x f hf ?_ ?_ fun _ => (supplyCeiling_eq hst hl).ge)
  · exact .inr (by rw [hst]; exact ne_or_eq _ _)
  · exact .inr (by rw [hst]; exact eq_or_ne _ _)

/-- What a change of the limiter's ceiling touches. -/
def limiterParts : List Part := [.supply, .demand, .alarm]

theorem moves_setLimit {l : Nat} (hK : limiterParts ⊆ K) (h : Moves K b s x) : Moves K b s (setLimit l x) := by
  have halarm : ∀ y, Moves K false x y → Moves K false x (if l < 1000 then y else removeAlarm .limiter y) := by
    intro y hy
    split
    · exact hy
    · exact moves_removeAlarm (hK (by decide)) hy
  exact h.trans (.clip b (hK (by decide)) (halarm _
    (.supply false (hK (by decide)) x _ id (.inr (ne_or_eq _ _)) (.inr (eq_or_ne _ _)) (by simp))))

/-- A supply state and a phase it may have (R97). -/
def PhaseFits (st : SupplyState) (ph : Option Phase) : Prop :=
  (st = .switching → ph = some .closingOther ∨ ph = some .openingTarget ∨ ph = some .settling) ∧
  (st = .draftPriming → ph = some .closingTank ∨ ph = some .priming) ∧
  (st ≠ .switching → st ≠ .draftPriming → ph = none)

theorem supplyFits_supplyIn {st : SupplyState} {ph : Option Phase} (hph : PhaseFits st ph) (floor : Int) (x : Supply) :
    SupplyFits (supplyIn st ph floor x) := by
  refine ⟨⟨fun h => ?_, ?_, ?_, ?_⟩, hph⟩
  · by_contra hst
    change st ≠ .hydrantQualifying at hst
    simp [supplyIn, hst] at h
  all_goals simp [supplyIn]

/-- What follows the Supply Unit's own record as a state is entered (R103, R123, R161). -/
def handSupply (st : SupplyState) (t : State) : State :=
  let t := if limiterRuns st then t else setLimit 1000 t
  let t := if st = .noSupply then t else removeAlarm .exhausted t
  let t := if st = .draftPriming then t.modThermal fun x => { x with dry := none } else t
  reviewFills (conditionEvent (clipDemand t))

theorem setSupply_eq (st : SupplyState) (ph : Option Phase) (s : State) :
    setSupply st ph s = handSupply st (s.modSupply (supplyIn st ph (floorOf s st))) := rfl

/-- What follows as a supply state is entered, DRAFT_PRIMING's dry-run timer apart. -/
def handParts : List Part := [.supply, .demand, .alarm, .event] ++ fillsParts

theorem moves_handSupply {st : SupplyState} (hK : handParts ⊆ K) (hth : st = .draftPriming → .thermal ∈ K)
    (hs : Moves K b s x) (h : Moves K false x y) :
    Moves K b s (handSupply st y) := by
  refine moves_reviewFills (List.Subset.trans (by decide) hK) (moves_conditionEvent (hK (by decide)) ?_)
  refine hs.trans (.clip b (hK (by decide)) ?_)
  have hlimit : Moves K false x (if limiterRuns st then y else setLimit 1000 y) := by
    split
    · exact h
    · exact moves_setLimit (List.Subset.trans (by decide) hK) h
  have halarm : Moves K false x (if st = .noSupply then if limiterRuns st then y else setLimit 1000 y
      else removeAlarm .exhausted (if limiterRuns st then y else setLimit 1000 y)) := by
    split
    · exact hlimit
    · exact moves_removeAlarm (hK (by decide)) hlimit
  split
  · next hst => exact halarm.trans (.thermal false (hth hst) _ _ (by simp))
  · exact halarm

/-- A supply state other than IDLE entered, from a record changed by g. -/
theorem moves_setSupply_modSupply {st : SupplyState} {ph : Option Phase} {g : Supply → Supply} (hK : switchParts ⊆ K)
    (hst : st ≠ .idle) (hph : PhaseFits st ph) (hx : MayFeed K x) (h : Moves K b s x) :
    Moves K b s (setSupply st ph (x.modSupply g)) := by
  rw [setSupply_eq]
  refine moves_handSupply (List.Subset.trans (by decide) hK) (fun _ => hK (by decide)) h (.supply false (hK (by decide)) x
    (supplyIn st ph (floorOf (x.modSupply g) st) ∘ g) (fun _ => supplyFits_supplyIn hph _ _) ?_ ?_ (by simp))
  · exact hx.imp_right .inl
  · exact .inr (.inr hst)

theorem moves_setSupply {st : SupplyState} {ph : Option Phase} (hK : switchParts ⊆ K) (hst : st ≠ .idle)
    (hph : PhaseFits st ph) (hx : MayFeed K x) (h : Moves K b s x) : Moves K b s (setSupply st ph x) :=
  moves_setSupply_modSupply (g := id) hK hst hph hx h

/-- The hand-on of a state leaves the supply in it. -/
theorem handSupply_supply (st : SupplyState) (t : State) :
    (handSupply st t).supply = if limiterRuns st then t.supply else (setLimit 1000 t).supply := by
  have hreview : ∀ u : State, (reviewFills (conditionEvent (clipDemand u))).supply = u.supply := fun u =>
    (moves_reviewFills (K := supplyParts.erase .supply) (b := true) (by decide) (moves_conditionEvent (by decide)
      (.clip true (by decide) (.refl _ _ u)))).stands.supply (by decide)
  unfold handSupply
  dsimp only
  rw [hreview]
  split <;> split <;> split <;> simp [removeAlarm_supply]

theorem setSupply_supply (st : SupplyState) (ph : Option Phase) (s : State) :
    (setSupply st ph s).supply = if limiterRuns st then supplyIn st ph (floorOf s st) s.supply else
      { supplyIn st ph (floorOf s st) s.supply with limit := 1000, activity := none } := by
  rw [setSupply_eq, handSupply_supply]
  split
  · rfl
  · rw [setLimit_supply]
    simp [activityAfter, supplyIn]

theorem setSupply_state (st : SupplyState) (ph : Option Phase) (s : State) : (setSupply st ph s).supply.state = st := by
  rw [setSupply_supply]
  split <;> rfl

theorem setSupply_phase (st : SupplyState) (ph : Option Phase) (s : State) : (setSupply st ph s).supply.phase = ph := by
  rw [setSupply_supply]
  split <;> rfl

theorem moves_reviewLowTank (hK : .alarm ∈ K) (h : Moves K b s x) : Moves K b s (reviewLowTank x) := by
  unfold reviewLowTank
  dsimp only
  split
  · exact moves_addAlarm hK h
  · exact moves_removeAlarm hK h

theorem moves_selectTank {t : Tank} (hK : handParts ⊆ K) (h : Moves K b s x) : Moves K b s (selectTank t x) := by
  unfold selectTank
  split
  · exact h
  · exact moves_reviewLowTank (hK (by decide)) (moves_conditionEvent (hK (by decide))
      (moves_supply (hK (by decide)) rfl rfl id h))

theorem selectTank_supply (t : Tank) (s : State) : (selectTank t s).supply = { s.supply with selected := t } := by
  unfold selectTank
  split
  · next h => rw [← h]
  · exact (moves_reviewLowTank (K := [.alarm, .event]) (b := true) (by decide) (moves_conditionEvent (by decide)
      (.refl _ _ _))).stands.supply (by decide)

theorem moves_beginSwitchover (hK : switchParts ⊆ K) (h : Moves K b s x) : Moves K b s (beginSwitchover x) := by
  unfold beginSwitchover
  split
  · exact h
  · exact moves_beginOverride (hK (by decide)) (hK (by decide)) (moves_supply (hK (by decide)) rfl rfl id h)

theorem moves_endSwitchover (hK : switchParts ⊆ K) (h : Moves K b s x) : Moves K b s (endSwitchover x) := by
  unfold endSwitchover
  split
  · exact moves_endOverride (hK (by decide)) (hK (by decide)) (moves_supply (hK (by decide)) rfl rfl id h)
  · exact h

theorem beginOverride_supply (k : OverrideKind) (s : State) : (beginOverride k s).supply = s.supply :=
  (moves_beginOverride (K := [.governor, .notices]) (b := true) (by decide) (by decide) (.refl _ _ s)).stands.supply
    (by decide)

theorem endOverride_supply (k : OverrideKind) (s : State) : (endOverride k s).supply = s.supply :=
  (moves_endOverride (K := [.governor, .notices]) (b := true) (by decide) (by decide) (.refl _ _ s)).stands.supply
    (by decide)

theorem beginSwitchover_supply (s : State) : (beginSwitchover s).supply = { s.supply with switchHeld := true } := by
  unfold beginSwitchover
  split
  · next h => rw [← h]
  · rw [beginOverride_supply]; rfl

theorem endSwitchover_supply (s : State) : (endSwitchover s).supply = { s.supply with switchHeld := false } := by
  unfold endSwitchover
  split
  · rw [endOverride_supply]; rfl
  · next h => rw [← Bool.eq_false_iff.2 h]

/-! ### NO_SUPPLY, switching and tank feed -/

theorem moves_enterNoSupply {c : ExhaustCause} (hK : switchParts ⊆ K) (hx : MayFeed K x) (h : Moves K b s x) :
    Moves K b s (enterNoSupply c x) := by
  refine moves_addAlarm (hK (by decide)) (moves_record (hK (by decide)) (moves_setSupply hK (by simp)
    (by simp [PhaseFits]) ?_ (moves_endSwitchover hK (moves_closeTankValves
      (List.Subset.trans feedParts_subset_switchParts hK) h))))
  rwa [MayFeed, endSwitchover_supply, closeTankValves_supply]

theorem moves_startSettling {stuck : Bool} (hK : switchParts ⊆ K) (hx : x.supply.state = .switching)
    (h : Moves K b s x) : Moves K b s (startSettling stuck x) := by
  refine moves_supply (hK (by decide)) rfl rfl (fun ⟨⟨hatt, hprime, _, hloss⟩, _⟩ => ?_) h
  exact ⟨⟨hatt, hprime, fun _ => hx, hloss⟩, by simp [PhaseFollowsState, hx]⟩

theorem mayFeed_of_switching (hx : x.supply.state = .switching) : MayFeed K x := .inr (by simp [hx])

theorem moves_judgeTarget (hK : switchParts ⊆ K) (hx : x.supply.state = .switching) (h : Moves K b s x) :
    Moves K b s (judgeTarget x) := by
  unfold judgeTarget
  dsimp only
  split
  · exact moves_startSettling hK hx h
  · exact moves_enterNoSupply hK (mayFeed_of_switching hx) h
  · exact moves_startSettling hK hx h
  · exact h

theorem moves_openTarget (hK : switchParts ⊆ K) (hx : x.supply.state = .switching) (h : Moves K b s x) :
    Moves K b s (openTarget x) := by
  refine moves_judgeTarget hK ?_ (moves_commandTankValve (List.Subset.trans feedParts_subset_switchParts hK)
    (moves_supply (hK (by decide)) rfl rfl (fun hfits => ?_) h))
  · rw [commandTankValve_supply]
    exact hx
  · exact ⟨hfits.1, by simp [PhaseFollowsState, hx]⟩

theorem moves_judgeOther (hK : switchParts ⊆ K) (hx : x.supply.state = .switching) (h : Moves K b s x) :
    Moves K b s (judgeOther x) := by
  unfold judgeOther
  dsimp only
  split
  · exact moves_openTarget hK hx h
  · exact moves_enterNoSupply hK (mayFeed_of_switching hx) h
  · exact moves_openTarget hK hx h
  · exact h

theorem moves_markSwitching (hK : switchParts ⊆ K) (hx : MayFeed K x) (h : Moves K b s x) :
    Moves K b s (markSwitching x) :=
  moves_setSupply_modSupply hK (by simp) (by simp [PhaseFits]) hx h

theorem markSwitching_state (s : State) : (markSwitching s).supply.state = .switching := setSupply_state ..

theorem moves_beginSwitch (hK : switchParts ⊆ K) (hx : MayFeed K x) (h : Moves K b s x) :
    Moves K b s (beginSwitch x) := by
  refine moves_judgeOther hK ?_ (moves_commandTankValve (List.Subset.trans feedParts_subset_switchParts hK)
    (moves_markSwitching hK hx h))
  rw [commandTankValve_supply]
  exact markSwitching_state x

theorem moves_emptyTankDecision (hK : switchParts ⊆ K) (hx : MayFeed K x) (h : Moves K b s x) :
    Moves K b s (emptyTankDecision x) := by
  unfold emptyTankDecision
  split
  · refine moves_beginSwitch hK ?_ (moves_beginSwitchover hK (moves_selectTank (List.Subset.trans (by decide) hK) h))
    rwa [MayFeed, beginSwitchover_supply, selectTank_supply]
  · exact moves_enterNoSupply hK hx h

theorem moves_enterSwitching (hK : switchParts ⊆ K) (hx : MayFeed K x) (h : Moves K b s x) :
    Moves K b s (enterSwitching x) := by
  unfold enterSwitching
  split
  · exact moves_emptyTankDecision hK (mayFeed_of_switching (markSwitching_state x)) (moves_markSwitching hK hx h)
  · exact moves_beginSwitch hK hx h

theorem moves_feedFromTank (hK : switchParts ⊆ K) (hx : MayFeed K x) (h : Moves K b s x) :
    Moves K b s (feedFromTank x) := by
  have ht := moves_commandTankValve (t := x.supply.selected) (o := true)
    (List.Subset.trans feedParts_subset_switchParts hK) h
  unfold feedFromTank
  dsimp only
  split
  · exact moves_enterNoSupply hK (mayFeed_of_supply_eq (commandTankValve_supply ..) hx) ht
  · exact ht

theorem moves_returnToTank (hK : switchParts ⊆ K) (hx : MayFeed K x) (h : Moves K b s x) :
    Moves K b s (returnToTank x) := by
  unfold returnToTank
  split
  · exact moves_emptyTankDecision hK hx h
  · split
    · exact moves_feedFromTank hK (.inr (by simp [setSupply_state])) (moves_setSupply hK (by simp)
        (by simp [PhaseFits]) hx h)
    · exact moves_enterSwitching hK hx h

end Sys2Proof.Machine
end

section
/-! PROOFS. Chains of small changes through the Supply Unit's timers, requests and reports. -/

namespace Sys2Proof.Machine

variable {K : List Part} {b : Bool} {s x y : State}

/-! ### The Supply Unit's timers, requests and reports -/

/-- The supply may leave IDLE in a chain over K, or its record is as R97 has it, so that no timer of it runs in IDLE. -/
abbrev Timed (K : List Part) (x : State) : Prop := .enter ∈ K ∨ SupplyFits x.supply

theorem mayFeed_of_attempt (ht : Timed K x) (h : x.supply.attempt.isSome = true) : MayFeed K x :=
  ht.imp_right fun hfits => by simp [hfits.1.1 h]

theorem mayFeed_of_prime (ht : Timed K x) (h : x.supply.prime.isSome = true ∨ x.supply.primerLimit.isSome = true) :
    MayFeed K x :=
  ht.imp_right fun hfits => by simp [hfits.1.2.1 h]

theorem mayFeed_of_settle (ht : Timed K x) (h : x.supply.settle.isSome = true) : MayFeed K x :=
  ht.imp_right fun hfits => by simp [hfits.1.2.2.1 h]

theorem mayFeed_of_loss (ht : Timed K x) (h : x.supply.loss.isSome = true) : MayFeed K x :=
  ht.imp_right fun hfits => by obtain hst | hst := hfits.1.2.2.2 h <;> simp [hst]

theorem isSome_of_not_isNone {α : Type} {o : Option α} (h : ¬o.isNone = true) : o.isSome = true := by
  cases o <;> simp_all

theorem moves_expireSettle (hK : supplyParts ⊆ K) (ht : Timed K x) (h : Moves K b s x) :
    Moves K b s (expireSettle x) := by
  unfold expireSettle
  split
  · exact h
  · next hrun =>
    exact moves_record (hK (by decide)) (moves_endSwitchover (List.Subset.trans (by decide) hK) (moves_setSupply (List.Subset.trans (by decide) hK) (by simp) (by simp [PhaseFits])
      (mayFeed_of_settle ht (isSome_of_not_isNone hrun)) h))

theorem moves_startQualifying (hK : supplyParts ⊆ K) (hx : MayFeed K x) (h : Moves K b s x) :
    Moves K b s (startQualifying x) :=
  moves_setSupply_modSupply (List.Subset.trans (by decide) hK) (by simp) (by simp [PhaseFits]) hx h

theorem moves_publishWindow (hK : supplyParts ⊆ K) (h : Moves K b s x) : Moves K b s (publishWindow x) := by
  unfold publishWindow
  split
  · exact moves_supply (hK (by decide)) rfl rfl id h
  · exact h

theorem supplyFits_attempt_none {x : Supply} (h : SupplyFits x) : SupplyFits { x with attempt := none } :=
  ⟨⟨by simp, h.1.2⟩, h.2⟩

theorem moves_rejectHydrant {r : AttemptReason} (hK : supplyParts ⊆ K) (hx : MayFeed K x) (h : Moves K b s x) :
    Moves K b s (rejectHydrant r x) := by
  refine moves_returnToTank (List.Subset.trans (by decide) hK) ?_ (moves_record (hK (by decide))
    (moves_supply (hK (by decide)) rfl rfl supplyFits_attempt_none h))
  rwa [MayFeed, record_supply]

theorem moves_failAttempt {r : AttemptReason} (hK : supplyParts ⊆ K) (ht : Timed K x)
    (hrun : x.supply.attempt.isSome = true) (h : Moves K b s x) : Moves K b s (failAttempt r x) := by
  have hcount : Moves K b s (x.modSupply fun y => { y with attempts := min (y.attempts + 1) 7, lastReason := some r }) :=
    moves_supply (hK (by decide)) rfl rfl id h
  unfold failAttempt
  dsimp only
  split
  · exact moves_supply (hK (by decide)) rfl rfl (fun hfits => ⟨⟨fun _ => hfits.1.1 hrun, hfits.1.2⟩, hfits.2⟩) hcount
  · exact moves_rejectHydrant hK (mayFeed_of_attempt (x := x) ht hrun) hcount

theorem moves_qualifyHydrant {ps : Int} (hK : supplyParts ⊆ K) (hx : MayFeed K x) (h : Moves K b s x) :
    Moves K b s (qualifyHydrant ps x) := by
  refine moves_record (hK (by decide)) (moves_setSupply (List.Subset.trans (by decide) hK) (by simp) (by simp [PhaseFits]) ?_
    (moves_closeTankValves (List.Subset.trans feedParts_subset_supplyParts hK)
      (moves_supply (hK (by decide)) rfl rfl supplyFits_attempt_none h)))
  rwa [MayFeed, closeTankValves_supply]

theorem moves_expireAttempt (hK : supplyParts ⊆ K) (ht : Timed K x) (h : Moves K b s x) :
    Moves K b s (expireAttempt x) := by
  unfold expireAttempt
  split
  · exact h
  · next hrun =>
    have hrun := isSome_of_not_isNone hrun
    split
    · exact moves_failAttempt hK ht hrun h
    · exact moves_qualifyHydrant hK (mayFeed_of_attempt ht hrun) h

theorem moves_setPrimer {on : Bool} (hK : .outputs ∈ K) (h : Moves K b s x) : Moves K b s (setPrimer on x) :=
  h.trans (.outputs b hK x _)

theorem moves_startPriming (hK : supplyParts ⊆ K) (hx : x.supply.state = .draftPriming) (h : Moves K b s x) :
    Moves K b s (startPriming x) := by
  refine moves_beginOverride (hK (by decide)) (hK (by decide)) (moves_setPrimer (hK (by decide))
    (moves_supply (hK (by decide)) rfl rfl (fun ⟨⟨hatt, _, hset, hloss⟩, _⟩ => ?_) h))
  exact ⟨⟨hatt, fun _ => hx, hset, hloss⟩, by simp [PhaseFollowsState, hx]⟩

theorem moves_endPriming (hK : supplyParts ⊆ K) (h : Moves K b s x) : Moves K b s (endPriming x) := by
  unfold endPriming
  split
  · exact moves_endOverride (hK (by decide)) (hK (by decide)) (moves_supply (hK (by decide)) rfl rfl id h)
  · exact h

theorem endPriming_supply (s : State) : (endPriming s).supply = { s.supply with primeHeld := false } := by
  unfold endPriming
  split
  · rw [endOverride_supply]; rfl
  · next h => rw [← Bool.eq_false_iff.2 h]

theorem moves_abandonPrime {c : PrimeCause} (hK : supplyParts ⊆ K) (hx : MayFeed K x) (h : Moves K b s x) :
    Moves K b s (abandonPrime c x) := by
  refine moves_returnToTank (List.Subset.trans (by decide) hK) ?_ (moves_record (hK (by decide)) (moves_endPriming hK (moves_setPrimer (hK (by decide))
    (moves_supply (hK (by decide)) rfl rfl (fun hfits => ⟨⟨hfits.1.1, by simp, hfits.1.2.2⟩, hfits.2⟩) h))))
  rw [MayFeed, recordPrimeFailed, record_supply, endPriming_supply]
  exact hx

theorem mayFeed_of_draftPriming (hx : x.supply.state = .draftPriming) : MayFeed K x := .inr (by simp [hx])

theorem moves_judgeClosingTank (hK : supplyParts ⊆ K) (hx : x.supply.state = .draftPriming) (h : Moves K b s x) :
    Moves K b s (judgeClosingTank x) := by
  unfold judgeClosingTank
  split
  · exact moves_abandonPrime hK (mayFeed_of_draftPriming hx) h
  · split
    · exact moves_startPriming hK hx h
    · exact h

theorem moves_startDraft (hK : supplyParts ⊆ K) (hx : MayFeed K x) (h : Moves K b s x) : Moves K b s (startDraft x) := by
  refine moves_judgeClosingTank hK ?_ (moves_closeTankValves (List.Subset.trans feedParts_subset_supplyParts hK)
    (moves_setSupply (List.Subset.trans (by decide) hK) (by simp) (by simp [PhaseFits]) hx h))
  rw [closeTankValves_supply]
  exact setSupply_state ..

theorem draftPriming_of_phase {x : Supply} (hfits : SupplyFits x) (h : x.phase = some .priming) :
    x.state = .draftPriming := by
  obtain ⟨-, hswitch, -, hnone⟩ := hfits
  by_contra hst
  by_cases hsw : x.state = .switching
  · simpa [h] using hswitch hsw
  · simpa [h] using hnone hsw hst

theorem moves_publishPrime (hK : supplyParts ⊆ K) (h : Moves K b s x) : Moves K b s (publishPrime x) := by
  unfold publishPrime
  split
  · next hph =>
    refine moves_supply (hK (by decide)) rfl rfl (fun hfits => ?_) h
    have hst : x.supply.state = .draftPriming := draftPriming_of_phase hfits hph
    exact ⟨⟨hfits.1.1, fun _ => hst, hfits.1.2.2⟩, hfits.2⟩
  · exact h

theorem moves_expirePrime (hK : supplyParts ⊆ K) (ht : Timed K x) (h : Moves K b s x) :
    Moves K b s (expirePrime x) := by
  unfold expirePrime
  split
  · exact h
  · next hrun =>
    refine moves_record (hK (by decide)) (moves_setSupply (List.Subset.trans (by decide) hK) (by simp) (by simp [PhaseFits]) ?_
      (moves_endPriming hK (moves_setPrimer (hK (by decide)) h)))
    rw [MayFeed, endPriming_supply]
    exact mayFeed_of_prime ht (.inl (isSome_of_not_isNone hrun))

theorem moves_expirePrimerLimit (hK : supplyParts ⊆ K) (ht : Timed K x) (h : Moves K b s x) :
    Moves K b s (expirePrimerLimit x) := by
  unfold expirePrimerLimit
  split
  · exact h
  · next hrun => exact moves_abandonPrime hK (mayFeed_of_prime ht (.inr (isSome_of_not_isNone hrun))) h

theorem moves_evaluateLimiter (hK : limiterParts ⊆ K) (h : Moves K b s x) : Moves K b s (evaluateLimiter x) := by
  have hfloor : Moves K b s (x.modSupply fun y => { y with floor := floorOf x x.supply.state }) :=
    moves_supply (hK (by decide)) rfl rfl id h
  have hbelow : ∀ p, Moves K b s ((x.modSupply fun y => { y with floor := floorOf x x.supply.state }).modSupply
      fun y => { y with below := p }) := fun p => moves_supply (hK (by decide)) rfl rfl id hfloor
  unfold evaluateLimiter
  dsimp only
  split
  · exact hfloor
  · split
    · exact moves_setLimit hK (hbelow true)
    · split
      · exact hbelow false
      · exact moves_setLimit hK (hbelow false)

theorem losingSupply_state (h : losingSupply x = true) : x.supply.state = .hydrant ∨ x.supply.state = .draft := by
  simp only [losingSupply, Bool.and_eq_true, Bool.or_eq_true, beq_iff_eq] at h
  exact h.1.1.1.1

theorem moves_limiterPeriod (hK : limiterParts ⊆ K) (h : Moves K b s x) : Moves K b s (limiterPeriod x) := by
  unfold limiterPeriod
  split
  · refine moves_supply (hK (by decide)) rfl rfl (fun hfits => ⟨⟨hfits.1.1, hfits.1.2.1, hfits.1.2.2.1, fun hrun => ?_⟩,
      hfits.2⟩) (moves_evaluateLimiter hK h)
    exact losingSupply_state ((timerWhile_isSome ..).symm.trans hrun)
  · exact h

theorem moves_actOnLoss {o : LossOutcome} (hK : supplyParts ⊆ K) (hx : MayFeed K x) (h : Moves K b s x) :
    Moves K b s (actOnLoss o x) := by
  cases o
  · refine moves_enterSwitching (List.Subset.trans (by decide) hK) ?_ (moves_beginSwitchover (List.Subset.trans (by decide) hK) h)
    rwa [MayFeed, beginSwitchover_supply]
  · refine moves_enterSwitching (List.Subset.trans (by decide) hK) ?_ (moves_beginSwitchover (List.Subset.trans (by decide) hK) (moves_selectTank (List.Subset.trans (by decide) hK) h))
    rwa [MayFeed, beginSwitchover_supply, selectTank_supply]
  · exact h

theorem moves_takeLoss (hK : supplyParts ⊆ K) (ht : Timed K x) (h : Moves K b s x) : Moves K b s (takeLoss x) := by
  unfold takeLoss
  split
  · exact h
  · next hrun =>
    refine moves_actOnLoss hK ?_ (moves_protect (hK (by decide)) (moves_record (hK (by decide))
      (moves_supply (hK (by decide)) rfl rfl
        (fun hfits => ⟨⟨hfits.1.1, hfits.1.2.1, hfits.1.2.2.1, by simp⟩, hfits.2⟩) h)))
    rw [MayFeed, show ∀ y : State, (protectiveEvent y).supply = y.supply from fun _ => rfl, record_supply]
    exact mayFeed_of_loss (x := x) ht (isSome_of_not_isNone hrun)

/-- An act of the Supply Unit with a fill command that falls together with it: both are acts of their own. -/
theorem moves_openTogether {t : Tank} {turn switch : State → State} {alone : State} (hK : fillParts t ⊆ K)
    (hboth : Moves K b s (switch (turn x))) (halone : Moves K b s alone) :
    Moves K b s (openTogether t turn switch alone x) := by
  unfold openTogether
  dsimp only
  split
  · exact moves_commandFill hK hboth
  · exact halone

theorem moves_turnCycle {t : Tank} (hK : fillParts t ⊆ K) (hst : (x.tank t).stage = .topoff) (h : Moves K b s x) :
    Moves K b s (turnCycle t x) :=
  moves_stage hK rfl rfl (fun ⟨hest, hsus, hsafe, _, _⟩ => ⟨hest, by simp [hst, hsus, hsafe, startTimer]⟩) h

theorem moves_switchWithCycle {switch : State → State} (hK : supplyParts ⊆ K)
    (hswitch : ∀ y, y.supply = x.supply → Moves K b s y → Moves K b s (switch y)) (h : Moves K b s x) :
    Moves K b s (switchWithCycle switch x) := by
  unfold switchWithCycle
  split
  · next t _ =>
    have hfill : fillParts t ⊆ K :=
      List.Subset.trans (fillParts_subset_feedParts t) (List.Subset.trans feedParts_subset_supplyParts hK)
    split
    · next hdue =>
      have hst : (x.tank t).stage = .topoff := by
        simp only [cycleDue, Bool.and_eq_true, beq_iff_eq] at hdue
        exact hdue.1.1.1
      exact moves_openTogether hfill (hswitch _ rfl (moves_turnCycle hfill hst h)) (hswitch _ rfl h)
    · exact hswitch _ rfl h
  · exact hswitch _ rfl h

theorem moves_expireLoss (hK : supplyParts ⊆ K) (ht : Timed K x) (h : Moves K b s x) : Moves K b s (expireLoss x) :=
  moves_switchWithCycle hK (fun y hy hs => moves_takeLoss hK (by rwa [Timed, hy]) hs) h

theorem moves_expireActivity (hK : supplyParts ⊆ K) (h : Moves K b s x) : Moves K b s (expireActivity x) := by
  unfold expireActivity
  split
  · exact h
  · exact moves_addAlarm (hK (by decide)) (moves_record (hK (by decide)) (moves_supply (hK (by decide)) rfl rfl id h))

theorem moves_supplyOnLevel {t : Tank} {old : LevelState} (hK : supplyParts ⊆ K) (h : Moves K b s x) :
    Moves K b s (supplyOnLevel t old x) := by
  have hfeed : x.supply.state ≠ .idle →
      Moves K b s (if selectedEmpty x then emptyTankDecision x else x) := by
    intro hst
    split
    · exact moves_emptyTankDecision (List.Subset.trans (by decide) hK) (.inr hst) h
    · exact h
  unfold supplyOnLevel
  split
  · exact h
  split
  · next hst => exact hfeed (by simp [hst])
  · next hst => exact hfeed (by simp [hst])
  · split
    · exact moves_closeTankValves (List.Subset.trans feedParts_subset_supplyParts hK) h
    · exact h
  · next hst =>
    split
    · exact moves_returnToTank (List.Subset.trans (by decide) hK) (.inr (by simp [hst])) h
    · exact h
  all_goals exact h

theorem moves_supplyOnValve {t : Tank} (hK : supplyParts ⊆ K) (h : Moves K b s x) :
    Moves K b s (supplyOnValve t x) := by
  unfold supplyOnValve
  dsimp only
  split
  · next hst =>
    split
    · exact moves_enterNoSupply (List.Subset.trans (by decide) hK) (.inr (by simp [hst])) h
    · exact h
  · next hst =>
    split
    · split
      · exact moves_judgeTarget (List.Subset.trans (by decide) hK) hst h
      · split
        · exact moves_enterNoSupply (List.Subset.trans (by decide) hK) (.inr (by simp [hst])) h
        · exact h
    · split
      · exact moves_judgeOther (List.Subset.trans (by decide) hK) hst h
      · exact h
  · next hst =>
    split
    · exact moves_judgeClosingTank hK hst h
    · exact h
  all_goals exact h

theorem moves_reportValve {v : ValveRole} (hK : supplyParts ⊆ K) (h : Moves K b s x) :
    Moves K b s (reportValve v x) := by
  cases v
  case mainValve | reserveValve => exact moves_supplyOnValve hK h
  all_goals exact h

theorem moves_reportAfter {v : ValveRole} {move : State → State} (hK : supplyParts ⊆ K)
    (hmove : Moves K b s (move x)) : Moves K b s (reportAfter v move x) := by
  unfold reportAfter
  dsimp only
  split
  · exact hmove
  · exact moves_reportValve hK hmove

/-- IDLE entered, from a record changed by g. -/
theorem moves_setSupply_idle {g : Supply → Supply} (hK : handParts ⊆ K) (hL : .leave ∈ K) (h : Moves K b s x) :
    Moves K b s (setSupply .idle none (x.modSupply g)) := by
  rw [setSupply_eq]
  exact moves_handSupply hK (by simp) h (.supply false (hK (by decide)) x
    (supplyIn .idle none (floorOf (x.modSupply g) .idle) ∘ g) (fun _ => supplyFits_supplyIn (by simp [PhaseFits]) _ _)
    (.inr (.inr rfl)) (.inl hL) (by simp))

theorem moves_supplyEnterEngaged (hK : switchParts ⊆ K) (hE : .enter ∈ K) (h : Moves K b s x) :
    Moves K b s (supplyEnterEngaged x) :=
  moves_returnToTank hK (.inl hE) (moves_selectTank (List.Subset.trans (by decide) hK) h)

/-- What the supply's coming to IDLE touches. -/
def restParts : List Part := .leave :: .outputs :: handParts ++ feedParts

theorem moves_supplyLeaveEngaged (hK : restParts ⊆ K) (h : Moves K b s x) :
    Moves K b s (supplyLeaveEngaged x) := by
  have hfailed : Moves K b s (if x.supply.state = .draftPriming then
      recordPrimeFailed (exitPrimeCause x) x.supply.phase x else x) := by
    split
    · exact moves_record (hK (by decide)) h
    · exact h
  have hselect := moves_selectTank (t := .main) (List.Subset.trans (by decide) hK) (moves_setPrimer (on := false) (hK (by decide))
    (moves_closeTankValves (List.Subset.trans (by decide) hK) hfailed))
  exact moves_setSupply_idle (List.Subset.trans (by decide) hK) (hK (by decide)) hselect

end Sys2Proof.Machine
end

section
/-! PROOFS. Chains of small changes through the Tank Unit and the Thermal Monitor. -/

namespace Sys2Proof.Machine

variable {K : List Part} {b : Bool} {s x y : State} {t : Tank}

/-! ### Levels, estimates and totals -/

theorem Moves.timed (h : Moves K b x y) (ht : Timed K x) : Timed K y := ht.imp_right h.supplyFits

/-- Acts in any order, each a chain from a state of which P holds; chains keep P. -/
theorem moves_runInOrder_of {P : State → Prop} {acts : List (State → State)} (hP : ∀ y z, Moves K b y z → P y → P z)
    (hacts : ∀ f ∈ acts, ∀ y, P y → Moves K b y (f y)) (hx : P x) (h : Moves K b s x) :
    Moves K b s (runInOrder acts x) :=
  (runInOrder_keeps (P := fun y => Moves K b s y ∧ P y)
    (fun _ _ hy => ⟨hy.1.trans (.choices ..), hP _ _ (.choices ..) hy.2⟩) acts
    (fun f hf y hy => ⟨hy.1.trans (hacts f hf y hy.2), hP _ _ (hacts f hf y hy.2) hy.2⟩) x ⟨h, hx⟩).1

theorem fillParts_subset_supplyParts (t : Tank) : fillParts t ⊆ supplyParts := by cases t <;> decide

/-- What an evaluation of a tank's level state touches. -/
def levelParts (t : Tank) : List Part := .level t :: supplyParts

theorem supplyParts_subset_levelParts (t : Tank) : supplyParts ⊆ levelParts t := List.subset_cons_self ..

theorem moves_turnToBulk (hK : fillParts t ⊆ K) (h : Moves K b s x) : Moves K b s (turnToBulk t x) :=
  moves_recordStage hK (moves_stage hK rfl rfl (fun hr => ⟨hr.1, by simp⟩) h)

theorem moves_evaluateStage (hK : supplyParts ⊆ K) (ht : Timed K x) (h : Moves K b s x) :
    Moves K b s (evaluateStage t x) := by
  have hfill : fillParts t ⊆ K := List.Subset.trans (fillParts_subset_supplyParts t) hK
  have hturn : ∀ y, Moves K b y (turnToBulk t y) := fun y => moves_turnToBulk hfill (.refl ..)
  unfold evaluateStage
  split
  · exact moves_openTogether hfill (moves_takeLoss hK ((hturn x).timed ht) (h.trans (hturn x))) (moves_evaluateFill hfill h)
  · exact moves_evaluateFill hfill h

/-- The level state taken and its record, before the receivers act (R133). -/
def levelTaken (t : Tank) (st : LevelState) (s : State) : State :=
  record .tankState
    { subject := some (.tank t), old := some (.level (s.tank t).state), new := some (.level st)
      value := if st = .unknown then none else (s.tank t).volume.map Int.ofNat }
    (s.modTank t fun r => { r with state := st })

/-- The receivers of a changed level state (R133). -/
def levelReceivers (t : Tank) (old : LevelState) : List (State → State) :=
  [supplyOnLevel t old, conditionEvent, fun x => reviewFill t (evaluateStage t x)]

theorem changeLevel_eq (t : Tank) (st : LevelState) (s : State) :
    changeLevel t st s = reviewLowTank (runInOrder (levelReceivers t (s.tank t).state) (levelTaken t st s)) := rfl

theorem moves_levelReceivers {old : LevelState} (hK : supplyParts ⊆ K) (ht : Timed K x) (h : Moves K b s x) :
    Moves K b s (runInOrder (levelReceivers t old) x) := by
  refine moves_runInOrder_of (P := Timed K) (fun _ _ => Moves.timed) (fun f hf y hy => ?_) ht h
  simp only [levelReceivers, List.mem_cons, List.not_mem_nil, or_false] at hf
  obtain rfl | rfl | rfl := hf
  · exact moves_supplyOnLevel hK (.refl ..)
  · exact moves_conditionEvent (hK (by decide)) (.refl ..)
  · exact moves_reviewFill (List.Subset.trans (fillParts_subset_supplyParts t) hK) (moves_evaluateStage hK hy (.refl ..))

theorem modTank_modTank (s : State) (t : Tank) (f g : TankRecord → TankRecord) :
    (s.modTank t f).modTank t g = s.modTank t (g ∘ f) := by
  cases t <;> rfl

theorem modTank_id (s : State) (t : Tank) : s.modTank t id = s := by cases t <;> rfl

/-- A level state set on a tank changed by g, the volume and the level state then tied. -/
theorem moves_setLevel {st : LevelState} {g : TankRecord → TankRecord} (hK : levelParts t ⊆ K) (ht : Timed K x)
    (hg : FillSound (x.tank t) → FillSound (g (x.tank t))) (htie : (g (x.tank t)).volume = none ↔ st = .unknown)
    (h : Moves K b s x) (htab : .tables ∈ K ∨ (g (x.tank t)).table = (x.tank t).table := by exact .inr rfl)
    (hr : .readings ∈ K ∨ (g (x.tank t)).readings = (x.tank t).readings := by exact .inr rfl) :
    Moves K b s (setLevel t st (x.modTank t g)) := by
  have hsub := List.Subset.trans (supplyParts_subset_levelParts t) hK
  have hlevel : .level t ∈ K := hK (by simp [levelParts])
  unfold setLevel
  split
  · next hst =>
    rw [tank_modTank, if_pos rfl] at hst
    exact moves_evaluateStage hsub ht (h.trans (.level b t hlevel x g (by rw [LevelTied, hst]; exact htie) hg htab hr))
  · have htaken : Moves K b s (levelTaken t st (x.modTank t g)) := by
      refine moves_record (hsub (by decide)) ?_
      rw [modTank_modTank]
      exact h.trans (.level b t hlevel x _ htie hg htab hr)
    have htimed : Timed K (levelTaken t st (x.modTank t g)) := by
      rw [Timed, levelTaken, record_supply]
      exact ht
    rw [changeLevel_eq]
    exact moves_reviewLowTank (hsub (by decide)) (moves_levelReceivers hsub htimed htaken)

theorem entryLevel_ne_unknown (s : State) (t : Tank) (v : Nat) : entryLevel s t v ≠ .unknown := by
  unfold entryLevel
  (repeat' split) <;> simp

theorem nextLevel_eq_unknown (s : State) (t : Tank) : (s.tank t).volume = none ↔ nextLevel s t = .unknown := by
  unfold nextLevel
  split
  · next h => simp [h]
  · next v h =>
    simp only [h, reduceCtorEq, false_iff]
    split
    · next hkept =>
      intro hu
      rw [hu] at hkept
      exact absurd hkept (by simp [levelKept])
    · exact entryLevel_ne_unknown s t v

theorem freshLevel_eq_unknown (s : State) (t : Tank) : (s.tank t).volume = none ↔ freshLevel s t = .unknown := by
  unfold freshLevel
  split
  · next h => simp [h]
  · next v h => simp [h, entryLevel_ne_unknown]

/-- A tank changed by g and its level state evaluated. -/
theorem moves_evaluateLevel_modTank {g : TankRecord → TankRecord} (hK : levelParts t ⊆ K) (ht : Timed K x)
    (hg : FillSound (x.tank t) → FillSound (g (x.tank t))) (h : Moves K b s x)
    (htab : (g (x.tank t)).table = (x.tank t).table := by rfl)
    (hr : .readings ∈ K ∨ (g (x.tank t)).readings = (x.tank t).readings := by exact .inr rfl) :
    Moves K b s (evaluateLevel t (x.modTank t g)) := by
  refine moves_setLevel hK ht hg ?_ h (.inr htab) hr
  rw [← nextLevel_eq_unknown, tank_modTank, if_pos rfl]

theorem moves_evaluateLevel (hK : levelParts t ⊆ K) (ht : Timed K x) (h : Moves K b s x) :
    Moves K b s (evaluateLevel t x) := by
  have := moves_evaluateLevel_modTank (g := id) hK ht id h
  rwa [modTank_id] at this

theorem moves_beginEstimate {c : EstimateCause} (hK : fillParts t ⊆ K) (hr : .readings ∈ K) (h : Moves K b s x) :
    Moves K b s (beginEstimate t c x) := by
  unfold beginEstimate
  split
  · exact h
  · exact moves_reviewFill hK (moves_stage hK rfl rfl (fun hf => ⟨by simp, hf.2⟩) h rfl (.inl hr))

theorem moves_takeLevel (hK : levelParts t ⊆ K) (hr : .readings ∈ K) (ht : Timed K x) (h : Moves K b s x) :
    Moves K b s (takeLevel t x) := by
  have hfill : fillParts t ⊆ K :=
    List.Subset.trans (fillParts_subset_supplyParts t) (List.Subset.trans (supplyParts_subset_levelParts t) hK)
  have htake := moves_stage (f := fun r => { r with
    level := x.published (headChannel t), headKnown := r.headKnown || x.healthOf (headChannel t) == .ok }) hfill rfl rfl id h rfl (.inl hr)
  unfold takeLevel
  dsimp only
  split
  · exact moves_evaluateLevel_modTank hK ht id htake
  · exact htake

theorem moves_reviewSettle (hK : fillParts t ⊆ K) (hr : .readings ∈ K) (h : Moves K b s x) : Moves K b s (reviewSettle t x) := by
  unfold reviewSettle
  split
  · next hest => exact moves_stage hK rfl rfl (fun hf => ⟨fun hn => absurd hest (by simp [show (x.tank t).estimating = none from hn]), hf.2⟩) h rfl (.inl hr)
  · exact h

theorem moves_publishTank (hK : levelParts t ⊆ K) (hr : .readings ∈ K) (ht : Timed K x) (h : Moves K b s x) :
    Moves K b s (publishTank t x) := by
  have hfill : fillParts t ⊆ K :=
    List.Subset.trans (fillParts_subset_supplyParts t) (List.Subset.trans (supplyParts_subset_levelParts t) hK)
  refine moves_reviewSettle hfill hr ?_
  split
  · exact moves_beginEstimate hfill hr (moves_takeLevel hK hr ht h)
  · exact moves_takeLevel hK hr ht h

theorem moves_motionTank (hK : fillParts t ⊆ K) (hr : .readings ∈ K) (h : Moves K b s x) : Moves K b s (motionTank t x) := by
  refine moves_reviewFill hK (moves_reviewSettle hK hr ?_)
  split
  · exact moves_beginEstimate hK hr h
  · exact h

theorem moves_gateTank {f : Option Tank} {inc : Nat} (hK : levelParts t ⊆ K) (hr : .readings ∈ K) (ht : Timed K x) (h : Moves K b s x) :
    Moves K b s (gateTank f inc t x) := by
  unfold gateTank
  split
  · exact h
  · next hest =>
    split
    · exact h
    · refine moves_evaluateLevel_modTank hK ht (fun hf => ⟨fun hn => ?_, hf.2⟩) h rfl (.inl hr)
      exact absurd (show (x.tank t).estimating.isNone = true by simp [show (x.tank t).estimating = none from hn]) hest

theorem moves_recordReconciled {r : Option Reconciliation} (hK : .notices ∈ K) (h : Moves K b s x) :
    Moves K b s (recordReconciled t r x) := by
  cases r
  · exact h
  · exact moves_record hK h

theorem moves_expireTankSettle (hK : levelParts t ⊆ K) (hr : .readings ∈ K) (ht : Timed K x) (h : Moves K b s x) :
    Moves K b s (expireTankSettle t x) := by
  have hfill : fillParts t ⊆ K :=
    List.Subset.trans (fillParts_subset_supplyParts t) (List.Subset.trans (supplyParts_subset_levelParts t) hK)
  unfold expireTankSettle
  split
  · exact h
  · refine moves_recordReconciled (hfill (by simp [fillParts])) (moves_reviewFill hfill
      (moves_evaluateLevel_modTank hK ht (fun hf => ⟨by simp, hf.2⟩) h rfl (.inl hr)))

theorem totalSound_addVolume (inc : Nat) {x : Total} (h : TotalSound x) : TotalSound (addVolume inc x) := by
  obtain ⟨_, hmath, hlogical⟩ := h
  refine ⟨min_le_right .., ?_, ?_⟩
  · rw [addVolume, Bool.or_eq_true, hmath, decide_eq_true_iff]
    simp only [reportMax, totalMax]
    omega
  · rw [addVolume, Bool.or_eq_true, hlogical, decide_eq_true_iff]
    simp only [totalMax]
    omega

theorem moves_recordOverflow {k : Totaliser} {f : TotalFlag} {p q : Bool} (hK : .notices ∈ K) (h : Moves K b s x) :
    Moves K b s (recordOverflow k f p q x) := by
  unfold recordOverflow
  split
  · exact moves_record hK h
  · exact h

theorem moves_addTotal {k : Totaliser} {inc : Nat} (hK : .totals ∈ K) (hn : .notices ∈ K) (h : Moves K b s x) :
    Moves K b s (addTotal k inc x) := by
  refine moves_recordOverflow hn (moves_recordOverflow hn (h.trans (.totals b hK x _ ?_ ?_)))
  · cases k
    · exact totalSound_addVolume inc
    · exact id
  · cases k
    · exact id
    · exact totalSound_addVolume inc

/-- What a gate's increment touches. -/
def gateParts : List Part := .readings :: .level .main :: .level .reserve :: .totals :: supplyParts

theorem levelParts_subset_gateParts (t : Tank) : levelParts t ⊆ gateParts := by cases t <;> decide

theorem moves_takeIncrement {inc : Nat} (hK : gateParts ⊆ K) (ht : Timed K x) (h : Moves K b s x) :
    Moves K b s (takeIncrement inc x) := by
  refine moves_runInOrder_of (P := Timed K) (fun _ _ => Moves.timed) (fun f hf y hy => ?_) ht h
  have hlevel : ∀ t, levelParts t ⊆ K := fun t => List.Subset.trans (levelParts_subset_gateParts t) hK
  simp only [List.mem_cons, List.not_mem_nil, or_false] at hf
  obtain rfl | rfl | rfl | rfl := hf
  · exact moves_addTotal (hK (by decide)) (hK (by decide)) (.refl ..)
  · exact moves_addTotal (hK (by decide)) (hK (by decide)) (.refl ..)
  · exact moves_gateTank (hlevel .main) (hK (by decide)) hy (.refl ..)
  · exact moves_gateTank (hlevel .reserve) (hK (by decide)) hy (.refl ..)

/-! ### The Thermal Monitor -/

/-- What the Thermal Monitor's own acts touch. -/
def thermalParts : List Part :=
  [.thermal, .demand, .notices, .alarm, .recirc, .valve .recircValve, .trend, .event]

/-- The Thermal Monitor's record changed, the thermal ceiling kept. -/
theorem moves_thermal {f : Thermal → Thermal} (hK : .thermal ∈ K) (hz : (f x.thermal).zone = x.thermal.zone)
    (ho : (f x.thermal).overheat = x.thermal.overheat) (hl : (f x.thermal).latch = x.thermal.latch) (h : Moves K b s x)
    (hu : .zone ∈ K ∨ (f x.thermal).unknown = x.thermal.unknown := by exact .inr rfl) : Moves K b s (x.modThermal f) := by
  refine h.trans (.thermal b hK x f (fun _ => le_of_eq ?_) (hu.imp_right fun e => ⟨hz, e⟩))
  unfold thermalCeiling
  simp only [State.modThermal_thermal, hz, ho, hl]
  rfl

/-- The Thermal Monitor's record changed, the thermal ceiling only raised. -/
theorem moves_thermal_raised {f : Thermal → Thermal} (hK : .thermal ∈ K)
    (hf : thermalCeiling x ≤ thermalCeiling (x.modThermal f)) (h : Moves K b s x)
    (hz : .zone ∈ K ∨ (f x.thermal).zone = x.thermal.zone ∧ (f x.thermal).unknown = x.thermal.unknown :=
      by exact .inr ⟨rfl, rfl⟩) :
    Moves K b s (x.modThermal f) :=
  h.trans (.thermal b hK x f (fun _ => hf) hz)

/-- The Thermal Monitor's record changed and the demand clipped after it. -/
theorem moves_thermal_clip {f : Thermal → Thermal} (hK : .thermal ∈ K) (hG : .demand ∈ K) (h : Moves K b s x)
    (hz : .zone ∈ K ∨ (f x.thermal).zone = x.thermal.zone ∧ (f x.thermal).unknown = x.thermal.unknown :=
      by exact .inr ⟨rfl, rfl⟩) :
    Moves K b s (clipDemand (x.modThermal f)) :=
  h.trans (.clip b hG (.thermal false hK x f (by simp) hz))

/-- A ceiling of 0 is only raised. -/
theorem thermalCeiling_eq_zero (h : x.thermal.overheat = true ∨ x.thermal.latch = true) : thermalCeiling x = 0 := by
  unfold thermalCeiling
  obtain h | h := h <;> simp [h]

theorem moves_endOverheat (hK : .thermal ∈ K) (ha : .alarm ∈ K) (h : Moves K b s x) : Moves K b s (endOverheat x) := by
  unfold endOverheat
  split
  · next ho =>
    refine moves_removeAlarm ha (moves_thermal_raised hK ?_ h)
    rw [thermalCeiling_eq_zero (.inl ho)]
    exact Nat.zero_le _
  · exact h

theorem moves_setZone {z : Zone} {c : ZoneCause} (hK : thermalParts ⊆ K) (hZ : .zone ∈ K) (h : Moves K b s x) :
    Moves K b s (setZone z c x) := by
  have ht := hK (show .thermal ∈ thermalParts by decide)
  have ha := hK (show .alarm ∈ thermalParts by decide)
  have hv := hK (show .valve .recircValve ∈ thermalParts by decide)
  have hr := hK (show .recirc ∈ thermalParts by decide)
  have hzone := fun f => moves_thermal_clip (f := f) ht (hK (show .demand ∈ thermalParts by decide))
    (moves_record (k := .thermalZone) (n :=
      { subject := some (.analog .pumpTemp), old := some (.zone x.thermal.zone), new := some (.zone z)
        value := some (x.published .pumpTemp), cause := some (.zone c) }) (hK (by decide)) h) (.inl hZ)
  unfold setZone
  dsimp only
  split
  · exact h
  · split
    · split
      · exact moves_endOverheat ht ha (moves_removeAlarm ha (moves_removeRecirc hv hr (hzone _)))
      · exact moves_endOverheat ht ha (moves_addAlarm ha (moves_addRecirc hv hr (hzone _)))
    · split
      · exact moves_removeAlarm ha (moves_removeRecirc hv hr (hzone _))
      · exact moves_addAlarm ha (moves_addRecirc hv hr (hzone _))

theorem moves_publishZone (hK : thermalParts ⊆ K) (hZ : .zone ∈ K) (h : Moves K b s x) : Moves K b s (publishZone x) := by
  have ht := hK (show .thermal ∈ thermalParts by decide)
  have hunknown : ∀ o, Moves K b s (x.modThermal fun y => { y with unknown := o }) := fun o =>
    moves_thermal ht rfl rfl rfl h (.inl hZ)
  unfold publishZone
  dsimp only
  split
  · exact moves_setZone hK hZ (hunknown true)
  · split
    · split
      · exact moves_setZone hK hZ (hunknown false)
      · exact moves_endOverheat ht (hK (by decide)) (moves_setZone hK hZ (hunknown false))
    · exact moves_setZone hK hZ h
  · exact moves_setZone hK hZ h

theorem moves_raiseOverheat (hK : thermalParts ⊆ K) (h : Moves K b s x) : Moves K b s (raiseOverheat x) :=
  moves_addAlarm (hK (by decide)) (moves_record (hK (by decide)) (moves_thermal_clip (hK (by decide)) (hK (by decide)) h))

theorem moves_publishNoFlow (hK : .thermal ∈ K) (h : Moves K b s x) : Moves K b s (publishNoFlow x) := by
  unfold publishNoFlow
  split
  · refine moves_thermal hK ?_ ?_ ?_ h (.inr ?_)
    all_goals split <;> rfl
  · exact h

/-- What the no-flow watch and the operator's cause touch. -/
def churnParts : List Part := [.thermal, .recirc, .valve .recircValve]

/-- What the Thermal Monitor's part of an exit from ENGAGED touches. -/
def coolParts : List Part := [.alarm, .event] ++ churnParts

theorem moves_expireNoFlow (hK : churnParts ⊆ K) (h : Moves K b s x) : Moves K b s (expireNoFlow x) := by
  unfold expireNoFlow
  split
  · exact h
  · exact moves_addRecirc (hK (by decide)) (hK (by decide)) (moves_thermal (hK (by decide)) rfl rfl rfl h)

theorem moves_dropNoFlow (hK : churnParts ⊆ K) (h : Moves K b s x) : Moves K b s (dropNoFlow x) := by
  have hdrop := moves_thermal (f := fun y => { y with noFlow := none, flowReturn := none, noFlowHeld := false })
    (hK (by decide)) rfl rfl rfl h
  unfold dropNoFlow
  dsimp only
  split
  · exact moves_removeRecirc (hK (by decide)) (hK (by decide)) hdrop
  · exact hdrop

theorem moves_expireFlowReturn (hK : churnParts ⊆ K) (h : Moves K b s x) : Moves K b s (expireFlowReturn x) := by
  unfold expireFlowReturn
  split
  · exact h
  · exact moves_dropNoFlow hK h

theorem moves_publishDryRun (hK : .thermal ∈ K) (h : Moves K b s x) : Moves K b s (publishDryRun x) :=
  moves_thermal hK rfl rfl rfl h

theorem moves_expireDryRun (hK : thermalParts ⊆ K) (h : Moves K b s x) : Moves K b s (expireDryRun x) := by
  unfold expireDryRun
  split
  · exact h
  · exact moves_conditionEvent (hK (by decide)) (moves_protect (hK (by decide)) (moves_addAlarm (hK (by decide))
      (moves_record (hK (by decide)) (moves_thermal_clip (hK (by decide)) (hK (by decide)) h))))

theorem moves_clearDryRun (hK : coolParts ⊆ K) (h : Moves K b s x) : Moves K b s (clearDryRun x) := by
  unfold clearDryRun
  split
  · next hl =>
    refine moves_conditionEvent (hK (by decide)) (moves_removeAlarm (hK (by decide))
      (moves_thermal_raised (hK (by decide)) ?_ h))
    rw [thermalCeiling_eq_zero (.inr hl)]
    exact Nat.zero_le _
  · exact h

theorem moves_operatorRecirc {on : Bool} (hK : churnParts ⊆ K) (h : Moves K b s x) :
    Moves K b s (operatorRecirc on x) := by
  have hop := moves_thermal (f := fun y => { y with operator := on }) (hK (by decide)) rfl rfl rfl h
  unfold operatorRecirc
  dsimp only
  split
  · exact moves_addRecirc (hK (by decide)) (hK (by decide)) hop
  · exact moves_removeRecirc (hK (by decide)) (hK (by decide)) hop

theorem moves_thermalEnterEngaged (hK : .thermal ∈ K) (h : Moves K b s x) : Moves K b s (thermalEnterEngaged x) := by
  unfold thermalEnterEngaged
  split
  · exact moves_thermal hK rfl rfl rfl h
  · exact h

theorem moves_thermalLeaveEngaged (hK : coolParts ⊆ K) (h : Moves K b s x) : Moves K b s (thermalLeaveEngaged x) :=
  moves_clearDryRun hK (moves_endOverheat (hK (by decide)) (hK (by decide)) (moves_dropNoFlow (List.Subset.trans (by decide) hK)
    (moves_thermal (hK (by decide)) rfl rfl rfl h)))

end Sys2Proof.Machine
end

section
/-! PROOFS. Chains of small changes through the drive, motion, inputs, a published set and a gate. -/

namespace Sys2Proof.Machine

variable {K : List Part} {b : Bool} {s x y : State} {t : Tank}

/-! ### Exit from ENGAGED -/

/-- What an exit from ENGAGED touches, the trip that falls together with it included. -/
def exitParts : List Part :=
  [.leave, .watch, .inputs, .conditions, .setpoint, .readings, .cause .motion] ++ modeParts ++ supplyParts ++ thermalParts

/-- What an entry into MOTION_TRIP touches. -/
def tripParts : List Part := [.trend, .alarm, .cause .motion] ++ modeParts

/-- What a disengage order touches. -/
def orderParts : List Part := .drive :: .cause .stop :: .cause .ptoFault :: exitParts

theorem exitParts_subset_orderParts : exitParts ⊆ orderParts := by decide

theorem tripParts_subset_exitParts : tripParts ⊆ exitParts := by decide

/-- What the Tank Unit's part of an entry or exit touches. -/
def tankPtoParts : List Part := .alarm :: fillsParts

theorem moves_tanksOnPto (hK : tankPtoParts ⊆ K) (h : Moves K b s x) : Moves K b s (tanksOnPto x) :=
  moves_reviewFills (List.Subset.trans (by decide) hK) (moves_reviewLowTank (hK (by decide)) h)

/-- The Interlock Unit's watches changed. -/
theorem moves_watch {f : Interlock → Interlock} (hK : .watch ∈ K)
    (hf : f x.interlock = { f x.interlock with
      mode := x.interlock.mode, ceiling := x.interlock.ceiling, recovery := x.interlock.recovery
      trip := x.interlock.trip, lockout := x.interlock.lockout, conditions := x.interlock.conditions })
    (h : Moves K b s x) (hg : .flags ∈ K ∨ (f x.interlock).flags = x.interlock.flags := by exact .inr rfl) :
    Moves K b s (x.modInterlock f) :=
  h.trans (.watch b hK x f hf hg)

theorem moves_changeMotion {m : Bool} {trip : ModeCause → State → State} (hK : .watch ∈ K) (hE : .event ∈ K)
    (hr : .readings ∈ K) (hF : fillsParts ⊆ K) (htrip : ∀ c y, Moves K b y (trip c y)) (h : Moves K b s x) :
    Moves K b s (changeMotion m trip x) := by
  refine moves_runInOrder (fun f hf y => ?_) (moves_watch hK rfl h)
  simp only [List.mem_cons, List.not_mem_nil, or_false] at hf
  obtain rfl | rfl | rfl | rfl := hf
  · exact moves_conditionEvent hE (.refl ..)
  · dsimp only
    split
    · exact htrip _ _
    · exact .refl ..
  · exact moves_motionTank (List.Subset.trans (fillParts_subset .main) hF) hr (.refl ..)
  · exact moves_motionTank (List.Subset.trans (fillParts_subset .reserve) hF) hr (.refl ..)

theorem moves_tripMode_of_tripParts {c : ModeCause} (hK : tripParts ⊆ K) (h : Moves K b s x) :
    Moves K b s (tripMode c x) :=
  moves_tripMode (List.Subset.trans (by decide) hK) (hK (by decide)) (hK (by decide)) (hK (by decide)) h

theorem moves_tripByInput {n : Terminal} (hK : exitParts ⊆ K) (h : Moves K b s x) : Moves K b s (tripByInput n x) := by
  unfold tripByInput
  split
  · exact moves_tripMode_of_tripParts (List.Subset.trans tripParts_subset_exitParts hK) (moves_conditionEvent (hK (by decide))
      (h.trans (.input b (hK (by decide)) x n _)))
  · exact h

theorem moves_tripActs {sample : Bool} (hK : exitParts ⊆ K) : ∀ f ∈ tripActs sample, ∀ y, Moves K b y (f y) := by
  intro f hf y
  have hmotion : Moves K b y (tripByMotion y) := by
    unfold tripByMotion
    split
    · exact moves_changeMotion (hK (by decide)) (hK (by decide)) (hK (by decide)) (List.Subset.trans (by decide) hK)
        (fun c z => moves_tripMode_of_tripParts (List.Subset.trans tripParts_subset_exitParts hK) (.refl ..)) (.refl ..)
    · exact .refl ..
  have hspeed : Moves K b y (tripByOverspeed y) := by
    unfold tripByOverspeed
    split
    · exact moves_tripMode_of_tripParts (List.Subset.trans tripParts_subset_exitParts hK) (.refl ..)
    · exact .refl ..
  rw [tripActs, List.mem_append, List.mem_cons, List.mem_singleton] at hf
  obtain (rfl | rfl) | hf := hf
  · exact hmotion
  · exact hspeed
  · cases sample
    · exact absurd hf (List.not_mem_nil)
    · obtain ⟨n, -, rfl⟩ := List.mem_map.1 hf
      exact moves_tripByInput hK (.refl ..)

theorem moves_tripTogether {sample : Bool} (hK : exitParts ⊆ K) (h : Moves K b s x) :
    Moves K b s (tripTogether sample x) := by
  unfold tripTogether
  split
  · exact moves_runInOrder (moves_tripActs hK) h
  · exact h

theorem moves_governorReset (hK : .governor ∈ K) (hS : .setpoint ∈ K) (h : Moves K b s x) :
    Moves K b s (governorReset x) :=
  moves_governor hK (Nat.zero_le _) h (.inl hS)

theorem moves_handExit {sample : Bool} (hK : exitParts ⊆ K) (h : Moves K b s x) :
    Moves K b s (handExit sample x) := by
  have hsupply : supplyParts ⊆ K := List.Subset.trans (by decide) hK
  refine moves_runInOrder (fun f hf y => ?_) (moves_tripTogether hK h)
  simp only [List.mem_cons, List.not_mem_nil, or_false] at hf
  obtain rfl | rfl | rfl | rfl | rfl := hf
  · exact moves_modeOnExit (List.Subset.trans (by decide) hK) (.refl ..)
  · exact moves_governorReset (hK (by decide)) (hK (by decide)) (.refl ..)
  · exact moves_supplyLeaveEngaged (List.Subset.trans (by decide) hK) (.refl ..)
  · exact moves_thermalLeaveEngaged (List.Subset.trans (by decide) hK) (.refl ..)
  · exact moves_tanksOnPto (List.Subset.trans (by decide) hsupply) (.refl ..)

theorem releaseParts_subset_orderParts : releaseParts ⊆ orderParts := by decide

theorem moves_endRampIfIdle (hK : releaseParts ⊆ K) (h : Moves K b s x) : Moves K b s (endRampIfIdle x) := by
  unfold endRampIfIdle
  split
  · split
    · exact moves_confirmRelease hK (moves_startRelease hK h)
    · exact h
  · exact h

theorem moves_enterRampdown {c : ReleaseCause} (hK : orderParts ⊆ K) (h : Moves K b s x) :
    Moves K b s (enterRampdown c x) :=
  moves_endRampIfIdle (List.Subset.trans releaseParts_subset_orderParts hK) (moves_handExit (List.Subset.trans exitParts_subset_orderParts hK)
    (moves_drive (hK (by decide)) h))

theorem moves_disengageOrder {c : ReleaseCause} (hK : orderParts ⊆ K) (h : Moves K b s x) :
    Moves K b s (disengageOrder c x) := by
  have hrelease := List.Subset.trans releaseParts_subset_orderParts hK
  unfold disengageOrder
  split
  · exact moves_enterRampdown hK h
  case h_2 | h_3 | h_4 => exact moves_abortEngagement hrelease h
  all_goals exact h

theorem moves_tripAndOrder {c : ModeCause} (hK : orderParts ⊆ K) (h : Moves K b s x) : Moves K b s (tripAndOrder c x) :=
  moves_disengageOrder hK (moves_tripMode_of_tripParts (List.Subset.trans (by decide) hK) h)

theorem moves_enterDriveFault {c : DriveFault} (hK : orderParts ⊆ K) (h : Moves K b s x) :
    Moves K b s (enterDriveFault c x) :=
  moves_refreshConditions (hK (by decide)) (moves_reviewStop (hK (by decide)) (hK (by decide)) (moves_protect (hK (by decide))
    (moves_addAlarm (hK (by decide)) (moves_record (hK (by decide)) (moves_drive (hK (by decide)) h)) (.inr (hK (by decide))))))

theorem moves_driveFault {c : DriveFault} (hK : orderParts ⊆ K) (h : Moves K b s x) : Moves K b s (driveFault c x) := by
  unfold driveFault
  dsimp only
  split
  · exact moves_handExit (List.Subset.trans exitParts_subset_orderParts hK) (moves_enterDriveFault hK h)
  · exact moves_enterDriveFault hK h

theorem moves_stopEffect (hK : orderParts ⊆ K) (h : Moves K b s x) : Moves K b s (stopEffect x) := by
  have hrelease := List.Subset.trans releaseParts_subset_orderParts hK
  unfold stopEffect
  split
  · exact moves_confirmRelease hrelease (moves_handExit (List.Subset.trans exitParts_subset_orderParts hK) (moves_startRelease hrelease
      (moves_addAlarm (hK (by decide)) h (.inr (hK (by decide))))))
  · exact moves_stopOutsideEngaged hrelease h

theorem moves_panelStopAsserted (hK : orderParts ⊆ K) (h : Moves K b s x) : Moves K b s (panelStopAsserted x) :=
  moves_stopEffect hK (moves_record (hK (by decide)) h)

/-! ### Entry to ENGAGED -/

/-- What the hand-on of an entry to ENGAGED touches. -/
def entryParts : List Part := [.enter, .thermal, .setpoint] ++ tripParts ++ supplyParts

/-- What an entry to ENGAGED touches, the exit that a trip at the entry brings included. -/
def engageParts : List Part := .enter :: orderParts

theorem orderParts_subset_engageParts : orderParts ⊆ engageParts := List.subset_cons_self ..

theorem entryParts_subset_engageParts : entryParts ⊆ engageParts := by decide

theorem moves_checkStationary (hK : tripParts ⊆ K) (h : Moves K b s x) : Moves K b s (checkStationary x) := by
  unfold checkStationary
  split
  · exact h
  · split
    · exact moves_tripMode_of_tripParts hK h
    · split
      · exact moves_tripMode_of_tripParts hK h
      · exact h

theorem moves_enterKindMode {k : Kind} {c : ModeCause} (hK : tripParts ⊆ K) (h : Moves K b s x) :
    Moves K b s (enterKindMode k c x) := by
  cases k
  · exact moves_checkStationary hK (moves_setMode (List.Subset.trans (by decide) hK) (by simp) h)
  · exact moves_setMode (List.Subset.trans (by decide) hK) (by simp) h

theorem moves_modeOnEngaged (hK : tripParts ⊆ K) (h : Moves K b s x) : Moves K b s (modeOnEngaged x) := by
  unfold modeOnEngaged
  split
  · exact moves_enterKindMode hK h
  · exact h

theorem moves_handEntry (hK : entryParts ⊆ K) (h : Moves K b s x) : Moves K b s (handEntry x) := by
  have hsupply : supplyParts ⊆ K := List.Subset.trans (by decide) hK
  refine moves_runInOrder (fun f hf y => ?_) h
  simp only [List.mem_cons, List.not_mem_nil, or_false] at hf
  obtain rfl | rfl | rfl | rfl | rfl := hf
  · exact moves_modeOnEngaged (List.Subset.trans (by decide) hK) (.refl ..)
  · exact moves_governorReset (hK (by decide)) (hK (by decide)) (.refl ..)
  · exact moves_supplyEnterEngaged (List.Subset.trans (by decide) hsupply) (hK (by decide)) (.refl ..)
  · exact moves_thermalEnterEngaged (hK (by decide)) (.refl ..)
  · exact moves_tanksOnPto (List.Subset.trans (by decide) hsupply) (.refl ..)

theorem moves_orderIfTripped (hK : orderParts ⊆ K) (h : Moves K b s x) : Moves K b s (orderIfTripped x) := by
  unfold orderIfTripped
  split
  · exact moves_disengageOrder hK h
  · exact h

theorem moves_enterEngaged {c : Confirmation} (hK : engageParts ⊆ K) (h : Moves K b s x) :
    Moves K b s (enterEngaged c x) :=
  moves_orderIfTripped (List.Subset.trans orderParts_subset_engageParts hK) (moves_handEntry
    (List.Subset.trans entryParts_subset_engageParts hK)
    (moves_record (hK (by decide)) (moves_drive (hK (by decide)) h)))

/-! ### The sequence -/

theorem moves_enterShifting (hK : engageParts ⊆ K) (h : Moves K b s x) : Moves K b s (enterShifting x) := by
  have hdrive := fun f => moves_drive (f := f) (hK (show .drive ∈ engageParts by decide)) h
  unfold enterShifting
  dsimp only
  split
  · exact moves_enterEngaged hK (hdrive _)
  · exact hdrive _

theorem moves_startEngagement {k : Kind} (hK : orderParts ⊆ K) (h : Moves K b s x) :
    Moves K b s (startEngagement k x) := by
  have hdrive := fun f => moves_drive (f := f) (hK (show .drive ∈ orderParts by decide)) h
  unfold startEngagement
  dsimp only
  split
  · exact moves_driveFault hK (hdrive _)
  · exact hdrive _

theorem moves_publishDrive (hK : engageParts ⊆ K) (h : Moves K b s x) : Moves K b s (publishDrive x) := by
  unfold publishDrive
  split
  · exact moves_enterShifting hK h
  · exact moves_endRampIfIdle (List.Subset.trans (by decide) hK) h

theorem moves_expirePrecheck (hK : releaseParts ⊆ K) (h : Moves K b s x) : Moves K b s (expirePrecheck x) := by
  unfold expirePrecheck
  split
  · exact h
  · exact moves_modeOnDisengaged (List.Subset.trans modeParts_subset_releaseParts hK) (hK (by decide)) (hK (by decide))
      (moves_reviewStop (hK (by decide)) (hK (by decide)) (moves_record (hK (by decide)) (moves_drive (hK (by decide)) h)))

theorem moves_expireFeedback (hK : engageParts ⊆ K) (h : Moves K b s x) : Moves K b s (expireFeedback x) := by
  unfold expireFeedback
  split
  · exact h
  · split
    · exact moves_enterEngaged hK h
    · split
      · exact moves_drive (hK (by decide)) h
      · exact moves_driveFault (List.Subset.trans orderParts_subset_engageParts hK) h

theorem moves_expireDriveSettle (hK : engageParts ⊆ K) (h : Moves K b s x) : Moves K b s (expireDriveSettle x) := by
  unfold expireDriveSettle
  split
  · exact h
  · exact moves_enterShifting hK h

theorem moves_expireRamp (hK : releaseParts ⊆ K) (h : Moves K b s x) : Moves K b s (expireRamp x) := by
  unfold expireRamp
  split
  · exact moves_confirmRelease hK (moves_startRelease hK h)
  · exact h

theorem moves_expireRelease (hK : orderParts ⊆ K) (h : Moves K b s x) : Moves K b s (expireRelease x) := by
  have hrelease := List.Subset.trans releaseParts_subset_orderParts hK
  unfold expireRelease
  split
  · exact h
  · split
    · exact moves_driveFault hK h
    · exact moves_endRelease hrelease h
    · exact moves_endRelease hrelease h

theorem moves_ptoFeedbackChange {asserted : Bool} (hK : engageParts ⊆ K) (h : Moves K b s x) :
    Moves K b s (ptoFeedbackChange asserted x) := by
  have horder := List.Subset.trans orderParts_subset_engageParts hK
  unfold ptoFeedbackChange
  split
  · exact moves_driveFault horder h
  · exact moves_enterEngaged hK h
  · exact moves_driveFault horder h
  · exact moves_endRelease (List.Subset.trans releaseParts_subset_orderParts horder) h
  · split
    · exact moves_driveFault horder h
    · exact h
  · exact h

theorem moves_clearDriveFault (hK : orderParts ⊆ K) (h : Moves K b s x) : Moves K b s (clearDriveFault x) :=
  moves_conditionEvent (hK (by decide)) (moves_modeOnDisengaged (List.Subset.trans (by decide) hK) (hK (by decide))
    (hK (by decide)) (moves_reviewStop (hK (by decide)) (hK (by decide)) (moves_removeAlarm (hK (by decide))
      (moves_drive (hK (by decide)) h) (.inr (hK (by decide))))))

/-! ### Motion, road speed and voltage -/

theorem moves_setMoving {m : Bool} (hK : orderParts ⊆ K) (h : Moves K b s x) : Moves K b s (setMoving m x) :=
  moves_changeMotion (hK (by decide)) (hK (by decide)) (hK (by decide)) (List.Subset.trans (by decide) hK)
    (fun _ _ => moves_tripAndOrder hK (.refl ..)) h

theorem moves_expireRise (hK : orderParts ⊆ K) (h : Moves K b s x) : Moves K b s (expireRise x) := by
  unfold expireRise
  split
  · exact h
  · exact moves_setMoving hK h

theorem moves_expireFall (hK : orderParts ⊆ K) (h : Moves K b s x) : Moves K b s (expireFall x) := by
  unfold expireFall
  split
  · exact h
  · exact moves_setMoving hK h

theorem moves_publishMotion (hK : .watch ∈ K) (h : Moves K b s x) : Moves K b s (publishMotion x) := by
  refine moves_watch hK ?_ h (.inr ?_)
  · split <;> rfl
  · split <;> rfl

theorem moves_publishRoll (hK : modeParts ⊆ K) (h : Moves K b s x) : Moves K b s (publishRoll x) := by
  unfold publishRoll
  split
  · split
    · exact moves_setMode hK (by simp) h
    · exact h
  · exact h.trans (.mode b (hK (by decide)) x _ rfl (fun _ => le_rfl))
  all_goals exact h

theorem moves_expireRecovery (hK : modeParts ⊆ K) (h : Moves K b s x) : Moves K b s (expireRecovery x) := by
  unfold expireRecovery
  split
  · exact h
  · exact moves_setMode hK (by simp) h

theorem moves_expireTrip (hK : orderParts ⊆ K) (h : Moves K b s x) : Moves K b s (expireTrip x) := by
  unfold expireTrip
  split
  · exact h
  · exact moves_tripAndOrder hK h

theorem moves_slideMode (hK : .mode ∈ K) (hG : .demand ∈ K) (h : Moves K b s x) : Moves K b s (slideMode x) := by
  unfold slideMode
  split
  · exact h.trans (.clip b hG (.mode false hK x _ rfl (by simp)))
  · exact h

/-- What the watches of voltage and of the engine touch. -/
def watchParts : List Part := [.watch, .alarm, .cause .voltage, .notices, .event]

theorem moves_publishVoltage (hK : watchParts ⊆ K) (h : Moves K b s x) : Moves K b s (publishVoltage x) := by
  unfold publishVoltage
  dsimp only
  split
  · refine moves_conditionEvent (hK (by decide)) ?_
    split
    · exact moves_watch (hK (by decide)) rfl h
    · exact moves_record (hK (by decide)) (moves_addAlarm (hK (by decide)) (moves_watch (hK (by decide)) rfl h)
        (.inr (hK (by decide))))
  · exact moves_watch (hK (by decide)) rfl h

theorem moves_expireVoltage (hK : watchParts ⊆ K) (h : Moves K b s x) : Moves K b s (expireVoltage x) := by
  unfold expireVoltage
  split
  · exact h
  · exact moves_conditionEvent (hK (by decide)) (moves_removeAlarm (hK (by decide))
      (moves_watch (hK (by decide)) rfl h) (.inr (hK (by decide))))

theorem moves_publishEngineIdle (hK : watchParts ⊆ K) (h : Moves K b s x) : Moves K b s (publishEngineIdle x) :=
  moves_conditionEvent (hK (by decide)) (moves_watch (hK (by decide)) rfl h)

theorem moves_expireHot (hK : orderParts ⊆ K) (h : Moves K b s x) : Moves K b s (expireHot x) := by
  have hthermal : thermalParts ⊆ K := List.Subset.trans (by decide) hK
  unfold expireHot
  split
  · exact h
  · split
    · exact moves_disengageOrder hK (moves_raiseOverheat hthermal h)
    · exact moves_raiseOverheat hthermal h

/-! ### Inputs -/

theorem moves_tripOnLoss {c : ModeCause} {asserted : Bool} (hK : tripParts ⊆ K) (h : Moves K b s x) :
    Moves K b s (tripOnLoss c asserted x) := by
  unfold tripOnLoss
  split
  · exact moves_tripMode_of_tripParts hK h
  · exact h

theorem moves_deliverOrder {m : OpMode} (hK : orderParts ⊆ K) (h : Moves K b s x) : Moves K b s (deliverOrder m x) := by
  unfold deliverOrder
  split
  · exact moves_disengageOrder hK h
  · exact h

theorem moves_deselectRoll {asserted : Bool} (hK : orderParts ⊆ K) (h : Moves K b s x) :
    Moves K b s (deselectRoll asserted x) := by
  unfold deselectRoll
  split
  · exact moves_disengageOrder hK h
  · exact h

theorem moves_panelStopChange {asserted : Bool} (hK : orderParts ⊆ K) (h : Moves K b s x) :
    Moves K b s (panelStopChange asserted x) := by
  unfold panelStopChange
  split
  · exact moves_panelStopAsserted hK h
  · exact moves_reviewStop (hK (by decide)) (hK (by decide)) h

/-- What a changed input touches. -/
def inputParts : List Part := [.valve .mainValve, .valve .reserveValve, .valve .recircValve] ++ engageParts

theorem moves_valveFeedbackChange {v : ValveRole} {asserted : Bool} (hK : supplyParts ⊆ K) (hv : .valve v ∈ K)
    (h : Moves K b s x) : Moves K b s (valveFeedbackChange v asserted x) :=
  moves_reportAfter hK (moves_feedbackChange hv h)

/-- A condition event and one more act, in a free order. -/
theorem moves_eventAnd {f : State → State} (hE : .event ∈ K) (hf : ∀ y, Moves K b y (f y)) (h : Moves K b s x) :
    Moves K b s (runInOrder [conditionEvent, f] x) := by
  refine moves_runInOrder (fun g hg y => ?_) h
  simp only [List.mem_cons, List.not_mem_nil, or_false] at hg
  obtain rfl | rfl := hg
  · exact moves_conditionEvent hE (.refl ..)
  · exact hf y

theorem moves_inputChange {n : Terminal} {r : Role} {asserted : Bool} (hK : inputParts ⊆ K) (h : Moves K b s x) :
    Moves K b s (inputChange n r asserted x) := by
  have horder : orderParts ⊆ K := List.Subset.trans (by decide) hK
  have hsupply : supplyParts ⊆ K := List.Subset.trans (by decide) hK
  have hE : Part.event ∈ K := hK (by decide)
  cases r
  case parkBrake | neutral => exact moves_eventAnd hE (fun _ => moves_tripOnLoss (List.Subset.trans (by decide) hK) (.refl ..)) h
  case rollSelect => exact moves_eventAnd hE (fun _ => moves_deselectRoll horder (.refl ..)) h
  case panelStop => exact moves_eventAnd hE (fun _ => moves_panelStopChange horder (.refl ..)) h
  case ptoFb => exact moves_ptoFeedbackChange (List.Subset.trans (by decide) hK) h
  case mainValveFb | reserveValveFb | recircFb => exact moves_valveFeedbackChange hsupply (hK (by decide)) h
  case generalIn => exact moves_record (hK (by decide)) h
  all_goals exact h

theorem moves_setInput {n : Terminal} {i : InputState} (hK : .inputs ∈ K) (h : Moves K b s x) :
    Moves K b s (setInput n i x) :=
  h.trans (.input b hK x n i)

theorem moves_sampleTerminal {levels : BitVec 16} {n : Terminal} (hK : inputParts ⊆ K) (h : Moves K b s x) :
    Moves K b s (sampleTerminal levels n x) := by
  unfold sampleTerminal
  dsimp only
  split
  · split
    · exact moves_setInput (hK (by decide)) h
    · exact moves_inputChange hK (moves_setInput (hK (by decide)) h)
  · exact h

theorem moves_sampleInputs {levels : BitVec 16} (hK : inputParts ⊆ K) (h : Moves K b s x) :
    Moves K b s (sampleInputs levels x) := by
  have horder : orderParts ⊆ K := List.Subset.trans (by decide) hK
  refine moves_deliverOrder horder (moves_runInOrder (fun f hf y => ?_) h)
  rw [List.mem_append, List.mem_map, List.mem_singleton] at hf
  obtain ⟨n, -, rfl⟩ | rfl := hf
  · exact moves_sampleTerminal hK (.refl ..)
  · exact moves_deliverOrder horder (.refl ..)

theorem moves_setGeneral {n : Terminal} {r : OutputRecord} (hK : .outputs ∈ K) (hg : .general ∈ K) (h : Moves K b s x) :
    Moves K b s (setGeneral n r x) :=
  h.trans (.outputs b hK x _ (.inl hg))

/-- The general output of a terminal as R21 has it for its record before and after. -/
def alignOutput (old new : AssignRecord) (n : Terminal) (s : State) : State :=
  if old.role = .generalOut ∨ new.role = .generalOut then
    (if old.role = .generalOut ∧ new.role = .generalOut then s else setGeneral n outputOff s)
  else s

theorem moves_alignOutput {old new : AssignRecord} {n : Terminal} (hK : .outputs ∈ K) (hg : .general ∈ K) (h : Moves K b s x) :
    Moves K b s (alignOutput old new n x) := by
  unfold alignOutput
  split
  · split
    · exact h
    · exact moves_setGeneral hK hg h
  · exact h

/-- The input state of a terminal as R21 has it for its record before and after. -/
def alignInput (old new : AssignRecord) (n : Terminal) (s : State) : State :=
  if isInputRole new.role then
    if isInputRole old.role then
      if old.role = new.role ∧ old.polarity = new.polarity ∧ old.q = new.q then s
      else
        let u := setInput n { s.terminals.inputs[n] with asserted := false, counter := 0 } s
        if s.terminals.inputs[n].asserted then inputChange n new.role false u else u
    else setInput n freshInput s
  else if isInputRole old.role then setInput n freshInput s
  else s

theorem alignTerminal_eq (old : AssignRecord) (n : Terminal) (s : State) : alignTerminal old n s =
    alignInput old s.terminals.assignment[n] n (alignOutput old s.terminals.assignment[n] n s) := rfl

theorem moves_alignInput {old new : AssignRecord} {n : Terminal} (hK : inputParts ⊆ K) (h : Moves K b s x) :
    Moves K b s (alignInput old new n x) := by
  have hset := fun i => moves_setInput (n := n) (i := i) (hK (by decide)) h
  unfold alignInput
  dsimp only
  split
  · split
    · split
      · exact h
      · split
        · exact moves_inputChange hK (hset _)
        · exact hset _
    · exact hset _
  · split
    · exact hset _
    · exact h

theorem moves_alignTerminal {old : AssignRecord} {n : Terminal} (hK : inputParts ⊆ K) (hg : .general ∈ K) (h : Moves K b s x) :
    Moves K b s (alignTerminal old n x) := by
  rw [alignTerminal_eq]
  exact moves_alignInput hK (moves_alignOutput (hK (by decide)) hg h)

/-! ### Published sets and gates -/

/-- What the blocks that read a published set touch. -/
def publishParts : List Part := .zone :: .level .main :: .level .reserve :: .cause .voltage :: inputParts

theorem moves_setConsumers (hK : publishParts ⊆ K) : ∀ f ∈ setConsumers, ∀ y, Timed K y → Moves K b y (f y) := by
  intro f hf y hy
  have hsupply : supplyParts ⊆ K := List.Subset.trans (by decide) hK
  have hthermal : thermalParts ⊆ K := List.Subset.trans (by decide) hK
  simp only [setConsumers, List.mem_cons, List.not_mem_nil, or_false] at hf
  obtain rfl | rfl | rfl | rfl | rfl | rfl | rfl | rfl | rfl | rfl | rfl | rfl | rfl | rfl := hf
  · exact moves_publishMotion (hK (by decide)) (.refl ..)
  · exact moves_publishRoll (List.Subset.trans (by decide) hK) (.refl ..)
  · exact moves_publishVoltage (List.Subset.trans (by decide) hK) (.refl ..)
  · exact moves_publishEngineIdle (List.Subset.trans (by decide) hK) (.refl ..)
  · exact moves_publishDrive (List.Subset.trans (by decide) hK) (.refl ..)
  · exact moves_publishFallback (hK (by decide)) (hK (by decide)) (.refl ..)
  · exact moves_publishPulseLoss (hK (by decide)) (.refl ..)
  · exact moves_publishWindow hsupply (.refl ..)
  · exact moves_publishPrime hsupply (.refl ..)
  · exact moves_publishTank (List.Subset.trans (by decide) hK) (hK (by decide)) hy (.refl ..)
  · exact moves_publishTank (List.Subset.trans (by decide) hK) (hK (by decide)) hy (.refl ..)
  · exact moves_publishZone hthermal (hK (by decide)) (.refl ..)
  · exact moves_publishNoFlow (hK (by decide)) (.refl ..)
  · exact moves_publishDryRun (hK (by decide)) (.refl ..)

theorem moves_scanChannel {codes : Analog (BitVec 12)} {c : AnalogChannel} (hK : .sense ∈ K) (hn : .notices ∈ K)
    (h : Moves K b s x) : Moves K b s (scanChannel codes x c) := by
  have hsense := fun f => h.trans (.sense b hK x f)
  unfold scanChannel recordHealth
  dsimp only
  split
  · exact moves_record hn (hsense _)
  · split
    · exact moves_record hn (hsense _)
    · exact hsense _

theorem moves_foldl {α : Type} {f : State → α → State} (hf : ∀ y a, Moves K b y (f y a)) (l : List α) :
    ∀ {x : State}, Moves K b s x → Moves K b s (l.foldl f x) := by
  induction l with
  | nil => exact id
  | cons a l ih => exact fun h => ih (h.trans (hf _ a))

/-- What a scan touches. -/
def scanParts : List Part := .sense :: publishParts

theorem moves_swapSets (hK : .sense ∈ K) (h : Moves K b s x) : Moves K b s (swapSets x) := h.trans (.sense b hK x _)

/-- The six codes treated and the set published, before its readers act. -/
def scanned (codes : Analog (BitVec 12)) (s : State) : State := swapSets (allAnalog.foldl (scanChannel codes) s)

theorem moves_scanned {codes : Analog (BitVec 12)} (hK : .sense ∈ K) (hn : .notices ∈ K) (h : Moves K b s x) :
    Moves K b s (scanned codes x) :=
  moves_swapSets hK (moves_foldl (fun _ _ => moves_scanChannel hK hn (.refl ..)) _ h)

theorem moves_scanAnalog {codes : Analog (BitVec 12)} (hK : scanParts ⊆ K) (h : Moves K b s x) :
    Moves K b s (scanAnalog codes x) := by
  refine moves_runInOrder_of (P := Timed K) (fun _ _ => Moves.timed) (moves_setConsumers (List.Subset.trans (by decide) hK))
    (.inl (hK (by decide))) (moves_scanned (hK (by decide)) (hK (by decide)) h)

theorem moves_countPulse {c : PulseChannel} (hK : .sense ∈ K) (h : Moves K b s x) : Moves K b s (countPulse c x) :=
  h.trans (.sense b hK x _)

theorem moves_completeGates (hS : .sense ∈ K) (hK : gateParts ⊆ K) (ht : Timed K x) (h : Moves K b s x) :
    Moves K b s (completeGates x) :=
  moves_takeIncrement hK ht (h.trans (.sense b hS x _))

end Sys2Proof.Machine
end

section
/-! PROOFS. What every act of the units keeps: the demand and the supply follow the PTO into ENGAGED and out of it (R71, R95,
R99). -/

namespace Sys2Proof.Machine

variable {K : List Part} {b : Bool} {D : Prop} {s x y t : State}

/-! ### ENGAGED or not -/

theorem reviewStop_drive (s : State) : (reviewStop s).drive = s.drive :=
  (moves_reviewStop (K := [.alarm, .cause .stop]) (b := true) (by decide) (by decide) (.refl _ _ s)).stands.drive (by decide) (by decide)

theorem record_drive (k : NoticeKind) (n : NoticeBody) (s : State) : (record k n s).drive = s.drive :=
  (stands_record_notices k n s).drive (by decide) (by decide)

theorem modeOnDisengaged_drive (s : State) : (modeOnDisengaged s).drive = s.drive :=
  (moves_modeOnDisengaged (K := .alarm :: .cause .motion :: modeParts) (b := true) (by decide) (by decide) (by decide)
    (.refl _ _ s)).stands.drive
    (by decide) (by decide)

theorem addAlarm_drive (c : AlarmCause) (s : State) : (addAlarm c s).drive = s.drive :=
  (moves_addAlarm (K := [.alarm, .cause c]) (b := true) (by simp) (.refl _ _ s) (.inr (by simp))).stands.drive (by simp) (by simp)

theorem endRelease_drive (v : Int) (s : State) : (endRelease v s).drive = driveIdle s.drive := by
  unfold endRelease
  rw [modeOnDisengaged_drive, reviewStop_drive, record_drive]
  rfl

/-- The PTO is out of ENGAGED. -/
def OutOfEngaged (s : State) : Prop := s.drive.pto ≠ .engaged

theorem outOfEngaged_endRelease (v : Int) (s : State) : OutOfEngaged (endRelease v s) := by
  rw [OutOfEngaged, endRelease_drive]
  simp [driveIdle]

theorem outOfEngaged_confirmRelease (hs : OutOfEngaged s) : OutOfEngaged (confirmRelease s) := by
  obtain e | ⟨-, -, e⟩ := confirmRelease_cases s <;> rw [e]
  · exact hs
  · exact outOfEngaged_endRelease 0 s

theorem outOfEngaged_startRelease {c : ReleaseCause} {s : State} : OutOfEngaged (startRelease c s) := by
  simp [OutOfEngaged, startRelease]

theorem outOfEngaged_abortEngagement {a : AbortCause} {c : ReleaseCause} {l : Option (List Condition)} {s : State} :
    OutOfEngaged (abortEngagement a c l s) := by
  refine outOfEngaged_confirmRelease ?_
  rw [OutOfEngaged, record_drive]
  exact outOfEngaged_startRelease

theorem outOfEngaged_stopOutsideEngaged (hs : OutOfEngaged s) : OutOfEngaged (stopOutsideEngaged s) := by
  unfold stopOutsideEngaged
  split
  case h_1 | h_2 | h_3 => exact outOfEngaged_abortEngagement
  case h_4 => exact outOfEngaged_confirmRelease outOfEngaged_startRelease
  case h_5 => rwa [OutOfEngaged, addAlarm_drive]
  all_goals exact hs

theorem outOfEngaged_conditionReport {l : List Condition} (hs : OutOfEngaged s) : OutOfEngaged (conditionReport l s) := by
  unfold conditionReport
  split
  · exact outOfEngaged_stopOutsideEngaged hs
  split
  case h_1 | h_2 | h_3 =>
    split
    · exact hs
    · exact outOfEngaged_abortEngagement
  all_goals exact hs

theorem outOfEngaged_conditionEvent (hs : OutOfEngaged s) : OutOfEngaged (conditionEvent s) := by
  unfold conditionEvent
  split
  · exact hs
  dsimp only
  split
  · split
    · exact outOfEngaged_conditionReport hs
    · exact hs
  · exact hs

theorem notShifting_of_engaged (h : s.drive.pto = .engaged) : NotShifting s := by simp [NotShifting, h]

theorem conditionEvent_engaged (s : State) : (conditionEvent s).drive.pto = .engaged ↔ s.drive.pto = .engaged := by
  by_cases h : s.drive.pto = .engaged
  · rw [conditionEvent_notShifting s (notShifting_of_engaged h)]
    rfl
  · exact iff_of_false (outOfEngaged_conditionEvent (s := s) h) h

/-- The PTO enters and leaves ENGAGED by the drive's own acts only. -/
theorem Moves.engaged (h : Moves K b s t) (hK : .drive ∉ K) : t.drive.pto = .engaged ↔ s.drive.pto = .engaged := by
  induction h with
  | trans _ _ ih₁ ih₂ => exact (ih₂ hK).trans (ih₁ hK)
  | drive _ h => exact absurd h hK
  | @clip _ b _ s t h ih => rw [(stands_clipDemand_governor t).drive (by decide) (by decide)]; exact ih hK
  | record b _ s k n => rw [record_drive]
  | event b _ s => exact conditionEvent_engaged s
  | _ => exact Iff.rfl

theorem Moves.outOfEngaged (h : Moves K b s t) (hK : .drive ∉ K) (hs : OutOfEngaged s) : OutOfEngaged t :=
  fun ht => hs ((h.engaged hK).1 ht)

/-! ### What an act of the units keeps -/

/-- Every part of the units. -/
def allParts : List Part := .zone :: .cause .valve :: .cause .voltage :: .sense :: .flags :: .tables :: .general :: .totals :: .level .main :: .level .reserve :: .valve .mainFill :: .valve .reserveFill ::
  inputParts

/-- R71, R95: the demand outside ENGAGED. -/
def IdleDemand (s : State) : Prop := s.drive.pto ≠ .engaged → s.governor.demand = 0

/-- An act of the units: a chain of small changes that brings the demand to 0 (R95) and the supply to IDLE (R99) with every
exit from ENGAGED, and the supply out of IDLE with every entry. D is what the last two need of the state before. -/
structure Works (D : Prop) (s t : State) : Prop where
  moves : Moves allParts true s t
  demand : D → IdleDemand s → IdleDemand t
  supply : D → SupplyFits s.supply → SupplyFollowsPto s → SupplyFollowsPto t

theorem Works.refl (s : State) : Works D s s := ⟨.refl .., fun _ => id, fun _ _ => id⟩

theorem Works.trans (h : Works D s t) (g : Works D t x) : Works D s x :=
  ⟨h.moves.trans g.moves, fun hD => g.demand hD ∘ h.demand hD,
    fun hD hf hs => g.supply hD (h.moves.supplyFits hf) (h.supply hD hf hs)⟩

/-- The demand follows a chain that leaves the drive alone. -/
theorem Moves.idleDemand (h : Moves K b s t) (hK : .drive ∉ K) (hs : IdleDemand s) : IdleDemand t := fun ht =>
  Nat.eq_zero_of_le_zero (h.demand_le.trans (hs fun he => ht ((h.engaged hK).2 he)).le)

/-- The supply follows a chain that leaves the drive alone and takes the supply neither out of IDLE nor to it. -/
theorem Moves.supplyFollowsPto (h : Moves K b s t) (hK : .drive ∉ K) (hE : .enter ∉ K) (hL : .leave ∉ K)
    (hs : SupplyFollowsPto s) : SupplyFollowsPto t := by
  rw [SupplyFollowsPto, ne_eq, h.engaged hK]
  exact ⟨fun ht => hs.1 (by by_contra hn; exact h.supply_ne_idle hL hn ht), fun ht => h.supply_idle hE (hs.2 ht)⟩

/-- A chain, the same over all parts and over K alone where the supply's timers are in place, is an act of the units where
K takes the PTO and the supply neither in nor out. -/
theorem works_of_timed (hK : .drive ∉ K) (hE : .enter ∉ K) (hL : .leave ∉ K) (hsub : K ⊆ allParts)
    (h : ∀ L, K ⊆ L → Timed L s → Moves L true s t) : Works D s t where
  moves := h allParts hsub (.inl (by decide))
  demand _ := (h (.enter :: K) (List.subset_cons_self ..) (.inl (by simp))).idleDemand (by simpa using hK)
  supply _ hf := (h K (List.Subset.refl K) (.inr hf)).supplyFollowsPto hK hE hL

theorem works_of_moves (h : Moves K true s t) (hK : .drive ∉ K) (hE : .enter ∉ K) (hL : .leave ∉ K)
    (hsub : K ⊆ allParts) : Works D s t :=
  works_of_timed hK hE hL hsub fun _ hKL _ => h.mono hKL

theorem works_runInOrder {acts : List (State → State)} (hacts : ∀ f ∈ acts, ∀ y, Works D y (f y)) (s : State) :
    Works D s (runInOrder acts s) :=
  runInOrder_keeps (P := Works D s)
    (fun y f hy => hy.trans (works_of_moves (K := []) (.choices _ _ y f) (by simp) (by simp) (by simp) (by simp))) acts
    (fun f hf y hy => hy.trans (hacts f hf y)) s (.refl s)

/-- The drive's own change outside ENGAGED. -/
theorem works_modDrive {f : Drive → Drive} (hs : D → OutOfEngaged s) (hf : (f s.drive).pto ≠ .engaged) :
    Works D s (s.modDrive f) where
  moves := .drive _ (by decide) s f
  demand hD hd _ := hd (hs hD)
  supply hD _ hx := ⟨fun _ => hf, fun _ => hx.2 (hs hD)⟩

/-- A chain that stays out of ENGAGED from end to end. -/
theorem works_of_outOfEngaged (h : Moves K true s t) (hs : D → OutOfEngaged s) (ht : OutOfEngaged t) (hE : .enter ∉ K)
    (hsub : K ⊆ allParts) : Works D s t where
  moves := h.mono hsub
  demand hD hd _ := Nat.eq_zero_of_le_zero (h.demand_le.trans (hd (hs hD)).le)
  supply hD _ hx := ⟨fun _ => ht, fun _ => h.supply_idle hE (hx.2 (hs hD))⟩

/-! ### Exit and entry -/

/-- What holds after an exit from ENGAGED has been handed on: the demand is 0 and the supply IDLE. -/
theorem moves_handExitActs {f : State → State}
    (hf : f ∈ [modeOnExit, governorReset, supplyLeaveEngaged, thermalLeaveEngaged, tanksOnPto]) (y : State) :
    Moves exitParts true y (f y) := by
  simp only [List.mem_cons, List.not_mem_nil, or_false] at hf
  obtain rfl | rfl | rfl | rfl | rfl := hf
  · exact moves_modeOnExit (by decide) (.refl ..)
  · exact moves_governorReset (by decide) (by decide) (.refl ..)
  · exact moves_supplyLeaveEngaged (by decide) (.refl ..)
  · exact moves_thermalLeaveEngaged (by decide) (.refl ..)
  · exact moves_tanksOnPto (by decide) (.refl ..)

theorem supplyLeaveEngaged_state (s : State) : (supplyLeaveEngaged s).supply.state = .idle := by
  unfold supplyLeaveEngaged
  dsimp only
  rw [setSupply_state]

theorem handExit_idle (sample : Bool) (s : State) : (handExit sample s).supply.state = .idle :=
  runInOrder_reaches (P := fun _ => True) (Q := fun y => y.supply.state = .idle) (fun _ _ _ => trivial) supplyLeaveEngaged
    _ (by simp) (fun _ _ _ _ => trivial) (fun f hf y hy => (moves_handExitActs hf y).supply_idle (by decide) hy)
    (fun y _ => supplyLeaveEngaged_state y) _ trivial

theorem handExit_demand (sample : Bool) (s : State) : (handExit sample s).governor.demand = 0 :=
  runInOrder_reaches (P := fun _ => True) (Q := fun y => y.governor.demand = 0) (fun _ _ _ => trivial) governorReset
    _ (by simp) (fun _ _ _ _ => trivial)
    (fun f hf y hy => Nat.eq_zero_of_le_zero ((moves_handExitActs hf y).demand_le.trans hy.le)) (fun _ _ => rfl) _ trivial

theorem moves_handExit_self (sample : Bool) (s : State) : Moves exitParts true s (handExit sample s) :=
  moves_handExit (List.Subset.refl _) (.refl ..)

/-- An exit from ENGAGED: the drive's change, whatever falls together with it, and the hand-on. -/
theorem works_exit {sample : Bool} (h : Moves orderParts true s x) (hx : OutOfEngaged x) :
    Works D s (handExit sample x) where
  moves := (h.trans ((moves_handExit_self sample x).mono (by decide))).mono (by decide)
  demand _ _ _ := handExit_demand sample x
  supply _ _ _ := ⟨fun _ => (moves_handExit_self sample x).outOfEngaged (by decide) hx, fun _ => handExit_idle sample x⟩

theorem outOfEngaged_handExit {sample : Bool} (hx : OutOfEngaged x) : OutOfEngaged (handExit sample x) :=
  (moves_handExit_self sample x).outOfEngaged (by decide) hx

/-- A change outside ENGAGED by a release. -/
theorem works_of_release (h : Moves orderParts true s t) (hs : D → OutOfEngaged s) (ht : OutOfEngaged t) : Works D s t :=
  works_of_outOfEngaged h hs ht (by decide) (by decide)

theorem works_confirmRelease (hs : OutOfEngaged s) : Works D s (confirmRelease s) :=
  works_of_release (moves_confirmRelease (by decide) (.refl ..)) (fun _ => hs) (outOfEngaged_confirmRelease hs)

theorem works_endRelease {v : Int} (hs : D → OutOfEngaged s) : Works D s (endRelease v s) :=
  works_of_release (moves_endRelease (by decide) (.refl ..)) hs (outOfEngaged_endRelease v s)

theorem works_abortEngagement {a : AbortCause} {c : ReleaseCause} {l : Option (List Condition)} (hs : OutOfEngaged s) :
    Works D s (abortEngagement a c l s) :=
  works_of_release (moves_abortEngagement (by decide) (.refl ..)) (fun _ => hs) outOfEngaged_abortEngagement

theorem works_endRampIfIdle (s : State) : Works D s (endRampIfIdle s) := by
  unfold endRampIfIdle
  split
  · next hpto =>
    have hs : OutOfEngaged s := by simp [OutOfEngaged, hpto.1]
    split
    · exact works_of_release (moves_confirmRelease (by decide) (moves_startRelease (by decide) (.refl ..)))
        (fun _ => hs) (outOfEngaged_confirmRelease outOfEngaged_startRelease)
    · exact .refl s
  · exact .refl s

theorem works_enterRampdown (c : ReleaseCause) (s : State) : Works D s (enterRampdown c s) :=
  (works_exit (moves_drive (by decide) (.refl ..)) (by simp [OutOfEngaged])).trans (works_endRampIfIdle _)

theorem works_disengageOrder (c : ReleaseCause) (s : State) : Works D s (disengageOrder c s) := by
  unfold disengageOrder
  split
  · exact works_enterRampdown c s
  case h_2 | h_3 | h_4 => next h => exact works_abortEngagement (by simp [OutOfEngaged, h])
  all_goals exact .refl s

theorem works_tripMode (c : ModeCause) (s : State) : Works D s (tripMode c s) :=
  works_of_moves (moves_tripMode_of_tripParts (List.Subset.refl _) (.refl ..)) (by decide) (by decide) (by decide)
    (by decide)

theorem works_tripAndOrder (c : ModeCause) (s : State) : Works D s (tripAndOrder c s) :=
  (works_tripMode c s).trans (works_disengageOrder _ _)

theorem enterDriveFault_drive (c : DriveFault) (s : State) : (enterDriveFault c s).drive =
    { toPto .fault s.drive with fault := some c, release := none, confirmation := none } := by
  unfold enterDriveFault
  rw [show ∀ y, (refreshConditions y).drive = y.drive from fun _ => rfl, reviewStop_drive,
    show ∀ y, (protectiveEvent y).drive = y.drive from fun _ => rfl, addAlarm_drive, record_drive]
  rfl

theorem works_driveFault (c : DriveFault) (s : State) : Works D s (driveFault c s) := by
  have hout : OutOfEngaged (enterDriveFault c s) := by simp [OutOfEngaged, enterDriveFault_drive]
  have hmoves : Moves orderParts true s (enterDriveFault c s) := moves_enterDriveFault (List.Subset.refl _) (.refl ..)
  unfold driveFault
  dsimp only
  split
  · exact works_exit hmoves hout
  · next hs => exact works_of_release hmoves (fun _ => hs) hout

theorem works_stopEffect (s : State) : Works D s (stopEffect s) := by
  unfold stopEffect
  split
  · have hout : OutOfEngaged (handExit false (startRelease .panelStop (addAlarm .stop s))) :=
      outOfEngaged_handExit outOfEngaged_startRelease
    exact (works_exit (moves_startRelease (by decide) (moves_addAlarm (by decide) (.refl ..) (.inr (by decide))))
      outOfEngaged_startRelease).trans (works_confirmRelease hout)
  · next hs =>
    exact works_of_release (moves_stopOutsideEngaged (by decide) (.refl ..)) (fun _ => hs) (outOfEngaged_stopOutsideEngaged hs)

theorem works_record (k : NoticeKind) (n : NoticeBody) (s : State) : Works D s (record k n s) :=
  works_of_moves (K := [.notices]) (moves_record (by decide) (.refl ..)) (by decide) (by decide) (by decide) (by decide)

theorem works_panelStopAsserted (s : State) : Works D s (panelStopAsserted s) :=
  (works_record _ _ s).trans (works_stopEffect _)

/-! ### Entry -/

theorem moves_handEntryActs {f : State → State}
    (hf : f ∈ [modeOnEngaged, governorReset, supplyEnterEngaged, thermalEnterEngaged, tanksOnPto]) (y : State) :
    Moves entryParts true y (f y) := by
  simp only [List.mem_cons, List.not_mem_nil, or_false] at hf
  obtain rfl | rfl | rfl | rfl | rfl := hf
  · exact moves_modeOnEngaged (by decide) (.refl ..)
  · exact moves_governorReset (by decide) (by decide) (.refl ..)
  · exact moves_supplyEnterEngaged (by decide) (by decide) (.refl ..)
  · exact moves_thermalEnterEngaged (by decide) (.refl ..)
  · exact moves_tanksOnPto (by decide) (.refl ..)

theorem not_idle_of_moves (h : Moves supplyParts true s t) (hs : s.supply.state ≠ .idle) : t.supply.state ≠ .idle :=
  h.supply_ne_idle (by decide) hs

theorem enterNoSupply_ne_idle (c : ExhaustCause) (s : State) : (enterNoSupply c s).supply.state ≠ .idle :=
  not_idle_of_moves (moves_addAlarm (by decide) (moves_record (by decide) (.refl ..))) (by simp [setSupply_state])

theorem beginSwitch_ne_idle (s : State) : (beginSwitch s).supply.state ≠ .idle := by
  have hmark : (commandTankValve (otherTank s.supply.selected) false (markSwitching s)).supply.state = .switching := by
    rw [commandTankValve_supply, markSwitching_state]
  exact not_idle_of_moves (moves_judgeOther (by decide) hmark (.refl ..)) (by simp [hmark])

theorem emptyTankDecision_ne_idle (s : State) : (emptyTankDecision s).supply.state ≠ .idle := by
  unfold emptyTankDecision
  split
  · exact beginSwitch_ne_idle _
  · exact enterNoSupply_ne_idle _ s

theorem enterSwitching_ne_idle (s : State) : (enterSwitching s).supply.state ≠ .idle := by
  unfold enterSwitching
  split
  · exact emptyTankDecision_ne_idle _
  · exact beginSwitch_ne_idle s

/-- The return to tank feed takes the supply out of IDLE. -/
theorem returnToTank_ne_idle (s : State) : (returnToTank s).supply.state ≠ .idle := by
  unfold returnToTank
  split
  · exact emptyTankDecision_ne_idle s
  · split
    · have hset : (setSupply .tank none s).supply.state ≠ .idle := by simp [setSupply_state]
      exact not_idle_of_moves (moves_feedFromTank (by decide) (.inr hset) (.refl ..)) hset
    · exact enterSwitching_ne_idle s

theorem handEntry_ne_idle (s : State) : (handEntry s).supply.state ≠ .idle :=
  runInOrder_reaches (P := fun _ => True) (Q := fun y => y.supply.state ≠ .idle) (fun _ _ _ => trivial) supplyEnterEngaged
    _ (by simp) (fun _ _ _ _ => trivial) (fun f hf y hy => (moves_handEntryActs hf y).supply_ne_idle (by decide) hy)
    (fun y _ => returnToTank_ne_idle (selectTank .main y)) _ trivial

theorem handEntry_demand (s : State) : (handEntry s).governor.demand = 0 :=
  runInOrder_reaches (P := fun _ => True) (Q := fun y => y.governor.demand = 0) (fun _ _ _ => trivial) governorReset
    _ (by simp) (fun _ _ _ _ => trivial)
    (fun f hf y hy => Nat.eq_zero_of_le_zero ((moves_handEntryActs hf y).demand_le.trans hy.le)) (fun _ _ => rfl) _ trivial

/-- An entry to ENGAGED: the drive's change and the hand-on. -/
theorem works_entry (h : Moves orderParts true s x) (hx : x.drive.pto = .engaged) : Works D s (handEntry x) where
  moves := (h.mono (by decide)).trans (moves_handEntry (by decide) (.refl ..))
  demand _ _ _ := handEntry_demand x
  supply _ _ _ := by
    have hto : (handEntry x).drive.pto = .engaged :=
      ((moves_handEntry (K := entryParts) (b := true) (List.Subset.refl _) (.refl ..)).engaged (by decide)).2 hx
    exact iff_of_false (handEntry_ne_idle x) (not_not_intro hto)

theorem works_orderIfTripped (s : State) : Works D s (orderIfTripped s) := by
  unfold orderIfTripped
  split
  · exact works_disengageOrder _ s
  · exact .refl s

theorem works_enterEngaged (c : Confirmation) (s : State) : Works D s (enterEngaged c s) := by
  refine (works_entry (moves_record (by decide) (moves_drive (by decide) (.refl ..))) ?_).trans (works_orderIfTripped _)
  rw [record_drive]
  simp [engagedRecord]

theorem works_enterShifting (hs : D → OutOfEngaged s) : Works D s (enterShifting s) := by
  have hdrive := fun (f : Drive → Drive) (hf : (f s.drive).pto ≠ .engaged) => works_modDrive (D := D) hs hf
  unfold enterShifting
  dsimp only
  split
  · exact (hdrive _ (by simp)).trans (works_enterEngaged _ _)
  · exact hdrive _ (by simp)

theorem works_startEngagement {k : Kind} (hs : OutOfEngaged s) : Works D s (startEngagement k s) := by
  have hdrive := fun (f : Drive → Drive) (hf : (f s.drive).pto ≠ .engaged) => works_modDrive (D := D) (fun _ => hs) hf
  unfold startEngagement
  dsimp only
  split
  · exact (hdrive _ (by simp)).trans (works_driveFault _ _)
  · exact hdrive _ (by simp)

theorem works_publishDrive (s : State) : Works D s (publishDrive s) := by
  unfold publishDrive
  split
  · next h => exact works_enterShifting (fun _ => by simp [OutOfEngaged, h.1])
  · exact works_endRampIfIdle s

theorem outOfEngaged_of_timer {o : Option Timer} {p : PtoState} (hp : p ≠ .engaged) (hd : o.isSome = true → s.drive.pto = p)
    (ho : ¬o.isNone = true) : OutOfEngaged s := by
  rw [OutOfEngaged, hd (isSome_of_not_isNone ho)]
  exact hp

theorem works_expirePrecheck (hd : D → DriveTimersPlaced s.drive) : Works D s (expirePrecheck s) := by
  unfold expirePrecheck
  split
  · exact .refl s
  · next h =>
    refine works_of_release (moves_modeOnDisengaged (by decide) (by decide) (by decide) (moves_reviewStop (by decide) (by decide)
      (moves_record (by decide) (moves_drive (by decide) (.refl ..))))) (fun hD => outOfEngaged_of_timer (by simp) (hd hD).1 h) ?_
    rw [OutOfEngaged, modeOnDisengaged_drive, reviewStop_drive, record_drive]
    simp [driveIdle]

theorem works_expireFeedback (hd : D → DriveTimersPlaced s.drive) : Works D s (expireFeedback s) := by
  unfold expireFeedback
  split
  · exact .refl s
  · next h =>
    split
    · exact works_enterEngaged _ s
    · split
      · exact works_modDrive (fun hD => outOfEngaged_of_timer (by simp) (hd hD).2.1 h) (by simp)
      · exact works_driveFault _ s

theorem works_expireDriveSettle (hd : D → DriveTimersPlaced s.drive) : Works D s (expireDriveSettle s) := by
  unfold expireDriveSettle
  split
  · exact .refl s
  · next h => exact works_enterShifting (fun hD => outOfEngaged_of_timer (by simp) (hd hD).2.2.1 h)

theorem works_expireRamp (hd : D → DriveTimersPlaced s.drive) : Works D s (expireRamp s) := by
  unfold expireRamp
  split
  · next hramp _ =>
    have hs : D → OutOfEngaged s := fun hD => by simp [OutOfEngaged, (hd hD).2.2.2.1 (by simp [hramp])]
    exact works_of_release (moves_confirmRelease (by decide) (moves_startRelease (by decide) (.refl ..))) hs
      (outOfEngaged_confirmRelease outOfEngaged_startRelease)
  · exact .refl s

theorem works_expireRelease (hd : D → DriveTimersPlaced s.drive) : Works D s (expireRelease s) := by
  unfold expireRelease
  split
  · exact .refl s
  · next h =>
    have hs : D → OutOfEngaged s := fun hD => outOfEngaged_of_timer (by simp) (hd hD).2.2.2.2.1 h
    split
    · exact works_driveFault _ s
    · exact works_endRelease hs
    · exact works_endRelease hs

theorem works_expireWindow (s : State) : Works D s (expireWindow s) where
  moves := moves_drive (by decide) (.refl ..)
  demand _ := id
  supply _ _ := id

theorem works_ptoFeedbackChange (asserted : Bool) (s : State) : Works D s (ptoFeedbackChange asserted s) := by
  unfold ptoFeedbackChange
  split
  · exact works_driveFault _ s
  · exact works_enterEngaged _ s
  · exact works_driveFault _ s
  · next h => exact works_endRelease (fun _ => by simp [OutOfEngaged, h])
  · split
    · exact works_driveFault _ s
    · exact .refl s
  · exact .refl s

theorem removeAlarm_drive (c : AlarmCause) (s : State) : (removeAlarm c s).drive = s.drive :=
  (moves_removeAlarm (K := [.alarm, .cause c]) (b := true) (by simp) (.refl _ _ s) (.inr (by simp))).stands.drive (by simp) (by simp)

theorem works_clearDriveFault (hs : OutOfEngaged s) : Works D s (clearDriveFault s) := by
  refine works_of_release (moves_clearDriveFault (List.Subset.refl _) (.refl ..)) (fun _ => hs) (outOfEngaged_conditionEvent ?_)
  rw [OutOfEngaged, modeOnDisengaged_drive, reviewStop_drive, removeAlarm_drive]
  simp [driveIdle]

/-! ### Motion, published sets and inputs -/

/-- Parts of an act that leaves the drive and the supply's state of rest alone. -/
def quietParts : List Part := allParts.filter fun p => p ∉ [Part.drive, .enter, .leave]

theorem works_quiet (h : ∀ L, quietParts ⊆ L → Timed L s → Moves L true s t) : Works D s t :=
  works_of_timed (by decide) (by decide) (by decide) (by decide) h

theorem works_conditionEvent (s : State) : Works D s (conditionEvent s) :=
  works_quiet fun _ hL _ => moves_conditionEvent (hL (by decide)) (.refl ..)

theorem works_setMoving (m : Bool) (s : State) : Works D s (setMoving m s) := by
  have hwatch : Works D s (s.modInterlock fun i => { i with moving := m, rise := none, fall := none }) :=
    works_quiet fun _ hL _ => moves_watch (hL (by decide)) rfl (.refl ..)
  refine hwatch.trans (works_runInOrder (fun f hf y => ?_) _)
  simp only [List.mem_cons, List.not_mem_nil, or_false] at hf
  obtain rfl | rfl | rfl | rfl := hf
  · exact works_conditionEvent y
  · dsimp only
    split
    · exact works_tripAndOrder _ y
    · exact .refl y
  · exact works_quiet fun _ hL _ => moves_motionTank (List.Subset.trans (by decide) hL) (hL (by decide)) (.refl ..)
  · exact works_quiet fun _ hL _ => moves_motionTank (List.Subset.trans (by decide) hL) (hL (by decide)) (.refl ..)

theorem works_expireRise (s : State) : Works D s (expireRise s) := by
  unfold expireRise
  split
  · exact .refl s
  · exact works_setMoving _ s

theorem works_expireFall (s : State) : Works D s (expireFall s) := by
  unfold expireFall
  split
  · exact .refl s
  · exact works_setMoving _ s

theorem works_expireTrip (s : State) : Works D s (expireTrip s) := by
  unfold expireTrip
  split
  · exact .refl s
  · exact works_tripAndOrder _ s

theorem works_raiseOverheat (s : State) : Works D s (raiseOverheat s) :=
  works_quiet fun _ hL _ => moves_raiseOverheat (List.Subset.trans (by decide) hL) (.refl ..)

theorem works_expireHot (s : State) : Works D s (expireHot s) := by
  unfold expireHot
  split
  · exact .refl s
  · split
    · exact (works_raiseOverheat s).trans (works_disengageOrder _ _)
    · exact works_raiseOverheat s

theorem works_deliverOrder (m : OpMode) (s : State) : Works D s (deliverOrder m s) := by
  unfold deliverOrder
  split
  · exact works_disengageOrder _ s
  · exact .refl s

theorem works_deselectRoll (asserted : Bool) (s : State) : Works D s (deselectRoll asserted s) := by
  unfold deselectRoll
  split
  · exact works_disengageOrder _ s
  · exact .refl s

theorem works_tripOnLoss (c : ModeCause) (asserted : Bool) (s : State) : Works D s (tripOnLoss c asserted s) :=
  works_quiet fun _ hL _ => moves_tripOnLoss (List.Subset.trans (by decide) hL) (.refl ..)

theorem works_reviewStop (s : State) : Works D s (reviewStop s) :=
  works_quiet fun _ hL _ => moves_reviewStop (hL (by decide)) (hL (by decide)) (.refl ..)

theorem works_panelStopChange (asserted : Bool) (s : State) : Works D s (panelStopChange asserted s) := by
  unfold panelStopChange
  split
  · exact works_panelStopAsserted s
  · exact works_reviewStop s

theorem works_eventAnd {f : State → State} (hf : ∀ y, Works D y (f y)) (s : State) :
    Works D s (runInOrder [conditionEvent, f] s) := by
  refine works_runInOrder (fun g hg y => ?_) s
  simp only [List.mem_cons, List.not_mem_nil, or_false] at hg
  obtain rfl | rfl := hg
  · exact works_conditionEvent y
  · exact hf y

theorem works_valveFeedbackChange (v : ValveRole) (asserted : Bool) (s : State) :
    Works D s (valveFeedbackChange v asserted s) :=
  works_quiet fun _ hL _ => moves_valveFeedbackChange (List.Subset.trans (by decide) hL) (hL (by cases v <;> decide))
    (.refl ..)

theorem works_inputChange (n : Terminal) (r : Role) (asserted : Bool) (s : State) : Works D s (inputChange n r asserted s) := by
  cases r
  case parkBrake | neutral => exact works_eventAnd (works_tripOnLoss _ _) s
  case rollSelect => exact works_eventAnd (works_deselectRoll _) s
  case panelStop => exact works_eventAnd (works_panelStopChange _) s
  case ptoFb => exact works_ptoFeedbackChange _ s
  case mainValveFb | reserveValveFb | recircFb => exact works_valveFeedbackChange _ _ s
  case generalIn => exact works_record _ _ s
  all_goals exact .refl s

theorem works_setInput (n : Terminal) (i : InputState) (s : State) : Works D s (setInput n i s) :=
  works_quiet fun _ hL _ => moves_setInput (hL (by decide)) (.refl ..)

theorem works_sampleTerminal (levels : BitVec 16) (n : Terminal) (s : State) : Works D s (sampleTerminal levels n s) := by
  unfold sampleTerminal
  dsimp only
  split
  · split
    · exact works_setInput _ _ s
    · exact (works_setInput _ _ s).trans (works_inputChange _ _ _ _)
  · exact .refl s

theorem works_sampleInputs (levels : BitVec 16) (s : State) : Works D s (sampleInputs levels s) := by
  refine (works_runInOrder (fun f hf y => ?_) s).trans (works_deliverOrder _ _)
  rw [List.mem_append, List.mem_map, List.mem_singleton] at hf
  obtain ⟨n, -, rfl⟩ | rfl := hf
  · exact works_sampleTerminal levels n y
  · exact works_deliverOrder _ y

theorem works_alignTerminal (old : AssignRecord) (n : Terminal) (s : State) : Works D s (alignTerminal old n s) := by
  have hout : Works D s (alignOutput old s.terminals.assignment[n] n s) :=
    works_quiet fun _ hL _ => moves_alignOutput (hL (by decide)) (hL (by decide)) (.refl ..)
  rw [alignTerminal_eq]
  refine hout.trans ?_
  generalize alignOutput old s.terminals.assignment[n] n s = y
  unfold alignInput
  dsimp only
  split
  · split
    · split
      · exact .refl y
      · split
        · exact (works_setInput _ _ y).trans (works_inputChange _ _ _ _)
        · exact works_setInput _ _ y
    · exact works_setInput _ _ y
  · split
    · exact works_setInput _ _ y
    · exact .refl y

theorem works_setConsumers : ∀ f ∈ setConsumers, ∀ y, Works D y (f y) := by
  intro f hf y
  simp only [setConsumers, List.mem_cons, List.not_mem_nil, or_false] at hf
  obtain rfl | rfl | rfl | rfl | rfl | rfl | rfl | rfl | rfl | rfl | rfl | rfl | rfl | rfl := hf
  case inr.inr.inr.inr.inl => exact works_publishDrive y
  all_goals refine works_quiet fun L hL ht => ?_
  · exact moves_publishMotion (hL (by decide)) (.refl ..)
  · exact moves_publishRoll (List.Subset.trans (by decide) hL) (.refl ..)
  · exact moves_publishVoltage (List.Subset.trans (by decide) hL) (.refl ..)
  · exact moves_publishEngineIdle (List.Subset.trans (by decide) hL) (.refl ..)
  · exact moves_publishFallback (hL (by decide)) (hL (by decide)) (.refl ..)
  · exact moves_publishPulseLoss (hL (by decide)) (.refl ..)
  · exact moves_publishWindow (List.Subset.trans (by decide) hL) (.refl ..)
  · exact moves_publishPrime (List.Subset.trans (by decide) hL) (.refl ..)
  · exact moves_publishTank (List.Subset.trans (by decide) hL) (hL (by decide)) ht (.refl ..)
  · exact moves_publishTank (List.Subset.trans (by decide) hL) (hL (by decide)) ht (.refl ..)
  · exact moves_publishZone (List.Subset.trans (by decide) hL) (hL (by decide)) (.refl ..)
  · exact moves_publishNoFlow (hL (by decide)) (.refl ..)
  · exact moves_publishDryRun (hL (by decide)) (.refl ..)

theorem works_scanAnalog (codes : Analog (BitVec 12)) (s : State) : Works D s (scanAnalog codes s) :=
  (works_quiet fun _ hL _ => moves_scanned (codes := codes) (hL (by decide)) (hL (by decide)) (.refl ..)).trans
    (works_runInOrder works_setConsumers _)

end Sys2Proof.Machine
end

section
/-! PROOFS. A step taken apart: acts of the units, changes around them, and writes of the settings; the requests. -/

namespace Sys2Proof.Machine

variable {K : List Part} {b : Bool} {D : Prop} {s x y t : State}

/-! ### The layer around the units: line, clock, trend and the queue of commands -/

/-- A change outside the units that keeps the queues and counters in their sizes. -/
structure Outer (s t : State) : Prop where
  frame : t = { s with
    link := t.link, clock := t.clock, trend := t.trend, notices := t.notices, tx := t.tx, powered := t.powered
    pending := t.pending, choiceCount := t.choiceCount, choices := t.choices }
  buffers : BuffersBounded s → BuffersBounded t

theorem outer_of_eq_units {u : State} (h : u = { s with
    clock := u.clock, tx := u.tx, powered := u.powered, pending := u.pending, choiceCount := u.choiceCount
    choices := u.choices }) : Outer s u where
  frame := by rw [h]
  buffers hs := by rw [h]; exact hs

/-- The Link Unit's counters and its buffer in their sizes. -/
def LinkBounded (l : Link) : Prop :=
  l.buffer.length ≤ 4 ∧ l.framing ≤ 65535 ∧ l.check ≤ 65535 ∧ l.overrun ≤ 65535 ∧ l.noticeCount ≤ 255

theorem outer_modLink {f : Link → Link} (hf : LinkBounded s.link → LinkBounded (f s.link)) : Outer s (s.modLink f) where
  frame := rfl
  buffers := fun ⟨hq, hb, hr, hfast, hfr, hc, ho, hn⟩ => by
    obtain ⟨hb, hfr, hc, ho, hn⟩ := hf ⟨hb, hfr, hc, ho, hn⟩
    exact ⟨hq, hb, hr, hfast, hfr, hc, ho, hn⟩

theorem outer_modNotices {f : Notices → Notices} (hf : (f s.notices).queue.length ≤ s.notices.queue.length) :
    Outer s (s.modNotices f) where
  frame := rfl
  buffers := fun ⟨hq, h⟩ => ⟨hf.trans hq, h⟩

theorem outer_modTrend {f : Trend → Trend} (hr : s.trend.ring.length ≤ 256 → (f s.trend).ring.length ≤ 256)
    (hfast : s.trend.fast ≤ 30 → (f s.trend).fast ≤ 30) : Outer s (s.modTrend f) where
  frame := rfl
  buffers := fun ⟨hq, hb, h₁, h₂, h⟩ => ⟨hq, hb, hr h₁, hfast h₂, h⟩

theorem Outer.trans (h : Outer s t) (g : Outer t x) : Outer s x where
  frame := by rw [g.frame, h.frame]
  buffers := g.buffers ∘ h.buffers

theorem outer_record (k : NoticeKind) (n : NoticeBody) (s : State) : Outer s (record k n s) := by
  obtain ⟨m, x, -, -, e⟩ := record_frame k n s
  refine ⟨by rw [e], fun ⟨hq, h⟩ => ⟨record_queue_le k n s hq, ?_⟩⟩
  rw [e]
  exact h

theorem outer_checkTrendHalf (s : State) : Outer s (checkTrendHalf s) := by
  obtain e | ⟨-, -, e⟩ := checkTrendHalf_cases s <;> rw [e]
  · exact outer_of_eq_units rfl
  · exact (outer_modTrend (f := fun t => { t with armed := false }) id id).trans (outer_record _ _ _)

/-! ### A whole step, taken apart -/

/-- A course of changes: acts of the units, changes around them, a governor period, writes of the settings, a
millisecond and a restart. -/
inductive Course (D : Prop) : State → State → Prop
  | trans {s t u : State} (h : Course D s t) (g : Course D t u) : Course D s u
  | works {s t : State} (h : Works D s t) : Course D s t
  | outer {s t : State} (h : Outer s t) : Course D s t
  | period (s : State) : Course D s (governPeriod s)
  | param (s : State) (n : Nat) (r : ParamRow) (v : Int) (hr : paramRow n = some r) :
      Course D s (handParam n (storeParam n (storedParam s n r v) s))
  | assign (s : State) (a : Vector AssignRecord 16)
      (ha : AssignmentSound s → AssignmentSound (s.modTerminals fun x => { x with assignment := a })) :
      Course D s (s.modTerminals fun x => { x with assignment := a })
  | lockout (s : State) (k : GuardedKind) (ms : List OpMode) (cs : List Condition) :
      Course D s (s.modInterlock fun i => { i with lockout := setKind i.lockout k (storedEntry k ms cs) })
  | elapse (s : State) : Course D s (elapse s)
  | restart (s : State) (c : StartCause) : Course D s (restart c s)

theorem course_refl (s : State) : Course D s s := .works (.refl s)

theorem course_runInOrder {acts : List (State → State)} (hacts : ∀ f ∈ acts, ∀ y, Course D y (f y)) (s : State) :
    Course D s (runInOrder acts s) :=
  runInOrder_keeps (P := Course D s) (fun _ _ hy => hy.trans (.outer (outer_of_eq_units rfl))) acts
    (fun f hf y hy => hy.trans (hacts f hf y)) s (course_refl s)

theorem course_governorExpiry (s : State) : Course D s (governorExpiry s) := by
  refine course_runInOrder (fun f hf y => ?_) s
  simp only [List.mem_cons, List.not_mem_nil, or_false] at hf
  obtain rfl | rfl | rfl := hf
  · exact .works (works_quiet fun _ hL _ => moves_slideMode (hL (by decide)) (hL (by decide)) (.refl ..))
  · exact .works (works_quiet fun _ hL _ => moves_limiterPeriod (List.Subset.trans (by decide) hL) (.refl ..))
  · exact .period y

/-! ### Requests -/

theorem guarded_state (k : GuardedKind) (s : State) (a : Answer) : (guarded k s a).state = s ∨ (guarded k s a).state = a.state := by
  unfold guarded
  split
  · exact .inr rfl
  · exact .inl rfl
  · exact .inl rfl

theorem works_guarded {k : GuardedKind} {a : Answer} (h : Works D s a.state) : Works D s (guarded k s a).state := by
  obtain e | e := guarded_state k s a <;> rw [e]
  · exact .refl s
  · exact h

theorem course_actReadTrend (start : BitVec 16) (n : Byte) (s : State) : Course D s (actReadTrend start n s).state := by
  have hread : ∀ y, Course D y (afterReading y) := fun y =>
    .outer ((outer_modTrend (by split <;> exact id) (by split <;> exact id)).trans (outer_checkTrendHalf _))
  have hmarker : ∀ last, Course D s (s.modTrend (moveMarker last)) := by
    intro last
    have hframe : (moveMarker last s.trend).ring = s.trend.ring ∧ (moveMarker last s.trend).fast = s.trend.fast := by
      unfold moveMarker
      split
      · exact ⟨rfl, rfl⟩
      · split
        · exact ⟨rfl, rfl⟩
        · split <;> exact ⟨rfl, rfl⟩
    exact .outer (outer_modTrend (by rw [hframe.1]; exact id) (by rw [hframe.2]; exact id))
  unfold actReadTrend
  split
  · exact course_refl s
  · split
    · dsimp only
      split
      · exact (hmarker _).trans (hread _)
      · exact hread s
    · split
      · exact hread s
      · exact hread s

theorem works_actPanelFlags (cs ss : List Byte) (s : State) : Works D s (actPanelFlags cs ss s).state := by
  have hflag : ∀ n on y, Works D y (writeFlag n on y) := fun n on y => works_quiet fun _ hL _ =>
    moves_conditionEvent (hL (by decide)) (moves_watch (hL (by decide)) rfl (.refl ..) (.inl (hL (by decide))))
  unfold actPanelFlags
  split
  · refine works_runInOrder (fun f hf y => ?_) s
    obtain ⟨p, -, rfl⟩ := List.mem_map.1 hf
    exact hflag _ _ y
  · exact .refl s

theorem works_actEngage (k : Byte) (s : State) : Works D s (actEngage k s).state := by
  unfold actEngage
  split
  · exact .refl s
  · split
    · exact .refl s
    · next h => exact works_guarded (works_startEngagement (by simp [OutOfEngaged, not_not.1 h]))

theorem works_actDisengage (s : State) : Works D s (actDisengage s).state := by
  unfold actDisengage
  split
  case h_1 | h_2 | h_3 | h_4 => exact works_disengageOrder _ s
  all_goals exact .refl s

theorem works_modDrive_same {f : Drive → Drive} (hf : (f s.drive).pto = s.drive.pto) : Works D s (s.modDrive f) where
  moves := .drive _ (by decide) s f
  demand _ hd ht := hd (hf ▸ ht)
  supply _ _ hx := by rw [SupplyFollowsPto, State.modDrive_drive, hf]; exact hx

theorem works_changeKind (k : Kind) (s : State) : Works D s (changeKind k s) :=
  (works_modDrive_same (f := fun d => { d with kind := some k }) rfl).trans <|
    (works_quiet fun _ hL _ => moves_enterKindMode (List.Subset.trans (by decide) hL) (.refl ..)).trans
      (works_orderIfTripped _)

theorem works_actChangeKind (k : Byte) (s : State) : Works D s (actChangeKind k s).state := by
  unfold actChangeKind
  split
  · exact .refl s
  · exact works_guarded (works_changeKind _ s)

theorem works_actClearFault (target : Byte) (s : State) : Works D s (actClearFault target s).state := by
  unfold actClearFault
  split
  · unfold clearDrive
    split
    · next h => exact works_clearDriveFault (by simp [OutOfEngaged, h.1])
    · exact .refl s
  · split
    · unfold clearLatch
      split
      · exact works_quiet fun _ hL _ => moves_clearDryRun (List.Subset.trans (by decide) hL) (.refl ..)
      · exact .refl s
    · split
      · unfold clearValve
        split
        · exact works_quiet fun _ hL _ => moves_reportAfter (List.Subset.trans (by decide) hL)
            (moves_clearValveFault (hL (by cases ‹ValveRole› <;> decide)) (hL (by decide)) (hL (by decide)) (.refl ..))
        · exact .refl s
      · exact .refl s

theorem works_takeShadow (v : Setting) (s : State) : Works D s (takeShadow v s) :=
  works_quiet fun _ hL _ => moves_takeShadow (hL (by decide)) (hL (by decide)) (hL (by decide)) (.refl ..)

theorem works_writeSetting (v : Setting) (adjusted : Bool) (s : State) : Works D s (writeSetting v adjusted s).state := by
  unfold writeSetting
  split
  · exact works_guarded (works_takeShadow v s)
  · exact works_takeShadow v s

theorem works_actStep (d : Byte) (s : State) : Works D s (actStep d s).state := by
  unfold actStep
  split
  · unfold stepUp
    split <;> exact works_writeSetting _ _ s
  · unfold stepDown
    split
    · exact .refl s
    · exact works_writeSetting _ _ s
    · exact works_writeSetting _ _ s
  · exact .refl s

theorem derivePair_supply (s : State) : (derivePair s).supply = s.supply := by
  obtain ⟨_, _, e⟩ := derivePair_frame s
  rw [e]

theorem works_takeIdle (s : State) : Works D s (takeIdle s) := by
  have hderive : ∀ L, quietParts ⊆ L → Moves L true s (derivePair (writeShadow .idle s)) := fun L hL =>
    moves_derivePair (hL (by decide)) (moves_governor (hL (by decide)) le_rfl (.refl ..) (.inl (hL (by decide))))
  refine works_quiet fun L hL _ => ?_
  unfold takeIdle
  dsimp only
  split
  · next h =>
    refine moves_abandonPrime (List.Subset.trans (by decide) hL) (mayFeed_of_draftPriming ?_) (hderive L hL)
    rw [derivePair_supply]
    exact h.2
  · exact hderive L hL

theorem works_supplyToTank (s : State) : Works D s (supplyToTank s).state := by
  have hparts : supplyParts ⊆ quietParts := by decide
  unfold supplyToTank
  split
  · exact .refl s
  · exact .refl s
  · next h =>
    show Works D s (returnToTank (s.modSupply fun x => { x with attempt := none }))
    exact works_quiet fun L hL _ => moves_returnToTank (List.Subset.trans (List.Subset.trans (by decide) hparts) hL) (.inr (by simp [h]))
      (moves_supply (hL (by decide)) rfl rfl supplyFits_attempt_none (.refl ..))
  case h_4 | h_5 =>
    next h =>
    show Works D s (switchWithCycle enterSwitching s)
    exact works_quiet fun L hL _ => moves_switchWithCycle (List.Subset.trans hparts hL)
      (fun y hy hs => moves_enterSwitching (List.Subset.trans (List.Subset.trans (by decide) hparts) hL) (.inr (by simp [hy, h])) hs) (.refl ..)
  · next h =>
    show Works D s (abandonPrime .operator s)
    exact works_quiet fun L hL _ => moves_abandonPrime (List.Subset.trans hparts hL) (.inr (by simp [h])) (.refl ..)
  · exact .refl s
  · next h =>
    split
    · exact .refl s
    · show Works D s (returnToTank s)
      exact works_quiet fun L hL _ => moves_returnToTank (List.Subset.trans (List.Subset.trans (by decide) hparts) hL) (.inr (by simp [h])) (.refl ..)

theorem works_guarded_taken {k : GuardedKind} (h : Works D s x) : Works D s (guarded k s (supplyTaken x)).state := by
  obtain e | e := guarded_state k s (supplyTaken x) <;> rw [e]
  · exact .refl s
  · exact h

theorem works_actSetSupply (source : Byte) (s : State) : Works D s (actSetSupply source s).state := by
  have hparts : supplyParts ⊆ quietParts := by decide
  unfold actSetSupply
  split
  · exact works_supplyToTank s
  · unfold supplyToHydrant
    split
    case h_1 | h_2 =>
      next h => exact works_guarded_taken (works_quiet fun L hL _ =>
        moves_startQualifying (List.Subset.trans hparts hL) (.inr (by simp [h])) (.refl ..))
    all_goals exact .refl s
  · unfold supplyToDraft
    split
    · next h => exact works_guarded_taken (works_quiet fun L hL _ =>
        moves_startDraft (List.Subset.trans hparts hL) (.inr (by simp [h])) (.refl ..))
    all_goals exact .refl s
  · exact .refl s

theorem works_actUseReserve (s : State) : Works D s (actUseReserve s).state := by
  have hparts : supplyParts ⊆ quietParts := by decide
  refine works_guarded ?_
  show Works D s (useReserve s)
  unfold useReserve
  split
  · exact .refl s
  · refine works_quiet fun L hL _ => ?_
    have hselect : Moves L true s (selectTank .reserve s) := moves_selectTank (List.Subset.trans (by decide) hL) (.refl ..)
    dsimp only
    split
    case h_1 | h_2 | h_3 =>
      next h =>
      exact moves_enterSwitching (List.Subset.trans (List.Subset.trans (by decide) hparts) hL) (.inr (by simp [selectTank_supply, h])) hselect
    all_goals exact hselect

theorem works_actFillStart (t : Byte) (s : State) : Works D s (actFillStart t s).state := by
  unfold actFillStart
  split
  · exact .refl s
  · next t _ =>
    refine works_guarded ?_
    have hstart : Works D s (startFill t s) := works_quiet fun _ hL _ =>
      moves_startFill (List.Subset.trans (by cases t <;> decide) hL) (.refl ..)
    unfold fillAnswer
    split
    case h_5 | h_6 =>
      split
      · exact hstart
      · exact .refl s
    all_goals exact .refl s

theorem works_actFillStop (t : Byte) (s : State) : Works D s (actFillStop t s).state := by
  unfold actFillStop
  split
  · exact .refl s
  · next t _ =>
    exact works_quiet fun _ hL _ => moves_stopFill (List.Subset.trans (by cases t <;> decide) hL) (.refl ..)

theorem works_actRecirc (x : Byte) (s : State) : Works D s (actRecirc x s).state := by
  unfold actRecirc
  split
  · exact .refl s
  · exact works_quiet fun _ hL _ => moves_operatorRecirc (List.Subset.trans (by decide) hL) (.refl ..)

theorem works_silence (s : State) : Works D s (silence s) :=
  works_quiet fun _ hL _ => .alarm _ (hL (by decide)) s _ (fun ⟨_, _, _, _, hblink⟩ =>
    alarmSound_setPattern (fun _ => id) hblink.2) fun _ _ => .inr (by simp)

theorem works_commandOutput (n : Terminal) (r : OutputRecord) (s : State) : Works D s (commandOutput n r s).state :=
  works_guarded (works_quiet fun _ hL _ => moves_setGeneral (hL (by decide)) (hL (by decide)) (.refl ..))

theorem works_actSetOutput (n x : Byte) (s : State) : Works D s (actSetOutput n x s).state := by
  unfold actSetOutput
  split
  · exact works_commandOutput _ _ s
  · exact .refl s

theorem works_actPulseOutput (n : Byte) (d : BitVec 16) (s : State) : Works D s (actPulseOutput n d s).state := by
  unfold actPulseOutput
  split
  · exact works_commandOutput _ _ s
  · exact .refl s

theorem works_actResetTotal (x : Byte) (s : State) : Works D s (actResetTotal x s).state := by
  unfold actResetTotal
  split
  · show Works D s (s.modTotals fun x => { x with incident := zeroTotal })
    have hzero : TotalSound zeroTotal := by decide
    exact works_quiet fun _ hL _ => .totals _ (hL (by decide)) s _ (fun _ => hzero) id
  · exact .refl s

/-- A table replaced changes the tank's record alone, its fill as it stands. -/
theorem replaceTable_eq (t : Tank) (l : List (Nat × Nat)) (s : State) :
    ∃ g : TankRecord → TankRecord, (FillSound (s.tank t) → FillSound (g (s.tank t))) ∧
      replaceTable t l s = s.modTank t g := by
  have hest : ((s.modTank t fun r => { r with table := l }).tank t).estimating = (s.tank t).estimating := by
    rw [tank_modTank, if_pos rfl]
  unfold replaceTable
  dsimp only
  split
  · next c e hc _ =>
    refine ⟨_, fun hr => ⟨fun hn => ?_, hr.2⟩, modTank_modTank ..⟩
    exact absurd ((show (s.tank t).estimating = none from hn).symm.trans (hest.symm.trans hc)) (by simp)
  · exact ⟨_, id, rfl⟩
  · split
    · exact ⟨_, id, modTank_modTank ..⟩
    · exact ⟨_, id, rfl⟩

theorem works_actWriteVolumeTable (t : Byte) (ps : List PointField) (s : State) :
    Works D s (actWriteVolumeTable t ps s).state := by
  unfold actWriteVolumeTable
  split
  · exact .refl s
  · next t _ =>
    split
    · exact .refl s
    · dsimp only
      split
      · obtain ⟨g, hg, e⟩ := replaceTable_eq t (ps.map fun p => (p.level.toNat, p.volume.toNat)) s
        rw [e]
        refine works_quiet fun L hL ht => ?_
        refine moves_setLevel (List.Subset.trans (by cases t <;> decide) hL) ht hg ?_ (.refl ..) (.inl (hL (by decide)))
          (.inl (hL (by decide)))
        rw [← freshLevel_eq_unknown, tank_modTank, if_pos rfl]
      · exact .refl s

/-! ### The settings -/

theorem works_unseed (c : AnalogChannel) (s : State) : Works D s (unseed c s) :=
  works_quiet fun _ hL _ => .sense _ (hL (by decide)) s _

theorem works_clipDemand (s : State) : Works D s (clipDemand s) :=
  works_quiet fun _ hL _ => .clip _ (hL (by decide)) (.refl ..)

theorem works_takeRollCeiling (s : State) : Works D s (takeRollCeiling s) := by
  refine works_quiet fun _ hL _ => ?_
  unfold takeRollCeiling
  split
  · exact .clip _ (hL (by decide)) (.mode false (hL (by decide)) s _ rfl (by simp))
  · exact .refl ..

theorem works_evaluateLevels (s : State) : Works D s (forTanks evaluateLevel s) := by
  refine works_runInOrder (fun f hf y => ?_) s
  simp only [List.mem_cons, List.not_mem_nil, or_false] at hf
  obtain rfl | rfl := hf
  · exact works_quiet fun _ hL ht => moves_evaluateLevel (List.Subset.trans (by decide) hL) ht (.refl ..)
  · exact works_quiet fun _ hL ht => moves_evaluateLevel (List.Subset.trans (by decide) hL) ht (.refl ..)

theorem works_handParam (n : Nat) (s : State) : Works D s (handParam n s) := by
  unfold handParam
  split
  case h_13 => exact works_quiet fun _ hL _ => .sense _ (hL (by decide)) s _
  case h_14 => exact works_takeRollCeiling s
  case h_15 => exact works_conditionEvent s
  case h_16 | h_17 | h_18 => exact works_clipDemand s
  case h_19 | h_20 | h_21 | h_22 | h_23 => exact works_evaluateLevels s
  case h_24 => exact .refl s
  all_goals exact works_unseed _ s

theorem course_actWriteParam (n : Byte) (v : BitVec 32) (s : State) : Course D s (actWriteParam n v s).state := by
  unfold actWriteParam
  split
  · exact course_refl s
  · next hr =>
    split
    · exact course_refl s
    · exact .param s n.toNat _ v.toInt hr

theorem works_refreshConditions (s : State) : Works D s (refreshConditions s) :=
  works_quiet fun _ hL _ => moves_refreshConditions (hL (by decide)) (.refl ..)

end Sys2Proof.Machine
end

section
/-! PROOFS. A step taken apart: the tables, the line, and every command. -/

namespace Sys2Proof.Machine

variable {K : List Part} {b : Bool} {D : Prop} {s x y t : State}

/-! ### The assignment table -/

/-- A record of the assignment table as R15 has it. -/
def RecordSound (r : AssignRecord) : Prop :=
  1 ≤ r.q ∧ r.q ≤ 15 ∧ (r.safe.isSome = true ↔ r.role = .generalOut)

theorem parseSafe_isSome {role : Role} {present safe : Byte} {x : Option SafeState} (h : parseSafe role present safe = some x) :
    x.isSome = true ↔ role = .generalOut := by
  unfold parseSafe at h
  split at h
  · cases h
  · split at h
    · next hrole =>
      split at h
      · obtain ⟨y, -, rfl⟩ := Option.map_eq_some_iff.1 h
        simp [hrole]
      · cases h
    · next hrole =>
      cases h
      simp [hrole]

theorem recordSound_of_parse {f : AssignmentField} {p : Terminal × AssignRecord} (h : parseAssignRecord f = some p) :
    RecordSound p.2 := by
  unfold parseAssignRecord at h
  split at h
  · obtain ⟨x, hx, rfl⟩ := Option.map_eq_some_iff.1 h
    have hq := clampTo_bounds 1 15 f.q.toNat (by decide)
    exact ⟨by simp only; omega, by simp only; omega, parseSafe_isSome hx⟩
  · cases h

theorem forall_mem_of_mapM {α β : Type} {f : α → Option β} {P : β → Prop} (hf : ∀ a y, f a = some y → P y) :
    ∀ {l : List α} {ys : List β}, l.mapM f = some ys → ∀ y ∈ ys, P y := by
  intro l
  induction l with
  | nil =>
    intro ys h
    simp only [List.mapM_nil, Option.pure_def, Option.some.injEq] at h
    simp [← h]
  | cons a l ih =>
    intro ys h
    simp only [List.mapM_cons, Option.bind_eq_bind, Option.pure_def, Option.bind_eq_some_iff, Option.some.injEq] at h
    obtain ⟨y, hy, zs, hzs, rfl⟩ := h
    intro z hz
    obtain rfl | hz := List.mem_cons.1 hz
    · exact hf a z hy
    · exact ih hzs z hz

theorem recordsSound_of_parse {l : List AssignmentField} {recs : List (Terminal × AssignRecord)}
    (h : parseAssign l = some recs) : ∀ p ∈ recs, RecordSound p.2 :=
  forall_mem_of_mapM (fun _ _ => recordSound_of_parse) (Option.filter_eq_some_iff.1 h).1

/-- A record of a written table is one of the records written or the one that stood. -/
theorem writtenTable_mem (recs : List (Terminal × AssignRecord)) (a : Vector AssignRecord 16) (n : Terminal) :
    (writtenTable recs a)[n] = a[n] ∨ ∃ p ∈ recs, (writtenTable recs a)[n] = p.2 := by
  induction recs generalizing a with
  | nil => exact .inl rfl
  | cons p recs ih =>
    obtain h | ⟨q, hq, h⟩ := ih (a.set p.1 p.2)
    · have hset : (a.set p.1 p.2)[n] = a[n] ∨ (a.set p.1 p.2)[n] = p.2 := by
        simp only [Fin.getElem_fin, Vector.getElem_set]
        split
        · exact .inr rfl
        · exact .inl rfl
      exact hset.imp h.trans fun e => ⟨p, List.mem_cons_self, h.trans e⟩
    · exact .inr ⟨q, List.mem_cons_of_mem _ hq, h⟩

theorem dedicatedOnce_iff (a : Vector AssignRecord 16) : dedicatedOnce a = true ↔
    ∀ t u : Terminal, t ≠ u → isDedicated a[t].role = true → a[t].role ≠ a[u].role := by
  simp only [dedicatedOnce, List.all_eq_true, mem_allTerminals, true_implies, Bool.or_eq_true, beq_iff_eq,
    Bool.not_eq_true', bne_iff_ne, ne_eq]
  refine forall_congr' fun t => forall_congr' fun u => ?_
  cases isDedicated a[t].role <;> simp [or_iff_not_imp_left]

theorem assignmentSound_written {recs : List (Terminal × AssignRecord)} (hrecs : ∀ p ∈ recs, RecordSound p.2)
    (hded : dedicatedOnce (writtenTable recs s.terminals.assignment) = true) (hs : AssignmentSound s) :
    AssignmentSound (s.modTerminals fun x => { x with assignment := writtenTable recs s.terminals.assignment }) := by
  refine ⟨(dedicatedOnce_iff _).1 hded, fun n => ?_⟩
  show RecordSound (writtenTable recs s.terminals.assignment)[n]
  obtain h | ⟨p, hp, h⟩ := writtenTable_mem recs s.terminals.assignment n <;> rw [h]
  · exact hs.2 n
  · exact hrecs p hp

theorem course_writeRecords {recs : List (Terminal × AssignRecord)} (hrecs : ∀ p ∈ recs, RecordSound p.2)
    (hded : dedicatedOnce (writtenTable recs s.terminals.assignment) = true) : Course D s (writeRecords recs s) := by
  refine (Course.assign s _ (assignmentSound_written hrecs hded)).trans (.works ?_)
  refine ((works_runInOrder (fun f hf y => ?_) _).trans (works_reviewStop _)).trans (works_refreshConditions _)
  obtain ⟨p, -, rfl⟩ := List.mem_map.1 hf
  exact works_alignTerminal _ _ y

theorem course_actWriteAssignment (l : List AssignmentField) (s : State) : Course D s (actWriteAssignment l s).state := by
  unfold actWriteAssignment
  split
  · exact course_refl s
  · split
    · exact course_refl s
    · next hparse =>
      split
      · next hded => exact course_writeRecords (recordsSound_of_parse hparse) hded
      · exact course_refl s

theorem course_actWriteLockout (k ms : Byte) (cs : BitVec 24) (s : State) : Course D s (actWriteLockout k ms cs s).state := by
  unfold actWriteLockout
  split
  · exact course_refl s
  · split
    · exact course_refl s
    · split
      · exact .lockout s _ _ _
      · exact course_refl s

/-! ### Every request -/

theorem outer_checkPressure (s : State) : Outer s (checkPressure s) := by
  obtain e | ⟨-, -, -, e⟩ := checkPressure_cases s <;> rw [e]
  · exact outer_of_eq_units rfl
  · exact outer_modNotices le_rfl

theorem outer_beginHold (s : State) : Outer s (beginHold s) := by
  unfold beginHold
  split
  · exact outer_of_eq_units rfl
  · exact ((outer_modLink id).trans (outer_modNotices (f := fun n => { n with pressure := false }) le_rfl)).trans
      (outer_checkPressure _)

theorem course_actSetTime (v : BitVec 32) (r : Byte) (s : State) : Course D s (actSetTime v r s).state := by
  unfold actSetTime
  dsimp only
  split
  · exact .outer (outer_of_eq_units rfl)
  · exact course_refl s

theorem course_actNoticeMask (ds es : List Byte) (s : State) : Course D s (actNoticeMask ds es s).state := by
  unfold actNoticeMask
  split
  · next ds es _ _ =>
    exact .outer (outer_modNotices (f := fun n => { n with disabled := disabledAfter n.disabled ds es }) le_rfl)
  · exact course_refl s

theorem course_actResetPart (s : State) : Course D s (actResetPart s).state := by
  unfold actResetPart
  split
  · exact .outer (outer_modLink (f := fun l => { l with resetTaken := true }) id)
  · exact course_refl s

theorem state_of_reading (s : State) :
    (∀ n, (actReadStatus n s).state = s) ∧ (∀ n, (actReadParam n s).state = s) ∧
    (∀ k, (actReadLockout k s).state = s) ∧ ∀ t, (actReadVolumeTable t s).state = s := by
  refine ⟨fun n => ?_, fun n => ?_, fun k => ?_, fun t => ?_⟩
  · unfold actReadStatus; split <;> rfl
  · unfold actReadParam; split <;> rfl
  · unfold actReadLockout; split <;> rfl
  · unfold actReadVolumeTable; split <;> rfl

/-- What the owning unit does with a request is a course of changes. -/
theorem course_act (r : Request) (s : State) : Course D s (act r s).state := by
  obtain ⟨hstatus, hparam, hlockout, htable⟩ := state_of_reading s
  cases r
  case readStatus => exact (hstatus _).symm ▸ course_refl s
  case readParam => exact (hparam _).symm ▸ course_refl s
  case readLockout => exact (hlockout _).symm ▸ course_refl s
  case readVolumeTable => exact (htable _).symm ▸ course_refl s
  case readTrend => exact course_actReadTrend _ _ s
  case readLinkErrors => exact .outer (outer_modLink (f := fun l => { l with framing := 0, check := 0, overrun := 0 }) fun ⟨hb, _, _, _, hn⟩ =>
    ⟨hb, Nat.zero_le _, Nat.zero_le _, Nat.zero_le _, hn⟩)
  case writeParam => exact course_actWriteParam _ _ s
  case writeAssignment => exact course_actWriteAssignment _ s
  case writeLockout => exact course_actWriteLockout _ _ _ s
  case writeVolumeTable => exact .works (works_actWriteVolumeTable _ _ s)
  case panelFlags => exact .works (works_actPanelFlags _ _ s)
  case engage => exact .works (works_actEngage _ s)
  case disengage => exact .works (works_actDisengage s)
  case changeKind => exact .works (works_actChangeKind _ s)
  case clearFault => exact .works (works_actClearFault _ s)
  case setPressure | setSpeed => exact .works (works_writeSetting _ _ s)
  case step => exact .works (works_actStep _ s)
  case idle => exact .works (works_takeIdle s)
  case setSupply => exact .works (works_actSetSupply _ s)
  case useReserve => exact .works (works_actUseReserve s)
  case fillStart => exact .works (works_actFillStart _ s)
  case fillStop => exact .works (works_actFillStop _ s)
  case recirc => exact .works (works_actRecirc _ s)
  case silence => exact .works (works_silence s)
  case setOutput => exact .works (works_actSetOutput _ _ s)
  case pulseOutput => exact .works (works_actPulseOutput _ _ s)
  case resetTotal => exact .works (works_actResetTotal _ s)
  case setTime => exact course_actSetTime _ _ s
  case noticeMask => exact course_actNoticeMask _ _ s
  case holdReports => exact .outer (outer_beginHold s)
  case resumeReports => exact .outer (outer_modLink (f := fun l => { l with hold := false }) id)
  case resetPart => exact course_actResetPart s
  all_goals exact course_refl s

/-! ### The line -/

theorem course_modLink {f : Link → Link} (hf : LinkBounded s.link → LinkBounded (f s.link)) : Course D s (s.modLink f) :=
  .outer (outer_modLink hf)

theorem course_answerRequest {a : Answer} (kind tag : Byte) (h : Course D s a.state) :
    Course D s (answerRequest kind tag a) :=
  h.trans (course_modLink (f := fun l => { l with reply := some ⟨replyKind kind, tag, a.result, a.body⟩ }) id)

theorem course_takeRequest (tag : Byte) (r : Request) (s : State) : Course D s (takeRequest tag r s) :=
  course_answerRequest _ _ ((course_modLink (f := fun l => { l with inHand := some ⟨r.code, tag⟩ }) id).trans (course_act r _))

theorem course_takeFrame (f : Frame) (s : State) : Course D s (takeFrame f s) := by
  have hhold : Course D s (holdRequest f.kind f.tag s) := course_modLink id
  unfold takeFrame
  split
  · exact hhold.trans (course_modLink id)
  · exact course_answerRequest _ _ hhold
  · exact course_takeRequest _ _ s

theorem course_bufferFrame (f : Frame) (s : State) : Course D s (bufferFrame f s) := by
  refine course_modLink fun ⟨hb, hfr, hc, ho, hn⟩ => ?_
  split
  · exact ⟨by simp only [List.length_append, List.length_singleton]; omega, hfr, hc, ho, hn⟩
  · exact ⟨hb, hfr, hc, countUp_le .., hn⟩

theorem course_arrive (f : Frame) (s : State) : Course D s (arrive f s) := by
  unfold arrive
  split
  · exact course_takeFrame f s
  · exact course_bufferFrame f s

theorem course_arriveRequest (tag : Byte) (r : Request) (s : State) : Course D s (arriveRequest tag r s) := by
  unfold arriveRequest
  split
  · exact course_takeRequest tag r s
  · exact course_bufferFrame _ s

theorem course_takeNext (s : State) : Course D s (takeNext s) := by
  unfold takeNext
  split
  · exact course_refl s
  · next f fs hbuffer =>
    refine (course_modLink fun ⟨hb, h⟩ => ⟨?_, h⟩).trans (course_takeFrame f _)
    rw [hbuffer, List.length_cons] at hb
    exact Nat.le_of_succ_le hb

theorem course_modTx (f : Option TxFrame → Option TxFrame) (s : State) : Course D s (s.modTx f) :=
  .outer (outer_of_eq_units rfl)

theorem course_frameSent (s : State) : Course D s (frameSent s) := by
  have hfree : Course D s (s.modTx fun _ => none) := course_modTx _ s
  unfold frameSent
  dsimp only
  split
  · exact course_refl s
  · refine hfree.trans ?_
    unfold replySent
    split
    · exact .restart _ _
    · exact (course_modLink id).trans (course_takeNext _)
  · exact hfree
  · refine hfree.trans ?_
    have hcount : ∀ y, Course D y (y.modLink fun l => { l with noticeCount := (l.noticeCount + 1) % 256 }) := fun y =>
      course_modLink fun ⟨hb, hfr, hc, ho, _⟩ => ⟨hb, hfr, hc, ho, Nat.le_of_lt_succ (Nat.mod_lt _ (by decide))⟩
    unfold noticeSent
    dsimp only
    split
    · exact (hcount _).trans (.outer (outer_modNotices (by simp)))
    · exact hcount _

theorem course_restartAfterReply (s : State) : Course D s (restartAfterReply s) := by
  unfold restartAfterReply
  split
  · split
    · exact .restart s _
    · exact course_refl s
  · exact course_refl s

theorem cause_mem_quietParts (c : AlarmCause) : c ∉ keptCauses ∨ .cause c ∈ quietParts := by cases c <;> decide

theorem works_removeAlarm (c : AlarmCause) (s : State) : Works D s (removeAlarm c s) :=
  works_quiet fun _ hL _ => moves_removeAlarm (hL (by decide)) (.refl ..) ((cause_mem_quietParts c).imp_right (hL ·))

theorem works_addAlarm (c : AlarmCause) (s : State) : Works D s (addAlarm c s) :=
  works_quiet fun _ hL _ => moves_addAlarm (hL (by decide)) (.refl ..) ((cause_mem_quietParts c).imp_right (hL ·))

theorem course_supervise (s : State) : Course D s (supervise s) := by
  have hrestart : Course D s (restartSupervision s) := course_modLink id
  unfold supervise
  split
  · exact (hrestart.trans (.works (works_removeAlarm _ _))).trans (.outer (outer_record _ _ _))
  · exact hrestart

theorem works_applySafeState (n : Terminal) (s : State) : Works D s (applySafeState n s) := by
  refine works_quiet fun _ hL _ => ?_
  unfold applySafeState
  dsimp only
  split
  · split
    · exact moves_setGeneral (hL (by decide)) (hL (by decide)) (.refl ..)
    · exact moves_setGeneral (hL (by decide)) (hL (by decide)) (.refl ..)
    · exact .refl ..
    · exact .refl ..
  · exact .refl ..

theorem works_foldl {α : Type} {f : State → α → State} (hf : ∀ y a, Works D y (f y a)) (l : List α) :
    ∀ s, Works D s (l.foldl f s) := by
  induction l with
  | nil => exact .refl
  | cons a l ih => exact fun s => (hf s a).trans (ih _)

theorem course_loseLink (s : State) : Course D s (loseLink s) := by
  unfold loseLink
  split
  · exact (course_modLink id).trans (.works ((works_addAlarm .link _).trans
      (works_foldl (fun y n => works_applySafeState n y) _ _)))
  · exact course_refl s

theorem course_abandonFrame (s : State) : Course D s (abandonFrame s) := by
  unfold abandonFrame
  split
  · refine (course_modLink fun ⟨hb, _, h⟩ => ⟨hb, countUp_le .., h⟩).trans (course_modLink id)
  · exact course_refl s

theorem course_checkFrame (l : List Byte) (c : Byte) (s : State) : Course D s (checkFrame l c s) := by
  have hhunt : Course D s (hunt s) := course_modLink id
  unfold checkFrame
  dsimp only
  split
  · split
    · exact (hhunt.trans (course_supervise _)).trans (course_arrive _ _)
    · exact hhunt.trans (course_modLink fun ⟨hb, hfr, _, h⟩ => ⟨hb, hfr, countUp_le .., h⟩)
  · exact hhunt

theorem course_completeFrame (c : Byte) (s : State) : Course D s (completeFrame c s) := by
  unfold completeFrame
  split
  · split
    · exact course_checkFrame _ _ s
    · exact course_refl s
  · exact course_refl s

theorem course_receiveByte (c : Byte) (s : State) : Course D s (receiveByte c s) := by
  unfold receiveByte
  split
  · split
    · exact course_modLink id
    · exact course_refl s
  · split
    · exact course_checkFrame _ _ s
    · split
      · exact course_abandonFrame s
      · exact course_modLink id

theorem course_takeSample (s : State) : Course D s (takeSample s) := by
  refine .outer ((outer_modTrend (fun h => joinRing_length_le _ _ h) fun h => ?_).trans (outer_checkTrendHalf _))
  exact (Nat.sub_le ..).trans h

/-! ### Every command -/

theorem course_fresh (s : State) : Course D s s.fresh := .outer (outer_of_eq_units rfl)

theorem course_finish (s : State) : Course D s (finish s) := by
  obtain ⟨tx, r, l, e⟩ := finish_frame s
  refine .outer ⟨by rw [e], ?_⟩
  rw [e]
  exact id

theorem course_command {f : State → State} (hf : Course D s.fresh (f s.fresh)) (h : command f s = .next t) :
    Course D s t := by
  cases hp : s.powered
  · rw [command_unpowered f s hp] at h
    cases h
    exact course_refl s
  · rw [command_powered f s hp] at h
    cases h
    exact (course_fresh s).trans (hf.trans (course_finish _))

theorem course_present {tag : Byte} {r : Request} (h : present tag r s = .next t) : Course D s t := by
  unfold present at h
  split at h
  · exact course_command (course_arriveRequest tag r _) h
  · cases h

theorem works_expireTravelReported (v : ValveRole) (s : State) : Works D s (reportAfter v (expireTravel v) s) :=
  works_quiet fun _ hL _ => moves_reportAfter (List.Subset.trans (by decide) hL)
    (moves_expireTravel (hL (by cases v <;> decide)) (hL (by decide)) (hL (by decide)) (hL (by decide)) (.refl ..))

theorem works_endPulse (o : PulsedOutput) (s : State) : Works D s (endPulse o s) := by
  refine works_quiet fun _ hL _ => ?_
  cases o <;> unfold endPulse <;> dsimp only
  · split
    · exact .refl ..
    · exact .outputs _ (hL (by decide)) s _
  · split
    · exact .refl ..
    · exact moves_setGeneral (hL (by decide)) (hL (by decide)) (.refl ..)

theorem works_blinkAlarm (s : State) : Works D s (blinkAlarm s) := by
  refine works_quiet fun _ hL _ => ?_
  unfold blinkAlarm
  split
  · exact .refl ..
  · next hrun =>
    refine .alarm _ (hL (by decide)) s _ (fun ⟨hsil, hpat, _, _, hblink⟩ => ?_) fun _ _ => .inr Iff.rfl
    have hi : s.alarm.pattern = .intermittent := hblink.1 (isSome_of_not_isNone hrun)
    exact ⟨hsil, hpat, by simp [hi], by simp [hi], by simp [hi, startTimer]⟩

theorem works_tankTimer {a : Tank} {f : State → State} (hf : ∀ L, levelParts a ⊆ L → .readings ∈ L → Timed L s → Moves L true s (f s)) :
    Works D s (f s) :=
  works_quiet fun L hL ht => hf L (List.Subset.trans (by cases a <;> decide) hL) (hL (by decide)) ht

theorem fillParts_subset_levelParts (a : Tank) : fillParts a ⊆ levelParts a := by cases a <;> decide

/-- What a command does is a course of changes; D is what it needs of the drive's timers. -/
theorem course_exec (i : Instr) (hD : D → DriveTimersPlaced s.drive) (h : exec i s = .next t) : Course D s t := by
  cases hr : i.request? with
  | some p =>
    rw [exec_of_request i s p.1 p.2 hr] at h
    exact course_present h
  | none =>
    cases i
    case powerOn => cases h; exact .restart s _
    case powerLoss => cases h; exact .outer (outer_of_eq_units rfl)
    case partRestart => exact course_command (course_restartAfterReply _) h
    case frameComplete => exact course_command (course_completeFrame _ _) h
    case framingError | frameGapTimeout => exact course_command (course_abandonFrame _) h
    case frameSent => exact course_command (course_frameSent _) h
    case supervisionTimeout => exact course_command (course_loseLink _) h
    case byteReceived => exact course_command (course_receiveByte _ _) h
    case analogScan => exact course_command (.works (works_scanAnalog _ _)) h
    case inputSample => exact course_command (.works (works_sampleInputs _ _)) h
    case governorPeriod => exact course_command (course_governorExpiry _) h
    case timeTagTick => exact course_command (.outer (outer_of_eq_units rfl)) h
    case trendSample => exact course_command (course_takeSample _) h
    case riseTimerExpiry => exact course_command (.works (works_expireRise _)) h
    case fallTimerExpiry => exact course_command (.works (works_expireFall _)) h
    case tripTimerExpiry => exact course_command (.works (works_expireTrip _)) h
    case precheckTimerExpiry => exact course_command (.works (works_expirePrecheck hD)) h
    case feedbackTimerExpiry => exact course_command (.works (works_expireFeedback hD)) h
    case driveSettleExpiry => exact course_command (.works (works_expireDriveSettle hD)) h
    case rampTimerExpiry => exact course_command (.works (works_expireRamp hD)) h
    case releaseTimerExpiry => exact course_command (.works (works_expireRelease hD)) h
    case startUpWindowExpiry => exact course_command (.works (works_expireWindow _)) h
    case hotTimerExpiry => exact course_command (.works (works_expireHot _)) h
    case travelTimerExpiry => exact course_command (.works (works_expireTravelReported _ _)) h
    case pulseCountdownEnd => exact course_command (.works (works_endPulse _ _)) h
    case alarmBlink => exact course_command (.works (works_blinkAlarm _)) h
    case tankSettleExpiry => exact course_command (.works (works_tankTimer fun _ hL hr ht => moves_expireTankSettle hL hr ht (.refl ..))) h
    case cycleTimerExpiry a => exact course_command (.works (works_tankTimer (a := a) fun _ hL _ _ =>
        moves_expireCycle (List.Subset.trans (fillParts_subset_levelParts a) hL) (.refl ..))) h
    case safetyTimerExpiry a => exact course_command (.works (works_tankTimer (a := a) fun _ hL _ _ =>
        moves_expireSafety (List.Subset.trans (fillParts_subset_levelParts a) hL) (.refl ..))) h
    case retryPauseExpiry v => exact course_command (.works (works_quiet fun _ hL _ =>
        moves_expireRetry (hL (by cases v <;> decide)) (.refl ..))) h
    case pulseInput => exact course_command (.works (works_quiet fun _ hL _ => moves_countPulse (hL (by decide)) (.refl ..))) h
    case gateComplete => exact course_command (.works (works_quiet fun _ hL ht =>
        moves_completeGates (hL (by decide)) (List.Subset.trans (by decide) hL) ht (.refl ..))) h
    case recoveryTimerExpiry => exact course_command (.works (works_quiet fun _ hL _ =>
        moves_expireRecovery (List.Subset.trans (by decide) hL) (.refl ..))) h
    case voltageTimerExpiry => exact course_command (.works (works_quiet fun _ hL _ =>
        moves_expireVoltage (List.Subset.trans (by decide) hL) (.refl ..))) h
    case pulseLossTimerExpiry => exact course_command (.works (works_quiet fun _ hL _ =>
        moves_expirePulseLoss (hL (by decide)) (.refl ..))) h
    case attemptTimerExpiry => exact course_command (.works (works_quiet fun _ hL ht =>
        moves_expireAttempt (List.Subset.trans (by decide) hL) ht (.refl ..))) h
    case primeTimerExpiry => exact course_command (.works (works_quiet fun _ hL ht =>
        moves_expirePrime (List.Subset.trans (by decide) hL) ht (.refl ..))) h
    case primerLimitExpiry => exact course_command (.works (works_quiet fun _ hL ht =>
        moves_expirePrimerLimit (List.Subset.trans (by decide) hL) ht (.refl ..))) h
    case switchSettleExpiry => exact course_command (.works (works_quiet fun _ hL ht =>
        moves_expireSettle (List.Subset.trans (by decide) hL) ht (.refl ..))) h
    case lossTimerExpiry => exact course_command (.works (works_quiet fun _ hL ht =>
        moves_expireLoss (List.Subset.trans (by decide) hL) ht (.refl ..))) h
    case limiterActivityExpiry => exact course_command (.works (works_quiet fun _ hL _ =>
        moves_expireActivity (List.Subset.trans (by decide) hL) (.refl ..))) h
    case noFlowTimerExpiry => exact course_command (.works (works_quiet fun _ hL _ =>
        moves_expireNoFlow (List.Subset.trans (by decide) hL) (.refl ..))) h
    case flowReturnExpiry => exact course_command (.works (works_quiet fun _ hL _ =>
        moves_expireFlowReturn (List.Subset.trans (by decide) hL) (.refl ..))) h
    case dryRunTimerExpiry => exact course_command (.works (works_quiet fun _ hL _ =>
        moves_expireDryRun (List.Subset.trans (by decide) hL) (.refl ..))) h
    all_goals exact nomatch hr

/-- A step is a course of changes. -/
theorem course_step (hD : D → DriveTimersPlaced s.drive) (h : step s = .next t) : Course D s t := by
  unfold step at h
  split at h
  · cases h
    unfold tick
    split
    · exact .elapse s
    · exact course_refl s
  · next c rest _ =>
    have hpop : Course D s { s with pending := rest } := .outer (outer_of_eq_units rfl)
    exact hpop.trans (course_exec c hD h)

end Sys2Proof.Machine
end

section
/-! PROOFS. The invariants of every step (O55 to O60), each along the course of a step. -/

namespace Sys2Proof.Machine

variable {K : List Part} {b : Bool} {D : Prop} {s x y t : State}

/-! ### Sizes along a course -/

theorem Works.buffersBounded (h : Works D s t) : BuffersBounded s → BuffersBounded t := by
  rintro ⟨hq, hb, hr, hfast, hcounters⟩
  obtain ⟨hring, hcapture⟩ := h.moves.trend_eq
  rw [BuffersBounded, h.moves.stands.link, hring]
  exact ⟨h.moves.queue_le hq, hb, hr, hcapture hfast, hcounters⟩

theorem buffersBounded_start (c : StartCause) : BuffersBounded (State.start c) := by cases c <;> decide

theorem Course.buffersBounded (h : Course D s t) : BuffersBounded s → BuffersBounded t := by
  induction h with
  | trans _ _ ih₁ ih₂ => exact ih₂ ∘ ih₁
  | works h => exact h.buffersBounded
  | outer h => exact h.buffers
  | param s n r v _ => exact fun hs => (works_handParam (D := True) n (storeParam n _ s)).buffersBounded hs
  | restart s c => exact fun _ => buffersBounded_start c
  | _ => exact id

/-- Settles O59: every step is a course of changes, and each of them keeps the queues and the counters in their sizes. -/
theorem queuesStayInTheirSizes : Obligations.QueuesStayInTheirSizes := by
  intro s t hs hstep
  exact (course_step (D := False) False.elim hstep).buffersBounded hs

/-! ### The supply along a course -/

/-- The supply as R97 and R99 have it. -/
def SupplySound (s : State) : Prop := SupplyFollowsPto s ∧ SupplyFits s.supply

theorem Works.supplySound (h : Works D s t) (hD : D) (hs : SupplySound s) : SupplySound t :=
  ⟨h.supply hD hs.2 hs.1, h.moves.supplyFits hs.2⟩

theorem supplySound_elapse (hs : SupplySound s) : SupplySound (elapse s) := by
  obtain ⟨hpto, ⟨hatt, hprime, hset, hloss⟩, hphase⟩ := hs
  refine ⟨hpto, ⟨?_, ?_, ?_, ?_⟩, hphase⟩
  all_goals simpa [elapse, advanceSupply, advance?]

theorem supplySound_start (c : StartCause) : SupplySound (State.start c) := by
  cases c <;> (unfold SupplySound; decide)

theorem Course.supplySound (h : Course D s t) (hD : D) : SupplySound s → SupplySound t := by
  induction h with
  | trans _ _ ih₁ ih₂ => exact ih₂ ∘ ih₁
  | works h => exact h.supplySound hD
  | outer h =>
    intro hs
    rw [h.frame]
    exact hs
  | param s n r v _ => exact fun hs => (works_handParam (D := D) n (storeParam n _ s)).supplySound hD hs
  | elapse s => exact supplySound_elapse
  | restart s c => exact fun _ => supplySound_start c
  | _ => exact id

/-- Settles O55: the supply leaves IDLE with each entry to ENGAGED and comes to it with each exit, and no other change of a
step takes it out or in. -/
theorem supplyFollowsThePto : Obligations.SupplyFollowsThePto := by
  intro s t hdrive _ _ _ hpto htimers hphase hstep
  obtain ⟨hpto, htimers, hphase⟩ :=
    (course_step (D := DriveTimersPlaced s.drive) id hstep).supplySound hdrive.2.2 ⟨hpto, htimers, hphase⟩
  exact ⟨hpto, htimers, hphase⟩

/-! ### The demand along a course -/

/-- The demand as R71 and R95 have it. -/
def DemandSound (s : State) : Prop := IdleDemand s ∧ UnderCeilings s

theorem demandSound_iff (s : State) : DemandSound s ↔ DemandBounded s := by
  rw [DemandSound, underCeilings_iff]
  exact Iff.rfl

theorem Works.demandSound (h : Works D s t) (hD : D) (hs : DemandSound s) : DemandSound t :=
  ⟨h.demand hD hs.1, h.moves.underCeilings hs.2⟩

/-- A period reads the composed ceiling and leaves the demand at or below it, at 0 where the drive ceiling is 0. -/
theorem governPeriod_demand_le (s : State) : (governPeriod s).governor.demand ≤ (readCeilings (ceilings s) s.governor).ceiling := by
  have hlimit : ∀ p r f c raw, limitDemand p r f c raw ≤ c := by
    intro p r f c raw
    have := (clampTo_bounds 0 c (max (min raw (p + r)) ((p : Int) - f)) (by omega)).2
    unfold limitDemand
    omega
  unfold governPeriod
  simp only [State.modGovernor_governor]
  split
  · exact Nat.zero_le _
  · split
    · exact min_le_right ..
    · split
      · exact min_le_right ..
      · exact hlimit ..

theorem composedCeiling_le (s : State) : composedCeiling (ceilings s) ≤ leastCeiling (ceilings s) := by
  unfold composedCeiling
  split
  · exact Nat.zero_le _
  · exact le_rfl

theorem composedCeiling_outOfEngaged (h : s.drive.pto ≠ .engaged) : composedCeiling (ceilings s) = 0 := by
  simp [composedCeiling, ceilings, driveCeiling, h]

theorem demandSound_governPeriod (s : State) : DemandSound (governPeriod s) :=
  ⟨fun h => Nat.eq_zero_of_le_zero ((governPeriod_demand_le s).trans (composedCeiling_outOfEngaged h).le),
    (governPeriod_demand_le s).trans (composedCeiling_le s)⟩

theorem param_storeParam_of_ne {n m : Nat} (h : n - 1 ≠ m - 1) (v : Int) (s : State) :
    (storeParam n v s).param m = s.param m := by
  simp [State.param, storeParam, Vector.getElem?_setIfInBounds_ne h]

/-- The ceilings read three parameters: a store of any other one leaves them. -/
theorem ceilings_storeParam {n : Nat} (h27 : n ≠ 27) (h54 : n ≠ 54) (h55 : n ≠ 55) (v : Int) (s : State) :
    ceilings (storeParam n v s) = ceilings s := by
  have h : ∀ m, n ≠ m → 1 < m → (storeParam n v s).paramNat m = s.paramNat m := fun m hm h1 => by
    rw [State.paramNat, param_storeParam_of_ne (by omega), State.paramNat]
  simp only [ceilings, profileCeiling, thermalCeiling, warmCeiling, hotCeiling, h 27 h27 (by decide),
    h 54 h54 (by decide), h 55 h55 (by decide)]
  rfl

theorem demandSound_param {n : Nat} {v : Int} (hs : DemandSound s) : DemandSound (handParam n (storeParam n v s)) := by
  have hidle : IdleDemand (handParam n (storeParam n v s)) :=
    (works_handParam (D := True) n (storeParam n v s)).demand trivial hs.1
  by_cases h : n = 27 ∨ n = 54 ∨ n = 55
  · have hclip : handParam n (storeParam n v s) = clipDemand (storeParam n v s) := by
      obtain rfl | rfl | rfl := h <;> rfl
    exact ⟨hidle, hclip ▸ underCeilings_clipDemand _⟩
  · obtain ⟨h27, h54, h55⟩ := by simpa only [not_or] using h
    refine ⟨hidle, (works_handParam (D := True) n (storeParam n v s)).moves.underCeilings ?_⟩
    rw [UnderCeilings, ceilings_storeParam h27 h54 h55]
    exact hs.2

theorem demandSound_start (c : StartCause) : DemandSound (State.start c) := by
  cases c <;> (rw [demandSound_iff]; decide)

theorem Course.demandSound (h : Course D s t) (hD : D) : DemandSound s → DemandSound t := by
  induction h with
  | trans _ _ ih₁ ih₂ => exact ih₂ ∘ ih₁
  | works h => exact h.demandSound hD
  | outer h =>
    intro hs
    rw [h.frame]
    exact hs
  | period s => exact fun _ => demandSound_governPeriod s
  | param s n r v _ => exact demandSound_param
  | restart s c => exact fun _ => demandSound_start c
  | _ => exact id

/-- Settles O56: no change of a step raises the demand but a governor period, which reads the ceilings; every exit from
ENGAGED brings it to 0, and every lowered ceiling clips it. -/
theorem demandStaysUnderTheCeilings : Obligations.DemandStaysUnderTheCeilings := by
  intro s t hdrive _ _ _ hdemand hstep
  exact (demandSound_iff t).1 ((course_step (D := DriveTimersPlaced s.drive) id hstep).demandSound hdrive.2.2
    ((demandSound_iff s).2 hdemand))

/-! ### The records along a course -/

/-- The valve pairs and the records as R125, R147, R166, R174 and R177 have them. -/
structure PartsSound (s : State) : Prop where
  pairs : PairsApart s
  totals : TotalsSound s.totals
  fill : ∀ a, FillSound (s.tank a)
  level : ∀ a, LevelTied (s.tank a)
  valve : ∀ v, ActuatorSound (s.valve v)
  alarm : AlarmSound s.alarm

theorem tankSound_iff (r : TankRecord) : TankSound r ↔ LevelTied r ∧ FillSound r := Iff.rfl

theorem partsSound_iff (s : State) : PartsSound s ↔ ValvePairsApart s ∧ RecordsSound s := by
  rw [← pairsApart_iff]
  constructor
  · rintro ⟨hp, ht, hf, hl, hv, ha⟩
    exact ⟨hp, ht.1, ht.2, ⟨hl .main, hf .main⟩, ⟨hl .reserve, hf .reserve⟩, fun v _ => hv v, ha⟩
  · rintro ⟨hp, hi, hr, ⟨hlm, hfm⟩, ⟨hlr, hfr⟩, hv, ha⟩
    refine ⟨hp, ⟨hi, hr⟩, fun a => ?_, fun a => ?_, fun v => hv v (by simp), ha⟩
    · cases a
      · exact hfm
      · exact hfr
    · cases a
      · exact hlm
      · exact hlr

theorem Works.partsSound (h : Works D s t) (hs : PartsSound s) : PartsSound t where
  pairs := h.moves.pairsApart hs.pairs
  totals := h.moves.totalsSound hs.totals
  fill a := h.moves.fillSound a (hs.fill a)
  level a := h.moves.levelTied a (hs.level a)
  valve v := h.moves.actuatorSound v (hs.valve v)
  alarm := h.moves.alarmSound hs.alarm

theorem elapse_tank (s : State) (a : Tank) :
    (elapse s).tank a = advanceTank (decide (s.supply.limit < 1000)) (s.tank a) := by cases a <;> rfl

theorem elapse_valve (s : State) (v : ValveRole) : (elapse s).valve v = advanceValve (s.valve v) := by cases v <;> rfl

theorem advance?_isSome (x : Option Timer) : (advance? x).isSome = x.isSome := by simp [advance?]

theorem fillSound_advanceTank {r : TankRecord} (active : Bool) (h : FillSound r) : FillSound (advanceTank active r) := by
  obtain ⟨hest, hsus, hsafe, hphase, hcycle⟩ := h
  refine ⟨fun hn => ?_, hsus, ?_, hphase, ?_⟩
  · obtain ⟨hf, he, hset⟩ := hest hn
    exact ⟨hf, he, by simp [advanceTank, advance?, hset]⟩
  · have hkept : (advanceTank active r).safety.isSome = r.safety.isSome := by
      unfold advanceTank
      dsimp only
      split <;> simp
    rw [hkept]
    exact hsafe
  · exact (Bool.eq_iff_iff.1 (advance?_isSome r.cycle)).trans hcycle

theorem partsSound_elapse (hs : PartsSound s) : PartsSound (elapse s) where
  pairs := pairsApart_of_commands (fun v => by rw [elapse_valve]; rfl) hs.pairs
  totals := hs.totals
  fill a := by rw [elapse_tank]; exact fillSound_advanceTank _ (hs.fill a)
  level a := by rw [elapse_tank]; exact hs.level a
  valve v := by
    obtain ⟨htries, hopening, hfault, htravel, hretry⟩ := hs.valve v
    rw [elapse_valve]
    refine ⟨htries, hopening, hfault, ?_, ?_⟩
    · rw [advanceValve, advance?_isSome]; exact htravel
    · rw [advanceValve, advance?_isSome]; exact hretry
  alarm := by
    obtain ⟨hsil, hpat, hsilent, hsteady, hblink⟩ := hs.alarm
    refine ⟨hsil, hpat, hsilent, hsteady, ?_⟩
    show (advance? s.alarm.blink).isSome = true ↔ _
    rw [advance?_isSome]
    exact hblink

theorem partsSound_start (c : StartCause) : PartsSound (State.start c) where
  pairs := (pairsApart_iff _).2 (show ValvePairsApart (State.start .powerOn) by decide)
  totals := (by decide : TotalSound zeroTotal ∧ TotalSound zeroTotal)
  fill a := by
    have h : ∀ a, FillSound (startTank a) := fun a => by cases a <;> exact ⟨fun _ => ⟨rfl, rfl, rfl⟩, by decide⟩
    cases a
    · exact h .main
    · exact h .reserve
  level a := by cases a <;> exact iff_of_true rfl rfl
  valve v := by
    have h : ActuatorSound startActuator := by decide
    cases v <;> exact h
  alarm := (by decide : AlarmSound startAlarm)

theorem Course.partsSound (h : Course D s t) : PartsSound s → PartsSound t := by
  induction h with
  | trans _ _ ih₁ ih₂ => exact ih₂ ∘ ih₁
  | works h => exact h.partsSound
  | outer h =>
    intro hs
    rw [h.frame]
    exact { hs with }
  | param s n r v _ => exact fun hs => (works_handParam (D := True) n (storeParam n _ s)).partsSound { hs with }
  | elapse s => exact partsSound_elapse
  | restart s c => exact fun _ => { partsSound_start c with }
  | _ => exact fun hs => { hs with }

/-- Settles O57: each change of a step keeps the pairs apart and its records as their rules have them. -/
theorem valvePairsAndRecordsStaySound : Obligations.ValvePairsAndRecordsStaySound := by
  intro s t hpairs hrecords hstep
  exact (partsSound_iff t).1 ((course_step (D := False) False.elim hstep).partsSound ((partsSound_iff s).2 ⟨hpairs, hrecords⟩))

/-! ### The settings along a course -/

theorem paramRow_eq {n : Nat} {r : ParamRow} (hr : paramRow n = some r) : 1 ≤ n ∧ paramTable[n - 1]? = some r := by
  unfold paramRow at hr
  split at hr
  · cases hr
  · exact ⟨by omega, hr⟩

/-- The value a store leaves at an identity. -/
theorem storeParam_params (n : Nat) (v : Int) (s : State) (m : Fin 64) :
    (storeParam n v s).params[m] = if n - 1 = m.val then v else s.params[m] := by
  simp only [storeParam, State.modParams_params, Fin.getElem_fin, Vector.getElem_setIfInBounds]

theorem param_storeParam {n m : Nat} (hn : n ≤ 64) (v : Int) (s : State) (h1 : 1 ≤ n) :
    (storeParam n v s).param m = if n - 1 = m - 1 then v else s.param m := by
  split
  · next h =>
    simp [State.param, storeParam, ← h, show n - 1 < 64 by omega]
  · next h => exact param_storeParam_of_ne h v s

theorem paramsInRange_store {n : Nat} {r : ParamRow} {v : Int} (hr : paramRow n = some r) (hv : r.least ≤ v ∧ v ≤ r.greatest)
    (hs : ParamsInRange s) : ParamsInRange (storeParam n v s) := by
  intro m
  rw [storeParam_params]
  split
  · next h =>
    rw [← h, (paramRow_eq hr).2]
    simp [hv]
  · exact hs m

/-- The range that the table gives a stored value. -/
theorem param_mem_range (hs : ParamsInRange s) {n : Nat} (h1 : 1 ≤ n) (h64 : n ≤ 64) {r : ParamRow} (hr : paramTable[n - 1]? = some r) :
    r.least ≤ s.param n ∧ s.param n ≤ r.greatest := by
  have := hs ⟨n - 1, by omega⟩
  simp only [hr, Option.all_some, Bool.and_eq_true, decide_eq_true_eq, Fin.getElem_fin] at this
  simpa [State.param, show n - 1 < 64 by omega] using this

theorem row_bounds : ∀ r ∈ paramTable, r.least ≤ r.greatest := by decide

theorem paramRow_le {n : Nat} {r : ParamRow} (hr : paramRow n = some r) : n ≤ 64 := by
  have h := (List.getElem?_eq_some_iff.1 (paramRow_eq hr).2).1
  have hlen : paramTable.length = 64 := by decide
  omega

theorem clamped_bounds {n : Nat} {r : ParamRow} (hr : paramRow n = some r) (v : Int) :
    r.least ≤ clampTo r.least r.greatest v ∧ clampTo r.least r.greatest v ≤ r.greatest :=
  clampTo_bounds _ _ v (row_bounds r (List.mem_of_getElem? (paramRow_eq hr).2))

/-- A stored value lies in its range, and the thresholds keep their order with it (R131, R159, R204). -/
theorem storedParam_sound {n : Nat} {r : ParamRow} (hr : paramRow n = some r) (v : Int) (hs : ParamsInRange s)
    (ho : ThresholdsOrdered s) : r.least ≤ storedParam s n r v ∧ storedParam s n r v ≤ r.greatest ∧
      ThresholdsOrdered (storeParam n (storedParam s n r v) s) := by
  have hc := clamped_bounds hr v
  have h1 := (paramRow_eq hr).1
  have h64 := paramRow_le hr
  have hstore := fun m => param_storeParam (m := m) h64 (storedParam s n r v) s h1
  have h45 := param_mem_range hs (n := 45) (by decide) (by decide) (r := ⟨95, 1, 99, false⟩) rfl
  have h49 := param_mem_range hs (n := 49) (by decide) (by decide) (r := ⟨5, 1, 99, false⟩) rfl
  have h52 := param_mem_range hs (n := 52) (by decide) (by decide) (r := ⟨60, 40, 80, false⟩) rfl
  have h53 := param_mem_range hs (n := 53) (by decide) (by decide) (r := ⟨75, 60, 95, false⟩) rfl
  simp only at h45 h49 h52 h53
  obtain ⟨ho1, ho2, ho3, ho4, ho5⟩ := ho
  simp only [ThresholdsOrdered, hstore]
  simp only [storedParam, adjustParam]
  split
  · next hn =>
    have hrow : r.least = 1 ∧ r.greatest = 99 := by
      have := (paramRow_eq hr).2
      obtain ⟨hn1, hn2⟩ := hn
      interval_cases n <;> (cases this; exact ⟨rfl, rfl⟩)
    generalize clampTo r.least r.greatest v = c at *
    rw [hrow.1, hrow.2] at *
    unfold orderThreshold
    obtain ⟨hn1, hn2⟩ := hn
    interval_cases n <;> simp <;> omega
  · next hn =>
    split
    · next h =>
      subst h
      cases (paramRow_eq hr).2
      have := clampTo_bounds 40 80 (min (clampTo 40 80 v) (s.param 53 - 10)) (by decide)
      rw [clampTo_eq 40 80 (min _ _) (by decide)] at *
      simp only at *
      omega
    · split
      · next h =>
        subst h
        cases (paramRow_eq hr).2
        simp only at *
        omega
      · refine ⟨hc.1, hc.2, ?_⟩
        rw [if_neg (by omega), if_neg (by omega), if_neg (by omega), if_neg (by omega), if_neg (by omega),
          if_neg (by omega), if_neg (by omega)]
        exact ⟨ho1, ho2, ho3, ho4, ho5⟩

/-- Every setting in its limits. -/
structure SettingsSound (s : State) : Prop where
  params : ParamsInRange s
  order : ThresholdsOrdered s
  lockout : LockoutWithinFixed s
  assignment : AssignmentSound s

theorem settingsSound_of_eq (hp : t.params = s.params) (hl : t.interlock.lockout = s.interlock.lockout)
    (ha : t.terminals.assignment = s.terminals.assignment) (hs : SettingsSound s) : SettingsSound t where
  params := by rw [ParamsInRange, hp]; exact hs.params
  order := by simp only [ThresholdsOrdered, State.param, hp]; exact hs.order
  lockout := by simp only [LockoutWithinFixed, State.entry, hl]; exact hs.lockout
  assignment := by rw [AssignmentSound, ha]; exact hs.assignment

theorem Works.settingsSound (h : Works D s t) : SettingsSound s → SettingsSound t :=
  settingsSound_of_eq h.moves.stands.params h.moves.stands.lockout h.moves.stands.assignment

theorem entry_modInterlock_setKind (s : State) (k j : GuardedKind) (e : LockoutEntry) :
    (s.modInterlock fun i => { i with lockout := setKind i.lockout k e }).entry j = if j = k then e else s.entry j := by
  cases k <;> cases j <;> rfl

theorem lockoutWithinFixed_store {k : GuardedKind} {ms : List OpMode} {cs : List Condition} (hs : LockoutWithinFixed s) :
    LockoutWithinFixed (s.modInterlock fun i => { i with lockout := setKind i.lockout k (storedEntry k ms cs) }) := by
  intro j hj
  rw [entry_modInterlock_setKind]
  split
  · next h =>
    subst h
    refine ⟨fun m hm => ?_, fun c hc => ?_⟩
    · simp only [storedEntry, List.mem_filter, decide_eq_true_eq] at hm
      exact hm.2
    · simp [storedEntry, hc]
  · exact hs j hj

theorem settingsSound_start (c : StartCause) : SettingsSound (State.start c) :=
  settingsSound_of_eq (s := State.start .powerOn) rfl rfl rfl
    ⟨by decide, by decide, by decide, by decide⟩

theorem Course.settingsSound (h : Course D s t) : SettingsSound s → SettingsSound t := by
  induction h with
  | trans _ _ ih₁ ih₂ => exact ih₂ ∘ ih₁
  | works h => exact h.settingsSound
  | outer h => rw [h.frame]; exact settingsSound_of_eq rfl rfl rfl
  | param s n r v hr =>
    intro hs
    obtain ⟨hl, hg, ho⟩ := storedParam_sound hr v hs.params hs.order
    exact (works_handParam (D := True) n (storeParam n _ s)).settingsSound
      ⟨paramsInRange_store hr ⟨hl, hg⟩ hs.params, ho, hs.lockout, hs.assignment⟩
  | assign s a ha => exact fun hs => ⟨hs.params, hs.order, hs.lockout, ha hs.assignment⟩
  | lockout s k ms cs => exact fun hs => ⟨hs.params, hs.order, lockoutWithinFixed_store hs.lockout, hs.assignment⟩
  | period s => exact settingsSound_of_eq rfl rfl rfl
  | elapse s => exact settingsSound_of_eq rfl rfl rfl
  | restart s c => exact fun _ => settingsSound_of_eq (s := State.start c) rfl rfl rfl (settingsSound_start c)

/-- Settles O58: the settings change by their own writes only, and each write keeps them in their limits. -/
theorem settingsStayInTheirLimits : Obligations.SettingsStayInTheirLimits := by
  intro s t hp ho hl ha hstep
  obtain ⟨hp, ho, hl, ha⟩ := (course_step (D := False) False.elim hstep).settingsSound ⟨hp, ho, hl, ha⟩
  exact ⟨hp, ho, hl, ha⟩

/-- Settles O60: the start-up state meets each invariant, by the lemmas that a restart uses and, for the drive and its mode,
by evaluation. -/
theorem resetMeetsTheInvariants : Obligations.ResetMeetsTheInvariants := by
  obtain ⟨hsupply, htimers, hphase⟩ := supplySound_start .powerOn
  obtain ⟨hpairs, hrecords⟩ := (partsSound_iff _).1 (partsSound_start .powerOn)
  obtain ⟨hparams, horder, hlockout, hassignment⟩ := settingsSound_start .powerOn
  exact ⟨by decide, by decide, by decide, hsupply, htimers, hphase, (demandSound_iff _).1 (demandSound_start .powerOn),
    hpairs, hrecords, hparams, horder, hlockout, hassignment, buffersBounded_start .powerOn⟩

end Sys2Proof.Machine
end

section
/-! PROOFS. The engagement record and the mode (O54 fails): an entry to ENGAGED and a trip in one sample, in MOTION_TRIP. -/

namespace Sys2Proof.Machine

variable {K : List Part} {b : Bool} {s x y t : State}

/-! ### The drive and the mode while the clutch is not being shifted -/

theorem notShifting_of_drive_eq (h : t.drive = s.drive) (hs : NotShifting s) : NotShifting t := by rwa [NotShifting, h]

/-- While the clutch is not being shifted the drive changes by its own acts only, and the mode by its own and the drive's. -/
theorem Moves.calm (h : Moves K b s t) (hK : .drive ∉ K) (hs : NotShifting s) :
    t.drive = s.drive ∧ (.mode ∉ K → t.interlock.mode = s.interlock.mode ∧ t.interlock.ceiling = s.interlock.ceiling ∧
      t.interlock.recovery = s.interlock.recovery ∧ t.interlock.trip = s.interlock.trip) := by
  induction h with
  | trans _ _ ih₁ ih₂ =>
    obtain ⟨hd₁, hm₁⟩ := ih₁ hK hs
    obtain ⟨hd₂, hm₂⟩ := ih₂ hK (notShifting_of_drive_eq hd₁ hs)
    refine ⟨hd₂.trans hd₁, fun hm => ?_⟩
    obtain ⟨e₁, e₂, e₃, e₄⟩ := hm₁ hm
    obtain ⟨f₁, f₂, f₃, f₄⟩ := hm₂ hm
    exact ⟨f₁.trans e₁, f₂.trans e₂, f₃.trans e₃, f₄.trans e₄⟩
  | drive _ h => exact absurd h hK
  | mode _ h => exact ⟨rfl, fun hm => absurd h hm⟩
  | watch b _ s f hf =>
    exact ⟨rfl, fun _ => ⟨(congrArg Interlock.mode hf :), (congrArg Interlock.ceiling hf :),
      (congrArg Interlock.recovery hf :), (congrArg Interlock.trip hf :)⟩⟩
  | @clip _ b _ s t h ih =>
    obtain ⟨g, -, e, -⟩ := clipDemand_frame t
    rw [e]
    exact ih hK hs
  | record b _ s k n =>
    obtain ⟨_, _, -, -, e⟩ := record_frame k n s
    rw [e]
    exact ⟨rfl, fun _ => ⟨rfl, rfl, rfl, rfl⟩⟩
  | event b _ s =>
    rw [conditionEvent_notShifting s hs]
    exact ⟨rfl, fun _ => ⟨rfl, rfl, rfl, rfl⟩⟩
  | _ => exact ⟨rfl, fun _ => ⟨rfl, rfl, rfl, rfl⟩⟩

/-- While the clutch is not being shifted a condition event is an evaluation of the conditions. -/
theorem Moves.calmed {L : List Part} (h : Moves K b s t) (hK : .drive ∉ K) (hs : NotShifting s) (hc : .conditions ∈ L)
    (hL : ∀ p ∈ K, p ≠ .event → p ∈ L) : Moves L b s t := by
  induction h with
  | refl => exact .refl ..
  | trans h₁ _ ih₁ ih₂ => exact (ih₁ hK hs hL).trans (ih₂ hK (notShifting_of_drive_eq (h₁.calm hK hs).1 hs) hL)
  | choices => exact .choices ..
  | sense b h => exact .sense b (hL _ h (by simp)) ..
  | input b h => exact .input b (hL _ h (by simp)) ..
  | watch b h s f hf hg => exact .watch b (hL _ h (by simp)) s f hf (hg.imp_left (hL _ · (by simp)))
  | conditions b => exact .conditions b hc _
  | mode b h s f hf hb => exact .mode b (hL _ h (by simp)) s f hf hb
  | drive b h => exact absurd h hK
  | governor b h s f hf hg => exact .governor b (hL _ h (by simp)) s f hf (hg.imp_left (hL _ · (by simp)))
  | clip b h _ ih => exact .clip b (hL _ h (by simp)) (ih hK hs hL)
  | supply b h s f hf henter hleave hb =>
    exact .supply b (hL _ h (by simp)) s f hf (henter.imp_left (hL _ · (by simp))) (hleave.imp_left (hL _ · (by simp))) hb
  | tank b a h s f hv hl hf ht hr =>
    exact .tank b a (hL _ h (by simp)) s f hv hl hf (ht.imp_left (hL _ · (by simp))) (hr.imp_left (hL _ · (by simp)))
  | level b a h s f ht hf htab hr =>
    exact .level b a (hL _ h (by simp)) s f ht hf (htab.imp_left (hL _ · (by simp))) (hr.imp_left (hL _ · (by simp)))
  | totals b h s f hi hr => exact .totals b (hL _ h (by simp)) s f hi hr
  | thermal b h s f hb hz => exact .thermal b (hL _ h (by simp)) s f hb (hz.imp_left (hL _ · (by simp)))
  | valve b v h s f ho hf => exact .valve b v (hL _ h (by simp)) s f ho hf
  | command b v h s o ho => exact .command b v (hL _ h (by simp)) s o ho
  | recirc b h => exact .recirc b (hL _ h (by simp)) ..
  | alarm b h s f hf hc => exact .alarm b (hL _ h (by simp)) s f hf fun c hm => (hc c hm).imp_left (hL _ · (by simp))
  | outputs b h s f hg => exact .outputs b (hL _ h (by simp)) s f (hg.imp_left (hL _ · (by simp)))
  | record b h => exact .record b (hL _ h (by simp)) ..
  | protect b h => exact .protect b (hL _ h (by simp)) ..
  | event b _ s =>
    rw [conditionEvent_notShifting s hs]
    exact .conditions b hc s

theorem setMode_mode (m : OpMode) (c : ModeCause) (s : State) : (setMode m c s).interlock.mode = m := by
  obtain ⟨_, _, _, _, -, -, e⟩ := setMode_frame m c s
  rw [e]

theorem tripMode_mode (c : ModeCause) (s : State) : (tripMode c s).interlock.mode = .motionTrip := setMode_mode ..

/-! ### Free orders are natural -/

theorem withKeys_map {α β : Type} (f : α → β) (ks : List Nat) (l : List α) :
    withKeys ks (l.map f) = (withKeys ks l).map (Prod.map id f) := by
  induction l generalizing ks with
  | nil => cases ks <;> rfl
  | cons a l ih => cases ks <;> simp [withKeys, ih]

theorem insertByKey_map {α β : Type} (f : α → β) (p : Nat × α) (l : List (Nat × α)) :
    insertByKey (Prod.map id f p) (l.map (Prod.map id f)) = (insertByKey p l).map (Prod.map id f) := by
  induction l with
  | nil => rfl
  | cons q l ih =>
    simp only [insertByKey, List.map_cons, Prod.map_fst, id_eq]
    split <;> simp [ih]

theorem foldl_insertByKey_map {α β : Type} (f : α → β) (l acc : List (Nat × α)) :
    (l.map (Prod.map id f)).foldl (fun a p => insertByKey p a) (acc.map (Prod.map id f)) =
      (l.foldl (fun a p => insertByKey p a) acc).map (Prod.map id f) := by
  induction l generalizing acc with
  | nil => rfl
  | cons p l ih => rw [List.map_cons, List.foldl_cons, insertByKey_map, ih, List.foldl_cons]

/-- A free order of images is the image of the free order. -/
theorem arrange_map {α β : Type} (f : α → β) (ks : List Nat) (l : List α) :
    arrange ks (l.map f) = (arrange ks l).map f := by
  unfold arrange
  rw [withKeys_map]
  have := foldl_insertByKey_map f (withKeys ks l) []
  rw [List.map_nil] at this
  rw [this, List.map_map, List.map_map]
  rfl

/-- Of two members of a list without repetition one stands before the other. -/
theorem before_or_after {α : Type} {a c : α} {l : List α} (hac : a ≠ c) (ha : a ∈ l) (hc : c ∈ l) :
    (∃ l₁ l₂ l₃, l = l₁ ++ a :: (l₂ ++ c :: l₃)) ∨ ∃ l₁ l₂ l₃, l = l₁ ++ c :: (l₂ ++ a :: l₃) := by
  obtain ⟨l₁, l₂, rfl⟩ := List.append_of_mem ha
  obtain hc | hc := List.mem_append.1 hc
  · obtain ⟨m₁, m₂, rfl⟩ := List.append_of_mem hc
    exact .inr ⟨m₁, m₂, l₂, by simp⟩
  · obtain hc | hc := List.mem_cons.1 hc
    · exact absurd hc.symm hac
    · obtain ⟨m₁, m₂, rfl⟩ := List.append_of_mem hc
      exact .inl ⟨l₁, m₁, m₂, rfl⟩

theorem foldl_acts_self {l : List (State → State)} (h : ∀ f ∈ l, f s = s) : l.foldl (fun t f => f t) s = s := by
  induction l with
  | nil => rfl
  | cons f l ih =>
    rw [List.foldl_cons, h f List.mem_cons_self]
    exact ih fun g hg => h g (List.mem_cons_of_mem _ hg)

/-! ### The part that breaks the rule -/

/-- A record of an output role. -/
def spareRecord : AssignRecord := { role := .alarm, polarity := .activeHigh, q := 1, safe := none }

/-- A record of an input role qualified by one sample. -/
def quickRecord (r : Role) : AssignRecord := { role := r, polarity := .activeHigh, q := 1, safe := none }

/-- SHIFTING in MOTION_TRIP, PTO_FB on one terminal and a set parking brake on another; the sample that waits asserts the
first and loses the second. -/
def shiftingInTrip (fb brake : Terminal) : State :=
  { State.reset with
    terminals :=
      { State.reset.terminals with
        assignment := ((Vector.replicate 16 spareRecord).set fb (quickRecord .ptoFb)).set brake (quickRecord .parkBrake)
        inputs := State.reset.terminals.inputs.set brake { freshInput with asserted := true } }
    interlock := { State.reset.interlock with mode := .motionTrip }
    drive := { State.reset.drive with pto := .shifting, kind := some .stationary, clutch := true, window := none }
    pending := [.inputSample (BitVec.ofNat 16 (2 ^ fb.val))] }

/-- The order in which the acts of the part's sample are taken, each act named by its terminal, the trip's order by none. -/
def sampleOrder : List (Option Terminal) := arrange (Config.freeChoices 0) (allTerminals.map some ++ [none])

/-- The act of a sample that a name stands for. -/
def sampleAct (levels : BitVec 16) (m : OpMode) : Option Terminal → State → State
  | some n => sampleTerminal levels n
  | none => deliverOrder m

theorem sampleInputs_eq (levels : BitVec 16) (s : State) (hkeys : s.choices = Config.freeChoices 0) :
    sampleInputs levels s = deliverOrder s.interlock.mode
      ((sampleOrder.map (sampleAct levels s.interlock.mode)).foldl (fun t f => f t) (s.modChoices (·.drop 17))) := by
  have hacts : allTerminals.map (sampleTerminal levels) ++ [deliverOrder s.interlock.mode] =
      (allTerminals.map some ++ [none]).map (sampleAct levels s.interlock.mode) := rfl
  unfold sampleInputs runInOrder
  dsimp only
  rw [hacts, hkeys, arrange_map]
  rfl

/-! ### The entry to ENGAGED, and the trip after it -/

/-- An engagement PUMP_STATIONARY may stand with. -/
def StationaryReady (s : State) : Prop :=
  s.drive.pto = .engaged ∧ s.drive.kind = some .stationary ∧ s.interlock.moving = false ∧ s.asserted .parkBrake = true

theorem stationaryReady_of_moves (h : Moves entryParts true s t) (hs : StationaryReady s) : StationaryReady t := by
  obtain ⟨hpto, hkind, hmoving, hbrake⟩ := hs
  have hdrive := (h.calm (by decide) (notShifting_of_engaged hpto)).1
  refine ⟨by rw [hdrive, hpto], by rw [hdrive, hkind], ?_, ?_⟩
  · rw [h.stands.watch (by decide)]
    exact hmoving
  · rw [State.asserted, State.qualified, State.terminalOf, h.stands.inputs (by decide)]
    exact hbrake

theorem modeOnEngaged_stationary (hs : StationaryReady s) : (modeOnEngaged s).interlock.mode = .pumpStationary := by
  obtain ⟨-, hkind, -, -⟩ := id hs
  have hset : StationaryReady (setMode .pumpStationary .ptoEngaged s) :=
    stationaryReady_of_moves (moves_setMode (by decide) (by simp) (.refl ..)) hs
  obtain ⟨-, -, hmoving, hbrake⟩ := hset
  have hmode : (setMode .pumpStationary .ptoEngaged s).interlock.mode = .pumpStationary := setMode_mode ..
  unfold modeOnEngaged
  rw [hkind]
  simp [enterKindMode, checkStationary, hmode, hmoving, hbrake]

/-- The hand-on of an entry that PUMP_STATIONARY may stand with leaves the part in it. -/
theorem handEntry_stationary (hs : StationaryReady s) : (handEntry s).interlock.mode = .pumpStationary := by
  have hready : ∀ f ∈ [modeOnEngaged, governorReset, supplyEnterEngaged, thermalEnterEngaged, tanksOnPto], ∀ y,
      StationaryReady y → StationaryReady (f y) := fun f hf y => stationaryReady_of_moves (moves_handEntryActs hf y)
  have hmode : ∀ {L : List Part} {f : State → State} {y : State}, Moves L true y (f y) → .drive ∉ L → .mode ∉ L →
      StationaryReady y → (f y).interlock.mode = y.interlock.mode := fun h hd hm hy =>
    ((h.calm hd (notShifting_of_engaged hy.1)).2 hm).1
  refine (runInOrder_reaches (P := StationaryReady) (Q := fun y => StationaryReady y ∧ y.interlock.mode = .pumpStationary)
    (fun _ _ h => h) modeOnEngaged _ (by simp) hready (fun f hf y ⟨hy, hm⟩ => ⟨hready f hf y hy, ?_⟩)
    (fun y hy => ⟨hready _ (by simp) y hy, modeOnEngaged_stationary hy⟩) s hs).2
  simp only [List.mem_cons, List.not_mem_nil, or_false] at hf
  obtain rfl | rfl | rfl | rfl | rfl := hf
  · exact modeOnEngaged_stationary hy
  · exact hm
  · exact (hmode (L := .enter :: supplyParts) (moves_supplyEnterEngaged (by decide) (by decide) (.refl ..)) (by decide)
      (by decide) hy).trans hm
  · exact (hmode (L := [.thermal]) (moves_thermalEnterEngaged (by decide) (.refl ..)) (by decide) (by decide) hy).trans hm
  · exact (hmode (L := supplyParts) (moves_tanksOnPto (by decide) (.refl ..)) (by decide) (by decide) hy).trans hm

/-- An engagement that PUMP_STATIONARY may stand with is engaged in it, the terminals as they stand. -/
theorem enterEngaged_stationary {c : Confirmation} (hkind : s.drive.kind = some .stationary)
    (hmoving : s.interlock.moving = false) (hbrake : s.asserted .parkBrake = true) :
    (enterEngaged c s).drive.pto = .engaged ∧ (enterEngaged c s).interlock.mode = .pumpStationary ∧
      (enterEngaged c s).terminals = s.terminals := by
  have hrecord : ∀ k n (y : State), StationaryReady y → StationaryReady (record k n y) := fun k n y =>
    stationaryReady_of_moves (moves_record (by decide) (.refl ..))
  have hready := hrecord .engageDone
    { old := some (.pto .shifting), new := some (.pto .engaged), value := some (s.drive.tries : Int)
      cause := some (.confirmation c) } (s.modDrive (engagedRecord c)) ⟨rfl, hkind, hmoving, hbrake⟩
  have hmode := handEntry_stationary hready
  have hmoves := moves_handEntry (K := entryParts) (b := true) (List.Subset.refl _) (.refl _ _ (record .engageDone
    { old := some (.pto .shifting), new := some (.pto .engaged), value := some (s.drive.tries : Int)
      cause := some (.confirmation c) } (s.modDrive (engagedRecord c))))
  unfold enterEngaged orderIfTripped
  rw [if_neg (by rw [hmode]; simp)]
  refine ⟨(hmoves.engaged (by decide)).2 hready.1, hmode, ?_⟩
  rw [hmoves.stands.inputs (by decide), (stands_record_notices _ _ _).inputs (by decide)]
  rfl

/-- ENGAGED in PUMP_STATIONARY, or already tripped. -/
def StationaryOrTripped (s : State) : Prop :=
  s.drive.pto = .engaged ∧ (s.interlock.mode = .pumpStationary ∨ s.interlock.mode = .motionTrip)

/-- A lost parking brake in PUMP_STATIONARY trips, the PTO still ENGAGED: its order is another act. -/
theorem inputChange_parkBrake_lost {n : Terminal} (hpto : s.drive.pto = .engaged) (hmode : s.interlock.mode = .pumpStationary) :
    (inputChange n .parkBrake false s).drive.pto = .engaged ∧
      (inputChange n .parkBrake false s).interlock.mode = .motionTrip := by
  have hevent : ∀ (m : OpMode) (y : State), y.drive.pto = .engaged ∧ y.interlock.mode = m →
      (conditionEvent y).drive.pto = .engaged ∧ (conditionEvent y).interlock.mode = m := fun m y hy => by
    rw [conditionEvent_notShifting y (notShifting_of_engaged hy.1)]
    exact hy
  have hengaged : ∀ y : State, y.drive.pto = .engaged → (tripOnLoss .parkBrake false y).drive.pto = .engaged := fun y hy =>
    ((moves_tripOnLoss (K := tripParts) (b := true) (List.Subset.refl _) (.refl ..)).engaged (by decide)).2 hy
  have hlost : ∀ y : State, y.interlock.mode = .pumpStationary ∨ y.interlock.mode = .motionTrip →
      (tripOnLoss .parkBrake false y).interlock.mode = .motionTrip := fun y hy => by
    unfold tripOnLoss
    split
    · exact tripMode_mode ..
    · next h => exact hy.resolve_left fun hm => h ⟨rfl, hm⟩
  refine runInOrder_reaches (P := StationaryOrTripped) (Q := fun y => y.drive.pto = .engaged ∧ y.interlock.mode = .motionTrip)
    (fun _ _ h => h) (tripOnLoss .parkBrake false) [conditionEvent, tripOnLoss .parkBrake false] (by simp) ?_ ?_
    (fun y hy => ⟨hengaged y hy.1, hlost y hy.2⟩) s ⟨hpto, .inl hmode⟩
  · intro f hf y hy
    simp only [List.mem_cons, List.not_mem_nil, or_false] at hf
    obtain rfl | rfl := hf
    · obtain ⟨hp, hm | hm⟩ := hy
      · exact ⟨(hevent _ y ⟨hp, hm⟩).1, .inl (hevent _ y ⟨hp, hm⟩).2⟩
      · exact ⟨(hevent _ y ⟨hp, hm⟩).1, .inr (hevent _ y ⟨hp, hm⟩).2⟩
    · exact ⟨hengaged y hy.1, .inr (hlost y hy.2)⟩
  · intro f hf y hy
    simp only [List.mem_cons, List.not_mem_nil, or_false] at hf
    obtain rfl | rfl := hf
    · exact hevent _ y hy
    · exact ⟨hengaged y hy.1, hlost y (.inr hy.2)⟩

/-- The two terminals of the part that breaks the rule. -/
def tripPairs : List (Terminal × Terminal) := [(0, 1), (1, 0)]

/-- The part as its sample finds it: the queue's rest and the free choices are any. -/
def sampledPart (p q : Terminal) (keys : List Nat) (n : Nat) (rest : List Instr) : State :=
  { shiftingInTrip p q with choices := keys, choiceCount := n, pending := rest }

/-- The levels of the part's sample. -/
def fbLevels (p : Terminal) : BitVec 16 := BitVec.ofNat 16 (2 ^ p.val)

theorem sampleTerminal_fb {p q : Terminal} (hpq : (p, q) ∈ tripPairs) (keys : List Nat) (n : Nat) (rest : List Instr) :
    sampleTerminal (fbLevels p) p (sampledPart p q keys n rest) =
      enterEngaged .confirmed (setInput p ⟨true, some true, 0⟩ (sampledPart p q keys n rest)) := by
  simp only [tripPairs, List.mem_cons, Prod.mk.injEq, List.not_mem_nil, or_false] at hpq
  obtain ⟨rfl, rfl⟩ | ⟨rfl, rfl⟩ := hpq <;> rfl

theorem sampleTerminal_brake {p q : Terminal} (hpq : (p, q) ∈ tripPairs) {keys : List Nat} {n : Nat} {rest : List Instr}
    (hterm : s.terminals = (setInput p ⟨true, some true, 0⟩ (sampledPart p q keys n rest)).terminals) :
    sampleTerminal (fbLevels p) q s = inputChange q .parkBrake false (setInput q ⟨false, some false, 0⟩ s) := by
  have hrecord : s.terminals.assignment[q] = quickRecord .parkBrake := by
    rw [hterm]
    simp only [tripPairs, List.mem_cons, Prod.mk.injEq, List.not_mem_nil, or_false] at hpq
    obtain ⟨rfl, rfl⟩ | ⟨rfl, rfl⟩ := hpq <;> rfl
  have hinput : s.terminals.inputs[q] = { freshInput with asserted := true } := by
    rw [hterm]
    simp only [tripPairs, List.mem_cons, Prod.mk.injEq, List.not_mem_nil, or_false] at hpq
    obtain ⟨rfl, rfl⟩ | ⟨rfl, rfl⟩ := hpq <;> rfl
  have hlevel : (fbLevels p).getLsbD q.val = false := by
    simp only [tripPairs, List.mem_cons, Prod.mk.injEq, List.not_mem_nil, or_false] at hpq
    obtain ⟨rfl, rfl⟩ | ⟨rfl, rfl⟩ := hpq <;> decide
  unfold sampleTerminal
  rw [hrecord, hinput, hlevel]
  rfl

/-- The part sampled with PTO_FB before the parking brake is ENGAGED in MOTION_TRIP. -/
theorem sampled_shiftingInTrip {p q : Terminal} (hpq : (p, q) ∈ tripPairs) (keys : List Nat) (n : Nat) (rest : List Instr) :
    let t := sampleTerminal (fbLevels p) q (sampleTerminal (fbLevels p) p (sampledPart p q keys n rest))
    t.drive.pto = .engaged ∧ t.interlock.mode = .motionTrip := by
  have hbrake : (setInput p ⟨true, some true, 0⟩ (sampledPart p q keys n rest)).asserted .parkBrake = true := by
    simp only [tripPairs, List.mem_cons, Prod.mk.injEq, List.not_mem_nil, or_false] at hpq
    obtain ⟨rfl, rfl⟩ | ⟨rfl, rfl⟩ := hpq <;> rfl
  rw [sampleTerminal_fb hpq]
  obtain ⟨hpto, hmode, hterm⟩ := enterEngaged_stationary (c := .confirmed)
    (s := setInput p ⟨true, some true, 0⟩ (sampledPart p q keys n rest)) rfl rfl hbrake
  rw [sampleTerminal_brake hpq hterm]
  exact inputChange_parkBrake_lost hpto hmode

/-- The acts of the other terminals, and of an order that no trip since the sample calls for, change nothing. -/
theorem sampleAct_idle {p q : Terminal} {a : Option Terminal} (hp : a ≠ some p) (hq : a ≠ some q)
    (hassign : s.terminals.assignment = (shiftingInTrip p q).terminals.assignment) :
    sampleAct (fbLevels p) .motionTrip a s = s := by
  cases a with
  | none => simp [sampleAct, deliverOrder]
  | some n =>
    have hrecord : s.terminals.assignment[n] = spareRecord := by
      rw [hassign]
      have hnp : p.val ≠ n.val := fun h => hp (by rw [Fin.ext h])
      have hnq : q.val ≠ n.val := fun h => hq (by rw [Fin.ext h])
      simp [shiftingInTrip, Vector.getElem_set_ne, hnp, hnq]
    unfold sampleAct sampleTerminal
    simp [hrecord, spareRecord, isInputRole]

theorem sampleAct_assignment (levels : BitVec 16) (m : OpMode) (a : Option Terminal) (s : State) :
    (sampleAct levels m a s).terminals.assignment = s.terminals.assignment := by
  cases a with
  | none => exact (works_deliverOrder (D := True) m s).moves.stands.assignment
  | some n => exact (works_sampleTerminal (D := True) levels n s).moves.stands.assignment

theorem sampleOrder_nodup : sampleOrder.Nodup := (arrange_perm _ _).nodup_iff.2 (by decide)

theorem mem_sampleOrder (n : Terminal) : some n ∈ sampleOrder := by simp [sampleOrder]

/-- The part's sample leaves it ENGAGED in MOTION_TRIP where PTO_FB comes before the parking brake in the free order. -/
theorem sampleInputs_shiftingInTrip {p q : Terminal} (hpq : (p, q) ∈ tripPairs) {l₁ l₂ l₃ : List (Option Terminal)}
    (horder : sampleOrder = l₁ ++ some p :: (l₂ ++ some q :: l₃)) (n : Nat) (rest : List Instr) :
    let t := sampleInputs (fbLevels p) (sampledPart p q (Config.freeChoices 0) n rest)
    t.drive.pto = .engaged ∧ t.interlock.mode = .motionTrip := by
  have hnodup : (l₁ ++ some p :: (l₂ ++ some q :: l₃)).Nodup := horder ▸ sampleOrder_nodup
  have hidle : ∀ a, a ∈ l₁ ∨ a ∈ l₂ ∨ a ∈ l₃ → a ≠ some p ∧ a ≠ some q := by
    simp only [List.nodup_append, List.nodup_cons, List.mem_append, List.mem_cons] at hnodup
    grind
  have hfold : ∀ (l : List (Option Terminal)) (y : State), (∀ a ∈ l, a ≠ some p ∧ a ≠ some q) →
      y.terminals.assignment = (shiftingInTrip p q).terminals.assignment →
      (l.map (sampleAct (fbLevels p) .motionTrip)).foldl (fun t f => f t) y = y := by
    intro l y hl hy
    refine foldl_acts_self fun f hf => ?_
    obtain ⟨a, ha, rfl⟩ := List.mem_map.1 hf
    exact sampleAct_idle (hl a ha).1 (hl a ha).2 hy
  have hassign : ∀ a (y : State), y.terminals.assignment = (shiftingInTrip p q).terminals.assignment →
      (sampleAct (fbLevels p) .motionTrip a y).terminals.assignment = (shiftingInTrip p q).terminals.assignment :=
    fun a y hy => (sampleAct_assignment _ _ a y).trans hy
  have hmode : ∀ y : State, deliverOrder .motionTrip y = y := fun y => by simp [deliverOrder]
  have hpart : (sampledPart p q (Config.freeChoices 0) n rest).interlock.mode = .motionTrip := rfl
  have hdrop : (sampledPart p q (Config.freeChoices 0) n rest).modChoices (·.drop 17) =
      sampledPart p q ((Config.freeChoices 0).drop 17) n rest := rfl
  have hp := hassign (some p) (sampledPart p q ((Config.freeChoices 0).drop 17) n rest) rfl
  have hq := hassign (some q) _ hp
  dsimp only
  rw [sampleInputs_eq _ _ rfl, hpart, hdrop, hmode, horder]
  simp only [List.map_append, List.map_cons, List.foldl_append, List.foldl_cons]
  rw [hfold l₁ (sampledPart p q _ n rest) (fun a ha => hidle a (.inl ha)) rfl, hfold l₂ _ (fun a ha => hidle a (.inr (.inl ha))) hp,
    hfold l₃ _ (fun a ha => hidle a (.inr (.inr ha))) hq]
  exact sampled_shiftingInTrip hpq _ n rest

/-- The part stands as the invariants ask. -/
theorem shiftingInTrip_sound {p q : Terminal} (hpq : (p, q) ∈ tripPairs) :
    DriveSound (shiftingInTrip p q) ∧ ModeFollowsPto (shiftingInTrip p q) ∧ OverspeedTimersPlaced (shiftingInTrip p q) ∧
      LockoutWithinFixed (shiftingInTrip p q) := by
  simp only [tripPairs, List.mem_cons, Prod.mk.injEq, List.not_mem_nil, or_false] at hpq
  obtain ⟨rfl, rfl⟩ | ⟨rfl, rfl⟩ := hpq <;> exact ⟨by decide, by decide, by decide, by decide⟩

/-- Where PTO_FB comes before the parking brake in the free order, the step of the part breaks the rule. -/
theorem step_shiftingInTrip {p q : Terminal} (hpq : (p, q) ∈ tripPairs) {l₁ l₂ l₃ : List (Option Terminal)}
    (horder : sampleOrder = l₁ ++ some p :: (l₂ ++ some q :: l₃)) :
    ∃ t, step (shiftingInTrip p q) = .next t ∧ ¬ModeFollowsPto t := by
  obtain ⟨hpto, hmode⟩ := sampleInputs_shiftingInTrip hpq horder 1 []
  refine ⟨finish (sampleInputs (fbLevels p) (sampledPart p q (Config.freeChoices 0) 1 [])), rfl, fun h => ?_⟩
  obtain ⟨_, _, _, e⟩ := finish_frame (sampleInputs (fbLevels p) (sampledPart p q (Config.freeChoices 0) 1 []))
  rw [e] at h
  have hpump : isPumping OpMode.motionTrip = true := hmode ▸ h.1.2 hpto
  exact absurd hpump (by decide)

/-- Refutes O54: an engagement goes on in MOTION_TRIP, and the sample that ends it by PTO_FB may lose the parking brake just
after. The trip of PUMP_STATIONARY is then made, but its order is given only where the mode before the sample was not
MOTION_TRIP: the part is left ENGAGED in MOTION_TRIP. The free order is not known, so of the two terminals the one that is
sampled first carries PTO_FB. -/
theorem not_driveAndModeStaySound : ¬ Obligations.DriveAndModeStaySound := by
  intro h
  obtain ⟨p, q, hpq, l₁, l₂, l₃, horder⟩ : ∃ p q : Terminal, (p, q) ∈ tripPairs ∧ ∃ l₁ l₂ l₃,
      sampleOrder = l₁ ++ some p :: (l₂ ++ some q :: l₃) := by
    obtain horder | horder := before_or_after (by decide) (mem_sampleOrder 0) (mem_sampleOrder 1)
    · exact ⟨0, 1, by decide, horder⟩
    · exact ⟨1, 0, by decide, horder⟩
  obtain ⟨hdrive, hmode, hspeed, hlockout⟩ := shiftingInTrip_sound hpq
  obtain ⟨t, hstep, hbroken⟩ := step_shiftingInTrip hpq horder
  exact hbroken (h _ t hdrive hmode hspeed hlockout hstep).2.1

end Sys2Proof.Machine
end

section
/-! PROOFS. The machine's own statements: a step, a millisecond, the start-up state, power and the restart, and the receiver. -/

namespace Sys2Proof.Machine

/-! ### A step and a millisecond -/

/-- Settles O1, by the definition of a step. -/
theorem stepRunsFrontCommand : Obligations.StepRunsFrontCommand := by
  intro c rest s h
  unfold step
  rw [h]

theorem advanceTank_eq (active : Bool) (r : TankRecord) : advanceTank active r = { r with
    settle := r.settle.map advance, cycle := r.cycle.map advance
    safety := if r.stage = .bulk ∨ r.stage = .topoff then
        r.safety.map fun x => { x with elapsedHalves := min (x.elapsedHalves + if active then 1 else 2) (2 * x.limit) }
      else r.safety } := by
  have hruns : fillRuns r.stage = true ↔ r.stage = .bulk ∨ r.stage = .topoff := by cases r.stage <;> decide
  unfold advanceTank
  simp only [hruns]
  rfl

/-- Settles O2: each record a millisecond on, unit by unit. -/
theorem emptyQueueLetsAMillisecondPass : Obligations.EmptyQueueLetsAMillisecondPass := by
  constructor
  · intro s hp hoff
    simp [step, hp, tick, hoff]
  · intro s hp hon
    have hlost : (if s.link.state = .linkLost then s.link.lostMs + 1 else s.link.lostMs) =
        s.link.lostMs + if s.link.state = .linkLost then 1 else 0 := by split <;> rfl
    simp only [step, hp, tick, hon, if_true, elapse, advanceTank_eq, advanceLink, hlost, decide_eq_true_eq]
    rfl

/-! ### Start, power and restart -/

/-- Settles O3, each unit's part by evaluation. -/
theorem resetIsTheStartUpState : Obligations.ResetIsTheStartUpState := by
  have hvalve : ∀ v : ValveRole, State.reset.valve v = startActuator := fun v => by cases v <;> rfl
  have hzero : ∀ c : AnalogChannel, (getAnalog State.reset.sense.channels c).published = zeroValue State.reset c :=
    fun c => by cases c <;> rfl
  exact ⟨rfl, rfl, hzero, by decide, by decide, rfl, rfl, rfl, rfl, rfl, rfl, rfl, rfl, rfl, rfl, rfl, rfl, rfl, rfl, rfl,
    rfl, by decide, by decide, rfl, rfl, by decide, by decide, by decide, hvalve, rfl, rfl, rfl, by decide, by decide, rfl,
    rfl, rfl, rfl, rfl, rfl, by decide⟩

theorem command_off {f : State → State} {s : State} (h : s.powered = false) : command f s = .next s :=
  command_unpowered f s h

theorem present_off {tag : Byte} {r : Request} {s : State} (h : s.powered = false) (hr : r.wellFormed = true) :
    present tag r s = .next s := by
  rw [present, if_pos hr, command_unpowered _ s h]

/-- Without power a command other than POWER_ON leaves the part as it stands (log entry 7). -/
theorem exec_off {c : Instr} {s : State} (h : s.powered = false) (hc : c.wellFormed = true) (hon : c ≠ .powerOn) :
    exec c s = .next s := by
  cases hr : c.request? with
  | some p =>
    rw [exec_of_request c s p.1 p.2 hr]
    exact present_off h (by rwa [Instr.wellFormed, hr] at hc)
  | none =>
    cases c
    case powerOn => exact absurd rfl hon
    case powerLoss =>
      have hs : { s with powered := false } = s := by rw [← h]
      exact congrArg _ hs
    all_goals solve
      | exact command_off h
      | cases hr

/-- A row of an event under power: its own act on the fresh state, and the end of the command. -/
theorem exec_on {c : Instr} {f : State → State} {s : State} (hp : s.powered = true) (hc : exec c s = command f s) :
    exec c s = .next (finish (f s.fresh)) :=
  hc.trans (command_powered f s hp)

/-- The same, with what the act leaves. -/
theorem exec_leaves {c : Instr} {f : State → State} {s t : State} (hp : s.powered = true) (hc : exec c s = command f s)
    (hf : f s.fresh = t) : exec c s = .next (finish t) := by
  rw [exec_on hp hc, hf]

/-- Settles O4: POWER_ON and POWER_LOSS by their rows, every other command by the power it lacks. -/
theorem powerStartsAndStopsThePart : Obligations.PowerStartsAndStopsThePart := by
  refine ⟨fun _ => rfl, fun s => ⟨rfl, fun t => ?_, ?_⟩, fun c s h hc hon => exec_off h hc hon⟩
  · simp [terminalDrive]
  · simp [throttleOut]

/-- Settles O5. -/
theorem resetPartRestartsAfterItsReply : Obligations.ResetPartRestartsAfterItsReply := by
  refine ⟨fun s tag h hd => ?_, fun s tag h hd => ?_, fun s r c hp ht hl hc => ?_, fun s hp hl => ?_⟩
  · have hact : act .resetPart (holdRequest 39 tag s.fresh) =
        ⟨(holdRequest 39 tag s.fresh).modLink fun l => { l with resetTaken := true }, .ok, []⟩ := if_pos hd
    have hexec := exec_of_act (i := .resetPart tag) rfl rfl rfl h hact rfl
    exact hexec
  · exact exec_of_act_unchanged rfl rfl rfl h (if_neg hd)
  · have hx : s.fresh.tx = some (.reply r) := ht
    have hy : s.fresh.link.resetTaken = true := hl
    rcases hc with rfl | rfl
    · rw [exec_on hp rfl]
      simp only [frameSent, hx, replySent, State.modTx_link, hy, if_true]
      rfl
    · rw [exec_on hp rfl]
      simp only [restartAfterReply, hx, hy, if_true]
      rfl
  · rw [exec_on hp rfl]
    have hy : s.fresh.link.resetTaken = false := hl
    unfold restartAfterReply
    split
    · rw [hy]; rfl
    · rfl

/-! ### The receiver -/

theorem countUp_eq_min (g n : Nat) : countUp g n = min (n + 1) g := by
  unfold countUp
  split <;> omega

theorem receiveByte_hunting {s : State} (b : Byte) (h : s.link.rx = none) :
    receiveByte b s = if b = 167 then { s with link := { s.link with rx := some ⟨[], ⟨5, 0⟩⟩ } } else s := by
  unfold receiveByte
  rw [h]
  rfl

theorem receiveByte_of_gathered {s : State} {r : Receiver} (b : Byte) (h : s.link.rx = some r)
    (hg : gathered r.bytes = true) : receiveByte b s = checkFrame r.bytes b s := by
  unfold receiveByte
  rw [h]
  exact if_pos hg

theorem receiveByte_gathering {s : State} {r : Receiver} (b : Byte) (h : s.link.rx = some r)
    (hg : gathered r.bytes = false) (hb : r.bytes ≠ [] ∨ 2 ≤ b.toNat) :
    receiveByte b s = { s with link := { s.link with rx := some ⟨r.bytes ++ [b], ⟨5, 0⟩⟩ } } := by
  unfold receiveByte
  rw [h]
  dsimp only
  rw [hg, if_neg Bool.false_ne_true, if_neg fun h => hb.elim (· h.1) fun hb => absurd hb (by omega)]
  rfl

theorem receiveByte_short {s : State} {g : Timer} (b : Byte) (h : s.link.rx = some ⟨[], g⟩) (hb : b.toNat < 2) :
    receiveByte b s = abandonFrame s := by
  unfold receiveByte
  rw [h]
  dsimp only
  rw [if_neg (by decide), if_pos ⟨rfl, hb⟩]

theorem abandonFrame_eq (s : State) : abandonFrame s =
    if s.link.rx.isSome = true then
      { s with link := { s.link with rx := none, framing := min (s.link.framing + 1) 65535 } }
    else s := by
  unfold abandonFrame
  rw [← countUp_eq_min]
  rfl

@[simp] theorem gathered_cons (n : Byte) (got : List Byte) : gathered (n :: got) = (got.length == n.toNat) := rfl

theorem gathered_frameBody (kind tag : Byte) {ps : List Byte} (h : ps.length ≤ 253) :
    gathered (frameBody kind tag ps) = true := by
  simp only [frameBody, gathered_cons, List.length_cons, beq_iff_eq, BitVec.toNat_ofNat]
  omega

theorem completeFrame_of_rx {s : State} {bytes : List Byte} {g : Timer} (check : Byte)
    (h : s.link.rx = some ⟨bytes, g⟩) (hg : gathered bytes = true) :
    completeFrame check s = checkFrame bytes check s := by
  unfold completeFrame
  rw [h]
  exact if_pos hg

theorem completeFrame_hunting {s : State} (check : Byte) (h : s.link.rx = none) : completeFrame check s = s := by
  unfold completeFrame
  rw [h]

/-- A frame with a wrong check byte is dropped and counted (R198). -/
theorem checkFrame_wrong {s : State} {kind tag check : Byte} {ps : List Byte} (h : check ≠ crc8 (frameBody kind tag ps)) :
    checkFrame (frameBody kind tag ps) check s =
      { s with link := { s.link with rx := none, check := min (s.link.check + 1) 65535 } } := by
  rw [← countUp_eq_min]
  exact if_neg h.symm

/-- Settles O8, by what a byte, an abandonment and a check byte each do. -/
theorem receiverHuntsAndGathers : Obligations.ReceiverHuntsAndGathers := by
  refine ⟨fun s b hp hr hb => ?_, fun s hp hr => ?_, fun s b g hp hr => ?_, fun s n b got g hp hr hl => ?_,
    fun s n b got g hp hr hl => ?_, fun s c hp hc => ?_, fun s kind tag check ps g hp hl hr hc => ?_,
    fun s check hp hr => ?_⟩
  · exact exec_leaves hp rfl ((receiveByte_hunting (s := s.fresh) b hr).trans (if_neg hb))
  · exact exec_leaves hp rfl ((receiveByte_hunting (s := s.fresh) 167 hr).trans (if_pos rfl))
  · by_cases hb : 2 ≤ b.toNat
    · rw [if_pos hb]
      exact exec_leaves hp rfl (receiveByte_gathering (s := s.fresh) b hr rfl (.inr hb))
    · rw [if_neg hb]
      exact exec_leaves hp rfl ((receiveByte_short (s := s.fresh) b hr (by omega)).trans
        ((abandonFrame_eq s.fresh).trans (if_pos (congrArg Option.isSome hr))))
  · exact exec_leaves hp rfl (receiveByte_gathering (s := s.fresh) b hr (by simpa using hl) (.inl (List.cons_ne_nil _ _)))
  · have hg : gathered (n :: got) = true := by simpa using hl
    refine (exec_leaves hp rfl (receiveByte_of_gathered (s := s.fresh) b hr hg)).trans ?_
    exact (exec_leaves hp rfl (completeFrame_of_rx (s := s.fresh) b hr hg)).symm
  · rcases hc with rfl | rfl <;> exact exec_leaves hp rfl (abandonFrame_eq s.fresh)
  · exact exec_leaves hp rfl ((completeFrame_of_rx (s := s.fresh) check hr (gathered_frameBody kind tag hl)).trans (checkFrame_wrong hc))
  · exact exec_leaves hp rfl (completeFrame_hunting (s := s.fresh) check hr)

end Sys2Proof.Machine
end

section
/-! PROOFS. The requests' encodings both ways (R209, R210), and the frames of the line: taken, buffered, sent and supervised. -/

namespace Sys2Proof.Machine

/-! ### Numbers of several bytes -/

theorem append_bytes16 (x : BitVec 16) : x.extractLsb' 8 8 ++ x.extractLsb' 0 8 = x := by
  rw [BitVec.extractLsb'_append_extractLsb'_eq_extractLsb' (by rfl)]
  exact BitVec.extractLsb'_eq_self

theorem append_bytes24 (x : BitVec 24) : x.extractLsb' 16 8 ++ x.extractLsb' 8 8 ++ x.extractLsb' 0 8 = x := by
  rw [BitVec.extractLsb'_append_extractLsb'_eq_extractLsb' (by rfl), BitVec.extractLsb'_append_extractLsb'_eq_extractLsb' (by rfl)]
  exact BitVec.extractLsb'_eq_self

theorem append_bytes32 (x : BitVec 32) :
    x.extractLsb' 24 8 ++ x.extractLsb' 16 8 ++ x.extractLsb' 8 8 ++ x.extractLsb' 0 8 = x := by
  rw [BitVec.extractLsb'_append_extractLsb'_eq_extractLsb' (by rfl), BitVec.extractLsb'_append_extractLsb'_eq_extractLsb' (by rfl),
    BitVec.extractLsb'_append_extractLsb'_eq_extractLsb' (by rfl)]
  exact BitVec.extractLsb'_eq_self

theorem extractLsb'_append_high {m k : Nat} (a : BitVec m) (b : BitVec 8) :
    (a ++ b).extractLsb' (8 + k) 8 = a.extractLsb' k 8 := by
  ext i hi
  simp only [BitVec.getElem_extractLsb', BitVec.getLsbD_append]
  rw [if_neg (by omega)]
  congr 1
  omega

theorem extractLsb'_append_low {m : Nat} (a : BitVec m) (b : BitVec 8) : (a ++ b).extractLsb' 0 8 = b := by
  ext i hi
  simp [BitVec.getElem_extractLsb', BitVec.getLsbD_append, hi]

theorem bytes16_append (a b : Byte) : bytes16 (a ++ b) = [a, b] := by
  rw [bytes16, extractLsb'_append_low, extractLsb'_append_high (k := 0), BitVec.extractLsb'_eq_self]

theorem bytes24_append (a b c : Byte) : bytes24 (a ++ b ++ c) = [a, b, c] := by
  rw [bytes24, extractLsb'_append_low, extractLsb'_append_high (k := 8) (a ++ b) c,
    extractLsb'_append_high (k := 0) (a ++ b) c]
  exact congrArg (· ++ [c]) (bytes16_append a b)

theorem bytes32_append (a b c d : Byte) : bytes32 (a ++ b ++ c ++ d) = [a, b, c, d] := by
  rw [bytes32, extractLsb'_append_low, extractLsb'_append_high (k := 16) (a ++ b ++ c) d,
    extractLsb'_append_high (k := 8) (a ++ b ++ c) d, extractLsb'_append_high (k := 0) (a ++ b ++ c) d]
  exact congrArg (· ++ [d]) (bytes24_append a b c)

/-! ### Lists (R20, R36, R128) -/

theorem countByte_toNat {n : Nat} (h : n ≤ 255) : (countByte n).toNat = n := by
  simp only [countByte, BitVec.toNat_ofNat]
  omega

theorem countByte_of_toNat {b : Byte} {n : Nat} (h : n = b.toNat) : countByte n = b := by
  rw [countByte, h, BitVec.ofNat_toNat, BitVec.setWidth_eq]

theorem ofCount_eq_some_iff {α : Type} {n : Byte} {x : Option (List α)} {l : List α} :
    ofCount n x = some l ↔ x = some l ∧ l.length = n.toNat := by
  rw [ofCount, Option.filter_eq_some_iff, beq_iff_eq]

theorem parseRecords_flatMap (rs : List AssignmentField) : parseRecords (rs.flatMap assignmentBytes) = some rs := by
  induction rs with
  | nil => rfl
  | cons r rs ih => exact congrArg (Option.map (r :: ·)) ih

theorem parsePoints_flatMap (l : List PointField) : parsePoints (l.flatMap pointBytes) = some l := by
  induction l with
  | nil => rfl
  | cons p l ih =>
    have hp : (⟨p.level.extractLsb' 8 8 ++ p.level.extractLsb' 0 8, p.volume.extractLsb' 8 8 ++ p.volume.extractLsb' 0 8⟩ :
        PointField) = p := by rw [append_bytes16, append_bytes16]
    have hcons : parsePoints ((p :: l).flatMap pointBytes) = (parsePoints (l.flatMap pointBytes)).map
        ((⟨p.level.extractLsb' 8 8 ++ p.level.extractLsb' 0 8, p.volume.extractLsb' 8 8 ++ p.volume.extractLsb' 0 8⟩ :
          PointField) :: ·) := rfl
    rw [hcons, ih, hp]
    rfl

theorem flatMap_of_parseRecords {bs : List Byte} {rs : List AssignmentField} (h : parseRecords bs = some rs) :
    rs.flatMap assignmentBytes = bs := by
  induction bs using parseRecords.induct generalizing rs with
  | case1 => cases h; rfl
  | case2 t r p q x y rest ih =>
    obtain ⟨l, hl, rfl⟩ := Option.map_eq_some_iff.1 h
    exact congrArg ([t, r, p, q, x, y] ++ ·) (ih hl)
  | case3 l h₁ h₂ =>
    rw [parseRecords] at h
    · cases h
    · exact h₁
    · exact h₂

theorem flatMap_of_parsePoints {bs : List Byte} {l : List PointField} (h : parsePoints bs = some l) :
    l.flatMap pointBytes = bs := by
  induction bs using parsePoints.induct generalizing l with
  | case1 => cases h; rfl
  | case2 a b c d rest ih =>
    obtain ⟨l, hl, rfl⟩ := Option.map_eq_some_iff.1 h
    rw [List.flatMap_cons, ih hl, pointBytes, bytes16_append, bytes16_append]
    rfl
  | case3 l h₁ h₂ =>
    rw [parsePoints] at h
    · cases h
    · exact h₁
    · exact h₂

theorem parseLists_listBytes (f : List Byte → List Byte → Request) {xs ys : List Byte} (h : xs.length + ys.length ≤ 251) :
    parseLists f (listBytes xs ++ listBytes ys) = some (f xs ys) := by
  have hx : (countByte xs.length).toNat = xs.length := countByte_toNat (by omega)
  have hy : (countByte ys.length).toNat = ys.length := countByte_toNat (by omega)
  simp [parseLists, parseSecond, listBytes, hx, hy]

theorem of_parseLists {f : List Byte → List Byte → Request} {ps : List Byte} {r : Request} (h : parseLists f ps = some r) :
    ∃ xs ys, r = f xs ys ∧ listBytes xs ++ listBytes ys = ps := by
  unfold parseLists at h
  split at h
  · next n rest =>
    split at h
    · next hn =>
      unfold parseSecond at h
      split at h
      · next m ys hd =>
        split at h
        · next hm =>
          cases h
          refine ⟨_, _, rfl, ?_⟩
          rw [listBytes, listBytes, countByte_of_toNat hm, countByte_of_toNat (List.length_take_of_le hn)]
          simp only [List.cons_append, ← hd, List.take_append_drop]
        · cases h
      · cases h
    · cases h
  · cases h

/-! ### Every request read from its own bytes -/

theorem length_flatMap_assignmentBytes (rs : List AssignmentField) : (rs.flatMap assignmentBytes).length = 6 * rs.length := by
  induction rs with
  | nil => rfl
  | cons r rs ih => rw [List.flatMap_cons, List.length_append, ih, List.length_cons]; simp [assignmentBytes]; omega

theorem length_flatMap_pointBytes (l : List PointField) : (l.flatMap pointBytes).length = 4 * l.length := by
  induction l with
  | nil => rfl
  | cons p l ih => rw [List.flatMap_cons, List.length_append, ih, List.length_cons]; simp [pointBytes, bytes16]; omega

theorem params_length (r : Request) : r.params.length = r.size := by
  cases r
  case writeAssignment rs =>
    simp only [Request.params, Request.size, List.length_cons, length_flatMap_assignmentBytes]
    omega
  case writeVolumeTable t l =>
    simp only [Request.params, Request.size, List.length_cons, length_flatMap_pointBytes]
    omega
  case panelFlags cs ss => simp only [Request.params, Request.size, listBytes, List.length_append, List.length_cons]; omega
  case noticeMask ds es => simp only [Request.params, Request.size, listBytes, List.length_append, List.length_cons]; omega
  all_goals rfl

theorem wellFormed_iff (r : Request) : r.wellFormed = true ↔ r.params.length ≤ 253 := by
  rw [params_length]
  exact decide_eq_true_iff

theorem parseAssignment_params {rs : List AssignmentField} (h : 6 * rs.length ≤ 252) :
    parseAssignment (countByte rs.length :: rs.flatMap assignmentBytes) = some (.writeAssignment rs) := by
  have hcount : ofCount (countByte rs.length) (parseRecords (rs.flatMap assignmentBytes)) = some rs :=
    ofCount_eq_some_iff.2 ⟨parseRecords_flatMap rs, (countByte_toNat (by omega)).symm⟩
  exact congrArg (Option.map Request.writeAssignment) hcount

theorem parseTable_params {t : Byte} {l : List PointField} (h : 4 * l.length ≤ 251) :
    parseTable (t :: countByte l.length :: l.flatMap pointBytes) = some (.writeVolumeTable t l) := by
  have hcount : ofCount (countByte l.length) (parsePoints (l.flatMap pointBytes)) = some l :=
    ofCount_eq_some_iff.2 ⟨parsePoints_flatMap l, (countByte_toNat (by omega)).symm⟩
  exact congrArg (Option.map (Request.writeVolumeTable t)) hcount

/-- A request read from its own encoding. -/
theorem parseRequest_params (r : Request) (h : r.wellFormed = true) : parseRequest r.code r.params = .request r := by
  have hsize : r.size ≤ 253 := of_decide_eq_true h
  cases r
  case writeAssignment rs => exact congrArg Parsed.ofOption (parseAssignment_params (by simp only [Request.size] at hsize; omega))
  case writeVolumeTable t l => exact congrArg Parsed.ofOption (parseTable_params (by simp only [Request.size] at hsize; omega))
  case panelFlags cs ss =>
    exact congrArg Parsed.ofOption (parseLists_listBytes .panelFlags (by simp only [Request.size] at hsize; omega))
  case noticeMask ds es =>
    exact congrArg Parsed.ofOption (parseLists_listBytes .noticeMask (by simp only [Request.size] at hsize; omega))
  case setPressure v => exact congrArg (fun x => Parsed.request (.setPressure x)) (append_bytes16 v)
  case setSpeed v => exact congrArg (fun x => Parsed.request (.setSpeed x)) (append_bytes16 v)
  case readTrend v n => exact congrArg (fun x => Parsed.request (.readTrend x n)) (append_bytes16 v)
  case pulseOutput t v => exact congrArg (fun x => Parsed.request (.pulseOutput t x)) (append_bytes16 v)
  case writeLockout k ms v => exact congrArg (fun x => Parsed.request (.writeLockout k ms x)) (append_bytes24 v)
  case writeParam n v => exact congrArg (fun x => Parsed.request (.writeParam n x)) (append_bytes32 v)
  case setTime v n => exact congrArg (fun x => Parsed.request (.setTime x n)) (append_bytes32 v)
  all_goals rfl

/-! ### Nothing else reads as a request -/

/-- What a kind's parser accepts is that kind's request, and its bytes are the request's. -/
def ReadsBack (code : Byte) (parse : List Byte → Option Request) : Prop :=
  ∀ ps r, parse ps = some r → r.code = code ∧ r.params = ps

theorem readsBack_parseNone {code : Byte} {q : Request} (hc : q.code = code) (hp : q.params = []) :
    ReadsBack code (parseNone q) := by
  intro ps r h
  unfold parseNone at h
  split at h
  · cases h; exact ⟨hc, hp⟩
  · cases h

theorem readsBack_parseOne {code : Byte} {f : Byte → Request} (hc : ∀ a, (f a).code = code)
    (hp : ∀ a, (f a).params = [a]) : ReadsBack code (parseOne f) := by
  intro ps r h
  unfold parseOne at h
  split at h
  · cases h; exact ⟨hc _, hp _⟩
  · cases h

theorem readsBack_parseTwo {code : Byte} {f : Byte → Byte → Request} (hc : ∀ a b, (f a b).code = code)
    (hp : ∀ a b, (f a b).params = [a, b]) : ReadsBack code (parseTwo f) := by
  intro ps r h
  unfold parseTwo at h
  split at h
  · cases h; exact ⟨hc _ _, hp _ _⟩
  · cases h

theorem readsBack_parseWord {code : Byte} {f : BitVec 16 → Request} (hc : ∀ a, (f a).code = code)
    (hp : ∀ a, (f a).params = bytes16 a) : ReadsBack code (parseWord f) := by
  intro ps r h
  unfold parseWord at h
  split at h
  · cases h; exact ⟨hc _, by rw [hp, bytes16_append]⟩
  · cases h

theorem readsBack_parseByteWord {code : Byte} {f : Byte → BitVec 16 → Request} (hc : ∀ a b, (f a b).code = code)
    (hp : ∀ a b, (f a b).params = a :: bytes16 b) : ReadsBack code (parseByteWord f) := by
  intro ps r h
  unfold parseByteWord at h
  split at h
  · cases h; exact ⟨hc _ _, by rw [hp, bytes16_append]⟩
  · cases h

theorem readsBack_parseWordByte {code : Byte} {f : BitVec 16 → Byte → Request} (hc : ∀ a b, (f a b).code = code)
    (hp : ∀ a b, (f a b).params = bytes16 a ++ [b]) : ReadsBack code (parseWordByte f) := by
  intro ps r h
  unfold parseWordByte at h
  split at h
  · cases h; exact ⟨hc _ _, by rw [hp, bytes16_append]; rfl⟩
  · cases h

theorem readsBack_parseByteLong {code : Byte} {f : Byte → BitVec 32 → Request} (hc : ∀ a b, (f a b).code = code)
    (hp : ∀ a b, (f a b).params = a :: bytes32 b) : ReadsBack code (parseByteLong f) := by
  intro ps r h
  unfold parseByteLong at h
  split at h
  · cases h; exact ⟨hc _ _, by rw [hp, bytes32_append]⟩
  · cases h

theorem readsBack_parseLongByte {code : Byte} {f : BitVec 32 → Byte → Request} (hc : ∀ a b, (f a b).code = code)
    (hp : ∀ a b, (f a b).params = bytes32 a ++ [b]) : ReadsBack code (parseLongByte f) := by
  intro ps r h
  unfold parseLongByte at h
  split at h
  · cases h; exact ⟨hc _ _, by rw [hp, bytes32_append]; rfl⟩
  · cases h

theorem readsBack_parseLockout : ReadsBack 13 parseLockout := by
  intro ps r h
  unfold parseLockout at h
  split at h
  · cases h; exact ⟨rfl, by rw [Request.params, bytes24_append]⟩
  · cases h

theorem readsBack_parseAssignment : ReadsBack 11 parseAssignment := by
  intro ps r h
  unfold parseAssignment at h
  split at h
  · obtain ⟨rs, hrs, rfl⟩ := Option.map_eq_some_iff.1 h
    obtain ⟨hparse, hn⟩ := ofCount_eq_some_iff.1 hrs
    exact ⟨rfl, by rw [Request.params, countByte_of_toNat hn, flatMap_of_parseRecords hparse]⟩
  · cases h

theorem readsBack_parseTable : ReadsBack 15 parseTable := by
  intro ps r h
  unfold parseTable at h
  split at h
  · obtain ⟨l, hl, rfl⟩ := Option.map_eq_some_iff.1 h
    obtain ⟨hparse, hn⟩ := ofCount_eq_some_iff.1 hl
    exact ⟨rfl, by rw [Request.params, countByte_of_toNat hn, flatMap_of_parsePoints hparse]⟩
  · cases h

theorem readsBack_parseLists {code : Byte} {f : List Byte → List Byte → Request} (hc : ∀ a b, (f a b).code = code)
    (hp : ∀ a b, (f a b).params = listBytes a ++ listBytes b) : ReadsBack code (parseLists f) := by
  intro ps r h
  obtain ⟨xs, ys, rfl, hps⟩ := of_parseLists h
  exact ⟨hc _ _, (hp _ _).trans hps⟩

theorem ofOption_eq_request {x : Option Request} {r : Request} (h : Parsed.ofOption x = .request r) : x = some r := by
  cases x with
  | none => cases h
  | some q => cases h; rfl

theorem ReadsBack.of_kind {kind : Byte} {n : Nat} {parse : List Byte → Option Request} {ps : List Byte} {r : Request}
    (h : ReadsBack (BitVec.ofNat 8 n) parse) (hk : kind.toNat = n) (hr : Parsed.ofOption (parse ps) = .request r) :
    r.code = kind ∧ r.params = ps := by
  have hkind : kind = BitVec.ofNat 8 n := by rw [← hk, BitVec.ofNat_toNat, BitVec.setWidth_eq]
  rw [hkind]
  exact h ps r (ofOption_eq_request hr)

/-- The form of a kind's parser gives back the kind and the bytes it read, kind by kind of R210. -/
theorem of_parseRequest {kind : Byte} {ps : List Byte} {r : Request} (h : parseRequest kind ps = .request r) :
    r.code = kind ∧ r.params = ps := by
  unfold parseRequest at h
  split at h
  case h_40 => cases h
  all_goals refine ReadsBack.of_kind ?_ ‹kind.toNat = _› h
  all_goals solve
    | exact readsBack_parseNone rfl rfl
    | exact readsBack_parseOne (fun _ => rfl) fun _ => rfl
    | exact readsBack_parseTwo (fun _ _ => rfl) fun _ _ => rfl
    | exact readsBack_parseWord (fun _ => rfl) fun _ => rfl
    | exact readsBack_parseByteWord (fun _ _ => rfl) fun _ _ => rfl
    | exact readsBack_parseWordByte (fun _ _ => rfl) fun _ _ => rfl
    | exact readsBack_parseByteLong (fun _ _ => rfl) fun _ _ => rfl
    | exact readsBack_parseLongByte (fun _ _ => rfl) fun _ _ => rfl
    | exact readsBack_parseLists (fun _ _ => rfl) fun _ _ => rfl
    | exact readsBack_parseLockout
    | exact readsBack_parseAssignment
    | exact readsBack_parseTable

/-- Settles O6: both directions, by the form of each kind's parser. -/
theorem requestEncodingRoundTrip : Obligations.RequestEncodingRoundTrip := by
  refine ⟨fun r hr => ⟨parseRequest_params r hr, params_length r⟩, fun kind ps r hlen h => ?_⟩
  obtain ⟨hcode, hps⟩ := of_parseRequest h
  exact ⟨hcode, hps, (wellFormed_iff r).2 (hps ▸ hlen)⟩

end Sys2Proof.Machine
end

section
/-! PROOFS. Frames of the line and requests: taken, buffered, answered once, sent, supervised; and a record joining the queue. -/

namespace Sys2Proof.Machine

/-! ### What no unit's act changes of the line -/

/-- The receiver, the buffer, the request in hand, the link's supervision and what the queue of commands stands on. -/
structure LineKept (s t : State) : Prop where
  rx : t.link.rx = s.link.rx
  buffer : t.link.buffer = s.link.buffer
  inHand : t.link.inHand = s.link.inHand
  state : t.link.state = s.link.state
  supervision : t.link.supervision = s.link.supervision
  noticeCount : t.link.noticeCount = s.link.noticeCount
  startCause : t.link.startCause = s.link.startCause
  powered : t.powered = s.powered
  choiceCount : t.choiceCount = s.choiceCount
  pending : t.pending = s.pending

theorem LineKept.refl (s : State) : LineKept s s := ⟨rfl, rfl, rfl, rfl, rfl, rfl, rfl, rfl, rfl, rfl⟩

theorem LineKept.of_settings {s t : State} (h : t.settings = s.settings) : LineKept s t := by
  have hlink : t.link = s.link := congrArg Settings.link h
  exact ⟨by rw [hlink], by rw [hlink], by rw [hlink], by rw [hlink], by rw [hlink], by rw [hlink], by rw [hlink],
    congrArg Settings.powered h, congrArg Settings.choiceCount h, congrArg Settings.pending h⟩

theorem LineKept.trans {s t u : State} (h : LineKept s t) (g : LineKept t u) : LineKept s u :=
  ⟨g.rx.trans h.rx, g.buffer.trans h.buffer, g.inHand.trans h.inHand, g.state.trans h.state,
    g.supervision.trans h.supervision, g.noticeCount.trans h.noticeCount, g.startCause.trans h.startCause,
    g.powered.trans h.powered, g.choiceCount.trans h.choiceCount, g.pending.trans h.pending⟩

theorem Works.lineKept {s t : State} (h : Works True s t) : LineKept s t := by
  have hst := h.moves.stands
  exact ⟨by rw [hst.link], by rw [hst.link], by rw [hst.link], by rw [hst.link], by rw [hst.link], by rw [hst.link],
    by rw [hst.link], hst.powered, hst.choiceCount, hst.pending⟩

theorem lineKept_afterReading (s : State) : LineKept s (afterReading s) := by
  unfold afterReading
  exact .of_settings (by rw [settings_checkTrendHalf]; rfl)

theorem lineKept_actReadTrend (start : BitVec 16) (n : Byte) (s : State) : LineKept s (actReadTrend start n s).state := by
  unfold actReadTrend
  split
  · exact .refl s
  · split
    · dsimp only [trendReply]
      split
      · refine LineKept.trans ?_ (lineKept_afterReading _)
        exact .of_settings rfl
      · exact lineKept_afterReading s
    · split <;> exact lineKept_afterReading s

theorem lineKept_actWriteParam (n : Byte) (v : BitVec 32) (s : State) : LineKept s (actWriteParam n v s).state := by
  unfold actWriteParam
  split
  · exact .refl s
  · split
    · exact .refl s
    · refine LineKept.trans ?_ (works_handParam _ _).lineKept
      exact ⟨rfl, rfl, rfl, rfl, rfl, rfl, rfl, rfl, rfl, rfl⟩

theorem lineKept_actWriteAssignment (l : List AssignmentField) (s : State) : LineKept s (actWriteAssignment l s).state := by
  unfold actWriteAssignment
  split
  · exact .refl s
  · split
    · exact .refl s
    · split
      · refine LineKept.trans ?_ (Works.lineKept
          (((works_runInOrder (fun f hf y => ?_) _).trans (works_reviewStop _)).trans (works_refreshConditions _)))
        · exact ⟨rfl, rfl, rfl, rfl, rfl, rfl, rfl, rfl, rfl, rfl⟩
        · obtain ⟨p, -, rfl⟩ := List.mem_map.1 hf
          exact works_alignTerminal _ _ y
      · exact .refl s

theorem lineKept_tables (s : State) :
    (∀ k ms cs, LineKept s (actWriteLockout k ms cs s).state) ∧ (∀ v r, LineKept s (actSetTime v r s).state) ∧
    ∀ ds es, LineKept s (actNoticeMask ds es s).state := by
  refine ⟨fun k ms cs => ?_, fun v r => ?_, fun ds es => ?_⟩
  · unfold actWriteLockout
    split
    · exact .refl s
    · split
      · exact .refl s
      · split <;> exact ⟨rfl, rfl, rfl, rfl, rfl, rfl, rfl, rfl, rfl, rfl⟩
  · unfold actSetTime
    dsimp only
    split <;> exact ⟨rfl, rfl, rfl, rfl, rfl, rfl, rfl, rfl, rfl, rfl⟩
  · unfold actNoticeMask
    split <;> exact ⟨rfl, rfl, rfl, rfl, rfl, rfl, rfl, rfl, rfl, rfl⟩

theorem lineKept_actResetPart (s : State) : LineKept s (actResetPart s).state := by
  unfold actResetPart
  split <;> exact ⟨rfl, rfl, rfl, rfl, rfl, rfl, rfl, rfl, rfl, rfl⟩

theorem lineKept_beginHold (s : State) : LineKept s (beginHold s) := by
  unfold beginHold
  split
  · exact .refl s
  · refine LineKept.trans ?_ (.of_settings (settings_checkPressure _))
    exact ⟨rfl, rfl, rfl, rfl, rfl, rfl, rfl, rfl, rfl, rfl⟩

/-- The owning unit's act leaves the line alone. -/
theorem lineKept_act (r : Request) (s : State) : LineKept s (act r s).state := by
  obtain ⟨hstatus, hparam, hlockout, htable⟩ := state_of_reading s
  cases r
  case readStatus => exact (hstatus _).symm ▸ .refl s
  case readParam => exact (hparam _).symm ▸ .refl s
  case readLockout => exact (hlockout _).symm ▸ .refl s
  case readVolumeTable => exact (htable _).symm ▸ .refl s
  case readTrend => exact lineKept_actReadTrend _ _ s
  case writeParam => exact lineKept_actWriteParam _ _ s
  case writeAssignment => exact lineKept_actWriteAssignment _ s
  case writeLockout => exact (lineKept_tables s).1 _ _ _
  case writeVolumeTable => exact (works_actWriteVolumeTable _ _ s).lineKept
  case panelFlags => exact (works_actPanelFlags _ _ s).lineKept
  case engage => exact (works_actEngage _ s).lineKept
  case disengage => exact (works_actDisengage s).lineKept
  case changeKind => exact (works_actChangeKind _ s).lineKept
  case clearFault => exact (works_actClearFault _ s).lineKept
  case setPressure | setSpeed => exact (works_writeSetting _ _ s).lineKept
  case step => exact (works_actStep _ s).lineKept
  case idle => exact (works_takeIdle s).lineKept
  case setSupply => exact (works_actSetSupply _ s).lineKept
  case useReserve => exact (works_actUseReserve s).lineKept
  case fillStart => exact (works_actFillStart _ s).lineKept
  case fillStop => exact (works_actFillStop _ s).lineKept
  case recirc => exact (works_actRecirc _ s).lineKept
  case silence => exact (works_silence s).lineKept
  case setOutput => exact (works_actSetOutput _ _ s).lineKept
  case pulseOutput => exact (works_actPulseOutput _ _ s).lineKept
  case resetTotal => exact (works_actResetTotal _ s).lineKept
  case setTime => exact (lineKept_tables s).2.1 _ _
  case noticeMask => exact (lineKept_tables s).2.2 _ _
  case holdReports => exact lineKept_beginHold s
  case resetPart => exact lineKept_actResetPart s
  all_goals exact ⟨rfl, rfl, rfl, rfl, rfl, rfl, rfl, rfl, rfl, rfl⟩

/-- A request that is taken at once is answered as its owning unit leaves the part. -/
theorem exec_answered {i : Instr} {tag : Byte} {r : Request} {s : State} (hi : i.request? = some (tag, r))
    (hr : r.wellFormed = true) (hs : Ready s) :
    exec i s = .next (finish ((act r (holdRequest r.code tag s.fresh)).state.answered r.code tag
      (act r (holdRequest r.code tag s.fresh)).result (act r (holdRequest r.code tag s.fresh)).body)) :=
  exec_of_act hi rfl hr hs rfl (lineKept_act r _).inHand

/-! ### Frames read -/

theorem parseRequest_eq_unknownKind_iff (kind : Byte) (ps : List Byte) :
    parseRequest kind ps = .unknownKind ↔ kind.toNat = 0 ∨ 39 < kind.toNat := by
  have hoption : ∀ x, Parsed.ofOption x ≠ .unknownKind := fun x => by cases x <;> exact Parsed.noConfusion
  unfold parseRequest
  split
  case h_40 =>
    simp only [imp_false] at *
    exact iff_of_true trivial (by omega)
  all_goals exact iff_of_false (hoption _) (by omega)

theorem takeFrame_params (tag : Byte) {r : Request} (hr : r.wellFormed = true) (s : State) :
    takeFrame ⟨r.code, tag, r.params⟩ s = takeRequest tag r s := by
  unfold takeFrame
  rw [parseRequest_params r hr]

theorem takeFrame_unknownKind {kind : Byte} (tag : Byte) (ps : List Byte) (h : kind.toNat = 0 ∨ 39 < kind.toNat)
    (s : State) : takeFrame ⟨kind, tag, ps⟩ s =
      { s with link := { s.link with inHand := some ⟨kind, tag⟩, reply := some ⟨255, tag, .unknownKind, []⟩ } } := by
  unfold takeFrame
  rw [(parseRequest_eq_unknownKind_iff kind ps).2 h]
  rfl

theorem takeFrame_badLength {kind : Byte} (tag : Byte) {ps : List Byte} (h : parseRequest kind ps = .badLength) (s : State) :
    takeFrame ⟨kind, tag, ps⟩ s = s.answered kind tag .badValue [] := by
  unfold takeFrame
  rw [h]
  rfl

/-- Settles O12: the frame of the line by `lineKept_act`, the frames that are no request by how they read. -/
theorem requestTakenIsAnsweredOnce : Obligations.RequestTakenIsAnsweredOnce := by
  refine ⟨fun i s tag r hi hr hs => ⟨_, _, _, exec_answered hi hr hs, ?_⟩, fun i s tag r hi hr => ?_,
    fun s kind tag ps h => takeFrame_unknownKind tag ps h s, fun s kind tag ps h₁ h₂ hlen hno => ?_⟩
  · have hline := lineKept_act r (holdRequest r.code tag s.fresh)
    generalize (act r (holdRequest r.code tag s.fresh)).state = u at hline ⊢
    have hbuffer : u.link.buffer = [] := hline.buffer.trans hs.2.2
    have hpowered : u.powered = true := hline.powered.trans hs.1
    rw [← hbuffer, ← hpowered, ← show u.link.rx = s.link.rx from hline.rx,
      ← show u.link.state = s.link.state from hline.state,
      ← show u.link.supervision = s.link.supervision from hline.supervision,
      ← show u.link.noticeCount = s.link.noticeCount from hline.noticeCount,
      ← show u.link.startCause = s.link.startCause from hline.startCause,
      ← show u.choiceCount = s.choiceCount + 1 from hline.choiceCount, ← show u.pending = s.pending from hline.pending]
  · rw [exec_of_request i s tag r hi, present, hr]
    rfl
  · refine takeFrame_badLength tag ?_ s
    cases h : parseRequest kind ps with
    | unknownKind => have := (parseRequest_eq_unknownKind_iff kind ps).1 h; omega
    | badLength => rfl
    | request r =>
      obtain ⟨hcode, hps⟩ := of_parseRequest h
      exact absurd hps (hno r hcode)

/-! ### Requests that wait (R199) -/

theorem bufferFrame_eq (f : Frame) (s : State) : bufferFrame f s =
    { s with link :=
        if s.link.buffer.length < 4 then { s.link with buffer := s.link.buffer ++ [f] }
        else { s.link with overrun := min (s.link.overrun + 1) 65535 } } := by
  rw [← countUp_eq_min]
  rfl

/-- Settles O11. -/
theorem requestsWaitOrAreDropped : Obligations.RequestsWaitOrAreDropped := by
  intro i s tag r hi hr hp hbusy
  have hwait : canTake s.fresh = false := by
    show (s.link.inHand.isNone && s.link.buffer.isEmpty) = false
    rw [Bool.eq_false_iff]
    simpa using hbusy
  rw [exec_of_request i s tag r hi, present, if_pos hr, command_powered _ s hp, arriveRequest, hwait, if_neg Bool.false_ne_true,
    bufferFrame_eq]
  rfl

/-! ### A record joins the queue (R185 to R189) -/

theorem checkPressure_notices (s : State) :
    (checkPressure s).notices = { s.notices with
      pressure := s.notices.pressure || s.link.hold && decide (16 ≤ s.notices.queue.length)
      offers := s.notices.offers ++
        if s.link.hold = true ∧ s.notices.pressure = false ∧ 16 ≤ s.notices.queue.length then [s.notices.queue.length]
        else [] } := by
  unfold checkPressure pressureLevel
  split
  · next h =>
    obtain ⟨hhold, hpressure, hlen⟩ := h
    simp [hhold, hpressure, hlen]
  · next h =>
    have hsame : (s.notices.pressure || s.link.hold && decide (16 ≤ s.notices.queue.length)) = s.notices.pressure := by
      cases hpressure : s.notices.pressure <;> cases hhold : s.link.hold <;> simp_all
    rw [hsame, List.append_nil]

theorem checkPressure_tx (s : State) : (checkPressure s).tx = s.tx := by
  obtain e | ⟨-, -, -, e⟩ := checkPressure_cases s <;> rw [e]
  rfl

theorem record_of_enabled {k : NoticeKind} {s : State} (b : NoticeBody) (h : k ∉ s.notices.disabled) :
    record k b s = enqueue ⟨s.clock.tag, k, b, false⟩ s := by
  obtain ⟨hk, -⟩ | ⟨-, e⟩ := record_cases k b s
  · exact absurd hk h
  · exact e

theorem enqueue_notices (n : Notice) (s : State) :
    (enqueue n s).notices = { s.notices with
      queue := joinQueue n s.notices.queue
      pressure := s.notices.pressure || s.link.hold && decide (16 ≤ (joinQueue n s.notices.queue).length)
      offers := s.notices.offers ++
        if s.link.hold = true ∧ s.notices.pressure = false ∧ 16 ≤ (joinQueue n s.notices.queue).length then
          [(joinQueue n s.notices.queue).length]
        else [] } := by
  unfold enqueue
  rw [checkPressure_notices]
  split <;> rfl

theorem enqueue_tx (n : Notice) (s : State) :
    (enqueue n s).tx = if s.notices.queue.length < 32 then s.tx else unqueueSent s.tx := by
  unfold enqueue
  rw [checkPressure_tx]
  split
  · next h => rw [if_pos (by exact h)]; rfl
  · next h => rw [if_neg (by exact h)]; rfl

theorem joinQueue_full (n : Notice) {oldest next : Notice} {more : List Notice} (h : 32 ≤ (oldest :: next :: more).length) :
    joinQueue n (oldest :: next :: more) = { next with overrun := true } :: more ++ [n] := by
  rw [joinQueue, if_neg (by rw [queueCapacity]; omega)]
  rfl

/-- Settles O13: the queue, the transmitter and the pressure of an enqueued record. -/
theorem recordJoinsTheQueue : Obligations.RecordJoinsTheQueue := by
  refine ⟨fun k b s hk => ?_, fun k b s hk hlen => ?_, fun k b s oldest next more hk hq hlen => ?_, fun k b s hk => ?_,
    fun k b s => ?_⟩
  · obtain ⟨-, e⟩ | ⟨h, -⟩ := record_cases k b s
    · exact e
    · exact absurd hk h
  · rw [record_of_enabled b hk, enqueue_queue, enqueue_tx, if_pos hlen]
    exact ⟨if_pos hlen, rfl⟩
  · rw [record_of_enabled b hk, enqueue_queue, hq]
    refine ⟨joinQueue_full _ (hq ▸ hlen), fun n c q htx => ?_⟩
    rw [enqueue_tx, if_neg (by omega), htx]
    rfl
  · rw [record_of_enabled b hk, enqueue_notices]
    exact ⟨rfl, rfl⟩
  · obtain ⟨n, x, -, -, e⟩ := record_frame k b s
    rw [e]

/-! ### The end of a frame and the next one (R199 to R201) -/

theorem finish_sending {s : State} {f : TxFrame} (h : s.tx = some f) : finish s = { s with choices := [] } := by
  have hsame : startTransmitter s = s := if_pos (by rw [h]; rfl)
  rw [finish, hsame]
  rfl

theorem finish_idle {s : State} {f : TxFrame} (h : s.tx = none) (hf : nextFrame s = some f) :
    finish s = ((withdrawOffer f s).modTx fun _ => some f).modChoices fun _ => [] := by
  unfold finish startTransmitter
  rw [h, hf]
  rfl

theorem finish_nothing {s : State} (hf : nextFrame s = none) : finish s = { s with choices := [] } := by
  have hsame : startTransmitter s = s := by
    unfold startTransmitter
    rw [hf, ite_self]
  rw [finish, hsame]
  rfl

theorem nextFrame_reply {s : State} {r : Reply} (h : s.link.reply = some r) : nextFrame s = some (.reply r) := by
  unfold nextFrame
  rw [h]

theorem nextFrame_pressure {s : State} {n : Nat} {more : List Nat} (h : s.link.reply = none)
    (ho : s.notices.offers = n :: more) : nextFrame s = some (.pressure n) := by
  unfold nextFrame
  rw [h, ho]

theorem nextFrame_notice {s : State} {n : Notice} {more : List Notice} (h : s.link.reply = none)
    (ho : s.notices.offers = []) (hq : s.notices.queue = n :: more) :
    nextFrame s = if delivering s then some (.notice n s.link.noticeCount true) else none := by
  unfold nextFrame
  rw [h, ho, hq]

theorem delivering_iff (s : State) : delivering s = true ↔ s.link.state ≠ .linkLost ∧ s.link.hold = false := by
  simp [delivering]

theorem frameSent_idle {s : State} (h : s.tx = none) : frameSent s = s := by
  unfold frameSent
  rw [h]

theorem frameSent_notice {s : State} {n : Notice} {tag : Nat} {queued : Bool} (h : s.tx = some (.notice n tag queued)) :
    frameSent s = { s with
      tx := none
      link := { s.link with noticeCount := (s.link.noticeCount + 1) % 256 }
      notices := if queued then { s.notices with queue := s.notices.queue.drop 1 } else s.notices } := by
  unfold frameSent
  rw [h]
  cases queued <;> rfl

theorem frameSent_pressure {s : State} {n : Nat} (h : s.tx = some (.pressure n)) : frameSent s = { s with tx := none } := by
  unfold frameSent
  rw [h]
  rfl

theorem frameSent_reply {s : State} {r : Reply} (h : s.tx = some (.reply r)) (hreset : s.link.resetTaken = false) :
    frameSent s = takeNext { s with tx := none, link := { s.link with inHand := none } } := by
  unfold frameSent
  rw [h]
  show (if s.link.resetTaken = true then _ else _) = _
  rw [hreset, if_neg Bool.false_ne_true]
  rfl

theorem takeNext_nil {s : State} (h : s.link.buffer = []) : takeNext s = s := by
  unfold takeNext
  rw [h]

theorem takeNext_cons {s : State} {f : Frame} {fs : List Frame} (h : s.link.buffer = f :: fs) :
    takeNext s = takeFrame f { s with link := { s.link with buffer := fs } } := by
  unfold takeNext
  rw [h]
  rfl

/-- Settles O9. -/
theorem frameSentAndTheNextFrame : Obligations.FrameSentAndTheNextFrame := by
  have htaken : ∀ (s : State) (r : Reply) (f : Frame) (rest : List Frame), s.powered = true → s.tx = some (.reply r) →
      s.link.resetTaken = false → s.link.buffer = f :: rest → exec .frameSent s = .next (finish
        (takeFrame f { s.fresh with tx := none, link := { s.link with inHand := none, buffer := rest } })) :=
    fun s r f rest hp ht hreset hb => exec_leaves hp rfl ((frameSent_reply (s := s.fresh) ht hreset).trans (takeNext_cons hb))
  refine ⟨fun s hp ht => exec_leaves hp rfl (frameSent_idle (s := s.fresh) ht),
    fun s n tag queued hp ht => exec_leaves hp rfl (frameSent_notice (s := s.fresh) ht),
    fun s n hp ht => exec_leaves hp rfl (frameSent_pressure (s := s.fresh) ht),
    fun s r hp ht hreset hb => exec_leaves hp rfl ((frameSent_reply (s := s.fresh) ht hreset).trans (takeNext_nil hb)),
    fun s r tag q rest hp ht hreset hb hq => ?_, htaken, fun s r ht hr => ?_, fun s n more ht hr ho => ?_,
    fun s n more ht hr ho hq => ?_, fun s f ht => finish_sending ht⟩
  · rw [htaken s r _ rest hp ht hreset hb, takeFrame_params tag hq]
  · rw [finish_idle ht (nextFrame_reply hr)]
    rfl
  · rw [finish_idle ht (nextFrame_pressure hr ho)]
    have hdrop : s.notices.offers.drop 1 = more := by rw [ho]; rfl
    rw [← hdrop]
    rfl
  · by_cases hd : delivering s = true
    · rw [finish_idle ht (by rw [nextFrame_notice hr ho hq, if_pos hd]), if_pos ((delivering_iff s).1 hd)]
      rfl
    · rw [finish_nothing (by rw [nextFrame_notice hr ho hq, if_neg hd]), if_neg (mt (delivering_iff s).2 hd), ← ht]

/-! ### Supervision (R181, R203) -/

theorem applySafeState_general (t u : Terminal) (s : State) :
    (applySafeState t s).outputs.general[u] =
      if u = t ∧ s.terminals.assignment[t].role = .generalOut ∧ s.terminals.assignment[t].safe = some .off then ⟨false, none⟩
      else if u = t ∧ s.terminals.assignment[t].role = .generalOut ∧ s.terminals.assignment[t].safe = some .on then
        ⟨true, none⟩
      else s.outputs.general[u] := by
  have hset : ∀ r, (setGeneral t r s).outputs.general[u] = if u = t then r else s.outputs.general[u] := fun r => by
    simp [setGeneral, Vector.getElem_set, Fin.ext_iff, eq_comm]
  unfold applySafeState
  dsimp only
  split
  · next hrole => split <;> simp_all [-Fin.getElem_fin, outputOff]
  · next hrole => simp [-Fin.getElem_fin, hrole]

theorem applySafeState_eq (t : Terminal) (s : State) : applySafeState t s =
    { s with outputs := { s.outputs with general := (applySafeState t s).outputs.general } } := by
  unfold applySafeState
  dsimp only
  split
  · split <;> rfl
  · rfl

/-- The safe states of a list of terminals, each applied in turn. -/
theorem foldl_applySafeState (l : List Terminal) (s : State) :
    l.foldl (fun t n => applySafeState n t) s =
      { s with outputs := { s.outputs with general := (l.foldl (fun t n => applySafeState n t) s).outputs.general } } ∧
    ∀ u : Terminal, (l.foldl (fun t n => applySafeState n t) s).outputs.general[u] =
      if u ∈ l ∧ s.terminals.assignment[u].role = .generalOut ∧ s.terminals.assignment[u].safe = some .off then
        ⟨false, none⟩
      else if u ∈ l ∧ s.terminals.assignment[u].role = .generalOut ∧ s.terminals.assignment[u].safe = some .on then
        ⟨true, none⟩
      else s.outputs.general[u] := by
  induction l generalizing s with
  | nil => exact ⟨rfl, fun u => by simp⟩
  | cons n l ih =>
    obtain ⟨hframe, hgeneral⟩ := ih (applySafeState n s)
    have hn := applySafeState_eq n s
    have hassign : (applySafeState n s).terminals = s.terminals := by rw [hn]
    refine ⟨by rw [List.foldl_cons, hframe, hn], fun u => ?_⟩
    rw [List.foldl_cons, hgeneral, hassign, applySafeState_general]
    by_cases hu : u = n
    · subst hu; grind
    · simp [hu]

/-- The link down (R203): the hold ends, the supervision timer stops and the length of the loss counts from 0. -/
def linkDown (s : State) : State :=
  { s with link := { s.link with state := .linkLost, supervision := none, hold := false, lostMs := 0 } }

theorem loseLink_of_up {s : State} (h : s.link.state = .linkUp) (ht : s.link.supervision.isSome = true) :
    loseLink s = allTerminals.foldl (fun t n => applySafeState n t) (addAlarm .link (linkDown s)) :=
  if_pos ⟨h, ht⟩

theorem addAlarm_frame (c : AlarmCause) (s : State) : addAlarm c s = { s with alarm := (addAlarm c s).alarm } := by
  obtain ⟨-, e⟩ | ⟨-, e⟩ := addAlarm_cases c s <;> rw [e]
  rfl

theorem removeAlarm_frame (c : AlarmCause) (s : State) : removeAlarm c s = { s with alarm := (removeAlarm c s).alarm } := by
  obtain ⟨-, e⟩ | ⟨-, e⟩ := removeAlarm_cases c s <;> rw [e]
  rfl

/-- Settles O10. -/
theorem supervisionTimeoutLosesTheLink : Obligations.SupervisionTimeoutLosesTheLink := by
  refine ⟨fun s hp hup ht => ⟨_, exec_leaves hp rfl (loseLink_of_up (s := s.fresh) hup ht), ?_⟩,
    fun s hp hno => exec_leaves hp rfl (if_neg ?_)⟩
  · obtain ⟨hframe, hgeneral⟩ := foldl_applySafeState allTerminals (addAlarm .link (linkDown s.fresh))
    have halarm := addAlarm_frame .link (linkDown s.fresh)
    have hcauses := fun c => mem_addAlarm .link c (linkDown s.fresh)
    generalize addAlarm .link (linkDown s.fresh) = v at hframe hgeneral halarm hcauses ⊢
    generalize allTerminals.foldl (fun t n => applySafeState n t) v = u at hframe hgeneral ⊢
    have hu : u.alarm = v.alarm := by rw [hframe]
    refine ⟨?_, ⟨?_, fun c hc => ?_⟩, fun t => ?_⟩
    · rw [hu, hframe, halarm]
      rfl
    · exact hu ▸ (hcauses .link).2 (.inl rfl)
    · exact hu ▸ (hcauses c).2 (.inr hc)
    · have ht := hgeneral t
      rw [halarm] at ht
      simp only [mem_allTerminals, true_and] at ht
      exact ht
  · rintro ⟨hup, ht⟩
    rcases hno with h | h
    · exact h hup
    · exact absurd ht (by rw [show s.fresh.link.supervision = none from h]; decide)

/-- What a frame lost on the line adds: the receiver gathers, one byte after the other, what the length announced. -/
theorem receive_gathering {n : Byte} (l : List Byte) {got : List Byte} {g : Timer} {s : State}
    (h : s.link.rx = some ⟨n :: got, g⟩) (hl : got.length + l.length ≤ n.toNat) : ∃ g',
    l.foldl (fun t b => receiveByte b t) s = { s with link := { s.link with rx := some ⟨n :: got ++ l, g'⟩ } } := by
  induction l generalizing got g s with
  | nil => exact ⟨g, by rw [List.foldl_nil, List.append_nil, ← h]⟩
  | cons b l ih =>
    rw [List.length_cons] at hl
    have hbyte := receiveByte_gathering b h (by rw [gathered_cons, beq_eq_false_iff_ne]; omega) (.inl (List.cons_ne_nil _ _))
    rw [List.foldl_cons, hbyte]
    obtain ⟨g', e⟩ := ih (got := got ++ [b]) (g := ⟨5, 0⟩)
      (s := { s with link := { s.link with rx := some ⟨n :: got ++ [b], ⟨5, 0⟩⟩ } }) rfl (by simp; omega)
    refine ⟨g', e.trans ?_⟩
    simp

/-- The bytes of a whole frame before its check byte, received by a hunting receiver. -/
theorem receive_frameBody (kind tag : Byte) {ps : List Byte} (hps : ps.length ≤ 253) {s : State} (h : s.link.rx = none) :
    ∃ g, (167 :: frameBody kind tag ps).foldl (fun t b => receiveByte b t) s =
      { s with link := { s.link with rx := some ⟨frameBody kind tag ps, g⟩ } } := by
  have hn : (BitVec.ofNat 8 (ps.length + 2)).toNat = ps.length + 2 := by
    rw [BitVec.toNat_ofNat]
    omega
  rw [List.foldl_cons, receiveByte_hunting 167 h, if_pos rfl, frameBody, List.foldl_cons,
    receiveByte_gathering _ rfl rfl (.inr (by omega))]
  obtain ⟨g, e⟩ := receive_gathering (n := BitVec.ofNat 8 (ps.length + 2)) (kind :: tag :: ps) (got := []) (g := ⟨5, 0⟩)
    (s := { s with link := { s.link with rx := some ⟨[BitVec.ofNat 8 (ps.length + 2)], ⟨5, 0⟩⟩ } }) rfl
    (by simp only [List.length_cons, List.length_nil]; omega)
  exact ⟨g, e⟩

theorem arrive_params (tag : Byte) {r : Request} (hr : r.wellFormed = true) (s : State) :
    arrive ⟨r.code, tag, r.params⟩ s = arriveRequest tag r s := by
  unfold arrive arriveRequest
  rw [takeFrame_params tag hr]

/-- A frame with its own check byte arrives (R198, R199). -/
theorem checkFrame_right (tag : Byte) {r : Request} (hr : r.wellFormed = true) (s : State) :
    checkFrame (frameBody r.code tag r.params) (crc8 (frameBody r.code tag r.params)) s =
      arriveRequest tag r (supervise { s with link := { s.link with rx := none } }) := by
  rw [← arrive_params tag hr]
  exact if_pos rfl

theorem supervise_of_kept {s : State} (h : s.link.state ≠ .linkLost) : supervise s = restartSupervision s := if_neg h

theorem supervise_of_lost {s : State} (h : s.link.state = .linkLost) : supervise s =
    record .linkRestored { value := some (min (s.link.lostMs / 1000) 2147483647 : Nat) }
      (removeAlarm .link (restartSupervision s)) := if_pos h

theorem supervise_link (s : State) : (supervise s).link = (restartSupervision s).link := by
  by_cases h : s.link.state = .linkLost
  · rw [supervise_of_lost h]
    obtain ⟨n, x, -, -, e⟩ := record_frame .linkRestored { value := some ((min (s.link.lostMs / 1000) 2147483647 : Nat) : Int) }
      (removeAlarm .link (restartSupervision s))
    rw [e, removeAlarm_frame]
  · rw [supervise_of_kept h]

/-- Settles O7: the bytes gathered one by one, and the link's supervision restarted. -/
theorem frameOnTheLineIsItsRequest : Obligations.FrameOnTheLineIsItsRequest := by
  refine ⟨fun s tag r hr hrx => ?_, fun s b hp => exec_on hp rfl, fun s tag r g hp hr hrx => ?_,
    fun s => ⟨restartSupervision s, ?_, ?_, rfl, supervise_of_kept, fun h => ⟨?_, supervise_of_lost h⟩⟩⟩
  · have hlen := (wellFormed_iff r).1 hr
    obtain ⟨g, e⟩ := receive_frameBody r.code tag hlen hrx
    have hidle : { s with link := { s.link with rx := none } } = s := by rw [← hrx]
    rw [requestFrame, frameBytes, ← List.cons_append, List.foldl_append, e, List.foldl_cons, List.foldl_nil,
      receiveByte_of_gathered _ rfl (gathered_frameBody _ tag hlen), checkFrame_right tag hr]
    exact congrArg (fun t => arriveRequest tag r (supervise t)) hidle
  · refine exec_leaves hp rfl ?_
    rw [completeFrame_of_rx (s := s.fresh) _ hrx (gathered_frameBody _ tag ((wellFormed_iff r).1 hr)), checkFrame_right tag hr]
    rfl
  · rw [supervise_link]; rfl
  · rw [supervise_link]; rfl
  · rw [supervise_of_lost h]
    obtain ⟨n, x, -, -, e⟩ := record_frame .linkRestored { value := some ((min (s.link.lostMs / 1000) 2147483647 : Nat) : Int) }
      (removeAlarm .link (restartSupervision s))
    rw [e]
    simp

end Sys2Proof.Machine
end

section
/-! PROOFS. The small writes of the clock, the masks, the hold and the totals; the trend ring taken and read. -/

namespace Sys2Proof.Machine

/-! ### What recording reads and changes -/

theorem record_eq_with (k : NoticeKind) (b : NoticeBody) (s : State) :
    record k b s = { s with notices := (record k b s).notices, tx := (record k b s).tx } :=
  recordJoinsTheQueue.2.2.2.2 k b s

/-- Recording reads the queue, the hold, the time tag and the transmitter only. -/
theorem record_congr {s t : State} (k : NoticeKind) (b : NoticeBody) (hnotices : t.notices = s.notices) (htx : t.tx = s.tx)
    (htag : t.clock.tag = s.clock.tag) (hhold : t.link.hold = s.link.hold) :
    (record k b t).notices = (record k b s).notices ∧ (record k b t).tx = (record k b s).tx := by
  by_cases hk : k ∈ s.notices.disabled
  · have hs : record k b s = s := recordJoinsTheQueue.1 k b s hk
    have ht : record k b t = t := recordJoinsTheQueue.1 k b t (hnotices ▸ hk)
    rw [hs, ht]
    exact ⟨hnotices, htx⟩
  · rw [record_of_enabled b hk, record_of_enabled b (hnotices ▸ hk), enqueue_notices, enqueue_notices, enqueue_tx, enqueue_tx,
      hnotices, htx, htag, hhold]
    exact ⟨rfl, rfl⟩

/-! ### Clock, masks, hold and totals (R148, R186, R190, R202) -/

/-- A request taken at once: what its owning unit leaves, answered, whatever the unit made of the request in hand. -/
theorem exec_taken {i : Instr} {tag code : Byte} {r : Request} {s u v : State} {res : Result} {body : List Byte}
    (hi : i.request? = some (tag, r)) (hcode : r.code = code) (hr : r.wellFormed = true) (hs : Ready s)
    (hact : act r (holdRequest code tag s.fresh) = ⟨u, res, body⟩) (hu : u.answered code tag res body = v) :
    exec i s = .next (finish v) := by
  subst hu
  refine exec_of_act hi hcode hr hs hact ?_
  have hkept := (lineKept_act r (holdRequest code tag s.fresh)).inHand
  rw [hact] at hkept
  exact hkept

theorem atCode_eq_none_iff {α : Type} {l : List α} {b : Byte} : atCode l b = none ↔ l.length ≤ b.toNat :=
  List.getElem?_eq_none_iff

theorem atCode_noticeKind {b : Byte} {k : NoticeKind} : atCode allNoticeKinds b = some k ↔ BitVec.ofNat 8 k.ctorIdx = b := by
  have hplace : ∀ n : Fin 32, ∀ k, allNoticeKinds[n.val]? = some k → k.ctorIdx = n.val := by decide
  constructor
  · intro h
    have hlt : b.toNat < 32 := (List.getElem?_eq_some_iff.1 h).1
    rw [hplace ⟨b.toNat, hlt⟩ k h, BitVec.ofNat_toNat, BitVec.setWidth_eq]
  · rintro rfl
    cases k <;> rfl

/-- Reading each member of a list: the members read, in order. -/
theorem mapM_eq_some_iff {α β : Type} {f : α → Option β} {l : List α} {ys : List β} :
    l.mapM f = some ys ↔ l.map f = ys.map some := by
  induction l generalizing ys with
  | nil => cases ys <;> simp
  | cons a l ih => cases ys <;> simp [ih, Option.bind_eq_some_iff]

theorem mapM_eq_none_of_mem {α β : Type} {f : α → Option β} {l : List α} {a : α} (ha : a ∈ l) (hf : f a = none) :
    l.mapM f = none := by
  cases h : l.mapM f with
  | none => rfl
  | some ys =>
    have hmem : f a ∈ ys.map some := mapM_eq_some_iff.1 h ▸ List.mem_map_of_mem ha
    simp [hf] at hmem

theorem exists_mapM {α β : Type} {f : α → Option β} {l : List α} (h : ∀ a ∈ l, (f a).isSome = true) :
    ∃ ys, l.mapM f = some ys := by
  cases hm : l.mapM f with
  | some ys => exact ⟨ys, rfl⟩
  | none =>
    induction l with
    | nil => simp at hm
    | cons a l ih =>
      obtain ⟨y, hy⟩ := Option.isSome_iff_exists.1 (h a List.mem_cons_self)
      simp only [List.mapM_cons, hy, Option.bind_eq_bind, Option.bind_some, Option.bind_eq_none_iff] at hm
      cases hl : l.mapM f with
      | none => exact absurd (ih (fun b hb => h b (List.mem_cons_of_mem _ hb)) hl) (by simp)
      | some ys => exact absurd (hm ys hl) (by simp)

theorem mem_of_mapM {α β : Type} {f : α → Option β} {l : List α} {ys : List β} (h : l.mapM f = some ys) {y : β} :
    y ∈ ys ↔ ∃ a ∈ l, f a = some y := by
  rw [← List.mem_map, mapM_eq_some_iff.1 h, List.mem_map]
  simp

theorem parseKinds_of_lt {l : List Byte} (hlen : l.length ≤ 32) (h : ∀ b ∈ l, b.toNat < 32) :
    ∃ ks, parseKinds l = some ks ∧ ∀ k : NoticeKind, k ∈ ks ↔ BitVec.ofNat 8 k.ctorIdx ∈ l := by
  obtain ⟨ks, hks⟩ := exists_mapM (f := atCode allNoticeKinds) (l := l) fun b hb => by
    rw [Option.isSome_iff_ne_none, ne_eq, atCode_eq_none_iff]
    exact Nat.not_le_of_lt (h b hb)
  refine ⟨ks, (if_pos hlen).trans hks, fun k => ?_⟩
  simp only [mem_of_mapM hks, atCode_noticeKind, exists_eq_right']

theorem parseKinds_of_ge {l : List Byte} (h : ∃ b ∈ l, 32 ≤ b.toNat) : parseKinds l = none := by
  obtain ⟨b, hb, hge⟩ := h
  unfold parseKinds
  have hbad : atCode allNoticeKinds b = none := atCode_eq_none_iff.2 hge
  rw [mapM_eq_none_of_mem hb hbad, ite_self]

theorem actNoticeMask_of_parsed {ds es : List Byte} {dks eks : List NoticeKind} {s : State} (hd : parseKinds ds = some dks)
    (he : parseKinds es = some eks) : actNoticeMask ds es s =
      ⟨s.modNotices fun n => { n with disabled := disabledAfter n.disabled dks eks }, .ok,
        maskBytes (s.modNotices fun n => { n with disabled := disabledAfter n.disabled dks eks })⟩ := by
  unfold actNoticeMask
  rw [hd, he]

theorem actNoticeMask_of_none {ds es : List Byte} (s : State) (h : parseKinds ds = none ∨ parseKinds es = none) :
    actNoticeMask ds es s = plain .badValue s := by
  unfold actNoticeMask
  split
  · next hd he => simp [hd, he] at h
  · rfl

theorem beginHold_of_held {s : State} (h : s.link.hold = true) : beginHold s = s := if_pos h

theorem beginHold_of_free {s : State} (h : s.link.hold = false) : beginHold s = { s with
    link := { s.link with hold := true }
    notices := { s.notices with
      pressure := decide (16 ≤ s.notices.queue.length)
      offers := s.notices.offers ++ if 16 ≤ s.notices.queue.length then [s.notices.queue.length] else [] } } := by
  have hunheld : beginHold s = checkPressure { s with
      link := { s.link with hold := true }, notices := { s.notices with pressure := false } } :=
    if_neg (by simp [h])
  rw [hunheld]
  obtain ⟨n, -, e⟩ := checkPressure_frame { s with
    link := { s.link with hold := true }, notices := { s.notices with pressure := false } }
  have hnotices := checkPressure_notices { s with
    link := { s.link with hold := true }, notices := { s.notices with pressure := false } }
  rw [e] at hnotices ⊢
  have hn : n = _ := hnotices
  rw [hn]
  simp

theorem actSetTime_eq (v : BitVec 32) (r : Byte) (s : State) : actSetTime v r s =
    if r = 1 ∨ r = 10 ∨ r = 100 then
      ⟨{ s with clock := ⟨v.toNat, r.toNat, ⟨r.toNat, 0⟩⟩ }, .ok, natBytes 4 v.toNat ++ [r]⟩
    else plain .badValue s := by
  have hr : (r.toNat = 1 ∨ r.toNat = 10 ∨ r.toNat = 100) ↔ (r = 1 ∨ r = 10 ∨ r = 100) := by
    simp only [← BitVec.toNat_inj]
    rfl
  unfold actSetTime
  simp only [hr]
  split
  · rw [codeByte, BitVec.ofNat_toNat, BitVec.setWidth_eq]
    rfl
  · rfl

/-- Settles O52. -/
theorem clockMaskHoldAndTotals : Obligations.ClockMaskHoldAndTotals := by
  refine ⟨fun s tag r v h => ?_, fun s hp => exec_leaves hp rfl rfl, fun s tag ds es h hdl hel hd he => ?_,
    fun s tag ds es h hlen hbad => ?_, fun s tag h hhold => ?_, fun s tag h hhold => ?_,
    fun s tag h => exec_taken rfl rfl rfl h rfl rfl, fun s tag h => exec_taken rfl rfl rfl h rfl rfl, fun s tag b h hb => ?_,
    fun c => rfl⟩
  · have hact := actSetTime_eq v r (holdRequest 35 tag s.fresh)
    by_cases hr : r = 1 ∨ r = 10 ∨ r = 100
    · rw [if_pos hr] at hact ⊢
      exact exec_taken (i := .setTime tag v r) rfl rfl rfl h hact rfl
    · rw [if_neg hr] at hact ⊢
      exact exec_of_act_unchanged rfl rfl rfl h hact
  · obtain ⟨dks, hdks, hdm⟩ := parseKinds_of_lt hdl hd
    obtain ⟨eks, heks, hem⟩ := parseKinds_of_lt hel he
    refine ⟨{ s.fresh with notices := { s.notices with disabled := disabledAfter s.notices.disabled dks eks } },
      ?_, rfl, fun k => ?_⟩
    · refine exec_taken (i := .noticeMask tag ds es) rfl rfl (decide_eq_true ?_) h (actNoticeMask_of_parsed hdks heks) rfl
      simp only [Request.size, maxParams]
      omega
    · simp [disabledAfter, hdm, hem, or_comm]
  · refine exec_of_act_unchanged rfl rfl (decide_eq_true ?_) h
      (actNoticeMask_of_none _ (hbad.imp parseKinds_of_ge parseKinds_of_ge))
    simp only [Request.size, maxParams]
    omega
  · have hsame : beginHold (holdRequest 37 tag s.fresh) = holdRequest 37 tag s.fresh := beginHold_of_held hhold
    refine exec_of_act_unchanged (r := .holdReports) rfl rfl rfl h ?_
    show (⟨beginHold (holdRequest 37 tag s.fresh), .ok, holdBytes (beginHold (holdRequest 37 tag s.fresh))⟩ : Answer) = _
    rw [hsame, holdBytes, show (holdRequest 37 tag s.fresh).link.hold = true from hhold]
    rfl
  · have hheld := beginHold_of_free (s := holdRequest 37 tag s.fresh) hhold
    have hact : act .holdReports (holdRequest 37 tag s.fresh) = ⟨beginHold (holdRequest 37 tag s.fresh), .ok,
      holdBytes (beginHold (holdRequest 37 tag s.fresh))⟩ := rfl
    rw [hheld] at hact
    exact exec_taken (i := .holdReports tag) rfl rfl rfl h hact rfl
  · refine exec_of_act_unchanged rfl rfl rfl h (if_neg fun hcode => hb ?_)
    exact BitVec.eq_of_toNat_eq hcode

/-! ### The trend ring (R191 to R194) -/

theorem recordsFrom_split {before after : List TrendRecord} {r : TrendRecord} (h : ∀ x ∈ before, x.index ≠ r.index) :
    recordsFrom (before ++ r :: after) r.index = r :: after := by
  unfold recordsFrom
  rw [List.dropWhile_append_of_pos (by simpa using h), List.dropWhile_cons_of_neg (by simp)]

theorem recordsFrom_eq_nil {ring : List TrendRecord} {m : Nat} (h : ∀ r ∈ ring, r.index ≠ m) : recordsFrom ring m = [] := by
  unfold recordsFrom
  rw [List.dropWhile_eq_nil_iff]
  simpa using h

theorem unreadCount_of_none {x : Trend} (h : x.marker = none) : unreadCount x = x.ring.length := by
  unfold unreadCount
  rw [h]

theorem unreadCount_of_lost {x : Trend} {m : Nat} (h : x.marker = some m) (hm : recordsFrom x.ring m = []) :
    unreadCount x = x.ring.length := by
  unfold unreadCount
  rw [h]
  dsimp only
  rw [hm]

theorem unreadCount_of_found {x : Trend} {m : Nat} {r : TrendRecord} {newer : List TrendRecord} (h : x.marker = some m)
    (hm : recordsFrom x.ring m = r :: newer) : unreadCount x = newer.length := by
  unfold unreadCount
  rw [h]
  dsimp only
  rw [hm]

theorem unreadCount_nil {x : Trend} (h : x.ring = []) : unreadCount x = 0 := by
  unfold unreadCount
  rw [h]
  split
  · rfl
  · rfl

/-- What the TREND_HALF check leaves: the flag, and the notice where it was armed and 128 records are unread. -/
theorem checkTrendHalf_eq (s : State) : checkTrendHalf s =
    let half := if s.trend.armed = true ∧ 128 ≤ unreadCount s.trend then
      record .trendHalf { value := some (unreadCount s.trend : Int) } s else s
    { s with
      trend := { s.trend with armed := s.trend.armed && decide (unreadCount s.trend < 128) }
      notices := half.notices, tx := half.tx } := by
  dsimp only
  by_cases h : s.trend.armed = true ∧ 128 ≤ unreadCount s.trend
  · have hrecord : checkTrendHalf s = record .trendHalf { value := some (unreadCount s.trend : Int) }
        { s with trend := { s.trend with armed := false } } := if_pos h
    obtain ⟨hn, hx⟩ := record_congr (s := s) (t := { s with trend := { s.trend with armed := false } }) .trendHalf
      { value := some (unreadCount s.trend : Int) } rfl rfl rfl rfl
    rw [hrecord, record_eq_with, hn, hx, if_pos h, decide_eq_false (by omega), Bool.and_false]
  · have hsame : checkTrendHalf s = s := if_neg h
    have harmed : (s.trend.armed && decide (unreadCount s.trend < 128)) = s.trend.armed := by
      cases harmed : s.trend.armed
      · rfl
      · simpa [harmed] using h
    rw [hsame, if_neg h, harmed]

theorem half_congr {s t : State} (p : Prop) [Decidable p] (k : NoticeKind) (b : NoticeBody) (hnotices : t.notices = s.notices)
    (htx : t.tx = s.tx) (htag : t.clock.tag = s.clock.tag) (hhold : t.link.hold = s.link.hold) :
    (if p then record k b t else t).notices = (if p then record k b s else s).notices ∧
    (if p then record k b t else t).tx = (if p then record k b s else s).tx := by
  split
  · exact record_congr k b hnotices htx htag hhold
  · exact ⟨hnotices, htx⟩

/-- What a reading leaves (R193): the flag armed where fewer than 128 records are unread, and else the check. -/
theorem afterReading_eq (s : State) : afterReading s =
    let half := if s.trend.armed = true ∧ 128 ≤ unreadCount s.trend then
      record .trendHalf { value := some (unreadCount s.trend : Int) } s else s
    { s with
      trend := { s.trend with armed := decide (unreadCount s.trend < 128) }, notices := half.notices, tx := half.tx } := by
  dsimp only
  unfold afterReading
  by_cases h : unreadCount s.trend < 128
  · have harm : s.modTrend (fun t => if unreadCount t < 128 then { t with armed := true } else t) =
        { s with trend := { s.trend with armed := true } } := by
      simp only [State.modTrend, if_pos h]
    have hunread : unreadCount { s.trend with armed := true } = unreadCount s.trend := rfl
    rw [harm, checkTrendHalf_eq]
    dsimp only
    rw [hunread, if_neg (by omega), if_neg (by omega), decide_eq_true h]
    rfl
  · have harm : s.modTrend (fun t => if unreadCount t < 128 then { t with armed := true } else t) = s := by
      simp only [State.modTrend, if_neg h]
    rw [harm, checkTrendHalf_eq]
    simp only [decide_eq_false h, Bool.and_false]

/-- Where the marker stands after a reading whose last record has this index (R193). -/
def markerAfter (last : Nat) (t : Trend) : Nat :=
  match t.marker with
  | none => last
  | some m =>
    match recordsFrom t.ring m with
    | [] => last
    | _ :: newer => if newer.any (·.index == last) then last else m

theorem moveMarker_eq (last : Nat) (t : Trend) : moveMarker last t = { t with marker := some (markerAfter last t) } := by
  cases hm : t.marker with
  | none => simp only [moveMarker, markerAfter, hm]
  | some m =>
    cases hr : recordsFrom t.ring m with
    | nil => simp only [moveMarker, markerAfter, hm, hr]
    | cons r newer =>
      simp only [moveMarker, markerAfter, hm, hr]
      split
      · rfl
      · rw [← hm]

theorem markerAfter_of_none {last : Nat} {t : Trend} (h : t.marker = none) : markerAfter last t = last := by
  unfold markerAfter
  rw [h]

theorem markerAfter_of_gone {last m : Nat} {t : Trend} (h : t.marker = some m) (hm : ∀ x ∈ t.ring, x.index ≠ m) :
    markerAfter last t = last := by
  unfold markerAfter
  rw [h]
  dsimp only
  rw [recordsFrom_eq_nil hm]

theorem markerAfter_of_split {last : Nat} {t : Trend} {older newer : List TrendRecord} {x : TrendRecord}
    (h : t.marker = some x.index) (hring : t.ring = older ++ x :: newer) (hx : ∀ y ∈ older, y.index ≠ x.index) :
    markerAfter last t = if ∃ y ∈ newer, y.index = last then last else x.index := by
  unfold markerAfter
  rw [h]
  dsimp only
  rw [hring, recordsFrom_split hx]
  simp only [List.any_eq_true, beq_iff_eq]

theorem actReadTrend_of_badCount {n : Byte} (start : BitVec 16) (s : State) (h : n = 0 ∨ 8 < n.toNat) :
    actReadTrend start n s = plain .badValue s := by
  refine if_pos (h.imp_left ?_)
  rintro rfl
  rfl

section
variable {n : Byte} {s : State}

theorem actReadTrend_of_inRing (start : BitVec 16) {last : TrendRecord} (h₁ : 1 ≤ n.toNat) (h₂ : n.toNat ≤ 8)
    (hring : inRing s.trend start.toNat = true)
    (hlast : (trendRecords s.trend start.toNat n.toNat).getLast? = some last) : actReadTrend start n s =
      trendReply (trendRecords s.trend start.toNat n.toNat) (afterReading
        { s with trend := { s.trend with marker := some (markerAfter last.index s.trend) } }) := by
  unfold actReadTrend
  rw [if_neg (by omega), if_pos hring]
  dsimp only
  rw [hlast]
  dsimp only
  rw [State.modTrend, moveMarker_eq]

theorem actReadTrend_of_next (start : BitVec 16) (h₁ : 1 ≤ n.toNat) (h₂ : n.toNat ≤ 8)
    (hring : inRing s.trend start.toNat = false) (he : start.toNat = s.trend.nextIndex) :
    actReadTrend start n s = trendReply [] (afterReading s) := by
  unfold actReadTrend
  rw [if_neg (by omega), hring, if_neg Bool.false_ne_true, if_pos he]

theorem actReadTrend_of_gone (start : BitVec 16) (h₁ : 1 ≤ n.toNat) (h₂ : n.toNat ≤ 8)
    (hring : inRing s.trend start.toNat = false) (hne : start.toNat ≠ s.trend.nextIndex) :
    actReadTrend start n s = ⟨afterReading s, .gone, natBytes 2 (goneIndex s)⟩ := by
  unfold actReadTrend
  rw [if_neg (by omega), hring, if_neg Bool.false_ne_true, if_neg hne]

end

theorem inRing_of_nil {t : Trend} (start : Nat) (h : t.ring = []) : inRing t start = false := by
  unfold inRing
  rw [h]
  rfl

theorem inRing_iff {t : Trend} {start : Nat} {newest : TrendRecord} (h : t.ring.getLast? = some newest) :
    inRing t start = true ↔ (newest.index + 65536 - start) % 65536 < t.ring.length := by
  unfold inRing
  rw [h]
  exact decide_eq_true_iff

theorem newestIndex_of_some {s : State} {newest : TrendRecord} (h : s.trend.ring.getLast? = some newest) :
    newestIndex s = newest.index := by
  rw [newestIndex, h]
  rfl

theorem goneIndex_of_some {s : State} {first : TrendRecord} (h : s.trend.ring.head? = some first) :
    goneIndex s = first.index := by
  rw [goneIndex, h]
  rfl

theorem goneIndex_of_nil {s : State} (h : s.trend.ring = []) : goneIndex s = s.trend.nextIndex := by
  rw [goneIndex, h]
  rfl

/-- A reading of an empty ring arms the flag and records nothing. -/
theorem afterReading_of_nil {s : State} (h : s.trend.ring = []) :
    afterReading s = { s with trend := { s.trend with armed := true } } := by
  rw [afterReading_eq]
  dsimp only
  rw [unreadCount_nil h, if_neg (by omega)]
  rfl

/-- What a reading leaves, its notice recorded in another state with the same queue, hold, time tag and transmitter. -/
theorem afterReading_from {s t : State} (hnotices : t.notices = s.notices) (htx : t.tx = s.tx)
    (htag : t.clock.tag = s.clock.tag) (hhold : t.link.hold = s.link.hold) : afterReading t =
    let half := if t.trend.armed = true ∧ 128 ≤ unreadCount t.trend then
      record .trendHalf { value := some (unreadCount t.trend : Int) } s else s
    { t with
      trend := { t.trend with armed := decide (unreadCount t.trend < 128) }, notices := half.notices, tx := half.tx } := by
  obtain ⟨hn, hx⟩ := half_congr (t.trend.armed = true ∧ 128 ≤ unreadCount t.trend) .trendHalf
    { value := some (unreadCount t.trend : Int) } hnotices htx htag hhold
  rw [afterReading_eq]
  dsimp only
  rw [hn, hx]

theorem afterReading_ring (s : State) : (afterReading s).trend.ring = s.trend.ring := by rw [afterReading_eq]

theorem afterReading_unread (s : State) : unreadCount (afterReading s).trend = unreadCount s.trend := by
  rw [afterReading_eq]
  rfl

/-- The state with a record of it in the ring and the sample timer started again (R191, R192). -/
def sampled (s : State) : State :=
  { s with trend := { s.trend with
      ring := joinRing (snapshot s) s.trend.ring, nextIndex := (s.trend.nextIndex + 1) % 65536, fast := s.trend.fast - 1
      sample := ⟨if s.trend.fast - 1 = 0 then s.paramNat 63 * 1000 else 1000, 0⟩ } }

theorem takeSample_eq (s : State) : takeSample s = checkTrendHalf (sampled s) := rfl

/-- Settles O53. -/
theorem trendRingIsTakenAndRead : Obligations.TrendRingIsTakenAndRead := by
  refine ⟨fun s hp => ⟨_, exec_on hp rfl, ?_⟩, fun x => ⟨unreadCount_of_none, fun m hm hno => ?_, fun before after r hring hm hno => ?_⟩,
    fun s tag n start h hn => exec_of_act_unchanged rfl rfl rfl h (actReadTrend_of_badCount start _ hn),
    fun x start => ⟨inRing_of_nil start, fun newest h => inRing_iff h⟩,
    fun s tag n start h h₁ h₂ hring hne => ?_, fun s tag n start h h₁ h₂ hring he => ?_,
    fun s tag n start first newest h h₁ h₂ hin hfirst hnewest => ?_,
    fun s tag n start before after r last newest h h₁ h₂ hin hring hr hno hlast hnewest => ?_⟩
  · obtain ⟨hn, -⟩ := half_congr (s := s) (t := sampled s.fresh)
      ((sampled s.fresh).trend.armed = true ∧ 128 ≤ unreadCount (sampled s.fresh).trend) .trendHalf
      { value := some (unreadCount (sampled s.fresh).trend : Int) } rfl rfl rfl rfl
    rw [takeSample_eq, checkTrendHalf_eq]
    refine ⟨rfl, rfl, rfl, ?_, rfl, rfl, hn.trans (apply_ite State.notices _ _ _), rfl⟩
    show (⟨if s.trend.fast - 1 = 0 then s.paramNat 63 * 1000 else 1000, 0⟩ : Timer) = _
    congr 1
    split <;> split <;> omega
  · exact unreadCount_of_lost hm (recordsFrom_eq_nil hno)
  · exact unreadCount_of_found hm (by rw [hring, recordsFrom_split hno])
  · have hact := actReadTrend_of_gone (s := holdRequest 7 tag s.fresh) start h₁ h₂ (inRing_of_nil _ hring) hne
    rw [afterReading_of_nil (by exact hring), goneIndex_of_nil (by exact hring)] at hact
    exact exec_taken (i := .readTrend tag start n) rfl rfl rfl h hact rfl
  · have hact := actReadTrend_of_next (s := holdRequest 7 tag s.fresh) start h₁ h₂ (inRing_of_nil _ hring) he
    rw [afterReading_of_nil (by exact hring), trendReply, unreadCount_nil (by exact hring)] at hact
    exact ⟨_, exec_taken (i := .readTrend tag start n) rfl rfl rfl h hact rfl⟩
  · have hreading := afterReading_from (s := s) (t := holdRequest 7 tag s.fresh) rfl rfl rfl rfl
    dsimp only
    by_cases he : start.toNat = s.trend.nextIndex
    · have hact := actReadTrend_of_next (s := holdRequest 7 tag s.fresh) start h₁ h₂ hin he
      rw [hreading, trendReply, newestIndex_of_some (by exact hnewest)] at hact
      rw [if_pos he]
      exact exec_taken (i := .readTrend tag start n) rfl rfl rfl h hact rfl
    · have hact := actReadTrend_of_gone (s := holdRequest 7 tag s.fresh) start h₁ h₂ hin he
      rw [hreading, goneIndex_of_some (by exact hfirst)] at hact
      rw [if_neg he]
      exact exec_taken (i := .readTrend tag start n) rfl rfl rfl h hact rfl
  · have hrecords : trendRecords s.trend start.toNat n.toNat = (r :: after).take n.toNat := by
      rw [trendRecords, hring, ← hr, recordsFrom_split hno]
    have hact := actReadTrend_of_inRing (s := holdRequest 7 tag s.fresh) start h₁ h₂ hin (hrecords ▸ hlast)
    have hend : s.trend.ring.getLast? = some newest := by
      rw [hring, List.getLast?_append, hnewest]
      rfl
    rw [afterReading_from (s := s) (by rfl) (by rfl) (by rfl) (by rfl), trendReply, newestIndex_of_some (by exact hend),
      show trendRecords (holdRequest 7 tag s.fresh).trend start.toNat n.toNat = _ from hrecords] at hact
    exact ⟨markerAfter last.index s.trend, exec_taken (i := .readTrend tag start n) rfl rfl rfl h hact rfl,
      markerAfter_of_none, fun m hm hgone => markerAfter_of_gone hm hgone,
      fun older newer x hm hsplit hx => markerAfter_of_split hm hsplit hx⟩

end Sys2Proof.Machine
end

section
/-! PROOFS. The setpoint requests and the active pair they leave (R79 to R94). -/

namespace Sys2Proof.Machine

variable {s : State} {k : OverrideKind} {x : Setting}

/-! ### The governing source and its pair (R86, R87) -/

theorem governingSource_shadow {g : Governor} (h : g.shadow = .idle ∨ g.overrides = []) : governingSource g = .shadow := by
  obtain h | h := h
  · exact if_pos h
  · simp [governingSource, h, allOverrides]

theorem governingSource_over {g : Governor} (hk : k ∈ g.overrides) (hs : g.shadow ≠ .idle)
    (hmin : ∀ j ∈ g.overrides, k.ctorIdx ≤ j.ctorIdx) : governingSource g = .over k := by
  have hfind : allOverrides.find? (· ∈ g.overrides) = some k := by
    have hlow (j : OverrideKind) (hj : j.ctorIdx < k.ctorIdx) : j ∉ g.overrides := fun h => by
      have := hmin j h
      omega
    cases k with
    | sensorFallback => simp [allOverrides, hk]
    | priming => simp [allOverrides, hk, hlow .sensorFallback (by decide)]
    | switchover => simp [allOverrides, hk, hlow .sensorFallback (by decide), hlow .priming (by decide)]
  rw [governingSource, if_neg hs, hfind]

theorem derivedPair_shadow (s : State) {g : Governor} (h : governingSource g = .shadow) : derivedPair s g = g.shadow := by
  rw [derivedPair, h]

theorem derivedPair_kept (s : State) {g : Governor} (h : governingSource g = .over k) (hg : g.source = .over k) :
    derivedPair s g = g.active := by
  rw [derivedPair, h]
  exact if_pos hg

theorem derivedPair_formed (s : State) {g : Governor} (h : governingSource g = .over k) (hg : g.source ≠ .over k) :
    derivedPair s g = formPair s g k := by
  rw [derivedPair, h]
  exact if_neg hg

theorem derivePair_active (s : State) : (derivePair s).governor.active = derivedPair s s.governor := by
  obtain ⟨_, _, h⟩ := derivePair_frame s
  rw [h]

theorem derivePair_source (s : State) : (derivePair s).governor.source = governingSource s.governor := by
  obtain ⟨_, _, h⟩ := derivePair_frame s
  rw [h]

theorem deriveFreeze_reseed (g : Governor) (h : g.reseed = true) : (deriveFreeze g).reseed = true := by
  unfold deriveFreeze
  split
  · split <;> simp [h]
  · exact h

theorem deriveFreeze_frozen (g : Governor) (h : g.frozen = true) : (deriveFreeze g).frozen = g.active.isSpeed := by
  rw [deriveFreeze, if_pos h]
  cases hact : g.active <;> simp [Setting.isSpeed, h]

/-- Settles O26: a derivation reads the first override of the set in rank order, and keeps the pair of one that went on
governing. -/
theorem activePairFollowsTheOverrides : Obligations.ActivePairFollowsTheOverrides := by
  intro s g h
  have hactive : h.active = derivedPair s g := derivePair_active s
  have hsource : h.source = governingSource g := derivePair_source s
  obtain ⟨frozen, reseed, hderive⟩ := derivePair_frame s
  have hh : h = { g with
      active := derivedPair s g, source := governingSource g, frozen := frozen, reseed := reseed } :=
    congrArg State.governor hderive
  refine ⟨?_, ?_, fun hidle => ?_, fun k hk hs hmin => ?_, fun hact hact' hne => ?_, fun hfrozen => ?_⟩
  · rw [hh, hderive]
  · rw [hh]
  · have hsrc := governingSource_shadow hidle
    exact ⟨hactive.trans (derivedPair_shadow s hsrc), hsource.trans hsrc⟩
  · have hsrc := governingSource_over hk hs hmin
    refine ⟨hsource.trans hsrc, fun hg => hactive.trans (derivedPair_kept s hsrc hg), fun hg => ?_⟩
    have hform : h.active = formPair s g k := hactive.trans (derivedPair_formed s hsrc hg)
    rw [hform]
    refine ⟨?_, ?_, ?_, ?_⟩
    · rintro c rfl hc
      simp [formPair, hc]
    · rintro rfl
      rfl
    · rintro p rfl hp
      simp [formPair, hp, switchoverPressure]
    · rintro r rfl hr
      simp [formPair, hr]
  · refine deriveFreeze_reseed _ ?_
    rw [hactive] at hact' hne
    rw [hsource] at hne
    have hneeds : needsReseed g (derivedPair s g) (governingSource g) = true := by simp [needsReseed, hact, hact', hne]
    exact Bool.or_eq_true_iff.2 (.inr hneeds)
  · rw [hactive]
    exact deriveFreeze_frozen _ hfrozen

/-! ### A shadow write (R81, R84, R91) -/

/-- The write begins sensor fallback, or finds it due in the set already (R91). -/
def FallsBack (x : Setting) (s : State) : Prop :=
  x.isPressure = true ∧ s.drive.pto = .engaged ∧ s.healthOf .dischargeP = .failed

theorem tryFallback_idle (h : ¬ FallsBack s.governor.shadow s ∨ .sensorFallback ∈ s.governor.overrides) :
    tryFallback s = s :=
  if_neg fun ⟨hpto, hshadow, hfail, hnew⟩ => h.elim (· ⟨hshadow, hpto, hfail⟩) hnew

theorem tryFallback_begins (h : FallsBack s.governor.shadow s) (hnew : .sensorFallback ∉ s.governor.overrides) :
    tryFallback s = beginOverride .sensorFallback
      (s.modGovernor fun g => { g with captured := some (capturedSpeed s.engineSpeed) }) :=
  if_pos ⟨h.2.1, h.1, h.2.2, hnew⟩

theorem beginOverride_new (h : s.drive.pto = .engaged) (hnew : k ∉ s.governor.overrides) :
    beginOverride k s = recordOverride k s.governor.source .overrideBegan
      (derivePair (s.modGovernor fun g => { g with overrides := insertIn allOverrides k g.overrides })) :=
  if_pos ⟨h, hnew⟩

theorem record_governor (n : NoticeKind) (b : NoticeBody) (s : State) : (record n b s).governor = s.governor := by
  obtain ⟨_, _, -, -, h⟩ := record_frame n b s
  rw [h]

theorem beginOverride_governor (h : s.drive.pto = .engaged) (hnew : k ∉ s.governor.overrides) :
    (beginOverride k s).governor =
      (derivePair (s.modGovernor fun g => { g with overrides := insertIn allOverrides k g.overrides })).governor := by
  rw [beginOverride_new h hnew]
  exact record_governor ..

theorem derivePair_overrides (s : State) : (derivePair s).governor.overrides = s.governor.overrides := by
  obtain ⟨_, _, h⟩ := derivePair_frame s
  rw [h]

theorem derivePair_shadow (s : State) : (derivePair s).governor.shadow = s.governor.shadow := by
  obtain ⟨_, _, h⟩ := derivePair_frame s
  rw [h]

theorem takeShadow_idle (h : ¬ FallsBack x s ∨ .sensorFallback ∈ s.governor.overrides) :
    takeShadow x s = derivePair (writeShadow x s) := by
  rw [takeShadow, tryFallback_idle (s := writeShadow x s) h]

/-- The state in which a write that begins sensor fallback derives the pair first (R91). -/
def fallenBack (x : Setting) (s : State) : State :=
  (writeShadow x s).modGovernor fun g =>
    { g with
      captured := some (capturedSpeed s.engineSpeed), overrides := insertIn allOverrides .sensorFallback g.overrides }

theorem takeShadow_falls (h : FallsBack x s) (hnew : .sensorFallback ∉ s.governor.overrides) :
    ∃ t, takeShadow x s = derivePair t ∧ t.governor = (derivePair (fallenBack x s)).governor := by
  refine ⟨_, rfl, ?_⟩
  rw [tryFallback_begins (s := writeShadow x s) h hnew, beginOverride_governor (by exact h.2.1) (by exact hnew)]
  rfl

theorem takeShadow_overrides (x : Setting) (s : State) (k : OverrideKind) :
    k ∈ (takeShadow x s).governor.overrides ↔
      k ∈ s.governor.overrides ∨ (k = .sensorFallback ∧ FallsBack x s) := by
  by_cases h : FallsBack x s ∧ .sensorFallback ∉ s.governor.overrides
  · obtain ⟨t, ht, hg⟩ := takeShadow_falls h.1 h.2
    rw [ht, derivePair_overrides, hg, derivePair_overrides]
    simp only [fallenBack, State.modGovernor_governor, mem_insertIn]
    simp [mem_allOverrides, writeShadow, h.1, or_comm]
  · have hold : ¬ FallsBack x s ∨ .sensorFallback ∈ s.governor.overrides := by
      rwa [not_and_or, not_not] at h
    rw [takeShadow_idle hold, derivePair_overrides]
    refine ⟨.inl, fun hk => hk.elim id ?_⟩
    rintro ⟨rfl, hf⟩
    exact hold.resolve_left (not_not.2 hf)

/-- An override that governed before the write and is the first of the set after it keeps the pair it formed (R86). -/
theorem takeShadow_kept (hx : x ≠ .idle) (hk : k ∈ (takeShadow x s).governor.overrides) (hs : s.governor.source = .over k)
    (hmin : ∀ j ∈ (takeShadow x s).governor.overrides, k.ctorIdx ≤ j.ctorIdx) :
    (takeShadow x s).governor.active = s.governor.active ∧ (takeShadow x s).governor.source = .over k := by
  have hkeeps (t : State) (hov : t.governor.overrides = (takeShadow x s).governor.overrides) (hsh : t.governor.shadow = x)
      (hact : t.governor.active = s.governor.active) (hsrc : t.governor.source = .over k) :
      (derivePair t).governor.active = s.governor.active ∧ (derivePair t).governor.source = .over k := by
    have hsource : governingSource t.governor = .over k :=
      governingSource_over (hov ▸ hk) (hsh ▸ hx) (hov ▸ hmin)
    exact ⟨by rw [derivePair_active, derivedPair_kept t hsource hsrc, hact], by rw [derivePair_source, hsource]⟩
  by_cases h : FallsBack x s ∧ .sensorFallback ∉ s.governor.overrides
  · obtain ⟨t, ht, hg⟩ := takeShadow_falls h.1 h.2
    have hov : (fallenBack x s).governor.overrides = (takeShadow x s).governor.overrides := by
      rw [ht, derivePair_overrides, hg, derivePair_overrides]
    obtain ⟨ha, hsrc⟩ := hkeeps (fallenBack x s) hov rfl rfl hs
    rw [ht]
    exact hkeeps t (by rw [hg, derivePair_overrides, hov]) (by rw [hg, derivePair_shadow]; rfl) (hg ▸ ha) (hg ▸ hsrc)
  · have hold := takeShadow_idle (x := x) (by rwa [not_and_or, not_not] at h)
    rw [hold]
    exact hkeeps (writeShadow x s) (by rw [hold, derivePair_overrides]) rfl rfl hs

/-- Without an override, and none begun, the shadow is the active pair (R86). -/
theorem takeShadow_free (h : ¬ FallsBack x s) (ho : s.governor.overrides = []) :
    (takeShadow x s).governor.overrides = [] ∧ (takeShadow x s).governor.active = x ∧
      (takeShadow x s).governor.source = .shadow := by
  have hsrc : governingSource (writeShadow x s).governor = .shadow := governingSource_shadow (.inr ho)
  rw [takeShadow_idle (.inl h), derivePair_active, derivePair_source, derivePair_overrides]
  exact ⟨ho, derivedPair_shadow _ hsrc, hsrc⟩

/-- A write that begins sensor fallback makes the engine's captured speed the active pair (R87, R91). -/
theorem takeShadow_fallback (h : FallsBack x s) (ho : s.governor.overrides = []) (hs : s.governor.source = .shadow) :
    (takeShadow x s).governor.overrides = [.sensorFallback] ∧
      (takeShadow x s).governor.source = .over .sensorFallback ∧
      (takeShadow x s).governor.active = .speed (capturedSpeed s.engineSpeed) := by
  have hnew : .sensorFallback ∉ s.governor.overrides := by simp [ho]
  have hx : x ≠ .idle := by
    rintro rfl
    exact absurd h.1 (by decide)
  obtain ⟨t, ht, hg⟩ := takeShadow_falls h hnew
  have hov : (fallenBack x s).governor.overrides = [.sensorFallback] := by
    simp [fallenBack, writeShadow, ho, insertIn, allOverrides]
  have hfirst : governingSource (fallenBack x s).governor = .over .sensorFallback :=
    governingSource_over (by simp [hov]) hx (by simp [hov])
  have hactive : (derivePair (fallenBack x s)).governor.active = .speed (capturedSpeed s.engineSpeed) := by
    rw [derivePair_active, derivedPair_formed _ hfirst (by simp [fallenBack, writeShadow, hs])]
    rfl
  have hsource : governingSource t.governor = .over .sensorFallback := by
    refine governingSource_over ?_ ?_ ?_ <;> rw [hg]
    · simp [derivePair_overrides, hov]
    · rwa [derivePair_shadow]
    · simp [derivePair_overrides, hov]
  rw [ht, derivePair_overrides, derivePair_source, derivePair_active,
    derivedPair_kept _ hsource (by rw [hg, derivePair_source, hfirst]), hg, derivePair_overrides]
  exact ⟨hov, hg ▸ hsource, hactive⟩

/-! ### The requests that write the shadow (R80, R82, R84) -/

/-- A failed judgement refuses the request and changes nothing (R42). -/
theorem exec_refused {i : Instr} {tag code : Byte} {r : Request} {k : GuardedKind} {s : State}
    (hi : i.request? = some (tag, r)) (hcode : r.code = code) (hr : r.wellFormed = true) (hs : Ready s)
    (h : GuardedBy k (holdRequest code tag s.fresh) (act r (holdRequest code tag s.fresh))) (hj : judge s k ≠ .passed) :
    ∃ body, exec i s = .next (finish (s.fresh.answered code tag .refused body)) := by
  obtain ⟨hmode, hfail⟩ := exec_of_guardedBy hi hcode hr hs h
  cases hjudge : judge s k with
  | passed => exact absurd hjudge hj
  | wrongMode m => exact ⟨_, hmode m hjudge⟩
  | failing l => exact ⟨_, hfail l hjudge⟩

/-- A taken shadow write answers with the pair it leaves, DEFERRED under an override (R84). -/
theorem exec_shadow {i : Instr} {tag code : Byte} {r : Request} {s : State} {x : Setting} {adjusted : Bool}
    (hi : i.request? = some (tag, r)) (hcode : r.code = code) (hr : r.wellFormed = true) (hs : Ready s)
    (hact : act r (holdRequest code tag s.fresh) = writeSetting x adjusted (holdRequest code tag s.fresh))
    (htaken : isRaise s.governor.shadow x = false ∨ judge s .raiseSetpoint = .passed) (hx : x ≠ .idle) :
    ∃ u : State,
      exec i s = .next (finish (u.answered code tag
        (if u.governor.overrides ≠ [] then .deferred else if adjusted then .adjusted else .ok) (setpointBytes u))) ∧
      u = { s.fresh with governor := u.governor, notices := u.notices, tx := u.tx } ∧
      u.governor = (shadowWritten code tag x s).governor ∧ u.notices = (shadowWritten code tag x s).notices ∧
      u.tx = (shadowWritten code tag x s).tx := by
  obtain ⟨g, n, tx, -, -, htake⟩ := takeShadow_frame x (holdRequest code tag s.fresh)
  rw [shadowWritten, htake]
  refine ⟨{ s.fresh with governor := g, notices := n, tx := tx }, ?_, rfl, rfl, rfl, rfl⟩
  have hshadow : g.shadow = x := by
    have := takeShadow_shadow x (holdRequest code tag s.fresh)
    rwa [htake] at this
  refine exec_taken hi hcode hr hs
    (hact.trans ((writeSetting_of_taken (s := holdRequest code tag s.fresh) adjusted htaken).trans rfl)) ?_
  rw [htake]
  simp only [shadowResult, hshadow, ne_eq, hx, not_false_eq_true, and_true]
  rfl

/-- Settles O24: a taken write derives the pair before and after it may begin sensor fallback, so that the captured speed
governs where it does. -/
theorem setpointRequestsWriteTheShadow : Obligations.SetpointRequestsWriteTheShadow := by
  intro s i tag code v x adjusted hs hform
  obtain ⟨r, hi, hcode, hr, hact, hx⟩ : ∃ r : Request, i.request? = some (tag, r) ∧ r.code = code ∧
      r.wellFormed = true ∧ (∀ t, act r t = writeSetting x adjusted t) ∧ x ≠ .idle := by
    obtain ⟨rfl, rfl, rfl, rfl⟩ | ⟨rfl, rfl, rfl, rfl⟩ := hform
    · exact ⟨.setPressure v, rfl, rfl, rfl, act_setPressure v, by simp⟩
    · exact ⟨.setSpeed v, rfl, rfl, rfl, act_setSpeed v, by simp⟩
  refine ⟨fun hraise hj => exec_refused hi hcode hr hs (hact _ ▸ guardedBy_writeSetting _ hraise) hj, fun htaken => ?_⟩
  obtain ⟨u, hexec, hframe, hg, -, -⟩ := exec_shadow hi hcode hr hs (hact _) htaken hx
  obtain ⟨g, n, tx, hkept, hmem, htake⟩ := takeShadow_frame x (holdRequest code tag s.fresh)
  have hgov : u.governor = g := hg.trans (congrArg State.governor htake)
  refine ⟨u, hexec, hframe, ?_⟩
  rw [hgov]
  refine ⟨by rw [hkept], by rw [hkept]; rfl, by rw [hkept]; rfl, hmem, fun ho hnot => ?_, fun ho hsrc hp hpto hfail => ?_⟩
  all_goals rw [← hgov, hg]
  · refine takeShadow_free (fun h => ?_) ho
    obtain h' | h' | h' := hnot
    · exact Bool.false_ne_true (h'.symm.trans h.1)
    · exact h' h.2.1
    · exact h' h.2.2
  · exact takeShadow_fallback ⟨hp, hpto, hfail⟩ ho hsrc

/-! ### STEP and IDLE (R82, R83) -/

theorem clampSetpoint_eq {lo hi v : Int} (h : lo ≤ hi) :
    clampSetpoint lo hi v = ((max lo (min v hi)).toNat, !decide (lo ≤ v ∧ v ≤ hi)) := by
  rw [clampSetpoint, clampTo_eq lo hi v h]
  refine Prod.ext rfl ?_
  rw [Bool.eq_iff_iff]
  simp
  omega

/-- STEP is the shadow write of what it moves to. -/
theorem actStep_eq {d : Byte} {kept : Bool} (h : StepsTo s d x kept) : actStep d s = writeSetting x (!kept) s := by
  obtain ⟨moved, ⟨rfl, rfl, ⟨p, hp, ⟨rfl, rfl⟩ | ⟨rfl, rfl⟩⟩ | ⟨hidle, rfl, hm⟩⟩ |
    ⟨rfl, rfl, r, hr, ⟨rfl, rfl⟩ | ⟨rfl, rfl⟩⟩⟩ := h
  · simp [actStep, stepUp, hp, clampSetpoint_eq]
  · simp [actStep, stepDown, hp, clampSetpoint_eq]
  · simp [actStep, stepUp, hidle, clampSetpoint_eq, stepFromIdle, hm]
  · simp [actStep, stepUp, hr, clampSetpoint_eq]
  · simp [actStep, stepDown, hr, clampSetpoint_eq]

theorem stepsTo_ne_idle {d : Byte} {kept : Bool} (h : StepsTo s d x kept) : x ≠ .idle := by
  obtain ⟨moved, ⟨rfl, -⟩ | ⟨rfl, -⟩⟩ := h <;> simp

/-- Within its range the shadow steps down to no raise (R80). -/
theorem not_isRaise_stepDown {n : Nat} {kept : Bool} (h : StepsTo s 1 x kept)
    (hn : (s.governor.shadow = .pressure n ∧ 300 ≤ n) ∨ (s.governor.shadow = .speed n ∧ 700 ≤ n)) :
    isRaise s.governor.shadow x = false := by
  obtain ⟨moved, ⟨rfl, -, ⟨p, hp, ⟨h0, -⟩ | ⟨-, rfl⟩⟩ | ⟨-, h0, -⟩⟩ | ⟨rfl, -, p, hp, ⟨h0, -⟩ | ⟨-, rfl⟩⟩⟩ := h
  · exact absurd h0 (by decide)
  · obtain ⟨hs, h300⟩ | ⟨hs, -⟩ := hn
    · cases hp.symm.trans hs
      simp [isRaise, hs]
      omega
    · cases hp.symm.trans hs
  · exact absurd h0 (by decide)
  · exact absurd h0 (by decide)
  · obtain ⟨hs, -⟩ | ⟨hs, h700⟩ := hn
    · cases hp.symm.trans hs
    · cases hp.symm.trans hs
      simp [isRaise, hs]
      omega

end Sys2Proof.Machine
end

section
/-! PROOFS. The alarm and the outputs (R177 to R180). -/

namespace Sys2Proof.Machine

variable {s : State}

/-- An act that does nothing where its timer does not run. -/
theorem ite_isNone {α β : Type} (o : Option α) (x y : β) :
    (if o.isNone = true then x else y) = if o.isSome = true then y else x := by
  cases o <;> rfl

/-! ### General outputs (R179, R180) -/

theorem terminalOfCode_eq_some {b : Byte} {t : Terminal} (h : terminalOfCode b = some t) : b.toNat = 16 + t.val := by
  have hcode := List.find?_some (p := fun u => terminalCode u == b.toNat) h
  exact (eq_of_beq hcode).symm

theorem generalOutOfCode_none {b : Byte}
    (h : ∀ t : Terminal, b.toNat = 16 + t.val → s.terminals.assignment[t].role ≠ .generalOut) :
    generalOutOfCode s b = none := by
  refine Option.filter_eq_none_iff.2 fun t ht => ?_
  simpa using h t (terminalOfCode_eq_some ht)

theorem settingOfCode_none {b : Byte} (h : 2 ≤ b.toNat) : settingOfCode b = none := by
  unfold settingOfCode
  split
  · omega
  · omega
  · rfl

theorem settingOfCode_some {b : Byte} (h : b.toNat < 2) : settingOfCode b = some (decide (b = 1)) := by
  have h01 : b = 0 ∨ b = 1 := by
    simp only [← BitVec.toNat_inj]
    simp
    omega
  obtain rfl | rfl := h01 <;> rfl

theorem pulsed_eq (n : BitVec 16) :
    pulsed n.toNat = ⟨decide (n ≠ 0), if n = 0 ∨ n = 65535 then none else some n.toNat⟩ := by
  have h0 : n = 0 ↔ n.toNat = 0 := by simp [← BitVec.toNat_inj]
  have h1 : n = 65535 ↔ n.toNat = 65535 := by simp [← BitVec.toNat_inj]
  unfold pulsed
  split
  · next h => simp [h0.2 h]
  · next h =>
    split
    · next h' => simp [h1.2 h']
    · next h' =>
      have hn : n ≠ 0 := mt h0.1 h
      have hn' : ¬(n = 0 ∨ n = 65535) := not_or.2 ⟨hn, mt h1.1 h'⟩
      rw [if_neg hn', decide_eq_true hn]

theorem act_setOutput_general {b : Byte} {t : Terminal} {on : Bool} {set : Byte} (hb : generalOutOfCode s b = some t)
    (hset : settingOfCode set = some on) (hj : judge s .generalOutput = .passed) :
    act (.setOutput b set) s = ⟨setGeneral t ⟨on, none⟩ s, .ok, outputBytes ⟨on, none⟩⟩ := by
  simp only [act, actSetOutput, hb, hset, commandOutput]
  exact guarded_of_passed _ hj

theorem act_pulseOutput_general {b : Byte} {t : Terminal} {n : BitVec 16} (hb : generalOutOfCode s b = some t)
    (hj : judge s .generalOutput = .passed) :
    act (.pulseOutput b n) s = ⟨setGeneral t (pulsed n.toNat) s, .ok, outputBytes (pulsed n.toNat)⟩ := by
  simp only [act, actPulseOutput, hb, commandOutput]
  exact guarded_of_passed _ hj

/-! ### The alarm (R177) -/

theorem setPattern_steady {a : Alarm} (h : patternFor a.causes a.silenced = .steady) :
    setPattern a = { a with pattern := .steady, drive := true, blink := none } := by
  rw [setPattern, h]

theorem setPattern_silent {a : Alarm} (h : patternFor a.causes a.silenced = .silent) :
    setPattern a = { a with pattern := .silent, drive := false, blink := none } := by
  rw [setPattern, h]

theorem setPattern_drive {a : Alarm} (h : patternFor a.causes a.silenced ≠ .silent) (hp : a.pattern ≠ .intermittent) :
    (setPattern a).drive = true := by
  unfold setPattern
  split
  · contradiction
  · rfl
  · rw [if_neg hp]

/-- A cause that is not silenced lets the alarm sound. -/
theorem patternFor_of_unsilenced {causes silenced : List AlarmCause} {c : AlarmCause} (hc : c ∈ causes) (hs : c ∉ silenced) :
    patternFor causes silenced = if ∃ d ∈ causes, isCritical d = true then .steady else .intermittent := by
  have hall : ¬ causes.all (· ∈ silenced) = true := by
    rw [List.all_eq_true]
    exact fun h => hs (of_decide_eq_true (h c hc))
  rw [patternFor, if_neg hall]
  simp only [List.any_eq_true]

theorem addAlarm_new {c : AlarmCause} (h : c ∉ s.alarm.causes) :
    (addAlarm c s).alarm = setPattern { s.alarm with causes := insertIn allAlarmCauses c s.alarm.causes } := by
  rw [addAlarm, if_neg h, State.modAlarm_alarm]

theorem removeAlarm_present {c : AlarmCause} (h : c ∈ s.alarm.causes) : (removeAlarm c s).alarm =
    setPattern { s.alarm with causes := removeFrom c s.alarm.causes, silenced := removeFrom c s.alarm.silenced } := by
  rw [removeAlarm, if_pos h, State.modAlarm_alarm]

theorem patternFor_self (causes : List AlarmCause) : patternFor causes causes = .silent :=
  if_pos (List.all_eq_true.2 fun _ h => decide_eq_true h)

/-- The alarm after a new cause: it sounds again, steady where any cause is critical. -/
theorem addAlarm_new_pattern {c : AlarmCause} (hsil : ∀ d ∈ s.alarm.silenced, d ∈ s.alarm.causes)
    (h : c ∉ s.alarm.causes) : (addAlarm c s).alarm.pattern =
      if isCritical c = true ∨ ∃ d ∈ s.alarm.causes, isCritical d = true then .steady else .intermittent := by
  rw [addAlarm_new h, setPattern_pattern, patternFor_of_unsilenced (c := c) (by simp) fun hc => h (hsil c hc)]
  simp [or_and_right, exists_or]

/-- Settles O48: the requests through the code of their terminal, the alarm through the pattern its two sets call for. -/
theorem outputsPulsesAndAlarm : Obligations.OutputsPulsesAndAlarm := by
  refine ⟨fun s tag b set n i code hs hb hform => ?_, fun s tag b set hs hset => ?_,
    fun s tag set t n i code o hs hrole hj hform => ?_, fun s t hp => ?_, fun s hp => ?_,
    fun s c hsil hc => ⟨fun d => mem_addAlarm c d s, ?_, addAlarm_new_pattern hsil hc, fun hp => ?_, addAlarm_frame c s⟩,
    fun s c hc => if_pos hc, fun s c hc => if_neg hc, fun s c d hc => ?_, fun s tag hs => ?_, fun s hp => ?_⟩
  · obtain ⟨rfl, rfl⟩ | ⟨rfl, rfl⟩ := hform
    · refine exec_of_act_unchanged (r := .setOutput b set) rfl rfl rfl hs ?_
      simp only [act, actSetOutput, generalOutOfCode_none (s := holdRequest 32 tag s.fresh) hb, plain]
    · refine exec_of_act_unchanged (r := .pulseOutput b n) rfl rfl rfl hs ?_
      simp only [act, actPulseOutput, generalOutOfCode_none (s := holdRequest 33 tag s.fresh) hb, plain]
  · refine exec_of_act_unchanged (r := .setOutput b set) rfl rfl rfl hs ?_
    cases h : generalOutOfCode (holdRequest 32 tag s.fresh) b <;>
      simp only [act, actSetOutput, h, settingOfCode_none hset, plain]
  · have hgen (code : Byte) : generalOutOfCode (holdRequest code tag s.fresh) (BitVec.ofNat 8 (16 + t.val)) = some t :=
      generalOutOfCode_terminalCode hrole
    obtain ⟨rfl, rfl, hset, rfl⟩ | ⟨rfl, rfl, rfl⟩ := hform
    · exact exec_taken rfl rfl rfl hs (act_setOutput_general (hgen 32) (settingOfCode_some hset) hj) rfl
    · have hact := act_pulseOutput_general (n := n) (hgen 33) hj
      rw [pulsed_eq] at hact
      exact exec_taken (r := .pulseOutput _ n) rfl rfl rfl hs hact rfl
  · exact exec_leaves hp rfl (ite_isNone ..)
  · exact exec_leaves hp rfl (ite_isNone ..)
  · rw [addAlarm_new hc, setPattern_silenced]
  · rw [addAlarm_new hc]
    refine setPattern_drive ?_ hp
    rw [patternFor_of_unsilenced (c := c) (by simp) fun h => hc (hsil c h)]
    split <;> simp
  · rw [removeAlarm_present hc]
    simp [and_comm]
  · refine exec_taken (r := .silence) rfl rfl rfl hs rfl ?_
    rw [silence, State.modAlarm, setPattern_silent (patternFor_self _)]
    rfl
  · exact exec_leaves hp rfl (ite_isNone ..)

end Sys2Proof.Machine
end

section
/-! PROOFS. The recovery and voltage timers, the panel flags and the lockout table (R30, R36 to R44). -/

namespace Sys2Proof.Machine

variable {s : State}

/-! ### A clipped demand, a mode entered (R26, R71) -/

theorem clipDemand_eq_with (s : State) : clipDemand s = { s with governor := (clipDemand s).governor } := by
  obtain ⟨g, -, h, -⟩ := clipDemand_frame s
  rw [h]

theorem clipDemand_demand_self (s : State) :
    (clipDemand s).governor.demand = min s.governor.demand (leastCeiling (ceilings (clipDemand s))) := by
  rw [clipDemand_demand, ceilings_clipDemand]

/-- The interlock record as a mode is entered (R26). -/
def modeEntered (m : OpMode) (s : State) : State :=
  s.modInterlock fun i => { i with mode := m, ceiling := entryCeiling s m, recovery := none, trip := none }

/-- The body of MODE_CHANGED (R33). -/
def modeChange (old m : OpMode) (c : ModeCause) : NoticeBody :=
  { old := some (.mode old), new := some (.mode m), cause := some (.mode c) }

theorem setMode_eq {m : OpMode} (h : m ≠ .motionTrip) (c : ModeCause) (s : State) :
    setMode m c s = clipDemand (record .modeChanged (modeChange s.interlock.mode m c) (modeEntered m s)) := by
  unfold setMode
  exact congrArg clipDemand (if_neg h)

/-- A mode entered but MOTION_TRIP: the notice, and the demand under the ceilings as they then stand. -/
theorem setMode_spec {m : OpMode} (h : m ≠ .motionTrip) (c : ModeCause) (s : State) :
    setMode m c s = { modeEntered m s with
      governor := (setMode m c s).governor
      notices := (record .modeChanged (modeChange s.interlock.mode m c) s).notices
      tx := (record .modeChanged (modeChange s.interlock.mode m c) s).tx } ∧
    (setMode m c s).governor.demand = min s.governor.demand (leastCeiling (ceilings (setMode m c s))) := by
  obtain ⟨hn, hx⟩ := record_congr (s := s) (t := modeEntered m s) .modeChanged (modeChange s.interlock.mode m c)
    rfl rfl rfl rfl
  constructor
  · rw [setMode_eq h, clipDemand_eq_with, record_eq_with, hn, hx]
  · rw [setMode_eq h, clipDemand_demand_self, record_governor]
    rfl

/-- Settles O30: the recovery timer is an entry into PUMP_ROLL, the voltage timer a condition that holds again. -/
theorem recoveryAndVoltageExpiry : Obligations.RecoveryAndVoltageExpiry := by
  refine ⟨fun s hp ht => ?_, fun s hp ht hshift => ?_, fun s c hp h => ?_⟩
  · have hexpire : expireRecovery s.fresh = setMode .pumpRoll .speedRecovered s.fresh :=
      (ite_isNone ..).trans (if_pos (by exact ht))
    obtain ⟨hframe, hdemand⟩ := setMode_spec (m := .pumpRoll) (by decide) .speedRecovered s.fresh
    refine ⟨_, exec_leaves hp rfl hexpire, ?_, ?_, hdemand, ?_⟩
    · rw [hframe]
      rfl
    · rw [hframe]
      exact (record_congr (s := s) (t := s.fresh) .modeChanged
        (modeChange s.interlock.mode .pumpRoll .speedRecovered) rfl rfl rfl rfl).1
    · have hceiling : (ceilings (setMode .pumpRoll .speedRecovered s.fresh)).mode = s.paramNat 22 := by rw [hframe]; rfl
      have hle := (leastCeiling_le (ceilings (setMode .pumpRoll .speedRecovered s.fresh))).2.1
      omega
  · obtain ⟨t, ht'⟩ : ∃ t, s.fresh.modInterlock (fun i => { i with voltageOk := true, voltage := none }) = t := ⟨_, rfl⟩
    have hexpire : expireVoltage s.fresh = refreshConditions (removeAlarm .voltage t) := by
      have hcalm : NotShifting (removeAlarm .voltage t) := by
        rw [removeAlarm_frame, ← ht']
        exact hshift
      rw [expireVoltage, ite_isNone, if_pos (by exact ht), ht', conditionEvent_notShifting _ hcalm]
    refine ⟨_, exec_leaves hp rfl hexpire, ?_, fun c => ?_⟩
    · have hframe := removeAlarm_frame .voltage t
      rw [hframe, ← ht']
      rfl
    · show c ∈ (removeAlarm .voltage t).alarm.causes ↔ _
      rw [mem_removeAlarm, ← ht']
      rfl
  · obtain ⟨rfl, h⟩ | ⟨rfl, h⟩ | ⟨rfl, h⟩ := h
    · exact exec_leaves hp rfl (if_pos (by exact Option.isNone_iff_eq_none.2 h))
    · exact exec_leaves hp rfl (if_pos (by exact Option.isNone_iff_eq_none.2 h))
    · exact exec_leaves hp rfl (if_pos (by exact Option.isNone_iff_eq_none.2 h))

/-! ### The panel flags (R36) -/

theorem atCode_flag {b : Byte} {n : Fin 8} : atCode allFlags b = some n ↔ BitVec.ofNat 8 n.val = b := by
  revert n b
  decide

theorem parseFlags_of_lt {l : List Byte} (hlen : l.length ≤ 8) (h : ∀ b ∈ l, b.toNat < 8) :
    ∃ ns, parseFlags l = some ns ∧ ∀ n : Fin 8, n ∈ ns ↔ BitVec.ofNat 8 n.val ∈ l := by
  obtain ⟨ns, hns⟩ := exists_mapM (f := atCode allFlags) (l := l) fun b hb => by
    rw [Option.isSome_iff_ne_none, ne_eq, atCode_eq_none_iff]
    exact Nat.not_le_of_lt (h b hb)
  refine ⟨ns, (if_pos hlen).trans hns, fun n => ?_⟩
  simp only [mem_of_mapM hns, atCode_flag, exists_eq_right']

theorem parseFlags_of_bad {l : List Byte} (h : 8 < l.length ∨ ∃ b ∈ l, 8 ≤ b.toNat) : parseFlags l = none := by
  obtain h | ⟨b, hb, hge⟩ := h
  · exact if_neg (by omega)
  · have hbad : atCode allFlags b = none := atCode_eq_none_iff.2 hge
    rw [parseFlags, mapM_eq_none_of_mem hb hbad, ite_self]

/-- A flag written outside the shift of the clutch: the flag, and the conditions as they then stand (R36, R39). -/
theorem writeFlag_eq (n : Fin 8) (on : Bool) (h : NotShifting s) :
    writeFlag n on s = { s with interlock := { s.interlock with
      flags := (writeFlag n on s).interlock.flags, conditions := (writeFlag n on s).interlock.conditions } } := by
  rw [writeFlag, conditionEvent_notShifting _ (by exact h)]
  rfl

theorem writeFlag_flags (n m : Fin 8) (on : Bool) (h : NotShifting s) :
    m ∈ (writeFlag n on s).interlock.flags ↔ if m = n then on = true else m ∈ s.interlock.flags := by
  rw [writeFlag, conditionEvent_notShifting _ (by exact h)]
  simp only [refreshConditions, State.modInterlock_interlock]
  cases on <;> by_cases hm : m = n <;> simp [hm, mem_allFlags]

/-- Flags written one by one, each to what it is to be in the end. -/
theorem writeFlags_spec (l : List (Fin 8 × Bool)) {final : Fin 8 → Prop} (h : NotShifting s)
    (hl : ∀ p ∈ l, p.2 = true ↔ final p.1) :
    let u := l.foldl (fun t p => writeFlag p.1 p.2 t) s
    u = { s with interlock := { s.interlock with flags := u.interlock.flags, conditions := u.interlock.conditions } } ∧
    ∀ m, m ∈ u.interlock.flags ↔ if m ∈ l.map (·.1) then final m else m ∈ s.interlock.flags := by
  induction l generalizing s with
  | nil => exact ⟨rfl, fun m => by simp⟩
  | cons p l ih =>
    have hp := writeFlag_eq p.1 p.2 h
    have hcalm : NotShifting (writeFlag p.1 p.2 s) := by
      rw [hp]
      exact h
    obtain ⟨hframe, hflags⟩ := ih hcalm fun q hq => hl q (List.mem_cons_of_mem _ hq)
    refine ⟨?_, fun m => ?_⟩
    · rw [List.foldl_cons, hframe, hp]
    · rw [List.foldl_cons, hflags, writeFlag_flags _ _ _ h]
      by_cases hm : m = p.1
      · subst hm
        simp [hl p List.mem_cons_self]
      · simp [hm]

/-- The flags that change value, each written to what the request leaves (R36). -/
theorem actPanelFlags_spec {clears sets : List Byte} {cs ss : List (Fin 8)} (hc : parseFlags clears = some cs)
    (hs : parseFlags sets = some ss) (h : NotShifting s) : ∃ u : State,
    actPanelFlags clears sets s = ⟨u, .ok, setBytes allFlags u.interlock.flags⟩ ∧
    u = { s with
      interlock := { s.interlock with flags := u.interlock.flags, conditions := u.interlock.conditions }
      choices := u.choices } ∧
    ∀ n : Fin 8, n ∈ u.interlock.flags ↔ n ∈ ss ∨ (n ∈ s.interlock.flags ∧ n ∉ cs) := by
  let after := flagsAfter s.interlock.flags cs ss
  let changes := flagChanges s.interlock.flags after
  let order := arrange s.choices changes
  have hact : actPanelFlags clears sets s =
      ⟨order.foldl (fun t p => writeFlag p.1 p.2 t) (s.modChoices (·.drop changes.length)), .ok,
        setBytes allFlags
          (order.foldl (fun t p => writeFlag p.1 p.2 t) (s.modChoices (·.drop changes.length))).interlock.flags⟩ := by
    unfold actPanelFlags
    rw [hc, hs]
    dsimp only [runInOrder]
    rw [arrange_map, List.foldl_map, List.length_map]
  have hmem (p : Fin 8 × Bool) : p ∈ order ↔ (decide (p.1 ∈ s.interlock.flags) != decide (p.1 ∈ after)) = true ∧
      decide (p.1 ∈ after) = p.2 := by
    obtain ⟨n, b⟩ := p
    simp [order, mem_arrange, changes, flagChanges, mem_allFlags]
  obtain ⟨hframe, hflags⟩ := writeFlags_spec (s := s.modChoices (·.drop changes.length)) order (final := (· ∈ after)) h
    fun p hp => by rw [← ((hmem p).1 hp).2, decide_eq_true_eq]
  refine ⟨_, hact, ?_, fun n => ?_⟩
  · rw [hframe]
    rfl
  · have hafter : n ∈ after ↔ n ∈ ss ∨ (n ∈ s.interlock.flags ∧ n ∉ cs) := by
      simp [after, flagsAfter, mem_allFlags]
    have hwritten : n ∈ order.map (·.1) ↔ (decide (n ∈ s.interlock.flags) != decide (n ∈ after)) = true := by
      rw [List.mem_map]
      refine ⟨fun ⟨p, hp, hn⟩ => hn ▸ ((hmem p).1 hp).1, fun hne => ⟨(n, decide (n ∈ after)), (hmem _).2 ⟨hne, rfl⟩, rfl⟩⟩
    rw [hflags, ← hafter]
    split
    · exact Iff.rfl
    · next hsame =>
      have heq : decide (n ∈ s.interlock.flags) = decide (n ∈ after) := by simpa [hwritten] using hsame
      exact decide_eq_decide.1 heq

theorem actPanelFlags_bad {clears sets : List Byte} (s : State) (h : parseFlags clears = none ∨ parseFlags sets = none) :
    actPanelFlags clears sets s = plain .badValue s := by
  unfold actPanelFlags
  split
  · next hc hs => simp [hc, hs] at h
  · rfl

/-! ### The lockout table (R40, R43, R44) -/

theorem mem_fromBits {α : Type} {w : Nat} {l : List α} {bits : BitVec w} {x : α} :
    x ∈ fromBits l bits ↔ ∃ i, l[i]? = some x ∧ bits.getMsbD i = true := by
  simp only [fromBits, List.mem_map, List.mem_filter, Prod.exists, List.mem_zipIdx_iff_getElem?]
  constructor
  · rintro ⟨y, i, ⟨hy, hi⟩, rfl⟩
    exact ⟨i, hy, hi⟩
  · rintro ⟨i, hx, hi⟩
    exact ⟨x, i, ⟨hx, hi⟩, rfl⟩

/-- In a listing without repetition the bit of a member is the one at its place. -/
theorem mem_fromBits_of_nodup {α : Type} [DecidableEq α] {w : Nat} {l : List α} {bits : BitVec w} {x : α} (hl : l.Nodup)
    (hx : x ∈ l) : x ∈ fromBits l bits ↔ bits.getMsbD (l.idxOf x) = true := by
  have hplace : l[l.idxOf x]? = some x := by
    rw [List.getElem?_eq_getElem (List.idxOf_lt_length_of_mem hx), List.getElem_idxOf]
  refine mem_fromBits.trans ⟨fun ⟨i, hi, hbit⟩ => ?_, fun hbit => ⟨_, hplace, hbit⟩⟩
  obtain ⟨hlt, rfl⟩ := List.getElem?_eq_some_iff.1 hi
  rwa [hl.idxOf_getElem]

theorem idxOf_allModes (m : OpMode) : allModes.idxOf m = m.ctorIdx := by cases m <;> rfl

theorem mem_modesFromBits (bits : Byte) (m : OpMode) : m ∈ fromBits allModes bits ↔ bits.getMsbD m.ctorIdx = true := by
  rw [mem_fromBits_of_nodup (by decide) (by cases m <;> decide), idxOf_allModes]

theorem mem_conditionsFromBits (bits : BitVec 24) (c : Condition) :
    c ∈ fromBits allConditions bits ↔ bits.getMsbD (allConditions.idxOf c) = true :=
  mem_fromBits_of_nodup (by decide) (mem_allConditions c)

theorem unusedClear_iff {w used : Nat} (bits : BitVec w) :
    unusedClear used bits = true ↔ bits.extractLsb' 0 (w - used) = 0 := by
  simp only [unusedClear, List.all_eq_true, List.mem_range, Bool.or_eq_true, decide_eq_true_eq, Bool.not_eq_true']
  constructor
  · intro h
    ext i hi
    have hbit := h (w - 1 - i) (by omega)
    have hlow : ¬ w - 1 - i < used := by omega
    have hplace : w - 1 - (w - 1 - i) = i := by omega
    simpa [BitVec.getMsbD_eq_getLsbD, hlow, hplace, show w - 1 - i < w by omega, hi] using hbit
  · intro h i hi
    refine or_iff_not_imp_left.2 fun hused => ?_
    have hbit := congrArg (fun x => x.getLsbD (w - 1 - i)) h
    simpa [BitVec.getMsbD_eq_getLsbD, hi, show w - 1 - i < w - used by omega] using hbit

theorem entryAdjusted_eq_false_iff (k : GuardedKind) (ms : List OpMode) (cs : List Condition) :
    entryAdjusted k ms cs = false ↔ (∀ m ∈ ms, m ∈ fixedModes k) ∧ ∀ c ∈ fixedConditions k, c ∈ cs := by
  simp [entryAdjusted]

theorem atCode_guardedKind (k : GuardedKind) : atCode allGuardedKinds (BitVec.ofNat 8 k.ctorIdx) = some k := by
  cases k <;> rfl

theorem atCode_guardedKind_none {b : Byte} (h : 10 ≤ b.toNat) : atCode allGuardedKinds b = none := atCode_eq_none_iff.2 h

theorem actWriteLockout_bad {kind modes : Byte} {conds : BitVec 24} (hpto : s.drive.pto = .disengaged)
    (hbad : 10 ≤ kind.toNat ∨ modes.extractLsb' 0 3 ≠ 0 ∨ conds.extractLsb' 0 5 ≠ 0) :
    actWriteLockout kind modes conds s = plain .badValue s := by
  unfold actWriteLockout
  rw [if_neg (not_not.2 hpto)]
  cases hkind : atCode allGuardedKinds kind with
  | none => rfl
  | some k =>
    have hbits : ¬(unusedClear 5 modes && unusedClear 19 conds) = true := by
      rw [Bool.and_eq_true, unusedClear_iff, unusedClear_iff]
      rintro ⟨hm, hc⟩
      obtain h | h | h := hbad
      · rw [atCode_guardedKind_none h] at hkind
        cases hkind
      · exact h hm
      · exact h hc
    exact if_neg hbits

/-- The entry a write of these bits stores (R43). -/
def writtenEntry (k : GuardedKind) (modes : Byte) (conds : BitVec 24) : LockoutEntry :=
  storedEntry k (fromBits allModes modes) (fromBits allConditions conds)

theorem mem_writtenEntry_modes (k : GuardedKind) (modes : Byte) (conds : BitVec 24) (m : OpMode) :
    m ∈ (writtenEntry k modes conds).modes ↔ m ∈ fixedModes k ∧ modes.getMsbD m.ctorIdx = true := by
  simp [writtenEntry, storedEntry, mem_modesFromBits, and_comm]

theorem mem_writtenEntry_conds (k : GuardedKind) (modes : Byte) (conds : BitVec 24) (c : Condition) :
    c ∈ (writtenEntry k modes conds).conds ↔
      c ∈ fixedConditions k ∨ conds.getMsbD (allConditions.idxOf c) = true := by
  simp [writtenEntry, storedEntry, mem_conditionsFromBits, mem_allConditions, or_comm]

theorem actWriteLockout_taken {modes : Byte} {conds : BitVec 24} (k : GuardedKind) (hpto : s.drive.pto = .disengaged)
    (hm : modes.extractLsb' 0 3 = 0) (hc : conds.extractLsb' 0 5 = 0) :
    actWriteLockout (BitVec.ofNat 8 k.ctorIdx) modes conds s =
      ⟨s.modInterlock fun i => { i with lockout := setKind i.lockout k (writtenEntry k modes conds) },
        if entryAdjusted k (fromBits allModes modes) (fromBits allConditions conds) then .adjusted else .ok,
        entryBytes k (writtenEntry k modes conds)⟩ := by
  have hbits : (unusedClear 5 modes && unusedClear 19 conds) = true := by
    rw [Bool.and_eq_true, unusedClear_iff, unusedClear_iff]
    exact ⟨hm, hc⟩
  unfold actWriteLockout
  rw [if_neg (not_not.2 hpto), atCode_guardedKind]
  exact if_pos hbits

/-- Settles O31: flags are written to what the request leaves in whatever order, an entry to what its fixed fields allow. -/
theorem panelFlagsAndLockoutWrites : Obligations.PanelFlagsAndLockoutWrites := by
  refine ⟨fun s tag clears sets hs hcalm hcl hsl hc hset => ?_, fun s tag clears sets hs hlen hbad => ?_,
    fun s tag kind modes conds hs hpto => ?_, fun s tag kind modes conds hs hpto hbad => ?_,
    fun s tag modes conds k hs hpto hm hc => ?_, fun s tag k hs => ?_, fun s tag kind hs hk => ?_⟩
  · obtain ⟨cs, hcs, hcmem⟩ := parseFlags_of_lt hcl hc
    obtain ⟨ss, hss, hsmem⟩ := parseFlags_of_lt hsl hset
    obtain ⟨u, hact, hframe, hflags⟩ := actPanelFlags_spec (s := holdRequest 17 tag s.fresh) hcs hss hcalm
    refine ⟨{ u with link := s.link }, ?_, ?_, fun n => ?_⟩
    · refine exec_taken (r := .panelFlags clears sets) rfl rfl (decide_eq_true ?_) hs hact ?_
      · simp only [Request.size, maxParams]
        omega
      · rw [hframe]
        rfl
    · rw [hframe]
      rfl
    · simp only [hflags, hsmem, hcmem]
      rfl
  · refine exec_of_act_unchanged (r := .panelFlags clears sets) rfl rfl (decide_eq_true ?_) hs
      (actPanelFlags_bad _ ?_)
    · simp only [Request.size, maxParams]
      omega
    · obtain h | h | h | h := hbad
      · exact .inl (parseFlags_of_bad (.inl h))
      · exact .inr (parseFlags_of_bad (.inl h))
      · exact .inl (parseFlags_of_bad (.inr h))
      · exact .inr (parseFlags_of_bad (.inr h))
  · exact exec_of_act_unchanged (r := .writeLockout kind modes conds) rfl rfl rfl hs (if_pos hpto)
  · exact exec_of_act_unchanged (r := .writeLockout kind modes conds) rfl rfl rfl hs
      (actWriteLockout_bad (s := holdRequest 13 tag s.fresh) hpto hbad)
  · have hact := actWriteLockout_taken (s := holdRequest 13 tag s.fresh) k hpto hm hc
    have hentry (j : GuardedKind) : getKind (setKind s.interlock.lockout k (writtenEntry k modes conds)) j =
        if j = k then writtenEntry k modes conds else s.entry j :=
      getKind_setKind ..
    have hown := (hentry k).trans (if_pos rfl)
    refine ⟨{ s.fresh with interlock := { s.interlock with
        lockout := setKind s.interlock.lockout k (writtenEntry k modes conds) } },
      if entryAdjusted k (fromBits allModes modes) (fromBits allConditions conds) then .adjusted else .ok, ?_, rfl, fun j hj => (hentry j).trans (if_neg hj), fun m => ?_, fun c => ?_, ?_, ?_⟩
    · refine exec_taken (r := .writeLockout _ modes conds) rfl rfl rfl hs hact ?_
      simp only [State.entry, hown]
      rfl
    · exact (Iff.of_eq (congrArg (m ∈ LockoutEntry.modes ·) hown)).trans (mem_writtenEntry_modes k modes conds m)
    · exact (Iff.of_eq (congrArg (c ∈ LockoutEntry.conds ·) hown)).trans (mem_writtenEntry_conds k modes conds c)
    · split <;> simp
    · have hkept := entryAdjusted_eq_false_iff k (fromBits allModes modes) (fromBits allConditions conds)
      simp only [mem_modesFromBits, mem_conditionsFromBits] at hkept
      rw [← hkept]
      cases entryAdjusted k (fromBits allModes modes) (fromBits allConditions conds) <;> simp
  · refine exec_of_act_unchanged (r := .readLockout _) rfl rfl rfl hs ?_
    simp only [act, actReadLockout, atCode_guardedKind]
    rfl
  · refine exec_of_act_unchanged (r := .readLockout kind) rfl rfl rfl hs ?_
    simp only [act, actReadLockout, atCode_guardedKind_none hk, plain]

end Sys2Proof.Machine
end

section
/-! PROOFS. ENGAGE (R50, R51). -/

namespace Sys2Proof.Machine

variable {s : State}

/-- The same where the act keeps the link as it found it, the request in hand. -/
theorem exec_taken_link {i : Instr} {tag code : Byte} {r : Request} {s u : State} {res : Result} {body : List Byte}
    (hi : i.request? = some (tag, r)) (hcode : r.code = code) (hr : r.wellFormed = true) (hs : Ready s)
    (hact : act r (holdRequest code tag s.fresh) = ⟨u, res, body⟩) (hlink : u.link = (holdRequest code tag s.fresh).link) :
    exec i s = .next (finish (State.answered { u with link := s.link } code tag res body)) :=
  exec_taken hi hcode hr hs hact (by simp only [State.answered, hlink]; rfl)

theorem kindOfCode_none {b : Byte} (h : 2 ≤ b.toNat) : kindOfCode b = none := atCode_eq_none_iff.2 h

theorem kindOfCode_kind (k : Kind) : kindOfCode (BitVec.ofNat 8 k.ctorIdx) = some k := by cases k <;> rfl

/-- The engagement record as PRECHECK is entered (R50, R51). -/
def precheckRecord (k : Kind) (d : Drive) : Drive :=
  { toPto .precheck d with kind := some k, tries := 0, precheck := startTimer 3000 }

theorem startEngagement_checks {k : Kind} (h : s.qualified .ptoFb ≠ some true) :
    startEngagement k s = s.modDrive (precheckRecord k) :=
  if_neg h

theorem driveFault_outside (c : DriveFault) (h : s.drive.pto ≠ .engaged) : driveFault c s = enterDriveFault c s := if_neg h

theorem startEngagement_stuck {k : Kind} (h : s.qualified .ptoFb = some true) :
    startEngagement k s = enterDriveFault .stuck (s.modDrive (precheckRecord k)) :=
  (if_pos h).trans (driveFault_outside .stuck (by simp))

/-- The drive record as FAULT is entered (R63). -/
def driveFaulted (c : DriveFault) (d : Drive) : Drive :=
  { toPto .fault d with fault := some c, release := none, confirmation := none }

theorem reviewStop_frame (s : State) : reviewStop s = { s with alarm := (reviewStop s).alarm } := by
  unfold reviewStop
  split
  · exact removeAlarm_frame .stop s
  · rfl

theorem mem_reviewStop {c : AlarmCause} (h : c ≠ .stop) (s : State) :
    c ∈ (reviewStop s).alarm.causes ↔ c ∈ s.alarm.causes := by
  unfold reviewStop
  split
  · simp [h]
  · rfl

/-- FAULT entered: the record, the alarm, fast capture, the notice and the conditions. -/
theorem enterDriveFault_spec (c : DriveFault) (s : State) :
    let u := enterDriveFault c s
    u = { s with
      drive := u.drive, alarm := u.alarm, trend := u.trend, notices := u.notices, tx := u.tx
      interlock := { s.interlock with conditions := trueConditions u } } ∧
    u.drive = driveFaulted c s.drive ∧
    .ptoFault ∈ u.alarm.causes ∧ u.trend = (protectiveEvent s).trend ∧
    u.notices = (record .driveFault
      { old := some (.pto s.drive.pto), new := some (.pto .fault), cause := some (.driveFault c) } s).notices := by
  let body : NoticeBody := { old := some (.pto s.drive.pto), new := some (.pto .fault), cause := some (.driveFault c) }
  have hnotices := (record_congr (s := s) (t := s.modDrive (driveFaulted c)) .driveFault body rfl rfl rfl rfl).1
  obtain ⟨n, x, hn, hrecord⟩ : ∃ n x, n = (record .driveFault body s).notices ∧
      record .driveFault body (s.modDrive (driveFaulted c)) =
        { s with drive := driveFaulted c s.drive, notices := n, tx := x } :=
    ⟨_, _, hnotices, record_eq_with ..⟩
  obtain ⟨a, ha, halarm⟩ : ∃ a : Alarm, .ptoFault ∈ a.causes ∧
      addAlarm .ptoFault { s with drive := driveFaulted c s.drive, notices := n, tx := x } =
        { s with drive := driveFaulted c s.drive, notices := n, tx := x, alarm := a } :=
    ⟨_, (mem_addAlarm ..).2 (.inl rfl), addAlarm_frame ..⟩
  obtain ⟨a', ha', hstop⟩ : ∃ a' : Alarm, .ptoFault ∈ a'.causes ∧
      reviewStop (protectiveEvent { s with drive := driveFaulted c s.drive, notices := n, tx := x, alarm := a }) =
        { s with
          drive := driveFaulted c s.drive, notices := n, tx := x, alarm := a', trend := (protectiveEvent s).trend } :=
    ⟨_, (mem_reviewStop (by decide) _).2 ha, reviewStop_frame _⟩
  have hu : enterDriveFault c s = refreshConditions { s with
      drive := driveFaulted c s.drive, notices := n, tx := x, alarm := a', trend := (protectiveEvent s).trend } := by
    rw [← hstop, ← halarm, ← hrecord]
    rfl
  simp only [hu]
  exact ⟨rfl, rfl, ha', rfl, hn⟩

theorem actEngage_taken {k : Kind} (hpto : s.drive.pto = .disengaged) (hj : judge s (engageEntry k) = .passed) :
    actEngage (BitVec.ofNat 8 k.ctorIdx) s = ⟨startEngagement k s, .ok,
      codeByte (startEngagement k s).drive.pto.ctorIdx ++ codeByte k.ctorIdx⟩ := by
  unfold actEngage
  rw [kindOfCode_kind]
  exact (if_neg (not_not.2 hpto)).trans (guarded_of_passed _ hj)

/-- Settles O32: a judged request starts PRECHECK, or finds the drive STUCK by the feedback it reads there. -/
theorem engageStartsThePrecheck : Obligations.EngageStartsThePrecheck := by
  refine ⟨fun s tag kind hs hk => ?_, fun s tag k hs hpto => ?_, fun s tag k hs hpto hj hfb => ?_,
    fun s tag k hs hpto hj hfb => ?_⟩
  · refine exec_of_act_unchanged (r := .engage kind) rfl rfl rfl hs ?_
    simp only [act, actEngage, kindOfCode_none hk, plain]
  · refine exec_of_act_unchanged (r := .engage _) rfl rfl rfl hs ?_
    simp only [act, actEngage, kindOfCode_kind]
    exact if_pos hpto
  · have hact := actEngage_taken (s := holdRequest 18 tag s.fresh) hpto hj
    rw [startEngagement_checks (s := holdRequest 18 tag s.fresh) hfb] at hact
    exact exec_taken (r := .engage _) rfl rfl rfl hs hact rfl
  · have hact := actEngage_taken (s := holdRequest 18 tag s.fresh) hpto hj
    rw [startEngagement_stuck (s := holdRequest 18 tag s.fresh) hfb] at hact
    obtain ⟨hframe, hdrive, halarm, htrend, -⟩ :=
      enterDriveFault_spec .stuck ((holdRequest 18 tag s.fresh).modDrive (precheckRecord k))
    generalize enterDriveFault .stuck ((holdRequest 18 tag s.fresh).modDrive (precheckRecord k)) = u at *
    refine ⟨{ u with link := s.link }, ?_, hdrive, halarm, ?_, ?_⟩
    · rw [hdrive] at hact
      have hlink := congrArg State.link hframe
      exact exec_taken_link (r := .engage _) rfl rfl rfl hs hact hlink
    · exact congrArg Trend.fast htrend
    · exact (congrArg (fun x : State => { x with link := s.link }) hframe).trans rfl

end Sys2Proof.Machine
end

section
/-! PROOFS. The reading requests (R13, R22, R129, R149, R150, R198, R206). -/

namespace Sys2Proof.Machine

variable {s : State}

/-! ### The bytes of a field (R209) -/

theorem natBytes_two (n : Nat) : natBytes 2 n = [BitVec.ofNat 8 (n / 256), BitVec.ofNat 8 n] := by
  simp [natBytes]

theorem natBytes_four (n : Nat) : natBytes 4 n = natBytes 2 (n / 65536) ++ natBytes 2 n := by
  simp [natBytes, Nat.div_div_eq_div_mul]

theorem intBytes_two (i : Int) : intBytes 2 i = natBytes 2 (i % 65536).toNat := rfl

theorem intBytes_four (i : Int) : intBytes 4 i = natBytes 4 (i % 4294967296).toNat := rfl

theorem intBytes_two_ofNat (n : Nat) : intBytes 2 (Int.ofNat n) = natBytes 2 n := by
  have hmod : (Int.ofNat n % 65536).toNat = n % 65536 := by simp only [Int.ofNat_eq_natCast]; omega
  have hlow : BitVec.ofNat 8 (n % 65536) = BitVec.ofNat 8 n := by
    apply BitVec.eq_of_toNat_eq
    simp only [BitVec.toNat_ofNat]
    omega
  have hhigh : BitVec.ofNat 8 (n % 65536 / 256) = BitVec.ofNat 8 (n / 256) := by
    apply BitVec.eq_of_toNat_eq
    simp only [BitVec.toNat_ofNat]
    omega
  rw [intBytes_two, hmod, natBytes_two, natBytes_two, hlow, hhigh]

/-- A two-valued field. -/
def flagOf (b : Bool) : Byte := if b then 1 else 0

/-- An optional name: its presence byte, and its code or a zero. -/
def nameOf (o : Option Nat) : List Byte := o.elim [0, 0] fun n => [1, BitVec.ofNat 8 n]

/-- An optional word: its presence byte, and its two bytes or zeros. -/
def wordOf (o : Option Int) : List Byte := o.elim [0, 0, 0] fun n => 1 :: intBytes 2 n

theorem flagByte_eq (b : Bool) : flagByte b = [flagOf b] := rfl

theorem codeByte_toNat (b : Bool) : codeByte b.toNat = [flagOf b] := by cases b <;> rfl

theorem optBytes_name {α : Type} (code : α → Nat) (o : Option α) :
    optBytes 1 (fun x => codeByte (code x)) o = nameOf (o.map code) := by
  cases o <;> rfl

theorem optBytes_word (o : Option Int) : optBytes 2 (intBytes 2) o = wordOf o := by cases o <;> rfl

theorem optBytes_natWord (o : Option Nat) : optBytes 2 (natBytes 2) o = wordOf (o.map Int.ofNat) := by
  cases o with
  | none => rfl
  | some n => exact congrArg (1 :: ·) (intBytes_two_ofNat n).symm

theorem settingBytes_pressure (p : Nat) : settingBytes (.pressure p) = [1, 1, BitVec.ofNat 8 (p / 256), BitVec.ofNat 8 p] :=
  congrArg ([1, 1] ++ ·) (natBytes_two p)

theorem settingBytes_speed (r : Nat) : settingBytes (.speed r) = [2, 1, BitVec.ofNat 8 (r / 256), BitVec.ofNat 8 r] :=
  congrArg ([2, 1] ++ ·) (natBytes_two r)

/-! ### The sections of the status reply (R206) -/

theorem statusInterlock_eq (s : State) : statusInterlock s =
    [BitVec.ofNat 8 s.interlock.mode.ctorIdx, flagOf s.interlock.moving] ++ natBytes 2 s.interlock.ceiling ++
      setBytes allFlags s.interlock.flags ++ setBytes allConditions (allConditions.filter (conditionHolds s)) ++
      packBits 1 [s.interlock.rise.isSome, s.interlock.fall.isSome, s.interlock.recovery.isSome, s.interlock.trip.isSome,
        s.interlock.voltage.isSome] := by
  simp only [statusInterlock, codeByte_toNat]
  rfl

theorem statusDrive_eq (s : State) : statusDrive s =
    BitVec.ofNat 8 s.drive.pto.ctorIdx :: (nameOf (s.drive.kind.map (·.ctorIdx)) ++
      nameOf (s.drive.confirmation.map (·.ctorIdx)) ++ nameOf (s.drive.release.map (·.ctorIdx)) ++
      nameOf (s.drive.fault.map (·.ctorIdx)) ++ [BitVec.ofNat 8 s.drive.tries, BitVec.ofNat 8 s.drive.lastTries] ++
      natBytes 2 s.drive.lifetime ++ [flagOf s.drive.clutch, flagOf s.drive.precheck.isSome,
      flagOf s.drive.feedback.isSome, flagOf s.drive.settle.isSome, flagOf s.drive.ramp.isSome,
      flagOf s.drive.releasing.isSome, flagOf s.drive.window.isSome]) := by
  simp only [statusDrive, optBytes_name, runningByte, flagByte_eq, List.append_assoc]
  rfl

theorem statusGovernor_eq (s : State) {pair : Setting → List Byte} {source : Source → Byte}
    (hpair : ∀ y, settingBytes y = pair y) (hsource : ∀ y, BitVec.ofNat 8 (sourceCode y) = source y) : statusGovernor s =
    ([s.governor.shadow, s.governor.active].flatMap pair) ++ setBytes allOverrides s.governor.overrides ++
      wordOf (s.governor.captured.map Int.ofNat) ++ [source s.governor.source] ++
      intBytes 4 s.governor.acc ++ natBytes 2 s.governor.demand ++ [flagOf s.governor.reseed] ++
      natBytes 2 s.governor.ceiling ++ [BitVec.ofNat 8 s.governor.binding.ctorIdx, flagOf s.governor.frozen,
      flagOf s.governor.loss.isSome] ++ natBytes 2 s.governor.inputs.profile ++ natBytes 2 s.governor.inputs.mode ++
      natBytes 2 s.governor.inputs.supply ++ natBytes 2 s.governor.inputs.thermal ++
      natBytes 2 s.governor.inputs.drive := by
  simp only [statusGovernor, optBytes_natWord, codeByte_toNat, runningByte, flagByte_eq, hpair]
  simp only [codeByte, hsource, List.append_assoc, List.cons_append, List.nil_append, List.flatMap_cons, List.flatMap_nil]

theorem statusSupply_eq (s : State) : statusSupply s =
    [BitVec.ofNat 8 s.supply.state.ctorIdx, BitVec.ofNat 8 (32 + s.supply.selected.ctorIdx)] ++
      nameOf (s.supply.phase.map (·.ctorIdx)) ++ intBytes 2 s.supply.floor ++ wordOf s.supply.hydrant ++
      natBytes 2 s.supply.limit ++ [flagOf s.supply.below, flagOf s.supply.lossLatch,
      BitVec.ofNat 8 s.supply.attempts] ++ nameOf (s.supply.lastReason.map (·.ctorIdx)) ++
      [flagOf s.supply.switchHeld, flagOf s.supply.primeHeld, flagOf s.supply.attempt.isSome,
      flagOf s.supply.prime.isSome, flagOf s.supply.primerLimit.isSome, flagOf s.supply.settle.isSome,
      flagOf s.supply.loss.isSome, flagOf s.supply.activity.isSome, flagOf s.supply.attempt.isSome] ++
      natBytes 2 (supplyCeiling s) := by
  unfold statusSupply
  dsimp only
  rw [optBytes_name (fun p : Phase => p.ctorIdx), optBytes_name (fun p : AttemptReason => p.ctorIdx), optBytes_word]
  simp only [runningByte, flagByte_eq, codeByte, tankCode, List.append_assoc, List.cons_append, List.nil_append]

theorem actuatorBytes_eq (a : Actuator) : actuatorBytes a =
    [if a.openCmd then 0 else 1, BitVec.ofNat 8 a.state.ctorIdx, BitVec.ofNat 8 a.confirmation.ctorIdx,
      BitVec.ofNat 8 a.tries, flagOf a.retry.isSome, flagOf a.travel.isSome] ++ nameOf (a.fault.map (·.ctorIdx)) ++
      [flagOf (decide (a.state = .opening ∧ a.retry = none ∨ a.state = .atOpen))] := by
  have hcommand : commandByte a.openCmd = [if a.openCmd then 0 else 1] := by cases a.openCmd <;> rfl
  have hretry : a.retry.isNone = decide (a.retry = none) := by cases a.retry <;> rfl
  have hdrive : actuatorDrive a = decide (a.state = .opening ∧ a.retry = none ∨ a.state = .atOpen) := by
    unfold actuatorDrive
    split <;> next h => simp [h, hretry]
  simp only [actuatorBytes, hcommand, hdrive, optBytes_name, runningByte, flagByte_eq, List.append_assoc]
  rfl

theorem outputBytes_eq (o : OutputRecord) : outputBytes o = flagOf o.drive :: wordOf (o.countdown.map Int.ofNat) := by
  rw [outputBytes, optBytes_natWord]
  rfl

theorem statusOutput_eq (s : State) : statusOutput s =
    allValves.flatMap (fun v => actuatorBytes (s.valve v)) ++ setBytes allRecircCauses s.recirc ++
      setBytes allAlarmCauses s.alarm.causes ++ setBytes allAlarmCauses s.alarm.silenced ++
      [flagOf s.alarm.drive, flagOf s.outputs.primer.drive] ++ wordOf (s.outputs.primer.countdown.map Int.ofNat) ++
      (BitVec.ofNat 8 (generalOuts s).length ::
        (generalOuts s).flatMap fun t => flagOf s.outputs.general[t].drive ::
          wordOf (s.outputs.general[t].countdown.map Int.ofNat)) := by
  simp only [statusOutput, outputBytes_eq, listOf, flagByte_eq, List.append_assoc, List.cons_append, List.nil_append]
  rfl

theorem statusNotices_eq (s : State) : statusNotices s =
    [BitVec.ofNat 8 s.notices.queue.length, flagOf (s.notices.queue.head?.any (·.overrun)),
      flagOf s.notices.pressure] ++ packBits 4 (allNoticeKinds.map fun k => decide (k ∉ s.notices.disabled)) ++
      natBytes 4 s.clock.tag ++ [BitVec.ofNat 8 s.clock.resolution, BitVec.ofNat 8 s.trend.fast] ++
      natBytes 2 (oldestIndex s) ++ natBytes 2 (newestIndex s) ++ wordOf (s.trend.marker.map Int.ofNat) ++
      natBytes 2 (unreadCount s.trend) ++ [flagOf s.trend.armed] := by
  have hhead : (s.notices.queue.head?.map (·.overrun)).getD false = s.notices.queue.head?.any (·.overrun) := by
    cases s.notices.queue.head? <;> rfl
  simp only [statusNotices, hhead, optBytes_natWord, flagByte_eq, List.append_assoc]
  rfl

theorem tankOfCode_tankCode (t : Tank) : tankOfCode (BitVec.ofNat 8 (32 + t.ctorIdx)) = some t := by cases t <;> rfl

theorem tankOfCode_none {b : Byte} (h : b ≠ 32) (h' : b ≠ 33) : tankOfCode b = none := by
  unfold tankOfCode
  split
  · next hb => exact absurd (BitVec.eq_of_toNat_eq hb) h
  · next hb => exact absurd (BitVec.eq_of_toNat_eq hb) h'
  · rfl

theorem statusSection_none {n : Byte} (h : n = 0 ∨ 8 < n.toNat) (s : State) : statusSection s n.toNat = none := by
  obtain rfl | h := h
  · rfl
  · unfold statusSection
    split <;> solve | omega | rfl

/-- A reading is answered with its body and changes nothing. -/
theorem exec_reading {i : Instr} {tag code : Byte} {r : Request} {s : State} {body : List Byte}
    (hi : i.request? = some (tag, r)) (hcode : r.code = code) (hr : r.wellFormed = true) (hs : Ready s)
    (hact : act r (holdRequest code tag s.fresh) = ⟨holdRequest code tag s.fresh, .ok, body⟩) {b : List Byte} (hb : body = b) :
    exec i s = .next (finish (s.fresh.answered code tag .ok b)) :=
  hb ▸ exec_of_act_unchanged hi hcode hr hs hact

/-! ### The readings -/

/-- Settles O50: each reading answers with the bytes of its section, field by field. -/
theorem readingsAnswerTheState : Obligations.ReadingsAnswerTheState := by
  refine ⟨fun n i => ⟨natBytes_two n, natBytes_four n, intBytes_two i, intBytes_four i⟩, fun s tag hs => ?_⟩
  intro flag byte name word i d g x h
  refine ⟨?_, ?_, ?_, ?_, ?_, ?_, ?_, ?_, ?_, ?_, fun n hn => ?_, ?_, ?_, ?_, ?_, ?_, fun t => ?_, fun b hb hb' => ?_⟩
  · refine exec_reading (r := .identify) rfl rfl rfl hs rfl ?_
    show identifyBytes s = _
    rw [identifyBytes]
    cases s.link.startCause <;> rfl
  · exact exec_reading (r := .readMeasurements) rfl rfl rfl hs rfl rfl
  · exact exec_reading (r := .readStatus 1) rfl rfl rfl hs rfl (statusInterlock_eq _)
  · exact exec_reading (r := .readStatus 2) rfl rfl rfl hs rfl (statusDrive_eq _)
  · refine exec_reading (r := .readStatus 3) rfl rfl rfl hs rfl ((statusGovernor_eq (s := s)
      (pair := fun y => match y with
        | .idle => [0, 0, 0, 0]
        | .pressure p => [1, 1, byte (p / 256), byte p]
        | .speed r => [2, 1, byte (r / 256), byte r])
      (source := fun y => match y with
        | .shadow => 0
        | .over k => byte (1 + k.ctorIdx)) (fun y => ?_) fun y => ?_).trans rfl)
    · cases y with
      | idle => rfl
      | pressure p => exact settingBytes_pressure p
      | speed r => exact settingBytes_speed r
    · cases y <;> rfl
  · exact exec_reading (r := .readStatus 4) rfl rfl rfl hs rfl (statusSupply_eq _)
  · exact exec_reading (r := .readStatus 5) rfl rfl rfl hs rfl rfl
  · refine exec_reading (r := .readStatus 6) rfl rfl rfl hs rfl ((statusOutput_eq _).trans ?_)
    simp only [actuatorBytes_eq]
    rfl
  · refine ⟨oldestIndex s.fresh, newestIndex s.fresh, fun r hr => ?_, fun r hr => ?_,
      exec_reading (r := .readStatus 7) rfl rfl rfl hs rfl (statusNotices_eq _)⟩
    · rw [oldestIndex, show s.fresh.trend.ring.head? = some r from hr]
      rfl
    · rw [newestIndex, show s.fresh.trend.ring.getLast? = some r from hr]
      rfl
  · refine exec_reading (r := .readStatus 8) rfl rfl rfl hs rfl ?_
    have hbuffer : (holdRequest 3 tag s.fresh).link.buffer = [] := hs.2.2
    show statusLink (holdRequest 3 tag s.fresh) = _
    rw [statusLink, hbuffer]
    rfl
  · refine exec_of_act_unchanged (r := .readStatus n) rfl rfl rfl hs ?_
    simp only [act, actReadStatus, statusSection_none hn, plain]
  · exact exec_reading (r := .readInputs) rfl rfl rfl hs rfl rfl
  · exact exec_reading (r := .readTotals) rfl rfl rfl hs rfl rfl
  · exact exec_reading (r := .readTanks) rfl rfl rfl hs rfl rfl
  · exact exec_taken (r := .readLinkErrors) rfl rfl rfl hs rfl rfl
  · exact exec_reading (r := .readAssignment) rfl rfl rfl hs rfl rfl
  · refine exec_of_act_unchanged (r := .readVolumeTable _) rfl rfl rfl hs ?_
    simp only [act, actReadVolumeTable, tankOfCode_tankCode]
    rfl
  · refine exec_of_act_unchanged (r := .readVolumeTable b) rfl rfl rfl hs ?_
    simp only [act, actReadVolumeTable, tankOfCode_none hb hb', plain]

end Sys2Proof.Machine
end

section
/-! PROOFS. READ_PARAM and WRITE_PARAM (R204, R205). -/

namespace Sys2Proof.Machine

variable {s t : State} {n : Fin 64} {r : ParamRow} {v : BitVec 32}

/-! ### The row of an identity (R204, R205) -/

theorem toNat_ident (n : Fin 64) : (BitVec.ofNat 8 (n.val + 1)).toNat = n.val + 1 := by
  rw [BitVec.toNat_ofNat]
  omega

theorem paramRow_ident (n : Fin 64) : paramRow (BitVec.ofNat 8 (n.val + 1)).toNat = paramTable[n.val]? := by
  rw [toNat_ident]
  rfl

theorem paramRow_none {b : Byte} (h : b = 0 ∨ 64 < b.toNat) : paramRow b.toNat = none := by
  obtain rfl | h := h
  · rfl
  · have hlen : paramTable.length = 64 := by decide
    rw [paramRow, if_neg (by omega), List.getElem?_eq_none_iff, hlen]
    omega

theorem storeParam_eq (n : Fin 64) (v : Int) (s : State) :
    storeParam (n.val + 1) v s = { s with params := s.params.set n v } := by
  have hparams : s.params.setIfInBounds n.val v = s.params.set n v :=
    Vector.ext fun i hi => by rw [Vector.getElem_setIfInBounds, Vector.getElem_set]
  unfold storeParam State.modParams
  rw [Nat.add_sub_cancel]
  exact congrArg (fun p => { s with params := p }) hparams

/-- The state a taken write leaves before the owning unit is handed the value. -/
def paramWritten (n : Fin 64) (v : Int) (s : State) : State := { s with params := s.params.set n v }

theorem actWriteParam_taken (hr : paramTable[n.val]? = some r) (hpto : r.disengagedOnly = false ∨ s.drive.pto = .disengaged) :
    actWriteParam (BitVec.ofNat 8 (n.val + 1)) v s =
      ⟨handParam (n.val + 1) (paramWritten n (storedParam s (n.val + 1) r v.toInt) s),
        if storedParam s (n.val + 1) r v.toInt = v.toInt then .ok else .adjusted,
        BitVec.ofNat 8 (n.val + 1) :: intBytes 4 (storedParam s (n.val + 1) r v.toInt)⟩ := by
  unfold actWriteParam
  rw [paramRow_ident, hr]
  dsimp only
  rw [if_neg (by rintro ⟨h, h'⟩; simp [h, h'] at hpto), toNat_ident, storeParam_eq]
  rfl

theorem actWriteParam_bad (hr : paramTable[n.val]? = some r) (hro : r.disengagedOnly = true)
    (hpto : s.drive.pto ≠ .disengaged) : actWriteParam (BitVec.ofNat 8 (n.val + 1)) v s = plain .badState s := by
  unfold actWriteParam
  rw [paramRow_ident, hr]
  exact if_pos ⟨hro, hpto⟩

theorem clamped_eq (hr : paramTable[n.val]? = some r) (v : Int) :
    clampTo r.least r.greatest v = max r.least (min v r.greatest) :=
  clampTo_eq _ _ _ (row_bounds r (List.mem_of_getElem? hr))

/-- An identity whose owning unit adjusts nothing further stores the value clamped to its range. -/
theorem storedParam_plain (hr : paramTable[n.val]? = some r) (h : ¬(45 ≤ n.val + 1 ∧ n.val + 1 ≤ 49)) (h52 : n.val + 1 ≠ 52)
    (h53 : n.val + 1 ≠ 53) (v : Int) : storedParam s (n.val + 1) r v = max r.least (min v r.greatest) := by
  rw [storedParam, adjustParam, if_neg h, if_neg h52, if_neg h53, clamped_eq hr]

theorem storedParam_hotAt (s : State) (v : Int) :
    storedParam s 52 ⟨60, 40, 80, false⟩ v = max (min (max 40 (min v 80)) (s.param 53 - 10)) 40 := by
  simp [storedParam, adjustParam, clampTo_eq _ _ _ (show (40 : Int) ≤ 80 by decide)]
  omega

theorem storedParam_idleAt (s : State) (v : Int) :
    storedParam s 53 ⟨75, 60, 95, false⟩ v = max (max 60 (min v 95)) (s.param 52 + 10) := by
  simp [storedParam, adjustParam, clampTo_eq _ _ _ (show (60 : Int) ≤ 95 by decide)]

/-- A parameter that is read where it is next used is handed to no unit. -/
theorem handParam_plain {m : Nat} (h : 13 ≤ m) (hm : m ∉ [21, 22, 24, 27, 45, 46, 47, 48, 49, 52, 53, 54, 55]) (s : State) :
    handParam m s = s := by
  unfold handParam
  split <;> solve | rfl | simp at hm | omega

theorem handParam_scaling {c : AnalogChannel} (h : n.val = channelIndex c ∨ n.val = 6 + channelIndex c) (s : State) :
    handParam (n.val + 1) s = unseed c s := by
  cases c <;> obtain h | h := h <;> rw [h] <;> rfl

theorem thresholdRow : ∀ n : Fin 64, 45 ≤ n.val + 1 → n.val + 1 ≤ 49 →
    ∃ r, paramTable[n.val]? = some r ∧ r.least = 1 ∧ r.greatest = 99 ∧ r.disengagedOnly = false := by
  decide

theorem handParam_threshold {m : Nat} (h : 45 ≤ m) (h' : m ≤ 49) (s : State) : handParam m s = forTanks evaluateLevel s := by
  interval_cases m <;> rfl

theorem scalingRow : ∀ c : AnalogChannel, ∀ n : Fin 64, n.val = channelIndex c ∨ n.val = 6 + channelIndex c →
    n.val + 1 < 13 := by
  intro c n h
  have hc : channelIndex c ≤ 5 := by cases c <;> decide
  omega

/-! ### The level states after a threshold is written (R131, R132) -/

theorem runInOrder_pair (f g : State → State) (s : State) :
    runInOrder [f, g] s = g (f (s.modChoices (·.drop 2))) ∨ runInOrder [f, g] s = f (g (s.modChoices (·.drop 2))) := by
  unfold runInOrder
  obtain h | h := List.perm_pair.1 (arrange_perm s.choices [f, g]) <;> rw [h]
  · exact .inl rfl
  · exact .inr rfl

theorem percentOf_congr {a : Tank} (h : (t.tank a).table = (s.tank a).table) : percentOf t a = percentOf s a := by
  funext n
  rw [percentOf, percentOf, capacity, capacity, h]

theorem paramNat_congr (h : t.params = s.params) : t.paramNat = s.paramNat := by
  funext n
  rw [State.paramNat, State.param, h]
  rfl

/-- The thresholds of a tank are those of its table and the parameters. -/
theorem entryLevel_congr {a : Tank} (hp : t.params = s.params) (h : (t.tank a).table = (s.tank a).table) :
    entryLevel t a = entryLevel s a := by
  funext v
  unfold entryLevel emptyAt lowAt fullAt
  rw [percentOf_congr h, paramNat_congr hp]

theorem levelKept_congr {a : Tank} (hp : t.params = s.params) (h : (t.tank a).table = (s.tank a).table) :
    levelKept t a = levelKept s a := by
  funext v st
  unfold levelKept emptyAt lowAt fullAt hysteresis
  rw [percentOf_congr h, paramNat_congr hp]

theorem nextLevel_stands {K : List Part} {a : Tank} (h : Stands K s t) (hl : .level a ∉ K) (ht : .tables ∉ K) :
    nextLevel t a = nextLevel s a := by
  obtain ⟨hv, hs⟩ := h.level a hl
  simp only [nextLevel, hv, hs, levelKept_congr h.params (h.tables a ht), entryLevel_congr h.params (h.tables a ht)]

/-- A level state set leaves the tank in it, and its volume, table and readings alone. -/
theorem setLevel_level (a : Tank) (st : LevelState) (s : State) :
    ((setLevel a st s).tank a).state = st ∧ ((setLevel a st s).tank a).volume = (s.tank a).volume ∧
    ((setLevel a st s).tank a).table = (s.tank a).table ∧ ((setLevel a st s).tank a).readings = (s.tank a).readings := by
  have htimed : ∀ x, Timed (.enter :: supplyParts) x := fun x => .inl List.mem_cons_self
  have hsub : supplyParts ⊆ .enter :: supplyParts := List.subset_cons_self ..
  have hout : Part.level a ∉ Part.enter :: supplyParts := by cases a <;> decide
  have htab : Part.tables ∉ Part.enter :: supplyParts := by decide
  have hread : Part.readings ∉ Part.enter :: supplyParts := by decide
  unfold setLevel
  split
  · next h =>
    have hst := (moves_evaluateStage (b := false) (t := a) hsub (htimed s) (.refl _ _ s)).stands
    exact ⟨(hst.level a hout).2.trans h, (hst.level a hout).1, hst.tables a htab, hst.readings a hread⟩
  · have hmoves := moves_levelReceivers (b := false) (t := a) (old := (s.tank a).state) hsub
      (htimed (levelTaken a st s)) (.refl ..)
    have hst := (moves_reviewLowTank (K := .enter :: supplyParts) (by decide) hmoves).stands
    have htaken : (levelTaken a st s).tank a = { s.tank a with state := st } := by
      rw [levelTaken, (stands_record_notices ..).tank a (by simp) (by simp), tank_modTank, if_pos rfl]
    obtain ⟨hv, hs⟩ := hst.level a hout
    rw [htaken] at hv hs
    rw [changeLevel_eq]
    exact ⟨hs, hv, (hst.tables a htab).trans (by rw [htaken]), (hst.readings a hread).trans (by rw [htaken])⟩

/-- An evaluation leaves the tank in the level state its volume calls for, and its volume and table alone. -/
theorem evaluateLevel_level (a : Tank) (s : State) : ((evaluateLevel a s).tank a).state = nextLevel s a ∧
    ((evaluateLevel a s).tank a).volume = (s.tank a).volume ∧ ((evaluateLevel a s).tank a).table = (s.tank a).table := by
  obtain ⟨hs, hv, ht, -⟩ := setLevel_level a (nextLevel s a) s
  exact ⟨hs, hv, ht⟩

theorem stands_evaluateLevel (a : Tank) (s : State) : Stands (.enter :: levelParts a) s (evaluateLevel a s) :=
  (moves_evaluateLevel (b := false) (List.subset_cons_self ..) (.inl List.mem_cons_self) (.refl ..)).stands

/-- Both tanks evaluated, in either order: each comes to its own level state. -/
theorem evaluateLevels_level (a : Tank) (s : State) : ((forTanks evaluateLevel s).tank a).state = nextLevel s a ∧
    ((forTanks evaluateLevel s).tank a).volume = (s.tank a).volume ∧
    ((forTanks evaluateLevel s).tank a).table = (s.tank a).table := by
  have key : ∀ a b : Tank, a ≠ b → ∀ s u, (u = evaluateLevel b (evaluateLevel a s) ∨ u = evaluateLevel a (evaluateLevel b s)) →
      (u.tank a).state = nextLevel s a ∧ (u.tank a).volume = (s.tank a).volume ∧ (u.tank a).table = (s.tank a).table := by
    intro a b hab s u hu
    have hout : Part.level a ∉ Part.enter :: levelParts b := by revert hab; cases a <;> cases b <;> decide
    have htab : Part.tables ∉ Part.enter :: levelParts b := by cases b <;> decide
    obtain rfl | rfl := hu
    · obtain ⟨hs, hv, ht⟩ := evaluateLevel_level a s
      have h := stands_evaluateLevel b (evaluateLevel a s)
      exact ⟨(h.level a hout).2.trans hs, (h.level a hout).1.trans hv, (h.tables a htab).trans ht⟩
    · obtain ⟨hs, hv, ht⟩ := evaluateLevel_level a (evaluateLevel b s)
      have h := stands_evaluateLevel b s
      exact ⟨hs.trans (nextLevel_stands h hout htab), hv.trans (h.level a hout).1, ht.trans (h.tables a htab)⟩
  have hpair := runInOrder_pair (evaluateLevel .main) (evaluateLevel .reserve) s
  cases a with
  | main => exact key .main .reserve (by decide) (s.modChoices (·.drop 2)) _ hpair
  | reserve => exact key .reserve .main (by decide) (s.modChoices (·.drop 2)) _ hpair.symm

theorem stands_evaluateLevels (s : State) :
    Stands (.enter :: .level .main :: levelParts .reserve) s (forTanks evaluateLevel s) := by
  refine (moves_runInOrder (b := false) (fun f hf y => ?_) (.refl ..)).stands
  obtain rfl | hf := List.mem_cons.1 hf
  · exact moves_evaluateLevel (by decide) (.inl List.mem_cons_self) (.refl ..)
  · obtain rfl := List.mem_singleton.1 hf
    exact moves_evaluateLevel (by decide) (.inl List.mem_cons_self) (.refl ..)

theorem evaluateLevels_eq_with (s : State) : forTanks evaluateLevel s = { forTanks evaluateLevel s with
    sense := s.sense, terminals := s.terminals, totals := s.totals, clock := s.clock, powered := s.powered
    choiceCount := s.choiceCount, pending := s.pending } := by
  have h := stands_evaluateLevels s
  rw [← h.sense (by decide), ← h.inputs (by decide), ← h.totals (by decide), ← h.clock, ← h.powered, ← h.choiceCount,
    ← h.pending]

/-! ### A written parameter answered (R204) -/

/-- A taken write: the owning unit's effect at once, of a state u but for the link. -/
theorem exec_writeParam {tag b : Byte} {u : State} {w : Int} (hb : BitVec.ofNat 8 (n.val + 1) = b) (hr : paramTable[n.val]? = some r) (hs : Ready s)
    (hpto : r.disengagedOnly = false ∨ s.drive.pto = .disengaged) (hw : storedParam s (n.val + 1) r v.toInt = w)
    (hu : handParam (n.val + 1) (paramWritten n w (holdRequest 10 tag s.fresh)) = u)
    (hlink : u.link = (holdRequest 10 tag s.fresh).link) :
    exec (.writeParam tag b v) s = .next (finish (State.answered { u with link := s.link } 10 tag
      (if w = v.toInt then .ok else .adjusted) (b :: intBytes 4 w))) := by
  subst hb hw hu
  exact exec_taken_link (r := .writeParam (BitVec.ofNat 8 (n.val + 1)) v) rfl rfl rfl hs
    (actWriteParam_taken (s := holdRequest 10 tag s.fresh) hr hpto) hlink

theorem actReadParam_none {b : Byte} (h : paramRow b.toNat = none) : actReadParam b s = plain .badValue s := by
  rw [actReadParam, h]

theorem actWriteParam_none {b : Byte} (h : paramRow b.toNat = none) : actWriteParam b v s = plain .badValue s := by
  rw [actWriteParam, h]

theorem param_of_get (n : Fin 64) (s : State) : s.param (n.val + 1) = s.params[n] := by
  unfold State.param
  rw [Nat.add_sub_cancel, Vector.getElem?_eq_getElem n.isLt]
  rfl

theorem actReadParam_row (hr : paramTable[n.val]? = some r) : actReadParam (BitVec.ofNat 8 (n.val + 1)) s =
    ⟨s, .ok, BitVec.ofNat 8 (n.val + 1) :: (intBytes 4 s.params[n] ++ intBytes 4 r.dflt ++ intBytes 4 r.least ++
      intBytes 4 r.greatest ++ [if r.disengagedOnly then 1 else 0])⟩ := by
  rw [actReadParam, paramRow_ident, hr, toNat_ident]
  dsimp only
  rw [param_of_get]
  simp only [List.append_assoc, List.cons_append, List.nil_append, flagByte]

/-- The written value as the least ceiling reads it. -/
theorem paramWritten_paramNat (n : Fin 64) (w : Int) (s : State) : (paramWritten n w s).paramNat (n.val + 1) = w.toNat := by
  rw [State.paramNat, param_of_get]
  exact congrArg Int.toNat (Vector.getElem_set_self ..)

theorem handParam_clip {m : Nat} (h : m ∈ [27, 54, 55]) (s : State) : handParam m s = clipDemand s := by
  simp only [List.mem_cons, List.not_mem_nil, or_false] at h
  obtain rfl | rfl | rfl := h <;> rfl

theorem clipRow : ∀ n : Fin 64, n.val + 1 ∈ [27, 54, 55] → ∀ r, paramTable[n.val]? = some r → r.disengagedOnly = false := by
  decide

/-- The demand is at or below the profile ceiling once it is clipped. -/
theorem clipDemand_le_profile (s : State) : (clipDemand s).governor.demand ≤ profileCeiling s := by
  rw [clipDemand_demand]
  exact (Nat.min_le_right ..).trans (leastCeiling_le _).1

theorem conditionEvent_write (h : NotShifting s ∨ s.interlock.conditions = trueConditions s) :
    conditionEvent s = s.modInterlock fun i => { i with conditions := trueConditions s } := by
  obtain h | h := h
  · exact conditionEvent_notShifting s h
  · rw [conditionEvent, if_pos h.symm, State.modInterlock, ← h]

theorem takeRollCeiling_of_ne (h : s.interlock.mode ≠ .pumpRoll) : takeRollCeiling s = s := if_neg h

theorem takeRollCeiling_of_roll (h : s.interlock.mode = .pumpRoll) :
    takeRollCeiling s = clipDemand (s.modInterlock fun i => { i with ceiling := rollCeiling s }) := if_pos h

theorem clipDemand_link (s : State) : (clipDemand s).link = s.link := by rw [clipDemand_eq_with]

/-- The setpoints stand when the demand is clipped. -/
theorem clipDemand_setpoints (s : State) :
    (clipDemand s).governor.shadow = s.governor.shadow ∧ (clipDemand s).governor.active = s.governor.active := by
  obtain ⟨g, -, h, hg⟩ := clipDemand_frame s
  rw [h]
  exact ⟨congrArg (·.shadow) hg, congrArg (·.active) hg⟩

/-- A threshold written: both tanks come to the level states of the new thresholds (R131, R132). -/
theorem exec_writeThreshold {tag : Byte} {w : Int} (hr : paramTable[n.val]? = some r) (hs : Ready s)
    (hro : r.disengagedOnly = false) (h45 : 45 ≤ n.val + 1) (h49 : n.val + 1 ≤ 49)
    (hw : storedParam s (n.val + 1) r v.toInt = w) : ∃ u : State,
      exec (.writeParam tag (BitVec.ofNat 8 (n.val + 1)) v) s = .next (finish (u.answered 10 tag
        (if w = v.toInt then .ok else .adjusted) (BitVec.ofNat 8 (n.val + 1) :: intBytes 4 w))) ∧
      u.params = s.params.set n w ∧
      (∀ t : Tank, (u.tank t).state = nextLevel { s with params := s.params.set n w } t ∧
        (u.tank t).volume = (s.tank t).volume ∧ (u.tank t).table = (s.tank t).table) ∧
      u = { u with
        sense := s.sense, terminals := s.terminals, totals := s.totals, clock := s.clock, powered := true
        choiceCount := s.choiceCount + 1, pending := s.pending } := by
  have hst := stands_evaluateLevels (paramWritten n w (holdRequest 10 tag s.fresh))
  refine ⟨_, exec_writeParam rfl hr hs (.inl hro) hw (handParam_threshold h45 h49 _) hst.link, hst.params,
    fun t => evaluateLevels_level t (paramWritten n w (holdRequest 10 tag s.fresh)), ?_⟩
  rw [evaluateLevels_eq_with]
  dsimp only
  rw [← hs.1]
  rfl

/-- Settles O49: a taken write stores its adjusted value and hands it to the owning unit. -/
theorem parametersAreReadAndWritten : Obligations.ParametersAreReadAndWritten := by
  refine ⟨fun s tag n v i code hs hn hi => ?_, fun s tag n r hs hr => ?_, fun s tag n v r hs hr hro hpto => ?_,
    fun s tag n v r hs hr hpto h13 hplain => ?_, fun s tag c n v r hs hr hpto hc => ?_, fun s tag v hs => ?_,
    fun s tag v hs => ?_, fun s tag n v r hs hr hn => ?_, fun s tag v hs hpto => ?_, fun s tag v hs => ?_,
    fun s tag v hs hcond => ?_, fun s tag n v hs h45 h49 => ?_⟩
  · have hrow := paramRow_none hn
    obtain ⟨rfl, rfl⟩ | ⟨rfl, rfl⟩ := hi
    · exact exec_of_act_unchanged (r := .readParam n) rfl rfl rfl hs (actReadParam_none hrow)
    · exact exec_of_act_unchanged (r := .writeParam n v) rfl rfl rfl hs (actWriteParam_none hrow)
  · exact exec_of_act_unchanged (r := .readParam _) rfl rfl rfl hs (actReadParam_row (s := holdRequest 9 tag s.fresh) hr)
  · exact exec_of_act_unchanged (r := .writeParam _ v) rfl rfl rfl hs
      (actWriteParam_bad (s := holdRequest 10 tag s.fresh) hr hro hpto)
  · exact exec_writeParam rfl hr hs hpto
      (storedParam_plain hr (by simp at hplain; omega) (by simp at hplain; omega) (by simp at hplain; omega) _)
      (handParam_plain h13 hplain _) rfl
  · have h13 := scalingRow c n hc
    refine ⟨_, exec_writeParam rfl hr hs (.inr hpto) (storedParam_plain hr (by omega) (by omega) (by omega) _)
      (handParam_scaling hc _) rfl, rfl, ?_, fun d hd => ?_⟩
    · exact (getAnalog_setAnalog ..).trans (if_pos rfl)
    · exact (getAnalog_setAnalog ..).trans (if_neg hd)
  · exact (exec_writeParam (n := 51) rfl rfl hs (.inl rfl) (storedParam_hotAt _ _) rfl rfl).trans rfl
  · exact (exec_writeParam (n := 52) rfl rfl hs (.inl rfl) (storedParam_idleAt _ _) rfl rfl).trans rfl
  · have hrange : n.val + 1 = 27 ∨ n.val + 1 = 54 ∨ n.val + 1 = 55 := by simpa using hn
    refine ⟨_, exec_writeParam rfl hr hs (.inl (clipRow n hn r hr)) (storedParam_plain hr (by omega) (by omega) (by omega) _)
      (handParam_clip hn _) (clipDemand_link _), ?_, clipDemand_demand_self _, fun h27 => ?_, clipDemand_setpoints _⟩
    · rw [clipDemand_eq_with]
      rfl
    · have h := clipDemand_le_profile (paramWritten n (max r.least (min v.toInt r.greatest)) (holdRequest 10 tag s.fresh))
      rw [profileCeiling, ← h27, paramWritten_paramNat] at h
      exact h
  · have hstored := storedParam_plain (s := s) (n := 20) (r := ⟨300, 10, 50000, true⟩) rfl (by decide) (by decide) (by decide) v.toInt
    exact (exec_writeParam (n := 20) rfl rfl hs (.inr hpto) hstored rfl rfl).trans rfl
  · have hstored := storedParam_plain (s := s) (n := 21) (r := ⟨350, 100, 600, false⟩) rfl (by decide) (by decide) (by decide) v.toInt
    by_cases hmode : s.interlock.mode = .pumpRoll
    · have hroll := takeRollCeiling_of_roll
        (s := paramWritten 21 (max 100 (min v.toInt 600)) (holdRequest 10 tag s.fresh)) hmode
      rw [show rollCeiling _ = _ from paramWritten_paramNat 21 _ _] at hroll
      have hexec := exec_writeParam (tag := tag) (n := 21) rfl rfl hs (.inl rfl) hstored hroll (clipDemand_link _)
      refine ⟨_, hexec, fun h => absurd hmode h, fun _ => ⟨?_, clipDemand_demand_self _, clipDemand_setpoints _⟩⟩
      rw [clipDemand_eq_with]
      rfl
    · exact ⟨_, exec_writeParam (n := 21) rfl rfl hs (.inl rfl) hstored (takeRollCeiling_of_ne hmode) rfl, fun _ => rfl,
        fun h => absurd h hmode⟩
  · have hstored := storedParam_plain (s := s) (n := 23) (r := ⟨900, 600, 1200, false⟩) rfl (by decide) (by decide) (by decide) v.toInt
    have hevent := conditionEvent_write (s := paramWritten 23 (max 600 (min v.toInt 1200)) (holdRequest 10 tag s.fresh)) hcond
    exact (exec_writeParam (n := 23) rfl rfl hs (.inl rfl) hstored hevent rfl).trans rfl
  · obtain ⟨r, hr, hl, hg, hro⟩ := thresholdRow n h45 h49
    have hstored : storedParam s (n.val + 1) r v.toInt = orderThreshold s (n.val + 1) (max 1 (min v.toInt 99)) := by
      rw [storedParam, adjustParam, if_pos ⟨h45, h49⟩, clamped_eq hr, hl, hg]
    exact exec_writeThreshold hr hs hro h45 h49 hstored

end Sys2Proof.Machine
end

section
/-! PROOFS. WRITE_ASSIGNMENT and WRITE_VOLUME_TABLE (R20, R21, R126, R128). -/

namespace Sys2Proof.Machine

variable {s t u x : State} {n : Terminal} {old new : AssignRecord}

/-! ### A lost input in DISENGAGED (R17) -/

/-- What an input found lost in DISENGAGED may touch. -/
def lostParts : List Part := [.conditions, .cause .stop, .valve .recircValve] ++ tripParts ++ supplyParts

theorem notShifting_of_disengaged (h : s.drive.pto = .disengaged) : NotShifting s := by simp [NotShifting, h]

theorem moves_eventAndIdle {K : List Part} {b : Bool} {f : State → State} (hE : .event ∈ K) (hK : .drive ∉ K)
    (hf : ∀ y, y.drive.pto = .disengaged → Moves K b y (f y)) (hs : s.drive.pto = .disengaged) :
    Moves K b s (runInOrder [conditionEvent, f] s) := by
  refine moves_runInOrder_of (P := fun y => y.drive.pto = .disengaged)
    (fun y z h hy => by rw [(h.calm hK (notShifting_of_disengaged hy)).1, hy]) (fun g hg y hy => ?_) hs (.refl ..)
  obtain rfl | hg := List.mem_cons.1 hg
  · exact moves_conditionEvent hE (.refl ..)
  · obtain rfl := List.mem_singleton.1 hg
    exact hf y hy

theorem disengageOrder_disengaged {c : ReleaseCause} (h : s.drive.pto = .disengaged) : disengageOrder c s = s := by
  rw [disengageOrder, h]

theorem ptoFeedbackChange_disengaged (h : s.drive.pto = .disengaged) : ptoFeedbackChange false s = s := by
  simp only [ptoFeedbackChange, h]

theorem moves_inputLost (r : Role) (b : Bool) (hs : s.drive.pto = .disengaged) :
    Moves lostParts b s (inputChange n r false s) := by
  cases r
  case parkBrake | neutral =>
    exact moves_eventAndIdle (by decide) (by decide) (fun _ _ => moves_tripOnLoss (by decide) (.refl ..)) hs
  case rollSelect =>
    refine moves_eventAndIdle (by decide) (by decide) (fun y hy => ?_) hs
    rw [deselectRoll, disengageOrder_disengaged hy, ite_self]
    exact .refl ..
  case panelStop =>
    exact moves_eventAndIdle (by decide) (by decide) (fun _ _ => moves_reviewStop (by decide) (by decide) (.refl ..)) hs
  case ptoFb =>
    rw [show inputChange n .ptoFb false s = s from ptoFeedbackChange_disengaged hs]
    exact .refl ..
  case mainValveFb | reserveValveFb | recircFb =>
    exact moves_valveFeedbackChange (by decide) (by decide) (.refl ..)
  case generalIn => exact moves_record (by decide) (.refl ..)
  all_goals exact .refl ..

/-! ### A terminal brought into line with its record (R21) -/

/-- What bringing a terminal's input state into line may touch. -/
def alignInputParts : List Part := .inputs :: lostParts

/-- What bringing a terminal into line may touch. -/
def alignParts : List Part := .general :: alignInputParts

theorem set_self {α : Type} (v : Vector α 16) (n : Terminal) : v.set n v[n] = v := Vector.set_getElem_self ..

theorem alignOutput_eq (n : Terminal) (s : State) : alignOutput old new n s =
    s.modOutputs fun o => { o with general := o.general.set n (outputAfter old new s.outputs.general[n]) } := by
  have hself : s = s.modOutputs fun o => { o with general := o.general.set n s.outputs.general[n] } := by
    rw [State.modOutputs, set_self]
  unfold alignOutput outputAfter
  by_cases h : old.role = .generalOut <;> by_cases h' : new.role = .generalOut <;> simp only [h, h', or_true, or_false,
    and_true, and_false, if_true, if_false, iff_true, iff_false, not_true, or_self]
  · exact hself
  · rfl
  · rfl
  · exact hself

theorem inputAfter_turned {i : InputState} (h : isInputRole old.role ≠ isInputRole new.role) :
    inputAfter old new i = freshInput := if_pos h

theorem inputAfter_same {i : InputState} (h : isInputRole old.role = isInputRole new.role)
    (hsame : isInputRole new.role = false ∨ (old.role = new.role ∧ old.polarity = new.polarity ∧ old.q = new.q)) :
    inputAfter old new i = i := by
  rw [inputAfter, if_neg (not_not.2 h), if_pos hsame]

theorem inputAfter_changed {i : InputState} (ho : isInputRole old.role = true) (hn : isInputRole new.role = true)
    (hdiff : ¬(old.role = new.role ∧ old.polarity = new.polarity ∧ old.q = new.q)) :
    inputAfter old new i = { i with asserted := false, counter := 0 } := by
  rw [inputAfter, if_neg (by simp [ho, hn]), if_neg (by simpa [hn] using hdiff)]

/-- The terminal's input state is as R21 has it, and no other input state is changed. -/
theorem alignInput_inputs (hs : s.drive.pto = .disengaged) :
    (alignInput old new n s).terminals.inputs = s.terminals.inputs.set n (inputAfter old new s.terminals.inputs[n]) := by
  unfold alignInput
  dsimp only
  by_cases hn : isInputRole new.role = true <;> by_cases ho : isInputRole old.role = true
  · rw [if_pos hn, if_pos ho]
    by_cases hsame : old.role = new.role ∧ old.polarity = new.polarity ∧ old.q = new.q
    · rw [if_pos hsame, inputAfter_same (by rw [hn, ho]) (.inr hsame), set_self]
    · rw [if_neg hsame, inputAfter_changed ho hn hsame]
      split
      · exact congrArg (·.inputs) ((moves_inputLost (s := setInput n _ s) (n := n) new.role false hs).stands.inputs (by decide))
      · rfl
  · rw [if_pos hn, if_neg ho, inputAfter_turned (by simp [hn, ho])]
    rfl
  · rw [if_neg hn, if_pos ho, inputAfter_turned (by simp [hn, ho])]
    rfl
  · rw [if_neg hn, if_neg ho, inputAfter_same (by simp [hn, ho]) (.inl (by simpa using hn)), set_self]

theorem moves_alignInput_disengaged (b : Bool) (hs : s.drive.pto = .disengaged) :
    Moves alignInputParts b s (alignInput old new n s) := by
  have hset := fun i => moves_setInput (K := alignInputParts) (b := b) (n := n) (i := i) (by decide) (.refl _ _ s)
  unfold alignInput
  dsimp only
  split
  · split
    · split
      · exact .refl ..
      · split
        · exact (hset _).trans ((moves_inputLost (s := setInput n _ s) (n := n) new.role b hs).mono (by decide))
        · exact hset _
    · exact hset _
  · split
    · exact hset _
    · exact .refl ..

/-- What one terminal brought into line leaves: its input state and its output as R21 has them, each other's as it was. -/
theorem alignTerminal_spec (old : AssignRecord) (n : Terminal) (hs : s.drive.pto = .disengaged) :
    Stands alignParts s (alignTerminal old n s) ∧ (alignTerminal old n s).drive.pto = .disengaged ∧
    (alignTerminal old n s).terminals.inputs =
      s.terminals.inputs.set n (inputAfter old s.terminals.assignment[n] s.terminals.inputs[n]) ∧
    (alignTerminal old n s).outputs.general =
      s.outputs.general.set n (outputAfter old s.terminals.assignment[n] s.outputs.general[n]) := by
  rw [alignTerminal_eq, alignOutput_eq]
  generalize hx : s.modOutputs _ = x
  have hx_drive : x.drive.pto = .disengaged := by rw [← hx]; exact hs
  have hmoves : Moves alignParts false s x := hx ▸ .outputs _ (by decide) s _ (.inl (by decide))
  have halign := moves_alignInput_disengaged (old := old) (new := s.terminals.assignment[n]) (n := n) false hx_drive
  refine ⟨(hmoves.trans (halign.mono (List.subset_cons_self ..))).stands, ?_, ?_, ?_⟩
  · rw [(halign.calm (by decide) (notShifting_of_disengaged hx_drive)).1, hx_drive]
  · rw [alignInput_inputs hx_drive, ← hx]
    rfl
  · rw [halign.stands.general (by decide), ← hx]
    rfl

/-- Each named terminal brought into line once, in some order, with its record before the write. -/
theorem alignAll_spec (old : Terminal → AssignRecord) : ∀ (l : List Terminal) (s : State), l.Nodup → s.drive.pto = .disengaged →
    let u := l.foldl (fun x n => alignTerminal (old n) n x) s
    Stands alignParts s u ∧ u.drive.pto = .disengaged ∧ ∀ w : Terminal,
      u.terminals.inputs[w] = (if w ∈ l then inputAfter (old w) s.terminals.assignment[w] s.terminals.inputs[w]
        else s.terminals.inputs[w]) ∧
      u.outputs.general[w] = if w ∈ l then outputAfter (old w) s.terminals.assignment[w] s.outputs.general[w]
        else s.outputs.general[w]
  | [], s, _, hs => ⟨.refl .., hs, fun w => by simp⟩
  | n :: l, s, hl, hs => by
    obtain ⟨hn, hl⟩ := List.nodup_cons.1 hl
    obtain ⟨hst, hpto, hin, hout⟩ := alignTerminal_spec (old n) n hs
    obtain ⟨hst', hpto', hall⟩ := alignAll_spec old l (alignTerminal (old n) n s) hl hpto
    refine ⟨hst.trans hst', hpto', fun w => ?_⟩
    obtain ⟨hi, ho⟩ := hall w
    rw [List.foldl_cons, hi, ho, hst.assignment, hin, hout]
    by_cases hw : w = n
    · subst hw
      simp [hn]
    · have hval : n.val ≠ w.val := fun h => hw (Fin.ext h.symm)
      simp [hw, hval]

theorem writtenTable_of_not_mem {recs : List (Terminal × AssignRecord)} {w : Terminal} (hw : w ∉ recs.map (·.1))
    (a : Vector AssignRecord 16) : (writtenTable recs a)[w] = a[w] := by
  induction recs generalizing a with
  | nil => rfl
  | cons p recs ih =>
    rw [List.map_cons, List.mem_cons, not_or] at hw
    have hval : p.1.val ≠ w.val := fun h => hw.1 (Fin.ext h.symm)
    exact (ih hw.2 _).trans (by simp [hval])

theorem inputAfter_self (r : AssignRecord) (i : InputState) : inputAfter r r i = i := inputAfter_same rfl (.inr ⟨rfl, rfl, rfl⟩)

theorem outputAfter_self (r : AssignRecord) (o : OutputRecord) : outputAfter r r o = o := if_pos Iff.rfl

/-- The state with the written table in force, before the terminals are brought into line. -/
def tableWritten (recs : List (Terminal × AssignRecord)) (s : State) : State :=
  s.modTerminals fun x => { x with assignment := writtenTable recs x.assignment }

theorem runInOrder_map {α : Type} (f : α → State → State) (l : List α) (s : State) : runInOrder (l.map f) s =
    (arrange s.choices l).foldl (fun x a => f a x) (s.modChoices (·.drop l.length)) := by
  rw [runInOrder, arrange_map, List.foldl_map, List.length_map]

theorem writeRecords_eq (recs : List (Terminal × AssignRecord)) (s : State) : writeRecords recs s =
    refreshConditions (reviewStop (runInOrder
      ((recs.map (·.1)).map fun n => alignTerminal s.terminals.assignment[n] n) (tableWritten recs s))) := by
  rw [List.map_map]
  rfl

/-- A taken write replaces the table, and every terminal's input state and output are as R21 has them. -/
theorem writeRecords_spec {recs : List (Terminal × AssignRecord)} (hrecs : (recs.map (·.1)).Nodup)
    (hs : s.drive.pto = .disengaged) :
    Stands alignParts (tableWritten recs s) (writeRecords recs s) ∧ ∀ w : Terminal,
      (writeRecords recs s).terminals.inputs[w] =
        inputAfter s.terminals.assignment[w] (writtenTable recs s.terminals.assignment)[w] s.terminals.inputs[w] ∧
      (writeRecords recs s).outputs.general[w] =
        outputAfter s.terminals.assignment[w] (writtenTable recs s.terminals.assignment)[w] s.outputs.general[w] := by
  rw [writeRecords_eq, runInOrder_map]
  obtain ⟨hst, -, hall⟩ := alignAll_spec (fun n => s.terminals.assignment[n]) (arrange (tableWritten recs s).choices (recs.map (·.1)))
    ((tableWritten recs s).modChoices (·.drop (recs.map (·.1)).length)) ((arrange_perm ..).nodup_iff.2 hrecs) hs
  replace hst := Stands.trans (Moves.choices alignParts false (tableWritten recs s) (·.drop (recs.map (·.1)).length)).stands hst
  generalize hx : List.foldl _ _ _ = x
  rw [hx] at hst hall
  have hreview : Moves [.alarm, .cause .stop, .conditions] false x (refreshConditions (reviewStop x)) :=
    (moves_reviewStop (by decide) (by decide) (.refl ..)).trans (.conditions _ (by decide) _)
  refine ⟨hst.trans (hreview.mono (by decide)).stands, fun w => ?_⟩
  rw [hreview.stands.inputs (by decide), hreview.stands.outputs (by decide)]
  obtain ⟨hi, ho⟩ := hall w
  rw [hi, ho]
  simp only [mem_arrange]
  split
  · exact ⟨rfl, rfl⟩
  · next hw =>
    rw [writtenTable_of_not_mem hw, inputAfter_self, outputAfter_self]
    exact ⟨rfl, rfl⟩

/-! ### The records of a request (R20) -/

theorem terminalOfCode_code : ∀ n : Terminal, terminalOfCode (BitVec.ofNat 8 (16 + n.val)) = some n := by decide

theorem terminalOfCode_none {b : Byte} (h : b.toNat < 16 ∨ 32 ≤ b.toNat) : terminalOfCode b = none := by
  cases hb : terminalOfCode b with
  | none => rfl
  | some n =>
    have := terminalOfCode_eq_some hb
    omega

theorem parseSafe_none {r : Role} {present safe : Byte} (h : 2 ≤ present.toNat ∨
    (r = .generalOut ∧ (present = 0 ∨ 3 ≤ safe.toNat))) : parseSafe r present safe = none := by
  unfold parseSafe
  split
  · rfl
  · next hp =>
    obtain ⟨rfl, hsafe⟩ := h.resolve_left (by omega)
    rw [if_pos rfl]
    split
    · next h1 =>
      have hnone : atCode [SafeState.hold, .off, .on] safe = none := atCode_eq_none_iff.2 (hsafe.resolve_left (by simp [h1]))
      rw [hnone, Option.map_none]
    · rfl

/-- A record whose codes or safe state R20 does not allow is not read. -/
theorem parseAssignRecord_none {f : AssignmentField}
    (h : f.terminal.toNat < 16 ∨ 32 ≤ f.terminal.toNat ∨ 18 ≤ f.role.toNat ∨ 2 ≤ f.polarity.toNat ∨ 2 ≤ f.safePresent.toNat ∨
      (f.role = BitVec.ofNat 8 Role.generalOut.ctorIdx ∧ (f.safePresent = 0 ∨ 3 ≤ f.safe.toNat))) :
    parseAssignRecord f = none := by
  unfold parseAssignRecord
  split
  · next n r p hn hr hp =>
    rw [Option.map_eq_none_iff]
    refine parseSafe_none ?_
    have ht := terminalOfCode_eq_some hn
    have hrole : f.role.toNat < allRoles.length := (List.getElem?_eq_some_iff.1 hr).1
    have hpol : f.polarity.toNat < [Polarity.activeHigh, .activeLow].length := (List.getElem?_eq_some_iff.1 hp).1
    obtain h | h | h | h | h | ⟨hout, h⟩ := h
    · omega
    · omega
    · exact absurd hrole (by simp [allRoles]; omega)
    · exact absurd hpol (by simp; omega)
    · exact .inl h
    · rw [hout] at hr
      exact .inr ⟨(Option.some.inj hr).symm, h⟩
  · rfl

theorem atCode_role (r : Role) : atCode allRoles (BitVec.ofNat 8 r.ctorIdx) = some r := by cases r <;> rfl

theorem atCode_polarity (p : Polarity) : atCode [Polarity.activeHigh, .activeLow] (BitVec.ofNat 8 p.ctorIdx) = some p := by
  cases p <;> rfl

/-- The fields of a record of a request and the record they carry (R20, log entry 43). -/
def FieldsOf (f : AssignmentField) (p : Terminal × AssignRecord) : Prop :=
  f.terminal = BitVec.ofNat 8 (16 + p.1.val) ∧ f.role = BitVec.ofNat 8 p.2.role.ctorIdx ∧
  f.polarity = BitVec.ofNat 8 p.2.polarity.ctorIdx ∧ p.2.q = max 1 (min f.q.toNat 15) ∧ f.safePresent.toNat ≤ 1 ∧
  (p.2.role = .generalOut → f.safePresent = 1 ∧
    ∃ x : SafeState, p.2.safe = some x ∧ f.safe = BitVec.ofNat 8 x.ctorIdx) ∧
  (p.2.role ≠ .generalOut → p.2.safe = none)

theorem parseAssignRecord_fields {f : AssignmentField} {p : Terminal × AssignRecord} (h : FieldsOf f p) :
    parseAssignRecord f = some p := by
  obtain ⟨n, r⟩ := p
  obtain ⟨hn, hrole, hpol, hq, hpres, hout, hother⟩ := h
  have hsafe : parseSafe r.role f.safePresent f.safe = some r.safe := by
    unfold parseSafe
    rw [if_neg (by omega)]
    split
    · next hr =>
      obtain ⟨h1, x, hx, hcode⟩ := hout hr
      rw [if_pos h1, hcode, hx]
      cases x <;> rfl
    · next hr => rw [hother hr]
  have hclamp : (clampTo 1 15 f.q.toNat).toNat = r.q := by
    rw [hq, clampTo_eq _ _ _ (by decide)]
    omega
  unfold parseAssignRecord
  rw [hn, hrole, hpol, terminalOfCode_code, atCode_role, atCode_polarity]
  dsimp only
  rw [hsafe, hclamp]
  rfl

theorem mapM_fields {l : List AssignmentField} {recs : List (Terminal × AssignRecord)} (h : List.Forall₂ FieldsOf l recs) :
    l.mapM parseAssignRecord = some recs := by
  rw [mapM_eq_some_iff]
  induction h with
  | nil => rfl
  | cons hf _ ih => rw [List.map_cons, List.map_cons, parseAssignRecord_fields hf, ih]

theorem parseAssign_fields {l : List AssignmentField} {recs : List (Terminal × AssignRecord)} (h : List.Forall₂ FieldsOf l recs)
    (hne : recs ≠ []) (hnodup : (recs.map (·.1)).Nodup) : parseAssign l = some recs := by
  unfold parseAssign
  rw [mapM_fields h, Option.filter_some, if_pos (by simpa [hnodup] using hne)]

theorem parseAssignRecord_terminal {f : AssignmentField} {p : Terminal × AssignRecord} (h : parseAssignRecord f = some p) :
    f.terminal = BitVec.ofNat 8 (16 + p.1.val) := by
  unfold parseAssignRecord at h
  split at h
  · next n _ _ hn _ _ =>
    obtain ⟨_, -, rfl⟩ := Option.map_eq_some_iff.1 h
    have ht := terminalOfCode_eq_some hn
    refine BitVec.eq_of_toNat_eq ?_
    rw [BitVec.toNat_ofNat]
    dsimp only
    omega
  · cases h

theorem terminals_of_mapM {l : List AssignmentField} {recs : List (Terminal × AssignRecord)}
    (h : l.mapM parseAssignRecord = some recs) :
    l.map (·.terminal) = (recs.map (·.1)).map fun n => BitVec.ofNat 8 (16 + n.val) := by
  rw [mapM_eq_some_iff] at h
  induction l generalizing recs with
  | nil => cases recs <;> simp at h ⊢
  | cons f l ih =>
    cases recs with
    | nil => simp at h
    | cons p recs =>
      rw [List.map_cons, List.map_cons, List.cons.injEq] at h
      rw [List.map_cons, List.map_cons, List.map_cons, parseAssignRecord_terminal h.1, ih h.2]

theorem parseAssign_none {l : List AssignmentField}
    (h : l = [] ∨ (∃ f ∈ l, parseAssignRecord f = none) ∨ ¬(l.map (·.terminal)).Nodup) : parseAssign l = none := by
  unfold parseAssign
  obtain rfl | ⟨f, hf, hnone⟩ | h := h
  · rfl
  · rw [mapM_eq_none_of_mem hf hnone, Option.filter_none]
  · cases hm : l.mapM parseAssignRecord with
    | none => rfl
    | some recs =>
      rw [Option.filter_some, if_neg]
      simp only [Bool.and_eq_true, decide_eq_true_iff, not_and]
      intro _ hnodup
      refine h (terminals_of_mapM hm ▸ hnodup.map fun n m e => ?_)
      have h' := congrArg BitVec.toNat e
      rw [BitVec.toNat_ofNat, BitVec.toNat_ofNat] at h'
      exact Fin.ext (by omega)

/-! ### WRITE_ASSIGNMENT answered (R20) -/

theorem qClamped_result (l : List AssignmentField) : (if qClamped l then Result.adjusted else Result.ok) =
    if ∀ f ∈ l, 1 ≤ f.q.toNat ∧ f.q.toNat ≤ 15 then .ok else .adjusted := by
  have h : qClamped l = true ↔ ¬∀ f ∈ l, 1 ≤ f.q.toNat ∧ f.q.toNat ≤ 15 := by
    simp only [qClamped, List.any_eq_true, Bool.or_eq_true, beq_iff_eq, decide_eq_true_iff, not_forall, exists_prop]
    exact exists_congr fun f => and_congr_right fun _ => by omega
  by_cases hq : ∀ f ∈ l, 1 ≤ f.q.toNat ∧ f.q.toNat ≤ 15
  · rw [if_pos hq, if_neg (fun hc => h.1 hc hq)]
  · rw [if_neg hq, if_pos (h.2 hq)]

theorem actWriteAssignment_outside {l : List AssignmentField} (h : s.drive.pto ≠ .disengaged) :
    actWriteAssignment l s = plain .badState s := if_pos h

theorem actWriteAssignment_none {l : List AssignmentField} (h : s.drive.pto = .disengaged) (hp : parseAssign l = none) :
    actWriteAssignment l s = plain .badValue s := by
  rw [actWriteAssignment, if_neg (not_not.2 h), hp]

theorem actWriteAssignment_some {l : List AssignmentField} {recs : List (Terminal × AssignRecord)} (h : s.drive.pto = .disengaged)
    (hp : parseAssign l = some recs) : actWriteAssignment l s =
      if dedicatedOnce (writtenTable recs s.terminals.assignment) then
        ⟨writeRecords recs s, if qClamped l then .adjusted else .ok, listOf namedRecordBytes recs⟩
      else plain .badValue s := by
  rw [actWriteAssignment, if_neg (not_not.2 h), hp]

theorem actWriteAssignment_taken {l : List AssignmentField} {recs : List (Terminal × AssignRecord)} (h : s.drive.pto = .disengaged)
    (hp : parseAssign l = some recs) (hded : dedicatedOnce (writtenTable recs s.terminals.assignment) = true) :
    actWriteAssignment l s = ⟨writeRecords recs s,
      if ∀ f ∈ l, 1 ≤ f.q.toNat ∧ f.q.toNat ≤ 15 then .ok else .adjusted, listOf namedRecordBytes recs⟩ := by
  rw [actWriteAssignment_some h hp, if_pos hded, qClamped_result]

theorem wellFormed_writeAssignment {l : List AssignmentField} (h : l.length ≤ 42) :
    (Request.writeAssignment l).wellFormed = true := by
  refine decide_eq_true ?_
  show 1 + 6 * l.length ≤ 253
  omega

theorem dedicatedOnce_false {a : Vector AssignRecord 16} {n w : Terminal} (hnw : n ≠ w) (he : a[n].role = a[w].role)
    (hded : isDedicated a[n].role = true) : dedicatedOnce a = false :=
  Bool.eq_false_iff.2 fun h => (dedicatedOnce_iff a).1 h n w hnw hded he

theorem actWriteAssignment_twice {l : List AssignmentField} {recs : List (Terminal × AssignRecord)} {n w : Terminal}
    (h : s.drive.pto = .disengaged) (hp : parseAssign l = some recs) (hnw : n ≠ w)
    (he : (writtenTable recs s.terminals.assignment)[n].role = (writtenTable recs s.terminals.assignment)[w].role)
    (hded : isDedicated (writtenTable recs s.terminals.assignment)[n].role = true) :
    actWriteAssignment l s = plain .badValue s := by
  rw [actWriteAssignment_some h hp, dedicatedOnce_false hnw he hded]
  rfl

/-- One record alone is read as itself. -/
theorem parseAssign_singleton {f : AssignmentField} {recs : List (Terminal × AssignRecord)} (h : parseAssign [f] = some recs) :
    ∃ p, parseAssignRecord f = some p ∧ recs = [p] := by
  obtain ⟨hm, -⟩ := Option.filter_eq_some_iff.1 h
  rw [mapM_eq_some_iff] at hm
  obtain _ | ⟨p, _ | ⟨q, recs⟩⟩ := recs
  · simp at hm
  · exact ⟨p, by simpa using hm, rfl⟩
  · simp at hm

theorem parseAssignRecord_role {f : AssignmentField} {p : Terminal × AssignRecord} (h : parseAssignRecord f = some p) :
    atCode allRoles f.role = some p.2.role := by
  unfold parseAssignRecord at h
  split at h
  · next _ _ _ _ hr _ =>
    obtain ⟨_, -, rfl⟩ := Option.map_eq_some_iff.1 h
    exact hr
  · cases h

theorem isDedicated_iff (r : Role) : isDedicated r = true ↔ r ≠ .generalIn ∧ r ≠ .generalOut := by
  cases r <;> simp [isDedicated]

/-- A dedicated role asked for a second terminal is refused. -/
theorem actWriteAssignment_taken_role {f : AssignmentField} {n w : Terminal} {r : Role} (h : s.drive.pto = .disengaged)
    (hnw : n ≠ w) (hw : s.terminals.assignment[w].role = r) (hded : isDedicated r = true)
    (hn : f.terminal = BitVec.ofNat 8 (16 + n.val)) (hr : f.role = BitVec.ofNat 8 r.ctorIdx) :
    actWriteAssignment [f] s = plain .badValue s := by
  cases hp : parseAssign [f] with
  | none => exact actWriteAssignment_none h hp
  | some recs =>
    obtain ⟨⟨m, rec⟩, hf, rfl⟩ := parseAssign_singleton hp
    have hm : n = m := by
      have hcode := congrArg BitVec.toNat (hn.symm.trans (parseAssignRecord_terminal hf))
      rw [BitVec.toNat_ofNat, BitVec.toNat_ofNat] at hcode
      dsimp only at hcode
      exact Fin.ext (by omega)
    have hrole : rec.role = r := by
      have := parseAssignRecord_role hf
      rw [hr, atCode_role] at this
      exact (Option.some.inj this).symm
    have hval : n.val ≠ w.val := fun e => hnw (Fin.ext e)
    subst hm
    have hnew : (writtenTable [(n, rec)] s.terminals.assignment)[n].role = r := by simp [writtenTable, hrole]
    have hold : (writtenTable [(n, rec)] s.terminals.assignment)[w].role = r := by simpa [writtenTable, hval] using hw
    exact actWriteAssignment_twice h hp hnw (hnew.trans hold.symm) (hnew ▸ hded)

theorem exec_writeAssignment_refused {tag : Byte} {l : List AssignmentField} {res : Result} (hs : Ready s) (hlen : l.length ≤ 42)
    (hact : actWriteAssignment l (holdRequest 11 tag s.fresh) = plain res (holdRequest 11 tag s.fresh)) :
    exec (.writeAssignment tag l) s = .next (finish (s.fresh.answered 11 tag res [])) :=
  exec_of_act_unchanged (r := .writeAssignment l) rfl rfl (wellFormed_writeAssignment hlen) hs hact

/-- A set of records that the table takes is written, and every terminal is as R21 has it. -/
theorem exec_writeAssignment {tag : Byte} {l : List AssignmentField} {recs : List (Terminal × AssignRecord)} (hs : Ready s)
    (hlen : l.length ≤ 42) (hpto : s.drive.pto = .disengaged) (hf : List.Forall₂ FieldsOf l recs) (hne : recs ≠ [])
    (hnodup : (recs.map (·.1)).Nodup) (hded : dedicatedOnce (writtenTable recs s.terminals.assignment) = true) : ∃ u : State,
      exec (.writeAssignment tag l) s = .next (finish (u.answered 11 tag
        (if ∀ f ∈ l, 1 ≤ f.q.toNat ∧ f.q.toNat ≤ 15 then .ok else .adjusted) (listOf namedRecordBytes recs))) ∧
      u.terminals.assignment = writtenTable recs s.terminals.assignment ∧
      (∀ w : Terminal,
        u.terminals.inputs[w] =
          inputAfter s.terminals.assignment[w] (writtenTable recs s.terminals.assignment)[w] s.terminals.inputs[w] ∧
        u.outputs.general[w] =
          outputAfter s.terminals.assignment[w] (writtenTable recs s.terminals.assignment)[w] s.outputs.general[w]) ∧
      u = { u with
        sense := s.sense, totals := s.totals, clock := s.clock, params := s.params, powered := true
        choiceCount := s.choiceCount + 1, pending := s.pending } := by
  obtain ⟨hst, hall⟩ := writeRecords_spec (s := holdRequest 11 tag s.fresh) hnodup hpto
  have hact := actWriteAssignment_taken (s := holdRequest 11 tag s.fresh) hpto (parseAssign_fields hf hne hnodup) hded
  refine ⟨_, exec_taken_link (r := .writeAssignment l) rfl rfl (wellFormed_writeAssignment hlen) hs hact hst.link,
    hst.assignment, hall, ?_⟩
  generalize writeRecords recs (holdRequest 11 tag s.fresh) = x at hst
  have hpow : x.powered = true := hst.powered.trans hs.1
  have hsense : x.sense = s.sense := hst.sense (by decide)
  have htotals : x.totals = s.totals := hst.totals (by decide)
  have hclock : x.clock = s.clock := hst.clock
  have hparams : x.params = s.params := hst.params
  have hcount : x.choiceCount = s.choiceCount + 1 := hst.choiceCount
  have hpending : x.pending = s.pending := hst.pending
  rw [← hpow, ← hsense, ← htotals, ← hclock, ← hparams, ← hcount, ← hpending]

/-! ### WRITE_VOLUME_TABLE (R126, R128) -/

variable {a : Tank} {l : List (Nat × Nat)}

theorem volume_le_last (h : ascending l = true) {p : Nat × Nat} (hp : p ∈ l) : p.2 ≤ (l.getLast?.map (·.2)).getD 0 := by
  have : IsTrans (Nat × Nat) PointOrder := ⟨fun _ _ _ => PointOrder.trans⟩
  have hpair := ((ascending_iff_isChain l).1 h).pairwise
  obtain rfl | ⟨l, z, rfl⟩ := List.eq_nil_or_concat' l
  · cases hp
  · rw [List.getLast?_concat]
    obtain hp | hp := List.mem_append.1 hp
    · exact ((List.pairwise_append.1 hpair).2.2 p hp z List.mem_cons_self).2
    · rw [List.mem_singleton.1 hp]
      rfl

/-- The points of a request as the tank keeps them. -/
def points (l : List PointField) : List (Nat × Nat) := l.map fun p => (p.level.toNat, p.volume.toNat)

theorem ascending_points_iff (l : List PointField) : ascending (points l) = true ↔
    ∀ a p q r, l = a ++ p :: q :: r → p.level.toNat < q.level.toNat ∧ p.volume.toNat ≤ q.volume.toNat := by
  rw [ascending_iff_isChain, points, List.isChain_map, List.isChain_iff_forall_rel_of_append_cons_cons]
  exact ⟨fun h a p q r e => h e, fun h p q a r e => h a p q r e⟩

theorem tableValid_points {l : List PointField} (h2 : 2 ≤ l.length) (h16 : l.length ≤ 16)
    (hmax : ∀ p ∈ l, p.level.toNat ≤ 3000 ∧ p.volume.toNat ≤ 60000)
    (hasc : ∀ a p q r, l = a ++ p :: q :: r → p.level.toNat < q.level.toNat ∧ p.volume.toNat ≤ q.volume.toNat)
    (hcap : ∃ p ∈ l, p.volume ≠ 0) : tableValid (points l) = true := by
  have hasc' := (ascending_points_iff l).2 hasc
  obtain ⟨p, hp, hne⟩ := hcap
  have hle := volume_le_last hasc' (List.mem_map_of_mem hp)
  have hpos : 0 < p.volume.toNat := Nat.pos_of_ne_zero fun h => hne (BitVec.eq_of_toNat_eq h)
  have hlen : (points l).length = l.length := List.length_map ..
  simp only [tableValid, hlen, hasc', Bool.and_eq_true, decide_eq_true_iff, List.all_eq_true, and_true]
  refine ⟨⟨⟨h2, h16⟩, fun q hq => ?_⟩, hpos.trans_le hle⟩
  obtain ⟨f, hf, rfl⟩ := List.mem_map.1 hq
  exact hmax f hf

theorem tableValid_points_false {l : List PointField}
    (h : l.length < 2 ∨ 16 < l.length ∨ (∃ p ∈ l, 3000 < p.level.toNat ∨ 60000 < p.volume.toNat) ∨
      (∃ a p q r, l = a ++ p :: q :: r ∧ (q.level.toNat ≤ p.level.toNat ∨ q.volume.toNat < p.volume.toNat)) ∨
      (∀ p ∈ l, p.volume = 0)) : tableValid (points l) = false := by
  rw [Bool.eq_false_iff]
  intro hvalid
  have hlen : (points l).length = l.length := List.length_map ..
  simp only [tableValid, hlen, Bool.and_eq_true, decide_eq_true_iff, List.all_eq_true] at hvalid
  obtain ⟨⟨⟨⟨h2, h16⟩, hmax⟩, hasc⟩, hcap⟩ := hvalid
  obtain h | h | ⟨p, hp, h⟩ | ⟨a, p, q, r, e, h⟩ | h := h
  · omega
  · omega
  · have := hmax _ (List.mem_map_of_mem hp)
    dsimp only at this
    omega
  · have := (ascending_points_iff l).1 hasc a p q r e
    omega
  · obtain ⟨z, hz⟩ : ∃ z, (points l).getLast? = some z := by
      cases hz : (points l).getLast? with
      | none => rw [hz] at hcap; exact absurd hcap (by simp)
      | some z => exact ⟨z, rfl⟩
    obtain ⟨f, hf, rfl⟩ := List.mem_map.1 (List.mem_of_getLast? hz)
    rw [hz] at hcap
    simp [h f hf] at hcap

theorem replaceTable_of_measured (he : (s.tank a).estimating = none) (hk : (s.tank a).headKnown = true) :
    replaceTable a l s =
      s.modTank a fun r => { r with table := l, volume := some (tableVolume l (s.tank a).level.toNat) } := by
  unfold replaceTable
  dsimp only
  simp only [tank_modTank, if_pos, he, hk, modTank_modTank, measuredVolume]
  rfl

theorem replaceTable_of_estimate {c : EstimateCause} {e : Nat} (hc : (s.tank a).estimating = some c)
    (he : (s.tank a).estimate = some e) : replaceTable a l s =
      s.modTank a fun r => { r with
        table := l, estimate := some (min e ((l.getLast?.map (·.2)).getD 0 * 1000))
        volume := some (min e ((l.getLast?.map (·.2)).getD 0 * 1000) / 1000) } := by
  unfold replaceTable
  dsimp only
  simp only [tank_modTank, if_pos, hc, he, modTank_modTank, capacity]
  rfl

theorem replaceTable_table (a : Tank) (l : List (Nat × Nat)) (s : State) : ((replaceTable a l s).tank a).table = l := by
  unfold replaceTable
  dsimp only
  split
  · simp only [tank_modTank, if_pos]
  · simp only [tank_modTank, if_pos]
  · split <;> simp only [tank_modTank, if_pos]

/-- A table written and the level state it calls for set: what a taken write leaves (R128). -/
def volumeTableWritten (a : Tank) (l : List (Nat × Nat)) (s : State) : State :=
  setLevel a (freshLevel (replaceTable a l s) a) (replaceTable a l s)

theorem actWriteVolumeTable_named (l : List PointField) (s : State) :
    actWriteVolumeTable (BitVec.ofNat 8 (32 + a.ctorIdx)) l s =
      if s.drive.pto ≠ .disengaged then plain .badState s
      else if tableValid (points l) then ⟨volumeTableWritten a (points l) s, .ok, tableBytes (points l)⟩
      else plain .badValue s := by
  unfold actWriteVolumeTable
  rw [show tankOfCode (BitVec.ofNat 8 (32 + a.ctorIdx)) = some a from tankOfCode_tankCode a]
  rfl

theorem freshLevel_of_some {v : Nat} (h : (s.tank a).volume = some v) : freshLevel s a = entryLevel s a v := by
  rw [freshLevel, h]

/-- What a written table may touch. -/
def tableParts (a : Tank) : List Part := .enter :: .tables :: .readings :: levelParts a

theorem stands_volumeTableWritten (a : Tank) (l : List (Nat × Nat)) (s : State) :
    Stands (tableParts a) s (volumeTableWritten a l s) := by
  obtain ⟨g, hg, e⟩ := replaceTable_eq a l s
  unfold volumeTableWritten
  rw [e]
  refine (moves_setLevel (b := false) (by cases a <;> decide) (.inl List.mem_cons_self) hg ?_ (.refl ..) (.inl (by simp))
    (.inl (by simp))).stands
  rw [← freshLevel_eq_unknown, tank_modTank, if_pos rfl]

theorem volumeTableWritten_level (a : Tank) (l : List (Nat × Nat)) (s : State) :
    ((volumeTableWritten a l s).tank a).table = l ∧
    ((volumeTableWritten a l s).tank a).volume = ((replaceTable a l s).tank a).volume ∧
    ((volumeTableWritten a l s).tank a).readings = ((replaceTable a l s).tank a).readings ∧
    ∀ v, ((volumeTableWritten a l s).tank a).volume = some v →
      ((volumeTableWritten a l s).tank a).state = entryLevel (volumeTableWritten a l s) a v := by
  obtain ⟨hs, hv, ht, hr⟩ := setLevel_level a (freshLevel (replaceTable a l s) a) (replaceTable a l s)
  refine ⟨ht.trans (replaceTable_table a l s), hv, hr, fun v hvol => ?_⟩
  have hparams : (volumeTableWritten a l s).params = (replaceTable a l s).params := by
    obtain ⟨g, -, e⟩ := replaceTable_eq a l s
    rw [(stands_volumeTableWritten a l s).params, e]
    rfl
  rw [entryLevel_congr hparams ht, ← freshLevel_of_some (hv.symm.trans hvol)]
  exact hs

theorem volumeTableWritten_other (a : Tank) (l : List (Nat × Nat)) (s : State) :
    ((volumeTableWritten a l s).tank (otherTank a)).table = (s.tank (otherTank a)).table := by
  have hset := moves_setLevel (K := .enter :: levelParts a) (b := false) (g := id) (List.subset_cons_self ..)
    (.inl List.mem_cons_self) id (freshLevel_eq_unknown _ a) (.refl _ _ (replaceTable a l s))
  rw [modTank_id] at hset
  obtain ⟨g, -, e⟩ := replaceTable_eq a l s
  refine (hset.stands.tables (otherTank a) (by cases a <;> decide)).trans ?_
  rw [e, tank_modTank, if_neg (by cases a <;> decide)]

theorem wellFormed_writeVolumeTable {b : Byte} {l : List PointField} (h : l.length ≤ 62) :
    (Request.writeVolumeTable b l).wellFormed = true := by
  refine decide_eq_true ?_
  show 2 + 4 * l.length ≤ 253
  omega

theorem exec_writeVolumeTable_refused {tag b : Byte} {l : List PointField} {res : Result} (hs : Ready s) (hlen : l.length ≤ 62)
    (hact : actWriteVolumeTable b l (holdRequest 15 tag s.fresh) = plain res (holdRequest 15 tag s.fresh)) :
    exec (.writeVolumeTable tag b l) s = .next (finish (s.fresh.answered 15 tag res [])) :=
  exec_of_act_unchanged (r := .writeVolumeTable b l) rfl rfl (wellFormed_writeVolumeTable hlen) hs hact

theorem exec_writeVolumeTable {tag : Byte} {l : List PointField} (a : Tank) (hs : Ready s) (hlen : l.length ≤ 62)
    (hpto : s.drive.pto = .disengaged) (hvalid : tableValid (points l) = true) : ∃ u : State,
      exec (.writeVolumeTable tag (BitVec.ofNat 8 (32 + a.ctorIdx)) l) s =
        .next (finish (u.answered 15 tag .ok (tableBytes (points l)))) ∧
      (u.tank a).table = points l ∧ (u.tank (otherTank a)).table = (s.tank (otherTank a)).table ∧
      (u.tank a).volume = ((replaceTable a (points l) (holdRequest 15 tag s.fresh)).tank a).volume ∧
      (u.tank a).readings = ((replaceTable a (points l) (holdRequest 15 tag s.fresh)).tank a).readings ∧
      (∀ v, (u.tank a).volume = some v → (u.tank a).state = entryLevel u a v) ∧
      u = { u with
        sense := s.sense, terminals := s.terminals, totals := s.totals, clock := s.clock, params := s.params
        powered := true, choiceCount := s.choiceCount + 1, pending := s.pending } := by
  have hact : act (.writeVolumeTable (BitVec.ofNat 8 (32 + a.ctorIdx)) l) (holdRequest 15 tag s.fresh) =
      ⟨volumeTableWritten a (points l) (holdRequest 15 tag s.fresh), .ok, tableBytes (points l)⟩ :=
    (actWriteVolumeTable_named l _).trans ((if_neg (not_not.2 hpto)).trans (if_pos hvalid))
  have hst := stands_volumeTableWritten a (points l) (holdRequest 15 tag s.fresh)
  obtain ⟨ht, hv, hr, he⟩ := volumeTableWritten_level a (points l) (holdRequest 15 tag s.fresh)
  refine ⟨_, exec_taken_link rfl rfl (wellFormed_writeVolumeTable hlen) hs hact hst.link, ht,
    volumeTableWritten_other a (points l) (holdRequest 15 tag s.fresh), hv, hr, he, ?_⟩
  generalize volumeTableWritten a (points l) (holdRequest 15 tag s.fresh) = x at hst
  have hsense : x.sense = s.sense := hst.sense (by cases a <;> decide)
  have hterm : x.terminals = s.terminals := hst.inputs (by cases a <;> decide)
  have htotals : x.totals = s.totals := hst.totals (by cases a <;> decide)
  have hclock : x.clock = s.clock := hst.clock
  have hparams : x.params = s.params := hst.params
  have hpow : x.powered = true := hst.powered.trans hs.1
  have hcount : x.choiceCount = s.choiceCount + 1 := hst.choiceCount
  have hpending : x.pending = s.pending := hst.pending
  rw [← hsense, ← hterm, ← htotals, ← hclock, ← hparams, ← hpow, ← hcount, ← hpending]

/-- The safe state a record of the request carries (R20). -/
def writtenSafe (b : Byte) : Option SafeState := if b = 0 then some .hold else if b = 1 then some .off else some .on

theorem writtenSafe_code {b : Byte} (h : b.toNat ≤ 2) :
    ∃ x : SafeState, writtenSafe b = some x ∧ b = BitVec.ofNat 8 x.ctorIdx := by
  have hb : b = 0 ∨ b = 1 ∨ b = 2 := by
    have : b.toNat = 0 ∨ b.toNat = 1 ∨ b.toNat = 2 := by omega
    exact this.imp BitVec.eq_of_toNat_eq (.imp BitVec.eq_of_toNat_eq BitVec.eq_of_toNat_eq)
  obtain rfl | rfl | rfl := hb
  · exact ⟨.hold, rfl, rfl⟩
  · exact ⟨.off, rfl, rfl⟩
  · exact ⟨.on, rfl, rfl⟩

/-- The record a request of one record writes (R20). -/
def writtenRecord (r : Role) (p : Polarity) (f : AssignmentField) : AssignRecord :=
  { role := r, polarity := p, q := max 1 (min f.q.toNat 15), safe := if r = .generalOut then writtenSafe f.safe else none }

/-- A role that is general or free elsewhere keeps the dedicated roles apart (R15). -/
theorem dedicated_set {v : Vector AssignRecord 16} {rec : AssignRecord} {n : Terminal}
    (h : ∀ t u : Terminal, t ≠ u → isDedicated v[t].role = true → v[t].role ≠ v[u].role)
    (hfree : rec.role = .generalIn ∨ rec.role = .generalOut ∨ ∀ u : Terminal, u ≠ n → v[u].role ≠ rec.role)
    (t u : Terminal) (htu : t ≠ u) (hded : isDedicated (v.set n rec)[t].role = true) :
    (v.set n rec)[t].role ≠ (v.set n rec)[u].role := by
  have hset : ∀ w : Terminal, (v.set n rec)[w] = if w = n then rec else v[w] := fun w => by
    simp only [Fin.getElem_fin, Vector.getElem_set, Fin.ext_iff, eq_comm]
  have hcases : isDedicated rec.role = true → ∀ w : Terminal, w ≠ n → v[w].role ≠ rec.role := fun hd =>
    (hfree.resolve_left ((isDedicated_iff _).1 hd).1).resolve_left ((isDedicated_iff _).1 hd).2
  rw [hset] at hded
  rw [hset, hset]
  by_cases ht : t = n <;> by_cases hu : u = n
  · exact absurd (ht.trans hu.symm) htu
  · rw [if_pos ht] at hded ⊢
    rw [if_neg hu]
    exact (hcases hded u hu).symm
  · rw [if_neg ht] at hded ⊢
    rw [if_pos hu]
    exact fun he => hcases (he ▸ hded) t ht he
  · rw [if_neg ht] at hded ⊢
    rw [if_neg hu]
    exact h t u htu hded

/-- Settles O51: a set of records is read whole or refused whole; a taken table replaces the one before it. -/
theorem tableWritesReplaceTheirRecords : Obligations.TableWritesReplaceTheirRecords := by
  refine ⟨fun s tag l hs hlen hpto => ?_, fun s tag l hs hlen hpto hbad => ?_,
    fun s tag n w r f hs hpto hnw hw hin hout hn hr => ?_, fun s tag n r p f hs hsound hpto hn hr hp hpres hgen hfree => ?_,
    fun s tag l recs hs hpto hlen hne hnodup hfields => ⟨fun ⟨n, w, hnw, he, hded⟩ => ?_, fun hded => ?_⟩,
    fun s tag b l hs hlen hb hb' => ?_, fun s tag a l hs hlen hpto => ?_, fun s tag a l hs hlen hpto hbad => ?_,
    fun s tag a l hs hpto h2 h16 hmax hasc hcap => ?_⟩
  · exact exec_writeAssignment_refused hs hlen (actWriteAssignment_outside hpto)
  · refine exec_writeAssignment_refused hs hlen (actWriteAssignment_none hpto (parseAssign_none ?_))
    exact hbad.imp_right (.imp_left fun ⟨f, hf, h⟩ => ⟨f, hf, parseAssignRecord_none h⟩)
  · exact exec_writeAssignment_refused hs (by simp) (actWriteAssignment_taken_role (s := holdRequest 11 tag s.fresh) hpto hnw hw
      ((isDedicated_iff r).2 ⟨hin, hout⟩) hn hr)
  · have hfields : FieldsOf f (n, writtenRecord r p f) := by
      refine ⟨hn, hr, hp, rfl, hpres, fun h => ⟨(hgen h).1, ?_⟩, fun h => if_neg h⟩
      obtain ⟨x, hx, hcode⟩ := writtenSafe_code (hgen h).2
      exact ⟨x, (if_pos h).trans hx, hcode⟩
    obtain ⟨u, hexec, htab, hall, hu⟩ := exec_writeAssignment (tag := tag) hs (by simp) hpto (.cons hfields .nil) (by simp) (by simp)
      ((dedicatedOnce_iff _).2 (dedicated_set hsound.1 hfree))
    refine ⟨u, ?_, htab, fun w => ?_, hu⟩
    · rw [hexec, listOf, List.flatMap_singleton]
      simp only [List.forall_mem_singleton]
      rfl
    · obtain ⟨hi, ho⟩ := hall w
      rw [hi, ho]
      split
      · next hw =>
        have hnew : (writtenTable [(n, writtenRecord r p f)] s.terminals.assignment)[n] = writtenRecord r p f :=
          Vector.getElem_set_self ..
        rw [hw, hnew]
        exact ⟨rfl, rfl⟩
      · next hw =>
        rw [writtenTable_of_not_mem (by simpa using hw), inputAfter_self, outputAfter_self]
        exact ⟨rfl, rfl⟩
  · exact exec_writeAssignment_refused hs hlen (actWriteAssignment_twice (s := holdRequest 11 tag s.fresh) hpto
      (parseAssign_fields hfields hne hnodup) hnw he hded)
  · exact exec_writeAssignment hs hlen hpto hfields hne hnodup ((dedicatedOnce_iff _).2 hded)
  · refine exec_writeVolumeTable_refused hs hlen ?_
    rw [actWriteVolumeTable, tankOfCode_none hb hb']
  · exact exec_writeVolumeTable_refused hs hlen ((actWriteVolumeTable_named l _).trans (if_pos hpto))
  · have hfalse := tableValid_points_false hbad
    exact exec_writeVolumeTable_refused hs hlen ((actWriteVolumeTable_named l _).trans
      ((if_neg (not_not.2 hpto)).trans (if_neg (by simp [hfalse]))))
  · obtain ⟨u, hexec, ht, hother, hv, hread, hstate, hu⟩ :=
      exec_writeVolumeTable (tag := tag) a hs (by omega) hpto (tableValid_points h2 h16 hmax hasc hcap)
    refine ⟨u, hexec, ht, hother, fun he hk => ?_, fun e c hc he => ?_, hstate, hu⟩
    · rw [hv, replaceTable_of_measured (s := holdRequest 15 tag s.fresh) he hk, tank_modTank, if_pos rfl]
      rfl
    · have hnew := replaceTable_of_estimate (s := holdRequest 15 tag s.fresh) (l := points l) hc he
      rw [hnew, tank_modTank, if_pos rfl] at hv hread
      exact ⟨(congrArg (·.2.2.2.2.1) hread :), hv⟩

end Sys2Proof.Machine
end

section
/-! PROOFS. An analog channel's filter and health (R1 to R6). -/

namespace Sys2Proof.Machine

variable {r : ChannelRecord} {zero x : Int} {k n : Nat}

theorem publishHeld_eq (zero : Int) (r : ChannelRecord) :
    publishHeld zero r = { r with published := if r.health = .ok ∨ r.good = true then r.published else zero } := by
  unfold publishHeld heldValue
  cases h : r.health with
  | ok => simp [← h]
  | stale | failed => simp

theorem goodCode_ok (h : r.health = .ok) : goodCode k x r = { r with
    filtered := some (filterStep k x r.filtered), published := filterStep k x r.filtered, outRun := 0, good := true } := by
  rw [goodCode, h]

/-! ### A run of bad codes (R4) -/

theorem badCode_ok (h : r.health = .ok) : badCode zero r = { r with
    filtered := discardSeeding r, published := heldValue zero r, health := .stale, outRun := 1, inRun := 0 } := by
  rw [badCode, h]

theorem badCode_stale (h : r.health = .stale) : badCode zero r = { r with
    filtered := discardSeeding r, published := heldValue zero r
    health := if r.outRun + 1 < 50 then .stale else .failed, outRun := min (r.outRun + 1) 50, inRun := 0 } := by
  rw [badCode, h]
  dsimp only
  split
  · next hlt => rw [Nat.min_eq_left hlt.le]
  · next hge => rw [Nat.min_eq_right (by omega)]

theorem badCode_failed (h : r.health = .failed) : badCode zero r = { r with
    filtered := discardSeeding r, published := heldValue zero r, outRun := 50, inRun := 0 } := by
  rw [badCode, h]

/-- The held value is held by what it has been published on. -/
theorem heldValue_held {f : Option Int} {h : Health} {m i : Nat} :
    heldValue zero { r with filtered := f, published := heldValue zero r, health := h, outRun := m, inRun := i } =
      heldValue zero r := by
  unfold heldValue
  dsimp only
  split <;> rfl

/-- The record after n bad codes in a row on a channel that was OK. -/
theorem badCode_run (h : r.health = .ok) (hn : 1 ≤ n) : (badCode zero)^[n] r = { r with
    filtered := discardSeeding r, published := heldValue zero r
    health := if n < 50 then .stale else .failed, outRun := min n 50, inRun := 0 } := by
  induction n, hn using Nat.le_induction with
  | base => exact badCode_ok h
  | succ n hn ih =>
    rw [Function.iterate_succ_apply', ih]
    by_cases hlt : n < 50
    · rw [if_pos hlt, badCode_stale (by exact rfl), heldValue_held, Nat.min_eq_left hlt.le]
      rfl
    · rw [if_neg hlt, badCode_failed (by exact rfl), heldValue_held, if_neg (by omega), Nat.min_eq_right (by omega),
        Nat.min_eq_right (by omega)]
      rfl

/-! ### A run of good codes (R3, R5) -/

/-- The filter moved by each value of a run in turn (R3). -/
def filterRun (k : Nat) (xs : List Int) (x : Int) : Int := xs.foldl (fun a y => a + (y - a).tdiv (2 ^ k)) x

theorem filterRun_concat (xs : List Int) (y : Int) :
    filterRun k (xs ++ [y]) x = filterStep k y (some (filterRun k xs x)) := by
  rw [filterRun, List.foldl_append]
  rfl

theorem goodCode_counts (h : r.health ≠ .ok) (hrun : r.inRun + 1 < 10) : goodCode k x r = { r with
    filtered := some (filterStep k x (if r.inRun = 0 then none else r.filtered)), outRun := 0, inRun := r.inRun + 1 } := by
  unfold goodCode
  split
  · next hok => exact absurd hok h
  all_goals exact if_pos hrun

theorem goodCode_recovers (h : r.health ≠ .ok) (hrun : r.inRun = 9) : goodCode k x r =
    { filtered := some (filterStep k x r.filtered), published := filterStep k x r.filtered, health := .ok
      outRun := 0, inRun := 0, good := true } := by
  unfold goodCode
  split
  · next hok => exact absurd hok h
  all_goals simp [hrun]

/-- Nine good codes in a row and fewer leave the channel as it is, but for its filter and its count. -/
theorem goodCode_run (h : r.health ≠ .ok) (hrun : r.inRun = 0) (x : Int) (xs : List Int) (hlen : xs.length < 9) :
    (x :: xs).foldl (fun a y => goodCode k y a) r =
      { r with filtered := some (filterRun k xs x), outRun := 0, inRun := xs.length + 1 } := by
  induction xs using List.reverseRecOn with
  | nil => rw [List.foldl_cons, List.foldl_nil, goodCode_counts h (by omega), if_pos hrun, hrun]; rfl
  | append_singleton xs y ih =>
    rw [List.length_append, List.length_singleton] at hlen
    rw [← List.cons_append, List.foldl_append, ih (by omega), List.foldl_cons, List.foldl_nil, filterRun_concat,
      List.length_append]
    exact goodCode_counts (by exact h) (by dsimp only; omega)

/-- The tenth good code in a row brings the channel back with the filter's value. -/
theorem goodCode_tenth (h : r.health ≠ .ok) (hrun : r.inRun = 0) (x : Int) (xs : List Int) (hlen : xs.length = 9) :
    (x :: xs).foldl (fun a y => goodCode k y a) r =
      { filtered := some (filterRun k xs x), published := filterRun k xs x, health := .ok
        outRun := 0, inRun := 0, good := true } := by
  obtain rfl | ⟨xs, y, rfl⟩ := List.eq_nil_or_concat' xs
  · simp at hlen
  · rw [List.length_append, List.length_singleton] at hlen
    rw [← List.cons_append, List.foldl_append, goodCode_run h hrun x xs (by omega), List.foldl_cons, List.foldl_nil,
      filterRun_concat]
    exact goodCode_recovers (by exact h) (by dsimp only; omega)

/-- Settles O15: one code at a time, and runs by induction on their length. -/
theorem filterAndHealthRuns : Obligations.FilterAndHealthRuns := by
  refine ⟨fun s c code r => ⟨fun hlo hhi => ?_, fun hout => ?_⟩, fun k x r h => ?_, fun zero r n h hn => badCode_run h hn,
    fun zero r h => badCode_stale h, fun zero r h => badCode_failed h, fun k xs x r h hrun hlen => ?_⟩
  · rw [scanRecord, if_pos ((inRange_iff code).2 ⟨hlo, hhi⟩), publishHeld_eq]
    cases c <;> rfl
  · rw [scanRecord, if_neg (fun h => by have := (inRange_iff code).1 h; omega)]
    cases c <;> rfl
  · rw [goodCode_ok h]
    cases r.filtered <;> rfl
  · intro f t
    by_cases h9 : xs.length < 9
    · have ht : t = _ := goodCode_run h hrun x xs h9
      rw [ht]
      exact ⟨rfl, rfl, fun _ => ⟨rfl, rfl, rfl, rfl⟩, fun he => by omega⟩
    · have ht : t = _ := goodCode_tenth h hrun x xs (by omega)
      rw [ht]
      exact ⟨rfl, rfl, fun hlt => absurd hlt h9, fun _ => ⟨rfl, rfl, rfl, rfl⟩⟩

end Sys2Proof.Machine
end

section
/-! PROOFS. Pulse channels, gates and totalisers (R8 to R10, R147). -/

namespace Sys2Proof.Machine

variable {s t : State} {k : Totaliser} {inc : Nat}

/-! ### An increment added to a totaliser (R147) -/

theorem getTotal_setTotal (x : Totals) (k : Totaliser) (v : Total) : getTotal (setTotal x k v) k = v := by cases k <;> rfl

/-- TOTAL_OVERFLOW of an accumulator at the rise of a flag. -/
def riseRecord (k : Totaliser) (acc : Nat) (before after : Bool) (f : TotalFlag) (s : State) : State :=
  if before = false ∧ after = true then
    record .totalOverflow
      { subject := some (.totaliser k), value := some ((min acc 4294967295 : Nat) : Int), cause := some (.totalFlag f) } s
  else s

theorem recordOverflow_eq (k : Totaliser) (f : TotalFlag) (p q : Bool) (s : State) :
    recordOverflow k f p q s = riseRecord k (getTotal s.totals k).acc p q f s := rfl

theorem riseRecord_eq_with (k : Totaliser) (acc : Nat) (p q : Bool) (f : TotalFlag) (s : State) :
    riseRecord k acc p q f s =
      { s with notices := (riseRecord k acc p q f s).notices, tx := (riseRecord k acc p q f s).tx } := by
  unfold riseRecord
  split
  · exact record_eq_with ..
  · rfl

theorem riseRecord_congr (k : Totaliser) (acc : Nat) (p q : Bool) (f : TotalFlag) (hn : t.notices = s.notices) (hx : t.tx = s.tx)
    (htag : t.clock.tag = s.clock.tag) (hhold : t.link.hold = s.link.hold) :
    (riseRecord k acc p q f t).notices = (riseRecord k acc p q f s).notices ∧
    (riseRecord k acc p q f t).tx = (riseRecord k acc p q f s).tx := by
  unfold riseRecord
  split
  · exact record_congr _ _ hn hx htag hhold
  · exact ⟨hn, hx⟩

/-- The notices of the two flags of an addition, the reported-value flag first. -/
def riseRecords (k : Totaliser) (old new : Total) (s : State) : State :=
  riseRecord k new.acc old.logical new.logical .logical (riseRecord k new.acc old.math new.math .math s)

theorem riseRecords_eq_with (k : Totaliser) (old new : Total) (s : State) : riseRecords k old new s =
    { s with notices := (riseRecords k old new s).notices, tx := (riseRecords k old new s).tx } := by
  unfold riseRecords
  rw [riseRecord_eq_with, riseRecord_eq_with k new.acc old.math]

theorem riseRecords_congr (k : Totaliser) (old new : Total) (hn : t.notices = s.notices) (hx : t.tx = s.tx)
    (htag : t.clock.tag = s.clock.tag) (hhold : t.link.hold = s.link.hold) :
    (riseRecords k old new t).notices = (riseRecords k old new s).notices := by
  obtain ⟨hn', hx'⟩ := riseRecord_congr k new.acc old.math new.math .math hn hx htag hhold
  refine (riseRecord_congr _ _ _ _ _ hn' hx' ?_ ?_).1
  · rw [riseRecord_eq_with, riseRecord_eq_with (s := s)]
    exact htag
  · rw [riseRecord_eq_with, riseRecord_eq_with (s := s)]
    exact hhold

theorem addTotal_eq (k : Totaliser) (inc : Nat) (s : State) : addTotal k inc s =
    riseRecords k (getTotal s.totals k) (addVolume inc (getTotal s.totals k))
      (s.modTotals fun x => setTotal x k (addVolume inc (getTotal s.totals k))) := by
  have hacc : ∀ x : State, x.totals = setTotal s.totals k (addVolume inc (getTotal s.totals k)) →
      (getTotal x.totals k).acc = (addVolume inc (getTotal s.totals k)).acc := fun x h => by rw [h, getTotal_setTotal]
  unfold addTotal riseRecords
  dsimp only
  rw [recordOverflow_eq, hacc _ (by rw [recordOverflow_eq, riseRecord_eq_with]; rfl), recordOverflow_eq, hacc _ rfl]

theorem addTotal_totals (k : Totaliser) (inc : Nat) (s : State) :
    (addTotal k inc s).totals = setTotal s.totals k (addVolume inc (getTotal s.totals k)) := by
  rw [addTotal_eq, riseRecords_eq_with]
  rfl

theorem addVolume_eq (inc : Nat) (x : Total) : addVolume inc x = ⟨min (x.acc + inc) 68719476735,
    x.math || decide (4294967295 < min (x.acc + inc) 68719476735),
    x.logical || decide (min (x.acc + inc) 68719476735 = 68719476735)⟩ := rfl

/-- No increment of one gate raises both flags of a totaliser. -/
theorem addVolume_oneFlag {x : Total} (hx : TotalSound x) (hinc : inc ≤ 6553600000) :
    ¬(x.math = false ∧ (addVolume inc x).math = true ∧ x.logical = false ∧ (addVolume inc x).logical = true) := by
  rintro ⟨hm, -, hl, hl'⟩
  obtain ⟨-, hmath, -⟩ := hx
  rw [hm] at hmath
  rw [addVolume_eq, hl, Bool.false_or] at hl'
  have hfull := of_decide_eq_true hl'
  have : ¬4294967295 < x.acc := fun h => by simpa using hmath.2 h
  omega

/-! ### A gate completed (R8 to R10) -/

/-- One of the four parts of a gate: a totaliser's addition, or a tank's estimate. -/
def gateAct (f : Option Tank) (inc : Nat) : Totaliser ⊕ Tank → State → State
  | .inl k => addTotal k inc
  | .inr t => gateTank f inc t

/-- What a part of a gate makes of the totals. -/
def gateTotals (inc : Nat) (x : Totals) : Totaliser ⊕ Tank → Totals
  | .inl k => setTotal x k (addVolume inc (getTotal x k))
  | .inr _ => x

theorem gateAct_totals (f : Option Tank) (inc : Nat) (d : Totaliser ⊕ Tank) (s : State) :
    (gateAct f inc d s).totals = gateTotals inc s.totals d := by
  cases d with
  | inl k => exact addTotal_totals k inc s
  | inr t =>
    have h : Moves (.enter :: .readings :: levelParts t) false s (gateTank f inc t s) :=
      moves_gateTank (List.Subset.trans (List.subset_cons_self ..) (List.subset_cons_self ..)) (by simp) (.inl (by simp)) (.refl ..)
    exact h.stands.totals (by cases t <;> decide)

theorem foldl_gateAct_totals (f : Option Tank) (inc : Nat) (l : List (Totaliser ⊕ Tank)) (s : State) :
    (l.foldl (fun x d => gateAct f inc d x) s).totals = l.foldl (gateTotals inc) s.totals := by
  induction l generalizing s with
  | nil => rfl
  | cons d l ih => rw [List.foldl_cons, List.foldl_cons, ih, gateAct_totals]

theorem gateTotals_comm (inc : Nat) : RightCommutative (gateTotals inc) where
  right_comm x c d := by
    rcases c with k | _ <;> rcases d with j | _ <;> try rfl
    cases k <;> cases j <;> rfl

/-- The parts of a gate, in table order. -/
def gateKeys : List (Totaliser ⊕ Tank) := [.inl .incident, .inl .run, .inr .main, .inr .reserve]

theorem takeIncrement_eq (inc : Nat) (s : State) : takeIncrement inc s =
    (arrange s.choices gateKeys).foldl (fun x d => gateAct (feedingTank s) inc d x) (s.modChoices (·.drop 4)) :=
  runInOrder_map (gateAct (feedingTank s) inc) gateKeys s

/-- Each totaliser takes the increment once, whatever the order. -/
theorem takeIncrement_totals (inc : Nat) (s : State) (k : Totaliser) :
    getTotal (takeIncrement inc s).totals k = addVolume inc (getTotal s.totals k) := by
  have := gateTotals_comm inc
  rw [takeIncrement_eq, foldl_gateAct_totals, (arrange_perm s.choices gateKeys).foldl_eq]
  cases k <;> rfl

theorem stands_takeIncrement (inc : Nat) (s : State) : Stands (.enter :: gateParts) s (takeIncrement inc s) :=
  (moves_takeIncrement (b := false) (List.subset_cons_self ..) (.inl List.mem_cons_self) (.refl ..)).stands

theorem lastCounts_append (rest l : List Nat) (n : Nat) (h : l.length = n) : lastCounts n (rest ++ l) = l := by
  unfold lastCounts
  rw [List.length_append, h, Nat.add_sub_cancel, List.drop_left]

theorem completeGate_window {row : Nat × Nat × Nat × Nat} {r : PulseRecord} {rest l : List Nat}
    (h : (completeGate row r).completed = rest ++ l) (hl : l.length = row.1) :
    (completeGate row r).value = min (l.sum * row.2.1 / row.2.2.1) row.2.2.2 := by
  show pulseValue row (completeGate row r).completed = _
  rw [h, pulseValue, lastCounts_append rest l _ hl]

theorem joinGate_eq (r : PulseRecord) :
    joinGate r = (r.completed ++ [r.current]).drop (r.completed.length + 1 - 10) := by
  rw [joinGate, lastCounts, List.length_append, List.length_singleton]

theorem senseAfterGate_pulse (s : State) (x : Sense) (c : PulseChannel) :
    getPulse (senseAfterGate s x).pulses c = completeGate (pulseRow s c) (getPulse x.pulses c) := by cases c <;> rfl

theorem quiet_iff (row : Nat × Nat × Nat × Nat) (r : PulseRecord) :
    (completeGate row r).quiet = true ↔ ∀ n ∈ (completeGate row r).completed, n = 0 := by
  simp [completeGate]

theorem gate_increment_le {K c m : Nat} (hc : c ≤ 65535) (hK : 1 ≤ K) (hm : m < K) : (c * 100000 + m) / K ≤ 6553600000 := by
  have h : (c * 100000 + m) / K ≤ (6553500000 + K) / K := Nat.div_le_div_right (by omega)
  have h' : (6553500000 + K) / K ≤ 6553500000 + 1 := by
    rw [Nat.add_div_right _ hK]
    exact Nat.succ_le_succ (Nat.div_le_self ..)
  omega

/-- Settles O19: each gate part acts once, and only the addition to a totaliser acts on it. -/
theorem pulsesAndGates : Obligations.PulsesAndGates := by
  refine ⟨fun s c hp => ?_, fun s k inc => ⟨?_, ?_⟩, fun s k hsound hcur hK hrem => ?_, fun s hp => ?_, fun s hp hK => ?_⟩
  · refine exec_leaves hp rfl ?_
    unfold countPulse
    simp only [countUp_eq_min]
    rfl
  · rw [addTotal_eq, riseRecords_eq_with]
    rfl
  · rw [addTotal_eq]
    exact riseRecords_congr _ _ _ rfl rfl rfl rfl
  · dsimp only
    rw [addTotal_totals, getTotal_setTotal]
    exact addVolume_oneFlag hsound (gate_increment_le hcur hK hrem)
  · refine ⟨_, arrange_perm s.fresh.choices _, (exec_on hp rfl).trans ?_⟩
    rfl
  · refine ⟨completeGates s.fresh, gateVolume s.sense / flowConstant s, exec_on hp rfl, ?_⟩
    have hst := stands_takeIncrement (gateVolume s.sense / flowConstant s) (s.fresh.modSense (senseAfterGate s.fresh))
    have hsense : (completeGates s.fresh).sense = senseAfterGate s s.sense := hst.sense (by decide)
    rw [hsense]
    refine ⟨Nat.div_add_mod' _ _, Nat.mod_lt _ hK, fun c => ?_, fun a b rest h => ?_, fun a b c d e rest h => ?_,
      fun a b c d e rest h => ?_, fun k => ?_, ?_⟩
    · rw [senseAfterGate_pulse]
      exact ⟨rfl, joinGate_eq _, quiet_iff _ _⟩
    · rw [show (a + b) = [a, b].sum by simp]
      exact completeGate_window h rfl
    · rw [show a + b + c + d + e = [a, b, c, d, e].sum by simp [add_assoc]]
      exact completeGate_window h rfl
    · rw [show a + b + c + d + e = [a, b, c, d, e].sum by simp [add_assoc]]
      exact completeGate_window h rfl
    · have htotal : getTotal (completeGates s.fresh).totals k = _ := takeIncrement_totals _ _ k
      rw [htotal, addVolume_eq]
      refine ⟨rfl, ?_, ?_⟩
      · rw [Bool.or_eq_true, decide_eq_true_eq]
        rfl
      · rw [Bool.or_eq_true, decide_eq_true_eq]
        rfl
    · have hterm : (completeGates s.fresh).terminals = s.terminals := hst.inputs (by decide)
      have hclock : (completeGates s.fresh).clock = s.clock := hst.clock
      have hlink : (completeGates s.fresh).link = s.link := hst.link
      have hparams : (completeGates s.fresh).params = s.params := hst.params
      have hpow : (completeGates s.fresh).powered = true := hst.powered.trans hp
      have hcount : (completeGates s.fresh).choiceCount = s.choiceCount + 1 := hst.choiceCount
      have hpending : (completeGates s.fresh).pending = s.pending := hst.pending
      rw [← hterm, ← hclock, ← hlink, ← hparams, ← hpow, ← hcount, ← hpending]
      exact congrArg (fun x => { completeGates s.fresh with sense := x }) hsense

end Sys2Proof.Machine
end

section
/-! PROOFS. The governor period: its parts in any order, the demand's bounds, and the computation (R29, R70 to R78, R115). -/

namespace Sys2Proof.Machine

variable {s x : State}

/-! ### What each part of a period changes -/

/-- What the governor keeps of its record while a period runs and the demand is clipped. -/
def Governor.settings (g : Governor) : Setting × Setting × List OverrideKind × Option Nat × Source × Bool :=
  (g.shadow, g.active, g.overrides, g.captured, g.source, g.frozen)

theorem eq_with_settings {g h : Governor} (e : g.settings = h.settings) : g = { g with
    shadow := h.shadow, active := h.active, overrides := h.overrides, captured := h.captured, source := h.source
    frozen := h.frozen } := by
  simp only [Governor.settings, Prod.mk.injEq] at e
  obtain ⟨hs, ha, ho, hc, hsrc, hf⟩ := e
  rw [← hs, ← ha, ← ho, ← hc, ← hsrc, ← hf]

theorem clipDemand_settings (s : State) : (clipDemand s).governor.settings = s.governor.settings := by
  obtain ⟨g, -, e, hg⟩ := clipDemand_frame s
  rw [e]
  exact (congrArg Governor.settings hg :)

/-- A period so far: the record it may change, and the settings it may not. -/
def InPeriod (s x : State) : Prop :=
  x = { s with
    governor := x.governor, supply := x.supply, alarm := x.alarm, choices := x.choices
    interlock := { s.interlock with ceiling := x.interlock.ceiling } } ∧
  x.governor.settings = s.governor.settings

theorem inPeriod_refl (s : State) : InPeriod s s := ⟨rfl, rfl⟩

theorem InPeriod.trans {y : State} (h : InPeriod s x) (g : InPeriod x y) : InPeriod s y :=
  ⟨by rw [g.1, h.1], g.2.trans h.2⟩

theorem inPeriod_clipDemand (s : State) : InPeriod s (clipDemand s) := by
  refine ⟨?_, clipDemand_settings s⟩
  rw [clipDemand_eq_with]

theorem inPeriod_slideMode (s : State) : InPeriod s (slideMode s) := by
  unfold slideMode
  split
  · exact InPeriod.trans (x := s.modInterlock fun i => { i with ceiling := i.ceiling - 25 }) ⟨rfl, rfl⟩ (inPeriod_clipDemand _)
  · exact inPeriod_refl s

theorem inPeriod_removeAlarm (c : AlarmCause) (s : State) : InPeriod s (removeAlarm c s) := by
  obtain ⟨-, h⟩ | ⟨-, h⟩ := removeAlarm_cases c s <;> rw [h]
  · exact inPeriod_refl s
  · exact ⟨rfl, rfl⟩

theorem inPeriod_modSupply (f : Supply → Supply) (s : State) : InPeriod s (s.modSupply f) := ⟨rfl, rfl⟩

theorem inPeriod_setLimit (l : Nat) (s : State) : InPeriod s (setLimit l s) := by
  unfold setLimit
  dsimp only
  refine InPeriod.trans ?_ (inPeriod_clipDemand _)
  split
  · exact inPeriod_modSupply _ s
  · exact (inPeriod_modSupply _ s).trans (inPeriod_removeAlarm ..)

theorem inPeriod_evaluateLimiter (s : State) : InPeriod s (evaluateLimiter s) := by
  unfold evaluateLimiter
  dsimp only
  refine (inPeriod_modSupply (fun x => { x with floor := floorOf s s.supply.state }) s).trans ?_
  split
  · exact inPeriod_refl _
  · split
    · exact (inPeriod_modSupply _ _).trans (inPeriod_setLimit ..)
    · split
      · exact inPeriod_modSupply _ _
      · exact (inPeriod_modSupply _ _).trans (inPeriod_setLimit ..)

theorem inPeriod_limiterPeriod (s : State) : InPeriod s (limiterPeriod s) := by
  unfold limiterPeriod
  split
  · exact (inPeriod_evaluateLimiter s).trans (inPeriod_modSupply _ _)
  · exact inPeriod_refl s

theorem inPeriod_governPeriod (s : State) : InPeriod s (governPeriod s) := by
  refine ⟨rfl, ?_⟩
  unfold governPeriod
  simp only [State.modGovernor_governor]
  split
  · rfl
  · split
    · rfl
    · split <;> rfl

/-! ### The parts in any order -/

/-- The parts of a period (R29, R72, R115). -/
def periodAct : Fin 3 → State → State
  | 0 => slideMode
  | 1 => limiterPeriod
  | 2 => governPeriod

/-- What a part of a period makes of the mode ceiling (R29). -/
def periodCeiling (m : OpMode) (c : Nat) : Fin 3 → Nat
  | 0 => if m = .rollOverspeed then c - 25 else c
  | _ => c

/-- What a part of a period may raise the demand by (R76). -/
def periodRise (s : State) : Fin 3 → Nat
  | 2 => riseLimit s
  | _ => 0

theorem governorExpiry_eq (s : State) : governorExpiry s =
    (arrange s.choices [0, 1, 2]).foldl (fun x k => periodAct k x) (s.modChoices (·.drop 3)) :=
  runInOrder_map periodAct [0, 1, 2] s

theorem inPeriod_periodAct (k : Fin 3) (s : State) : InPeriod s (periodAct k s) :=
  match k with
  | 0 => inPeriod_slideMode s
  | 1 => inPeriod_limiterPeriod s
  | 2 => inPeriod_governPeriod s

theorem moves_periodAct (k : Fin 3) (hk : k ≠ 2) (s : State) : Moves (.mode :: limiterParts) true s (periodAct k s) :=
  match k with
  | 0 => moves_slideMode (by decide) (by decide) (.refl ..)
  | 1 => moves_limiterPeriod (by decide) (.refl ..)
  | 2 => absurd rfl hk

theorem slideMode_ceiling (s : State) :
    (slideMode s).interlock.ceiling = periodCeiling s.interlock.mode s.interlock.ceiling 0 := by
  unfold slideMode periodCeiling
  split
  · rw [clipDemand_eq_with]
    rfl
  · rfl

theorem periodAct_ceiling (k : Fin 3) (s : State) :
    (periodAct k s).interlock.ceiling = periodCeiling s.interlock.mode s.interlock.ceiling k :=
  match k with
  | 0 => slideMode_ceiling s
  | 1 => ((moves_limiterPeriod (K := limiterParts) (b := false) (by decide) (.refl _ _ s)).stands.mode (by decide) (by decide)).2.1
  | 2 => rfl

theorem limitDemand_le (previous rise fall ceiling : Nat) (raw : Int) :
    limitDemand previous rise fall ceiling raw ≤ previous + rise := by
  have h := clampTo_eq 0 ceiling (max (min raw (previous + rise)) ((previous : Int) - fall)) (by omega)
  unfold limitDemand
  omega

theorem governPeriod_rise (s : State) : (governPeriod s).governor.demand ≤ s.governor.demand + riseLimit s := by
  unfold governPeriod
  simp only [State.modGovernor_governor]
  split
  · exact Nat.zero_le _
  · split
    · exact (min_le_left ..).trans (Nat.le_add_right ..)
    · split
      · exact (min_le_left ..).trans ((Nat.sub_le ..).trans (Nat.le_add_right ..))
      · exact limitDemand_le ..

theorem periodAct_rise (k : Fin 3) (s : State) :
    (periodAct k s).governor.demand ≤ s.governor.demand + periodRise s k :=
  match k with
  | 0 => (moves_periodAct 0 (by decide) s).demand_le
  | 1 => (moves_periodAct 1 (by decide) s).demand_le
  | 2 => governPeriod_rise s

/-- The parts of a period taken one after the other. -/
theorem foldl_periodAct (l : List (Fin 3)) (s : State) :
    let u := l.foldl (fun x k => periodAct k x) s
    InPeriod s u ∧ u.governor.demand ≤ s.governor.demand + (l.map (periodRise s)).sum ∧
    u.interlock.ceiling = l.foldl (periodCeiling s.interlock.mode) s.interlock.ceiling := by
  induction l generalizing s with
  | nil => exact ⟨inPeriod_refl s, le_rfl, rfl⟩
  | cons k l ih =>
    obtain ⟨hin, hdemand, hceil⟩ := ih (periodAct k s)
    have hk := inPeriod_periodAct k s
    have hrise : periodRise (periodAct k s) = periodRise s := by
      funext j
      unfold periodRise riseLimit
      rw [hk.1]
      rfl
    have hmode : (periodAct k s).interlock.mode = s.interlock.mode := by rw [hk.1]
    refine ⟨hk.trans hin, ?_, ?_⟩
    · have := periodAct_rise k s
      rw [hrise] at hdemand
      rw [List.foldl_cons, List.map_cons, List.sum_cons]
      omega
    · rw [List.foldl_cons, List.foldl_cons, hceil, hmode, periodAct_ceiling]

theorem periodCeiling_comm (m : OpMode) : RightCommutative (periodCeiling m) where
  right_comm c j k := by
    match j, k with
    | 0, 0 => rfl
    | 0, 1 | 0, 2 | 1, 0 | 2, 0 | 1, 1 | 1, 2 | 2, 1 | 2, 2 => rfl

theorem demandSound_governorExpiry (s : State) : DemandSound (governorExpiry s) := by
  refine runInOrder_reaches (P := fun _ => True) (fun _ _ _ => trivial) governPeriod _ (by simp) (fun _ _ _ _ => trivial)
    (fun f hf y hy => ?_) (fun y _ => demandSound_governPeriod y) s trivial
  simp only [List.mem_cons, List.not_mem_nil, or_false] at hf
  obtain rfl | rfl | rfl := hf
  · exact (works_quiet (D := True) fun _ hL _ => moves_slideMode (hL (by decide)) (hL (by decide)) (.refl ..)).demandSound trivial hy
  · exact (works_quiet (D := True) fun _ hL _ => moves_limiterPeriod (List.Subset.trans (by decide) hL) (.refl ..)).demandSound
      trivial hy
  · exact demandSound_governPeriod y

/-- Settles O20: the rises of the parts add up to the rise limit, and every part keeps the demand under the ceilings. -/
theorem governorPeriodBoundsTheDemand : Obligations.GovernorPeriodBoundsTheDemand := by
  intro s hp
  refine ⟨governorExpiry s.fresh, exec_on hp rfl, ?_⟩
  have hsound := demandSound_governorExpiry s.fresh
  have hcomm := periodCeiling_comm s.interlock.mode
  obtain ⟨⟨heq, hset⟩, hdemand, hceil⟩ := foldl_periodAct (arrange s.fresh.choices [0, 1, 2]) (s.fresh.modChoices (·.drop 3))
  rw [← governorExpiry_eq] at heq hset hdemand hceil
  have hrise : (List.map (periodRise (s.fresh.modChoices (·.drop 3))) [0, 1, 2]).sum = s.paramNat 28 := by
    simp only [List.map_cons, List.map_nil, List.sum_cons, List.sum_nil, periodRise, zero_add, add_zero]
    rfl
  rw [((arrange_perm s.fresh.choices [0, 1, 2]).map _).sum_eq, hrise] at hdemand
  replace hceil : _ = List.foldl (periodCeiling s.interlock.mode) s.interlock.ceiling _ := hceil
  rw [(arrange_perm s.fresh.choices [0, 1, 2]).foldl_eq] at hceil
  generalize governorExpiry s.fresh = u at hsound heq hset hdemand hceil ⊢
  have hdrive : u.drive = s.drive := by rw [heq]; rfl
  have hparams : u.params = s.params := by rw [heq]; rfl
  obtain ⟨hprofile, hmode, hsupply, hthermal⟩ := leastCeiling_le (ceilings u)
  have hle : u.governor.demand ≤ leastCeiling (ceilings u) := hsound.2
  have hprofile' : leastCeiling (ceilings u) ≤ s.paramNat 27 := by rw [← paramNat_congr hparams]; exact hprofile
  exact ⟨hdemand, fun h => hsound.1 (by rwa [hdrive]), hle.trans hprofile', hle.trans hmode, hle.trans hsupply,
    hle.trans hthermal, hceil, eq_with_settings hset, heq⟩

/-! ### The computation (R70, R72 to R78, R90, R94) -/

theorem driveCeiling_engaged (h : s.drive.pto = .engaged) : (ceilings s).drive = 1000 := if_pos h

theorem driveCeiling_outside (h : s.drive.pto ≠ .engaged) : (ceilings s).drive = 0 := if_neg h

theorem composedCeiling_engaged (h : s.drive.pto = .engaged) : composedCeiling (ceilings s) = leastCeiling (ceilings s) := by
  rw [composedCeiling, driveCeiling_engaged h, if_neg (by decide)]

theorem governPeriod_outside (h : s.drive.pto ≠ .engaged) : governPeriod s = s.modGovernor fun g =>
    { readCeilings (ceilings s) g with demand := 0, acc := 0, loss := none } := by
  unfold governPeriod
  dsimp only
  rw [driveCeiling_outside h]
  rfl

theorem governPeriod_frozen (h : s.drive.pto = .engaged) (hf : s.governor.frozen = true) :
    (governPeriod s).governor = { readCeilings (ceilings s) s.governor with
      demand := min s.governor.demand (readCeilings (ceilings s) s.governor).ceiling } := by
  unfold governPeriod
  rw [State.modGovernor_governor, if_neg (by rw [driveCeiling_engaged h]; decide)]
  exact if_pos hf

theorem governPeriod_idle (h : s.drive.pto = .engaged) (hf : s.governor.frozen = false) (ha : s.governor.active = .idle) :
    (governPeriod s).governor = { readCeilings (ceilings s) s.governor with
      demand := min (s.governor.demand - fallLimit s) (readCeilings (ceilings s) s.governor).ceiling
      acc := 0, reseed := false } := by
  unfold governPeriod
  rw [State.modGovernor_governor, if_neg (by rw [driveCeiling_engaged h]; decide)]
  refine (if_neg (by simp [readCeilings, hf])).trans ?_
  rw [controlInputs, ha]
  rfl

theorem governPeriod_computed {kp ki setpoint measured : Int} (h : s.drive.pto = .engaged) (hf : s.governor.frozen = false)
    (hin : controlInputs s = some (kp, ki, setpoint, measured)) :
    (governPeriod s).governor = computePeriod s kp ki setpoint measured (readCeilings (ceilings s) s.governor) := by
  unfold governPeriod
  rw [State.modGovernor_governor, if_neg (by rw [driveCeiling_engaged h]; decide)]
  refine (if_neg (by simp [readCeilings, hf])).trans ?_
  rw [hin]

/-- Whatever the period computes, it reads and reports the ceilings. -/
theorem governPeriod_reads (s : State) : (governPeriod s).governor.ceiling = composedCeiling (ceilings s) ∧
    (governPeriod s).governor.binding = bindingCeiling (ceilings s) ∧ (governPeriod s).governor.inputs = ceilings s := by
  unfold governPeriod
  rw [State.modGovernor_governor]
  dsimp only
  split
  · exact ⟨rfl, rfl, rfl⟩
  · split
    · exact ⟨rfl, rfl, rfl⟩
    · split <;> exact ⟨rfl, rfl, rfl⟩

theorem limitDemand_eq (previous rise fall ceiling : Nat) (raw : Int) : (limitDemand previous rise fall ceiling raw : Int) =
    max 0 (min (max (min raw ((previous : Int) + rise)) ((previous : Int) - fall)) ceiling) := by
  have h := clampTo_eq 0 ceiling (max (min raw (previous + rise)) ((previous : Int) - fall)) (by omega)
  unfold limitDemand
  omega

theorem decideAcc_eq (before candidate raw : Int) (d : Nat) (e : Int) : decideAcc before candidate raw d e =
    if ((d : Int) < raw ∧ 0 < e) ∨ (raw < d ∧ e < 0) then before else candidate := by
  unfold decideAcc
  refine if_congr ?_ rfl rfl
  obtain he | rfl | he := lt_trichotomy e 0
  · rw [Int.sign_eq_neg_one_of_neg he, Int.sign_eq_neg_one_iff_neg]
    omega
  · rw [Int.sign_zero, Int.sign_eq_zero_iff_zero]
    omega
  · rw [Int.sign_eq_one_of_pos he, Int.sign_eq_one_iff_pos]
    omega

theorem bindingCeiling_engaged (h : s.drive.pto = .engaged) : bindingCeiling (ceilings s) =
    if s.paramNat 27 = leastCeiling (ceilings s) then .profile
    else if s.interlock.ceiling = leastCeiling (ceilings s) then .mode
    else if supplyCeiling s = leastCeiling (ceilings s) then .supply else .thermal := by
  rw [bindingCeiling, driveCeiling_engaged h, if_neg (by decide)]
  rfl

theorem finish_modChoices (f : List Nat → List Nat) (s : State) : finish (s.modChoices f) = finish s := by
  cases hx : s.tx with
  | some fr => rw [finish_sending hx, finish_sending (s := s.modChoices f) hx]; rfl
  | none =>
    cases hf : nextFrame s with
    | some fr => rw [finish_idle hx hf, finish_idle (s := s.modChoices f) hx hf]; cases fr <;> rfl
    | none => rw [finish_nothing hf, finish_nothing (s := s.modChoices f) hf]; rfl

/-- The slide and the limiter do nothing outside ROLL_OVERSPEED and the states in which the limiter runs. -/
def Unwatching (s : State) : Prop := s.interlock.mode ≠ .rollOverspeed ∧ limiterRuns s.supply.state = false

theorem periodAct_unwatching {k : Fin 3} (hs : Unwatching s) (hk : k ≠ 2) : periodAct k s = s :=
  match k with
  | 0 => if_neg hs.1
  | 1 => if_neg (by rw [hs.2]; decide)
  | 2 => absurd rfl hk

theorem foldl_unwatching (hs : Unwatching s) (l : List (Fin 3)) (hl : 2 ∉ l) : l.foldl (fun x k => periodAct k x) s = s := by
  induction l with
  | nil => rfl
  | cons k l ih =>
    rw [List.mem_cons, not_or] at hl
    rw [List.foldl_cons, periodAct_unwatching hs (Ne.symm hl.1), ih hl.2]

/-- Where neither the slide nor the limiter acts the period is the computation alone. -/
theorem governorExpiry_unwatching (hs : Unwatching s) : governorExpiry s = governPeriod (s.modChoices (·.drop 3)) := by
  have hperm := arrange_perm s.choices ([0, 1, 2] : List (Fin 3))
  obtain ⟨l₁, l₂, hl⟩ := List.append_of_mem (hperm.mem_iff.2 (show (2 : Fin 3) ∈ [0, 1, 2] by decide))
  have hnodup : (l₁ ++ 2 :: l₂).Nodup := hl ▸ hperm.nodup_iff.2 (by decide)
  have h₁ : 2 ∉ l₁ := fun h => (List.nodup_append.1 hnodup).2.2 2 h 2 List.mem_cons_self rfl
  have h₂ : 2 ∉ l₂ := (List.nodup_cons.1 (List.nodup_append.1 hnodup).2.1).1
  rw [governorExpiry_eq, hl, List.foldl_append, foldl_unwatching (by exact hs) l₁ h₁, List.foldl_cons]
  exact foldl_unwatching (by exact hs) l₂ h₂

/-- Settles O21: the stages of a period one by one. -/
theorem governorPeriodComputation : Obligations.GovernorPeriodComputation := by
  refine ⟨fun s setpoint measured kp ki h hf hin => ?_, fun s h hf ha => ?_, fun s h hf => ?_, fun s h => ?_,
    fun s c source hc hsrc => ?_, fun s hp hm hx => ?_, fun s hp => ?_⟩
  · have hinputs : controlInputs s = some (kp, ki, (setpoint : Int), measured) := by
      unfold controlInputs
      obtain ⟨ha, rfl, rfl, rfl⟩ | ⟨ha, rfl, rfl, rfl⟩ := hin <;> rw [ha]
    have hceil : (readCeilings (ceilings s) s.governor).ceiling =
        min (min (s.paramNat 27) s.interlock.ceiling) (min (supplyCeiling s) (thermalCeiling s)) := composedCeiling_engaged h
    intro e p before candidate raw c risen fallen d
    have hd : (limitDemand s.governor.demand (riseLimit s) (fallLimit s) (readCeilings (ceilings s) s.governor).ceiling raw : Int) = d := by
      rw [limitDemand_eq, hceil]
      rfl
    rw [governPeriod_computed h hf hinputs]
    refine ⟨hd, ?_, rfl, hceil⟩
    rw [← hd]
    exact decideAcc_eq ..
  · rw [governPeriod_idle h hf ha]
    exact ⟨rfl, rfl⟩
  · rw [governPeriod_frozen h hf]
    exact ⟨rfl, rfl⟩
  · rw [governPeriod_outside h]
    exact ⟨rfl, rfl, composedCeiling_outOfEngaged h, if_pos (driveCeiling_outside h)⟩
  · intro inputs composed
    have hinputs : ceilings s = inputs := rfl
    have hleast : leastCeiling (ceilings s) = c := hc.symm
    have hcomposed : composedCeiling (ceilings s) = composed := by
      show (if (ceilings s).drive = 0 then 0 else leastCeiling (ceilings s)) = if s.drive.pto = .engaged then c else 0
      by_cases h : s.drive.pto = .engaged
      · rw [driveCeiling_engaged h, hleast, if_pos h, if_neg (by decide)]
      · rw [driveCeiling_outside h, if_pos rfl, if_neg h]
    have hbinding : bindingCeiling (ceilings s) = source := by
      obtain ⟨h, rfl⟩ | ⟨h, rfl⟩ := hsrc
      · exact if_pos (driveCeiling_outside h)
      · rw [bindingCeiling_engaged h, hleast]
    obtain ⟨hceil, hbind, hin⟩ := governPeriod_reads s
    refine ⟨hbind.trans hbinding, hceil.trans hcomposed, hin, fun hle => ?_, fun hlt => ?_⟩
    · exact if_neg (by rw [hleast]; omega)
    · unfold clipDemand
      dsimp only
      rw [if_pos (by rw [hleast]; exact hlt), hleast, State.modGovernor, readCeilings, hcomposed, hbinding]
      rfl
  · refine (exec_on hp rfl).trans ?_
    have hs : Unwatching s.fresh := ⟨hm, by rw [show s.fresh.supply.state = .draftPriming from hx]; rfl⟩
    rw [show Machine.governorExpiry s.fresh = _ from governorExpiry_unwatching hs]
    exact congrArg _ (finish_modChoices (·.drop 3) { s.fresh with governor := (governPeriod s).governor })
  · refine exec_leaves hp rfl ?_
    unfold expirePulseLoss
    rw [ite_isNone]
    rfl

end Sys2Proof.Machine
end

section
/-! PROOFS. The limiter's table, its activity and the loss watch (R115 to R117). -/

namespace Sys2Proof.Machine

variable {s t : State}

/-! ### The limit set (R116) -/

theorem setLimit_alarm {l : Nat} (h : 1000 ≤ l) (s : State) : .limiter ∉ (setLimit l s).alarm.causes := by
  unfold setLimit
  dsimp only
  rw [clipDemand_eq_with, if_neg (by omega)]
  exact fun hmem => ((mem_removeAlarm ..).1 hmem).2 rfl

theorem supplyCeiling_of_runs (h : limiterRuns s.supply.state = true) : supplyCeiling s = s.supply.limit := by
  unfold supplyCeiling
  split <;> simp_all [limiterRuns]

theorem clipDemand_le_supply (s : State) : (clipDemand s).governor.demand ≤ supplyCeiling (clipDemand s) := by
  rw [clipDemand_demand_self]
  exact (min_le_right ..).trans (leastCeiling_le _).2.2.1

theorem setLimit_demand (l : Nat) (s : State) (h : limiterRuns s.supply.state = true) : (setLimit l s).governor.demand ≤ l := by
  have hceil : supplyCeiling (setLimit l s) = l := by
    rw [supplyCeiling_of_runs (by rw [setLimit_supply]; exact h), setLimit_supply]
  exact (clipDemand_le_supply _).trans hceil.le

/-! ### The limiter's table (R115) -/

/-- The supply record with its floor read and the limiter's side of it noted. -/
def floorRead (s : State) (below : Bool) (x : Supply) : Supply := { x with floor := floorOf s s.supply.state, below := below }

theorem evaluateLimiter_failed (h : s.healthOf .intakeP = .failed) :
    evaluateLimiter s = s.modSupply (floorRead s s.supply.below) := if_pos h

theorem evaluateLimiter_below (h : s.healthOf .intakeP ≠ .failed) (hp : s.published .intakeP < floorOf s s.supply.state) :
    evaluateLimiter s = setLimit (if s.supply.below then s.supply.limit - limiterStep s else s.governor.demand)
      (s.modSupply (floorRead s true)) := (if_neg h).trans (if_pos hp)

theorem evaluateLimiter_band (h : s.healthOf .intakeP ≠ .failed) (hp : floorOf s s.supply.state ≤ s.published .intakeP)
    (hp' : s.published .intakeP < floorOf s s.supply.state + 20) : evaluateLimiter s = s.modSupply (floorRead s false) :=
  (if_neg h).trans ((if_neg (not_lt.2 hp)).trans (if_pos hp'))

theorem evaluateLimiter_above (h : s.healthOf .intakeP ≠ .failed) (hp : floorOf s s.supply.state + 20 ≤ s.published .intakeP) :
    evaluateLimiter s = setLimit (min (s.supply.limit + max (limiterStep s / 2) 1) 1000) (s.modSupply (floorRead s false)) :=
  (if_neg h).trans ((if_neg (by omega)).trans (if_neg (not_lt.2 hp)))

/-- What an evaluation makes of the supply record: the floor read, and a limit kept or set. -/
theorem evaluateLimiter_limit (s : State) : ∃ below,
    (evaluateLimiter s = s.modSupply (floorRead s below)) ∨ ∃ l, evaluateLimiter s = setLimit l (s.modSupply (floorRead s below)) := by
  by_cases h : s.healthOf .intakeP = .failed
  · exact ⟨_, .inl (evaluateLimiter_failed h)⟩
  · by_cases hp : s.published .intakeP < floorOf s s.supply.state
    · exact ⟨_, .inr ⟨_, evaluateLimiter_below h hp⟩⟩
    · by_cases hp' : s.published .intakeP < floorOf s s.supply.state + 20
      · exact ⟨_, .inl (evaluateLimiter_band h (not_lt.1 hp) hp')⟩
      · exact ⟨_, .inr ⟨_, evaluateLimiter_above h (not_lt.1 hp')⟩⟩

theorem timerWhile_eq (b : Bool) (ms : Nat) (t : Option Timer) :
    timerWhile b ms t = if b = true then some (t.getD ⟨ms, 0⟩) else none := by
  unfold timerWhile runTimer
  split
  · cases t <;> rfl
  · rfl

theorem limiterPeriod_runs (h : limiterRuns s.supply.state = true) : limiterPeriod s =
    (evaluateLimiter s).modSupply fun x => { x with loss := timerWhile (losingSupply (evaluateLimiter s)) 3000 x.loss } :=
  if_pos h

theorem floorOf_runs (h : limiterRuns s.supply.state = true) : floorOf s s.supply.state =
    if s.supply.state = .hydrant then s.supply.floor else if s.supply.state = .draft then s.param 37 else s.param 36 := by
  cases hst : s.supply.state <;> simp_all [limiterRuns, floorOf, tankFloor, draftFloor]

/-- What every evaluation leaves of the supply record. -/
theorem evaluateLimiter_supply (s : State) : (evaluateLimiter s).supply.state = s.supply.state ∧
    (evaluateLimiter s).supply.floor = floorOf s s.supply.state ∧ (evaluateLimiter s).supply.loss = s.supply.loss ∧
    (evaluateLimiter s).sense = s.sense := by
  obtain ⟨below, h | ⟨l, h⟩⟩ := evaluateLimiter_limit s
  · rw [h]
    exact ⟨rfl, rfl, rfl, rfl⟩
  · rw [h, (inPeriod_setLimit l _).1, setLimit_supply]
    exact ⟨rfl, rfl, rfl, rfl⟩

/-- Settles O22: the four bands of the table, and the limit's two ways across 1000. -/
theorem limiterTable : Obligations.LimiterTable := by
  refine ⟨fun s hp => ⟨_, arrange_perm s.fresh.choices _, (exec_on hp rfl).trans rfl⟩, fun x => by cases x <;> simp [limiterRuns],
    fun s h => if_neg (by rw [h]; decide), fun s hrun => ?_⟩
  intro t p f
  have ht : t = _ := limiterPeriod_runs hrun
  have hf : floorOf s s.supply.state = f := floorOf_runs hrun
  obtain ⟨hstate, hfloor, hloss, hsense⟩ := evaluateLimiter_supply s
  rw [ht]
  refine ⟨hfloor.trans hf, fun h => ?_, fun h hp => ?_, fun h hp hp' => ?_, fun h hp => ?_, fun hl hl' => ?_, fun hl hl' => ?_, ?_⟩
  · rw [evaluateLimiter_failed h]
    exact ⟨rfl, rfl, rfl⟩
  · rw [evaluateLimiter_below h (by rw [hf]; exact hp)]
    simp only [State.modSupply_supply, setLimit_supply]
    exact ⟨rfl, rfl, setLimit_demand _ _ hrun⟩
  · rw [evaluateLimiter_band h (by rw [hf]; exact hp) (by rw [hf]; exact hp')]
    exact ⟨rfl, rfl, rfl⟩
  · rw [evaluateLimiter_above h (by rw [hf]; exact hp)]
    simp only [State.modSupply_supply, setLimit_supply]
    exact ⟨rfl, rfl⟩
  · obtain ⟨below, h | ⟨l, h⟩⟩ := evaluateLimiter_limit s <;> rw [h] at hl' ⊢
    · exact absurd hl' (not_lt.2 hl)
    · rw [State.modSupply_supply, setLimit_supply] at hl' ⊢
      exact (if_pos hl').trans (if_neg (not_lt.2 hl))
  · obtain ⟨below, h | ⟨l, h⟩⟩ := evaluateLimiter_limit s <;> rw [h] at hl' ⊢
    · exact absurd hl (not_lt.2 hl')
    · rw [State.modSupply_supply, setLimit_supply] at hl'
      refine ⟨?_, setLimit_alarm hl' _, ?_⟩ <;> rw [State.modSupply_supply, setLimit_supply]
      · exact if_neg (not_lt.2 hl')
      · exact if_neg (not_lt.2 hl')
  · have hlosing : losingSupply (evaluateLimiter s) = true ↔ (s.supply.state = .hydrant ∨ s.supply.state = .draft) ∧
        (evaluateLimiter s).supply.lossLatch = false ∧ s.healthOf .intakeP ≠ .failed ∧ p < f - 30 ∧
        (evaluateLimiter s).supply.limit ≤ 100 := by
      simp only [losingSupply, hstate, hfloor, hf, State.healthOf, State.published, hsense, Bool.and_eq_true, Bool.or_eq_true,
        beq_iff_eq, Bool.not_eq_true', bne_iff_ne, decide_eq_true_eq, and_assoc, p]
    rw [State.modSupply_supply, timerWhile_eq, hloss]
    exact if_congr hlosing rfl rfl

end Sys2Proof.Machine
end

section
/-! PROOFS. A sample of the inputs (O18). -/

namespace Sys2Proof.Machine

variable {K : List Part} {b : Bool} {s t x y : State}

/-! ### An exit from ENGAGED outside PUMP_STATIONARY leaves the terminals alone -/

/-- A state whose terminals stand as they were. -/
theorem Moves.terminals (h : Moves K b s t) (hK : .inputs ∉ K) : t.terminals = s.terminals := h.stands.inputs hK

theorem tripMode_terminals (c : ModeCause) (s : State) : (tripMode c s).terminals = s.terminals :=
  (moves_tripMode_of_tripParts (K := tripParts) (b := true) (List.Subset.refl _) (.refl ..)).terminals (by decide)

/-- Outside PUMP_STATIONARY an exit trips by the overspeed alone. -/
theorem tripActs_outside {sample : Bool} {f : State → State} (hf : f ∈ tripActs sample)
    (hs : s.interlock.mode ≠ .pumpStationary) :
    (f s).terminals = s.terminals ∧ (f s).interlock.mode ≠ .pumpStationary := by
  simp only [tripActs, List.cons_append, List.nil_append, List.mem_cons] at hf
  obtain rfl | rfl | hf := hf
  · simp [tripByMotion, hs]
  · unfold tripByOverspeed
    split
    · exact ⟨tripMode_terminals .., by simp [tripMode_mode]⟩
    · exact ⟨rfl, hs⟩
  · have hmem : f ∈ allTerminals.map tripByInput := by
      cases sample
      · simp at hf
      · exact hf
    obtain ⟨n, -, rfl⟩ := List.mem_map.1 hmem
    have hstands : tripByInput n s = s := by
      unfold tripByInput
      split
      · next h _ => exact absurd h hs
      · rfl
    rw [hstands]
    exact ⟨rfl, hs⟩

/-- What a change of the motion state touches, its trip's order apart. -/
def motionParts : List Part := [.watch, .event, .readings] ++ tripParts ++ fillsParts

theorem moves_changeMotion_tripMode (m : Bool) (s : State) : Moves motionParts true s (changeMotion m tripMode s) :=
  moves_changeMotion (by decide) (by decide) (by decide) (by decide)
    (fun _ _ => moves_tripMode_of_tripParts (by decide) (.refl ..)) (.refl ..)

theorem tripTogether_terminals {sample : Bool} (h : sample = false ∨ s.interlock.mode ≠ .pumpStationary) :
    (tripTogether sample s).terminals = s.terminals := by
  unfold tripTogether
  split
  · obtain rfl | hs := h
    · refine runInOrder_keeps (P := fun y => y.terminals = s.terminals) (fun _ _ h => h) _ (fun f hf y hy => ?_) s rfl
      simp only [tripActs, Bool.false_eq_true, if_false, List.append_nil, List.mem_cons, List.not_mem_nil, or_false] at hf
      obtain rfl | rfl := hf
      · unfold tripByMotion
        split
        · exact ((moves_changeMotion_tripMode ..).terminals (by decide)).trans hy
        · exact hy
      · unfold tripByOverspeed
        split
        · exact (tripMode_terminals ..).trans hy
        · exact hy
    · exact (runInOrder_keeps (P := fun y => y.terminals = s.terminals ∧ y.interlock.mode ≠ .pumpStationary)
        (fun _ _ h => h) _ (fun f hf y hy => ⟨(tripActs_outside hf hy.2).1.trans hy.1, (tripActs_outside hf hy.2).2⟩) s
        ⟨rfl, hs⟩).1
  · rfl

/-- What the hand-on of an exit from ENGAGED touches, a trip before it apart. -/
def leaveParts : List Part := [.setpoint, .governor] ++ modeParts ++ restParts ++ coolParts

theorem moves_leaveActs {f : State → State}
    (hf : f ∈ [modeOnExit, governorReset, supplyLeaveEngaged, thermalLeaveEngaged, tanksOnPto]) (y : State) :
    Moves leaveParts true y (f y) := by
  simp only [List.mem_cons, List.not_mem_nil, or_false] at hf
  obtain rfl | rfl | rfl | rfl | rfl := hf
  · exact moves_modeOnExit (by decide) (.refl ..)
  · exact moves_governorReset (by decide) (by decide) (.refl ..)
  · exact moves_supplyLeaveEngaged (by decide) (.refl ..)
  · exact moves_thermalLeaveEngaged (by decide) (.refl ..)
  · exact moves_tanksOnPto (by decide) (.refl ..)

/-- The hand-on of an exit, after the trip that may fall together with it. -/
theorem moves_leave (sample : Bool) (s : State) : Moves leaveParts true (tripTogether sample s) (handExit sample s) :=
  moves_runInOrder (fun _ hf y => moves_leaveActs hf y) (.refl ..)

theorem handExit_terminals {sample : Bool} (h : sample = false ∨ s.interlock.mode ≠ .pumpStationary) :
    (handExit sample s).terminals = s.terminals :=
  ((moves_leave sample s).terminals (by decide)).trans (tripTogether_terminals h)

/-- In MOTION_TRIP no trip falls together with an exit. -/
theorem tripTogether_motionTrip {sample : Bool} (h : s.interlock.mode = .motionTrip) : tripTogether sample s = s :=
  if_neg fun hc => by simp [tripsNow, h] at hc

theorem releaseParts_terminals (h : Moves releaseParts true s t) : t.terminals = s.terminals := h.terminals (by decide)

theorem disengageOrder_terminals {c : ReleaseCause} (h : s.interlock.mode ≠ .pumpStationary) :
    (disengageOrder c s).terminals = s.terminals := by
  unfold disengageOrder
  split
  · exact (releaseParts_terminals (moves_endRampIfIdle (by decide) (.refl ..))).trans (handExit_terminals (.inr h))
  case h_2 | h_3 | h_4 => exact releaseParts_terminals (moves_abortEngagement (by decide) (.refl ..))
  all_goals rfl

theorem driveFault_terminals (c : DriveFault) (s : State) : (driveFault c s).terminals = s.terminals := by
  have hfault : (enterDriveFault c s).terminals = s.terminals := by
    have hframe := (enterDriveFault_spec c s).1
    dsimp only at hframe
    rw [hframe]
  unfold driveFault
  dsimp only
  split
  · exact (handExit_terminals (.inl rfl)).trans hfault
  · exact hfault

theorem stopEffect_terminals (s : State) : (stopEffect s).terminals = s.terminals := by
  unfold stopEffect
  split
  · have hstart : (startRelease .panelStop (addAlarm .stop s)).terminals = s.terminals :=
      (moves_addAlarm (K := [.alarm, .cause .stop]) (b := true) (by decide) (.refl ..) (.inr (by decide))).terminals (by decide)
    exact (releaseParts_terminals (moves_confirmRelease (by decide) (.refl ..))).trans
      ((handExit_terminals (.inl rfl)).trans hstart)
  · exact releaseParts_terminals (moves_stopOutsideEngaged (by decide) (.refl ..))

/-- What the order of a trip made before touches. -/
def tripOrderParts : List Part := .alarm :: (leaveParts ++ releaseParts)

theorem moves_orderInTrip (c : ReleaseCause) (h : s.interlock.mode = .motionTrip) :
    Moves tripOrderParts true s (disengageOrder c s) := by
  unfold disengageOrder
  split
  · have hleave := moves_leave true (s.modDrive fun d =>
      { toPto .rampdown d with release := some c, ramp := startTimer 3000 })
    rw [tripTogether_motionTrip (by exact h)] at hleave
    exact moves_endRampIfIdle (by decide) ((moves_drive (by decide) (.refl ..)).trans (hleave.mono (by decide)))
  case h_2 | h_3 | h_4 => exact moves_abortEngagement (by decide) (.refl ..)
  all_goals exact .refl ..

/-- What an entry to ENGAGED touches, the order of the trip that it may bring included. -/
def engagedParts : List Part := entryParts ++ tripOrderParts

theorem moves_toEngaged (c : Confirmation) (s : State) : Moves engagedParts true s (enterEngaged c s) := by
  have hentry : Moves engagedParts true s (handEntry (record .engageDone
      { old := some (.pto .shifting), new := some (.pto .engaged), value := some (s.drive.tries : Int)
        cause := some (.confirmation c) } (s.modDrive (engagedRecord c)))) :=
    moves_handEntry (by decide) (moves_record (by decide) (moves_drive (by decide) (.refl ..)))
  refine hentry.trans ?_
  unfold enterEngaged orderIfTripped
  split
  · next h => exact (moves_orderInTrip .motion h).mono (by decide)
  · exact .refl ..

theorem enterEngaged_terminals (c : Confirmation) (s : State) : (enterEngaged c s).terminals = s.terminals :=
  (moves_toEngaged c s).terminals (by decide)

theorem ptoFeedbackChange_terminals (asserted : Bool) (s : State) : (ptoFeedbackChange asserted s).terminals = s.terminals := by
  unfold ptoFeedbackChange
  split
  · exact driveFault_terminals ..
  · exact enterEngaged_terminals ..
  · exact driveFault_terminals ..
  · exact releaseParts_terminals (moves_endRelease (by decide) (.refl ..))
  · split
    · exact driveFault_terminals ..
    · rfl
  · rfl

theorem conditionEvent_terminals (s : State) : (conditionEvent s).terminals = s.terminals :=
  (moves_conditionEvent (K := [.event]) (b := true) (by decide) (.refl ..)).terminals (by decide)

theorem eventAnd_terminals {f : State → State} (hf : ∀ y, (f y).terminals = y.terminals) (s : State) :
    (runInOrder [conditionEvent, f] s).terminals = s.terminals := by
  refine runInOrder_keeps (P := fun y => y.terminals = s.terminals) (fun _ _ h => h) _ (fun g hg y hy => ?_) s rfl
  simp only [List.mem_cons, List.not_mem_nil, or_false] at hg
  obtain rfl | rfl := hg
  · exact (conditionEvent_terminals y).trans hy
  · exact (hf y).trans hy

theorem tripOnLoss_terminals (c : ModeCause) (asserted : Bool) (s : State) :
    (tripOnLoss c asserted s).terminals = s.terminals :=
  (moves_tripOnLoss (K := tripParts) (b := true) (by decide) (.refl ..)).terminals (by decide)

theorem deselectRoll_terminals (asserted : Bool) (s : State) : (deselectRoll asserted s).terminals = s.terminals := by
  unfold deselectRoll
  split
  · next h => exact disengageOrder_terminals (by obtain hm | hm := h.2 <;> simp [hm])
  · rfl

theorem panelStopChange_terminals (asserted : Bool) (s : State) : (panelStopChange asserted s).terminals = s.terminals := by
  unfold panelStopChange
  split
  · exact (stopEffect_terminals _).trans ((stands_record_notices _ _ s).inputs (by decide))
  · exact (moves_reviewStop (K := [.alarm, .cause .stop]) (b := true) (by decide) (by decide) (.refl ..)).terminals (by decide)

theorem valveFeedbackChange_terminals (v : ValveRole) (asserted : Bool) (s : State) :
    (valveFeedbackChange v asserted s).terminals = s.terminals :=
  (moves_valveFeedbackChange (K := .valve v :: supplyParts) (b := true) (by simp) (by simp) (.refl ..)).terminals
    (by cases v <;> decide)

/-- A changed input is handed to blocks that leave the terminals alone. -/
theorem inputChange_terminals (n : Terminal) (r : Role) (asserted : Bool) (s : State) :
    (inputChange n r asserted s).terminals = s.terminals := by
  cases r
  case parkBrake | neutral => exact eventAnd_terminals (tripOnLoss_terminals _ _) s
  case rollSelect => exact eventAnd_terminals (deselectRoll_terminals _) s
  case panelStop => exact eventAnd_terminals (panelStopChange_terminals _) s
  case ptoFb => exact ptoFeedbackChange_terminals _ s
  case mainValveFb | reserveValveFb | recircFb => exact valveFeedbackChange_terminals _ _ s
  case generalIn => exact (stands_record_notices _ _ s).inputs (by decide)
  all_goals rfl

theorem deliverOrder_terminals (m : OpMode) (s : State) : (deliverOrder m s).terminals = s.terminals := by
  unfold deliverOrder
  split
  · next h => exact disengageOrder_terminals (by simp [h.2])
  · rfl

/-! ### The sample -/

/-- A terminal's input state after a sample of it (R16). -/
def inputSampled (levels : BitVec 16) (x : Terminals) (n : Terminal) : InputState :=
  if isInputRole x.assignment[n].role = true then sampleInput x.assignment[n] (levels.getLsbD n.val) x.inputs[n]
  else x.inputs[n]

theorem sampleTerminal_terminals (levels : BitVec 16) (n : Terminal) (s : State) :
    (sampleTerminal levels n s).terminals =
      { s.terminals with inputs := s.terminals.inputs.set n (inputSampled levels s.terminals n) } := by
  unfold sampleTerminal inputSampled
  dsimp only
  split
  · split
    · rfl
    · exact inputChange_terminals ..
  · exact congrArg (fun v => { s.terminals with inputs := v }) (set_self ..).symm

/-- The acts of a sample, each terminal named once, in some order. -/
theorem sampleActs_terminals (levels : BitVec 16) (m : OpMode) : ∀ (l : List (Option Terminal)) (s : State), l.Nodup →
    let u := (l.map (sampleAct levels m)).foldl (fun t f => f t) s
    u.terminals.assignment = s.terminals.assignment ∧ ∀ w : Terminal,
      u.terminals.inputs[w] = if some w ∈ l then inputSampled levels s.terminals w else s.terminals.inputs[w]
  | [], s, _ => ⟨rfl, fun w => by simp⟩
  | none :: l, s, hl => by
    obtain ⟨hassign, hall⟩ := sampleActs_terminals levels m l (deliverOrder m s) (List.nodup_cons.1 hl).2
    rw [deliverOrder_terminals] at hassign hall
    refine ⟨hassign, fun w => ?_⟩
    rw [List.map_cons, List.foldl_cons]
    exact (hall w).trans (by simp)
  | some n :: l, s, hl => by
    obtain ⟨hn, hl⟩ := List.nodup_cons.1 hl
    obtain ⟨hassign, hall⟩ := sampleActs_terminals levels m l (sampleTerminal levels n s) hl
    rw [sampleTerminal_terminals] at hassign hall
    refine ⟨hassign, fun w => ?_⟩
    rw [List.map_cons, List.foldl_cons]
    refine (hall w).trans ?_
    by_cases hw : w = n
    · subst hw
      simp [hn]
    · have hval : n.val ≠ w.val := fun h => hw (Fin.ext h.symm)
      simp [hw, hval, inputSampled]

/-- A sample takes every input terminal once, in whatever order. -/
theorem sampleInputs_terminals (levels : BitVec 16) (s : State) :
    (sampleInputs levels s).terminals.assignment = s.terminals.assignment ∧
      ∀ w : Terminal, (sampleInputs levels s).terminals.inputs[w] = inputSampled levels s.terminals w := by
  have hacts : allTerminals.map (sampleTerminal levels) ++ [deliverOrder s.interlock.mode] =
      (allTerminals.map some ++ [none]).map (sampleAct levels s.interlock.mode) := rfl
  have hnodup : (arrange s.choices (allTerminals.map some ++ [none])).Nodup := (arrange_perm _ _).nodup_iff.2 (by decide)
  obtain ⟨hassign, hall⟩ := sampleActs_terminals levels s.interlock.mode _
    (s.modChoices (·.drop (allTerminals.map (sampleTerminal levels) ++ [deliverOrder s.interlock.mode]).length)) hnodup
  unfold sampleInputs
  dsimp only
  rw [deliverOrder_terminals, runInOrder]
  rw [hacts, arrange_map]
  exact ⟨hassign, fun w => (hall w).trans (by simp [mem_arrange])⟩

/-! ### Contrary samples in a row -/

theorem assertedBy_eq (p : Polarity) (high : Bool) : assertedBy p high = (high == (p == .activeHigh)) := by
  cases p <;> cases high <;> rfl

theorem sampleInput_agrees {r : AssignRecord} {high : Bool} {i : InputState}
    (h : i.asserted = (high == (r.polarity == .activeHigh))) :
    sampleInput r high i = { i with sample := some high, counter := 0 } :=
  if_pos (by rw [assertedBy_eq, h])

theorem sampleInput_differs {r : AssignRecord} {high : Bool} {i : InputState}
    (h : i.asserted ≠ (high == (r.polarity == .activeHigh))) :
    sampleInput r high i =
      if i.counter + 1 < r.q then { i with sample := some high, counter := i.counter + 1 }
      else { asserted := !i.asserted, sample := some high, counter := 0 } := by
  have hne : assertedBy r.polarity high ≠ i.asserted := by
    rw [assertedBy_eq]
    exact h.symm
  rw [← Bool.eq_not.2 hne]
  exact if_neg hne

/-- Below Q contrary samples are counted. -/
theorem sampleInput_iterate {r : AssignRecord} {high : Bool} {i : InputState} (hi : i.counter = 0)
    (h : i.asserted ≠ (high == (r.polarity == .activeHigh))) : ∀ n, n + 1 < r.q →
    (sampleInput r high)^[n + 1] i = { i with sample := some high, counter := n + 1 }
  | 0, hn => by
    rw [Function.iterate_one, sampleInput_differs h, hi, if_pos hn]
  | n + 1, hn => by
    rw [Function.iterate_succ_apply', sampleInput_iterate hi h n (by omega)]
    exact (sampleInput_differs (i := { i with sample := some high, counter := n + 1 }) h).trans (if_pos hn)

/-- The Q-th contrary sample in a row changes the state. -/
theorem sampleInput_iterate_last {r : AssignRecord} {high : Bool} {i : InputState} (hq : 1 ≤ r.q) (hi : i.counter = 0)
    (h : i.asserted ≠ (high == (r.polarity == .activeHigh))) :
    (sampleInput r high)^[r.q] i = { asserted := !i.asserted, sample := some high, counter := 0 } := by
  obtain ⟨q, hq⟩ : ∃ q, r.q = q + 1 := ⟨r.q - 1, by omega⟩
  rw [hq, Function.iterate_succ_apply']
  cases q with
  | zero => rw [Function.iterate_zero_apply, sampleInput_differs h, hi, hq, if_neg (by omega)]
  | succ q =>
    rw [sampleInput_iterate hi h q (by omega)]
    exact (sampleInput_differs (i := { i with sample := some high, counter := q + 1 }) h).trans (if_neg (by simp [hq]))

/-- Settles O18: only the sample itself changes an input state, and each terminal is sampled once, in whatever order. -/
theorem inputSampleQualifiesEveryInput : Obligations.InputSampleQualifiesEveryInput := by
  refine ⟨fun s levels hp => ?_, fun r high i => ⟨sampleInput_agrees, sampleInput_differs⟩, fun r high i n hq hi h hn hle => ?_⟩
  · have hst := (moves_sampleInputs (levels := levels) (List.Subset.refl inputParts) (.refl inputParts true s.fresh)).stands
    obtain ⟨hassign, hinputs⟩ := sampleInputs_terminals levels s.fresh
    refine ⟨sampleInputs levels s.fresh, exec_on hp rfl, hinputs, hassign, ?_⟩
    have hsense : (sampleInputs levels s.fresh).sense = s.sense := hst.sense (by decide)
    have htotals : (sampleInputs levels s.fresh).totals = s.totals := hst.totals (by decide)
    have hclock : (sampleInputs levels s.fresh).clock = s.clock := hst.clock
    have hlink : (sampleInputs levels s.fresh).link = s.link := hst.link
    have hparams : (sampleInputs levels s.fresh).params = s.params := hst.params
    have hpow : (sampleInputs levels s.fresh).powered = true := hst.powered.trans hp
    have hcount : (sampleInputs levels s.fresh).choiceCount = s.choiceCount + 1 := hst.choiceCount
    have hpending : (sampleInputs levels s.fresh).pending = s.pending := hst.pending
    have hlockout : (sampleInputs levels s.fresh).interlock.lockout = s.interlock.lockout := hst.lockout
    have hflags : (sampleInputs levels s.fresh).interlock.flags = s.interlock.flags := hst.flags (by decide)
    rw [← hsense, ← htotals, ← hclock, ← hlink, ← hparams, ← hpow, ← hcount, ← hpending, ← hlockout, ← hflags]
  · obtain ⟨m, rfl⟩ : ∃ m, n = m + 1 := ⟨n - 1, by omega⟩
    obtain hlt | heq : m + 1 < r.q ∨ m + 1 = r.q := by omega
    · simp [sampleInput_iterate hi h m hlt, hlt]
    · simp [heq, sampleInput_iterate_last hq hi h]

end Sys2Proof.Machine
end

section
/-! PROOFS. A scan of the analog channels and the set it publishes (O16). -/

namespace Sys2Proof.Machine

variable {s t : State}

/-! ### The six codes -/

theorem scanRecord_congr (h : t.params = s.params) (c : AnalogChannel) (n : Nat) (r : ChannelRecord) :
    scanRecord t c n r = scanRecord s c n r := by
  have hparam : ∀ i, t.param i = s.param i := fun i => by rw [State.param, State.param, h]
  have hshift : filterShift t c = filterShift s c := by rw [filterShift, filterShift, paramNat_congr h]
  rw [scanRecord, scanRecord, hshift, zeroValue, zeroValue, fullValue, fullValue, hparam, hparam]

theorem scanChannel_sense (codes : Analog (BitVec 12)) (s : State) (c : AnalogChannel) :
    (scanChannel codes s c).sense = { s.sense with
      channels :=
        setAnalog s.sense.channels c (scanRecord s c (getAnalog codes c).toNat (getAnalog s.sense.channels c)) } := by
  have hrecord : ∀ k n (y : State), (record k n y).sense = y.sense := fun k n y =>
    (stands_record_notices k n y).sense (by decide)
  unfold scanChannel recordHealth
  dsimp only
  split
  · exact hrecord ..
  · split
    · exact hrecord ..
    · rfl

theorem scanChannel_params (codes : Analog (BitVec 12)) (s : State) (c : AnalogChannel) :
    (scanChannel codes s c).params = s.params :=
  (moves_scanChannel (K := [.sense, .notices]) (b := true) (by decide) (by decide) (.refl ..)).stands.params

/-- The codes of the channels of a list, each channel named once. -/
theorem scanChannels_sense (codes : Analog (BitVec 12)) : ∀ (l : List AnalogChannel) (s : State), l.Nodup →
    let u := l.foldl (scanChannel codes) s
    u.sense = { s.sense with channels := u.sense.channels } ∧ ∀ c, getAnalog u.sense.channels c =
      if c ∈ l then scanRecord s c (getAnalog codes c).toNat (getAnalog s.sense.channels c)
      else getAnalog s.sense.channels c
  | [], s, _ => ⟨rfl, fun c => by simp⟩
  | d :: l, s, hl => by
    obtain ⟨hd, hl⟩ := List.nodup_cons.1 hl
    obtain ⟨hsense, hall⟩ := scanChannels_sense codes l (scanChannel codes s d) hl
    rw [List.foldl_cons]
    rw [scanChannel_sense] at hsense hall
    refine ⟨hsense, fun c => (hall c).trans ?_⟩
    rw [scanRecord_congr (scanChannel_params codes s d), getAnalog_setAnalog]
    by_cases hc : c = d
    · subst hc
      simp [hd]
    · simp [hc]

/-- The Sense Unit with the next set published. -/
def publishedSense (x : Sense) : Sense := { x with front := nextSet x, back := x.front }

theorem swapSets_sense (s : State) : (swapSets s).sense = publishedSense s.sense := rfl

/-- The Sense Unit once the set is published. -/
theorem scanned_sense (codes : Analog (BitVec 12)) (s : State) :
    (∀ c, getAnalog (scanned codes s).sense.channels c =
      scanRecord s c (getAnalog codes c).toNat (getAnalog s.sense.channels c)) ∧
    (scanned codes s).sense = publishedSense { s.sense with channels := (scanned codes s).sense.channels } := by
  obtain ⟨hsense, hall⟩ := scanChannels_sense codes allAnalog s (by decide)
  unfold scanned
  generalize allAnalog.foldl (scanChannel codes) s = u at hsense hall ⊢
  rw [swapSets_sense]
  exact ⟨fun c => (hall c).trans (if_pos (by cases c <;> decide)), congrArg publishedSense hsense⟩

/-! ### The blocks that read the set -/

/-- A published set's drive watch: its parts. -/
theorem moves_publishDrive_engaged (s : State) : Moves engagedParts true s (publishDrive s) := by
  unfold publishDrive
  split
  · unfold enterShifting
    dsimp only
    split
    · exact (moves_drive (by decide) (.refl ..)).trans (moves_toEngaged ..)
    · exact moves_drive (by decide) (.refl ..)
  · exact moves_endRampIfIdle (by decide) (.refl ..)

/-- What the blocks that read a set touch: no terminal among it. -/
def readerParts : List Part :=
  [.level .main, .level .reserve, .readings, .watch, .zone, .cause .voltage, .event, .conditions] ++ engagedParts

theorem moves_readers {f : State → State} (hf : f ∈ setConsumers) (y : State) : Moves readerParts true y (f y) := by
  have hsupply : supplyParts ⊆ readerParts := by decide
  have hthermal : thermalParts ⊆ readerParts := by decide
  have hlevel : ∀ n : Tank, levelParts n ⊆ readerParts := fun n => by cases n <;> decide
  simp only [setConsumers, List.mem_cons, List.not_mem_nil, or_false] at hf
  obtain rfl | rfl | rfl | rfl | rfl | rfl | rfl | rfl | rfl | rfl | rfl | rfl | rfl | rfl := hf
  · exact moves_publishMotion (by decide) (.refl ..)
  · exact moves_publishRoll (by decide) (.refl ..)
  · exact moves_publishVoltage (by decide) (.refl ..)
  · exact moves_publishEngineIdle (by decide) (.refl ..)
  · exact (moves_publishDrive_engaged y).mono (by decide)
  · exact moves_publishFallback (by decide) (by decide) (.refl ..)
  · exact moves_publishPulseLoss (by decide) (.refl ..)
  · exact moves_publishWindow hsupply (.refl ..)
  · exact moves_publishPrime hsupply (.refl ..)
  · exact moves_publishTank (hlevel .main) (by decide) (.inl (by decide)) (.refl ..)
  · exact moves_publishTank (hlevel .reserve) (by decide) (.inl (by decide)) (.refl ..)
  · exact moves_publishZone hthermal (by decide) (.refl ..)
  · exact moves_publishNoFlow (by decide) (.refl ..)
  · exact moves_publishDryRun (by decide) (.refl ..)

theorem moves_setRead (codes : Analog (BitVec 12)) (s : State) : Moves readerParts true (scanned codes s) (scanAnalog codes s) :=
  moves_runInOrder (fun _ hf y => moves_readers hf y) (.refl ..)

/-- Settles O16: the channels of the scan are treated one by one, and no block that reads the set writes to it. -/
theorem analogScanPublishesTheSet : Obligations.AnalogScanPublishesTheSet := by
  intro s codes hp
  obtain ⟨hchannels, hsense⟩ := scanned_sense codes s.fresh
  have hscan : Stands [.sense, .notices] s.fresh (scanned codes s.fresh) :=
    (moves_scanned (b := true) (by decide) (by decide) (.refl ..)).stands
  have hread := (moves_setRead codes s.fresh).stands
  have hkeep : (scanAnalog codes s.fresh).sense = (scanned codes s.fresh).sense := hread.sense (by decide)
  refine ⟨scanAnalog codes s.fresh, exec_on hp rfl, ?_⟩
  rw [hkeep]
  generalize hv : (scanned codes s.fresh).sense = v at hchannels hsense hkeep
  refine ⟨fun c => hchannels c, fun c => ?_, ?_, fun p => ?_, ?_, ?_⟩
  · rw [hsense]
    cases c <;> exact ⟨rfl, rfl⟩
  · rw [hsense]
    rfl
  · rw [hsense]
    cases p <;> exact ⟨rfl, rfl⟩
  · rw [hsense]
    rfl
  · have hterm : (scanAnalog codes s.fresh).terminals = s.terminals :=
      (hread.inputs (by decide)).trans (hscan.inputs (by decide))
    have htotals : (scanAnalog codes s.fresh).totals = s.totals := (hread.totals (by decide)).trans (hscan.totals (by decide))
    have hclock : (scanAnalog codes s.fresh).clock = s.clock := hread.clock.trans hscan.clock
    have hlink : (scanAnalog codes s.fresh).link = s.link := hread.link.trans hscan.link
    have hparams : (scanAnalog codes s.fresh).params = s.params := hread.params.trans hscan.params
    have hpow : (scanAnalog codes s.fresh).powered = true := hread.powered.trans (hscan.powered.trans hp)
    have hcount : (scanAnalog codes s.fresh).choiceCount = s.choiceCount + 1 := hread.choiceCount.trans hscan.choiceCount
    have hpending : (scanAnalog codes s.fresh).pending = s.pending := hread.pending.trans hscan.pending
    have hlockout : (scanAnalog codes s.fresh).interlock.lockout = s.interlock.lockout := hread.lockout.trans hscan.lockout
    have hflags : (scanAnalog codes s.fresh).interlock.flags = s.interlock.flags :=
      (hread.flags (by decide)).trans (hscan.flags (by decide))
    rw [← hterm, ← htotals, ← hclock, ← hlink, ← hparams, ← hpow, ← hcount, ← hpending, ← hlockout, ← hflags, ← hkeep]

end Sys2Proof.Machine
end

section
/-! PROOFS. What a published set starts and stops, whatever the order of the blocks that read it (O17). -/

namespace Sys2Proof.Machine

variable {K : List Part} {s t y : State}

/-! ### A value that one act of a free order owns -/

/-- A value that one act brings from a to b, the others leaving it alone, comes to b. -/
theorem runInOrder_owner {α : Type} {acts : List (State → State)} {f : State → State} (hf : f ∈ acts) (g : State → α)
    {a b : α} (hs : g s = a) (hchoices : ∀ y k, g (y.modChoices k) = g y) (hown : ∀ y, g y = a ∨ g y = b → g (f y) = b)
    (hacts : ∀ h ∈ acts, ∀ y, g y = a ∨ g y = b → g (h y) = g y ∨ g (h y) = b) : g (runInOrder acts s) = b := by
  refine runInOrder_reaches (P := fun y => g y = a ∨ g y = b) (Q := fun y => g y = b) (fun y k hy => by rwa [hchoices]) f
    acts hf (fun h hh y hy => ?_) (fun h hh y hy => ?_) hown s (.inl hs)
  · obtain e | e := hacts h hh y hy
    · rwa [e]
    · exact .inr e
  · obtain e | e := hacts h hh y (.inr hy)
    · exact e.trans hy
    · exact e

theorem timerWhile_again (c : Bool) (ms : Nat) (o : Option Timer) : timerWhile c ms (timerWhile c ms o) = timerWhile c ms o := by
  cases c
  · rfl
  · cases o <;> rfl

/-! ### The watches of the Interlock Unit -/

/-- The Interlock Unit's record but for the mode and the conditions. -/
def watchOf (i : Interlock) : Interlock :=
  { i with mode := .road, ceiling := 0, recovery := none, trip := none, conditions := [] }

theorem Stands.watchOf (h : Stands K s t) (hK : .watch ∉ K) : watchOf t.interlock = watchOf s.interlock := by
  rw [h.watch hK]
  rfl

theorem voltage_of_watchOf {i j : Interlock} (h : watchOf i = watchOf j) : i.voltageOk = j.voltageOk ∧ i.voltage = j.voltage :=
  ⟨(congrArg Interlock.voltageOk h :), (congrArg Interlock.voltage h :)⟩

theorem publishVoltage_watchOf (s : State) : watchOf (publishVoltage s).interlock = { watchOf s.interlock with
    voltageOk := if s.published .supplyV < 105 then false else s.interlock.voltageOk
    voltage := if s.published .supplyV < 105 then none
      else if s.interlock.voltageOk then s.interlock.voltage else runTimer 5000 s.interlock.voltage } := by
  unfold publishVoltage
  dsimp only
  split
  · split
    · exact (moves_conditionEvent (K := [.event]) (b := true) (by decide) (.refl ..)).stands.watchOf (by decide)
    · exact (moves_conditionEvent (K := [.event, .alarm, .notices, .cause .voltage]) (b := true) (by decide)
        (moves_record (by decide) (moves_addAlarm (by decide) (.refl ..) (.inr (by decide))))).stands.watchOf (by decide)
  · rfl

theorem publishEngineIdle_watchOf (s : State) : watchOf (publishEngineIdle s).interlock =
    { watchOf s.interlock with engineAtIdle := decide (s.engineSpeed ≤ s.paramNat 24) } :=
  (moves_conditionEvent (K := [.event]) (b := true) (by decide) (.refl ..)).stands.watchOf (by decide)

/-! ### The readers apart -/

/-- What the readers touch that neither watch the Interlock Unit nor move the mode, the drive or the zone. -/
def calmParts : List Part := [.level .main, .level .reserve, .readings, .enter] ++ supplyParts

/-- The six readers with a part of their own. -/
def OwnReader (f : State → State) : Prop :=
  f = publishMotion ∨ f = publishRoll ∨ f = publishVoltage ∨ f = publishEngineIdle ∨ f = publishDrive ∨ f = publishZone

theorem reader_cases {f : State → State} (hf : f ∈ setConsumers) : OwnReader f ∨ ∀ y, Moves calmParts true y (f y) := by
  have hlevel : ∀ n : Tank, levelParts n ⊆ calmParts := fun n => by cases n <;> decide
  simp only [setConsumers, List.mem_cons, List.not_mem_nil, or_false] at hf
  obtain rfl | rfl | rfl | rfl | rfl | rfl | rfl | rfl | rfl | rfl | rfl | rfl | rfl | rfl := hf
  case inr.inr.inr.inr.inr.inl => exact .inr fun y => moves_publishFallback (by decide) (by decide) (.refl ..)
  case inr.inr.inr.inr.inr.inr.inl => exact .inr fun y => moves_publishPulseLoss (by decide) (.refl ..)
  case inr.inr.inr.inr.inr.inr.inr.inl => exact .inr fun y => moves_publishWindow (by decide) (.refl ..)
  case inr.inr.inr.inr.inr.inr.inr.inr.inl => exact .inr fun y => moves_publishPrime (by decide) (.refl ..)
  case inr.inr.inr.inr.inr.inr.inr.inr.inr.inl | inr.inr.inr.inr.inr.inr.inr.inr.inr.inr.inl =>
    exact .inr fun y => moves_publishTank (hlevel _) (by decide) (.inl (by decide)) (.refl ..)
  case inr.inr.inr.inr.inr.inr.inr.inr.inr.inr.inr.inr.inl => exact .inr fun y => moves_publishNoFlow (by decide) (.refl ..)
  case inr.inr.inr.inr.inr.inr.inr.inr.inr.inr.inr.inr.inr => exact .inr fun y => moves_publishDryRun (by decide) (.refl ..)
  all_goals exact .inl (by simp [OwnReader])

/-- Three readers watch the Interlock Unit's record. -/
theorem reader_watchOf {f : State → State} (hf : f ∈ setConsumers) :
    f = publishMotion ∨ f = publishVoltage ∨ f = publishEngineIdle ∨
      ∀ y, watchOf (f y).interlock = watchOf y.interlock := by
  obtain (rfl | rfl | rfl | rfl | rfl | rfl) | h := reader_cases hf
  · exact .inl rfl
  · exact .inr (.inr (.inr fun y => (moves_publishRoll (K := modeParts) (b := true) (by decide) (.refl ..)).stands.watchOf
      (by decide)))
  · exact .inr (.inl rfl)
  · exact .inr (.inr (.inl rfl))
  · exact .inr (.inr (.inr fun y => (moves_publishDrive_engaged y).stands.watchOf (by decide)))
  · exact .inr (.inr (.inr fun y => (moves_publishZone (K := .zone :: thermalParts) (b := true) (by decide) (by decide)
      (.refl ..)).stands.watchOf (by decide)))
  · exact .inr (.inr (.inr fun y => (h y).stands.watchOf (by decide)))

theorem reader_sense {f : State → State} (hf : f ∈ setConsumers) (y : State) :
    (f y).sense = y.sense ∧ (f y).params = y.params :=
  ⟨(moves_readers hf y).stands.sense (by decide), (moves_readers hf y).stands.params⟩

/-- A value that one reader brings from a to b, the others leaving it alone, is b after the scan. -/
theorem scan_owner {α : Type} {codes : Analog (BitVec 12)} {f : State → State} (hf : f ∈ setConsumers) (g : State → α)
    {a b : α} (hscan : g (scanned codes s) = a) (hchoices : ∀ y k, g (y.modChoices k) = g y)
    (hown : ∀ y, y.sense = (scanned codes s).sense → y.params = s.params → g y = a ∨ g y = b → g (f y) = b)
    (hothers : ∀ h ∈ setConsumers, h = f ∨ ∀ y, g y = a ∨ g y = b → g (h y) = g y) : g (scanAnalog codes s) = b := by
  have hparams : (scanned codes s).params = s.params :=
    (moves_scanned (K := [.sense, .notices]) (b := true) (by decide) (by decide) (.refl ..)).stands.params
  have hvalue : ∀ y, (y.sense, y.params, g y) = ((scanned codes s).sense, s.params, a) ∨
      (y.sense, y.params, g y) = ((scanned codes s).sense, s.params, b) →
      y.sense = (scanned codes s).sense ∧ y.params = s.params ∧ (g y = a ∨ g y = b) := fun y hy => by
    simp only [Prod.mk.injEq] at hy
    obtain ⟨hs, hp, hg⟩ | ⟨hs, hp, hg⟩ := hy
    · exact ⟨hs, hp, .inl hg⟩
    · exact ⟨hs, hp, .inr hg⟩
  have hfinal := runInOrder_owner (acts := setConsumers) hf (fun y => (y.sense, y.params, g y)) (s := scanned codes s)
    (a := ((scanned codes s).sense, s.params, a)) (b := ((scanned codes s).sense, s.params, b)) (by simp only [hscan, hparams])
    (fun y k => by simp only [hchoices]; rfl)
    (fun y hy => by
      obtain ⟨hs, hp, hg⟩ := hvalue y hy
      simp only [reader_sense hf y, hown y hs hp hg, hs, hp])
    (fun h hh y hy => by
      obtain ⟨hs, hp, hg⟩ := hvalue y hy
      obtain rfl | hother := hothers h hh
      · exact .inr (by simp only [reader_sense hf y, hown y hs hp hg, hs, hp])
      · exact .inl (by simp only [reader_sense hh y, hother y hg]))
  exact congrArg (·.2.2) hfinal

theorem scanned_stands (codes : Analog (BitVec 12)) (s : State) : Stands [.sense, .notices] s (scanned codes s) :=
  (moves_scanned (b := true) (by decide) (by decide) (.refl ..)).stands

/-- The set that the scan leaves is the one it published. -/
theorem scanAnalog_sense (codes : Analog (BitVec 12)) (s : State) : (scanAnalog codes s).sense = (scanned codes s).sense :=
  (moves_setRead codes s).stands.sense (by decide)

/-! ### The motion timers and ENGINE_AT_IDLE -/

/-- The motion timers after a published set (R24). -/
def motionTimers (road : Nat) (moving : Bool) (rise fall : Option Timer) : Option Timer × Option Timer :=
  if moving then (none, timerWhile (decide (road < 10)) 2000 fall) else (timerWhile (decide (20 ≤ road)) 1000 rise, none)

theorem publishMotion_eq (s : State) : publishMotion s = s.modInterlock fun i => { i with
    rise := (motionTimers s.roadSpeed i.moving i.rise i.fall).1
    fall := (motionTimers s.roadSpeed i.moving i.rise i.fall).2 } := by
  refine congrArg s.modInterlock (funext fun i => ?_)
  unfold motionTimers
  split <;> rfl

theorem motionTimers_again (road : Nat) (moving : Bool) (rise fall : Option Timer) :
    motionTimers road moving (motionTimers road moving rise fall).1 (motionTimers road moving rise fall).2 =
      motionTimers road moving rise fall := by
  unfold motionTimers
  cases moving <;> simp [timerWhile_again]

/-- The motion state and its timers. -/
def motionOf (s : State) : Bool × Option Timer × Option Timer := (s.interlock.moving, s.interlock.rise, s.interlock.fall)

theorem motionOf_watchOf (h : watchOf t.interlock = watchOf s.interlock) : motionOf t = motionOf s := by
  simp only [motionOf, Prod.mk.injEq]
  exact ⟨(congrArg Interlock.moving h :), (congrArg Interlock.rise h :), (congrArg Interlock.fall h :)⟩

theorem reader_motionOf {f : State → State} (hf : f ∈ setConsumers) (hne : f ≠ publishMotion) (y : State) :
    motionOf (f y) = motionOf y := by
  obtain rfl | rfl | rfl | h := reader_watchOf hf
  · exact absurd rfl hne
  · have h := publishVoltage_watchOf y
    simp only [motionOf, Prod.mk.injEq]
    exact ⟨(congrArg Interlock.moving h :), (congrArg Interlock.rise h :), (congrArg Interlock.fall h :)⟩
  · have h := publishEngineIdle_watchOf y
    simp only [motionOf, Prod.mk.injEq]
    exact ⟨(congrArg Interlock.moving h :), (congrArg Interlock.rise h :), (congrArg Interlock.fall h :)⟩
  · exact motionOf_watchOf (h y)

theorem scan_motion (codes : Analog (BitVec 12)) (s : State) : motionOf (scanAnalog codes s) =
    (s.interlock.moving,
      motionTimers (scanAnalog codes s).roadSpeed s.interlock.moving s.interlock.rise s.interlock.fall) := by
  refine scan_owner (f := publishMotion) (by simp [setConsumers]) motionOf
    (motionOf_watchOf ((scanned_stands codes s).watchOf (by decide))) (fun _ _ => rfl) (fun y hs _ hy => ?_)
    fun h hh => or_iff_not_imp_left.2 fun hne y _ => reader_motionOf hh hne y
  have hroad : y.roadSpeed = (scanAnalog codes s).roadSpeed := by
    rw [State.roadSpeed, State.roadSpeed, hs, scanAnalog_sense]
  have htimers : motionOf (publishMotion y) =
      (y.interlock.moving, motionTimers y.roadSpeed y.interlock.moving y.interlock.rise y.interlock.fall) := by
    rw [publishMotion_eq]
    rfl
  rw [htimers, hroad]
  simp only [motionOf, Prod.mk.injEq] at hy
  obtain ⟨hm, hr, hf⟩ | ⟨hm, ht⟩ := hy
  · rw [hm, hr, hf]
  · have hr := congrArg Prod.fst ht
    have hf := congrArg Prod.snd ht
    dsimp only at hr hf
    rw [hm, hr, hf, motionTimers_again]

theorem scan_engineIdle (codes : Analog (BitVec 12)) (s : State) : (scanAnalog codes s).interlock.engineAtIdle =
    decide ((scanAnalog codes s).engineSpeed ≤ s.paramNat 24) := by
  refine scan_owner (f := publishEngineIdle) (by simp [setConsumers]) (fun y => y.interlock.engineAtIdle) rfl
    (fun _ _ => rfl) (fun y hs hp _ => ?_) fun h hh => or_iff_not_imp_left.2 fun hne y _ => ?_
  · refine (congrArg Interlock.engineAtIdle (publishEngineIdle_watchOf y) :).trans ?_
    show decide (y.engineSpeed ≤ y.paramNat 24) = _
    rw [paramNat_congr hp, State.engineSpeed, State.engineSpeed, hs, scanAnalog_sense]
  · obtain rfl | rfl | rfl | h := reader_watchOf hh
    · simp only [publishMotion_eq]
      rfl
    · exact (congrArg Interlock.engineAtIdle (publishVoltage_watchOf y) :)
    · exact absurd rfl hne
    · exact (congrArg Interlock.engineAtIdle (h y) :)

/-! ### The supply voltage -/

/-- The voltage watch, and whether VOLTAGE stands in the alarm. -/
def voltageOf (s : State) : Bool × Option Timer × Prop := (s.interlock.voltageOk, s.interlock.voltage, .voltage ∈ s.alarm.causes)

theorem voltageOf_of_watchOf (h : watchOf t.interlock = watchOf s.interlock)
    (ha : AlarmCause.voltage ∈ t.alarm.causes ↔ AlarmCause.voltage ∈ s.alarm.causes) : voltageOf t = voltageOf s := by
  simp only [voltageOf, Prod.mk.injEq]
  exact ⟨(congrArg Interlock.voltageOk h :), (congrArg Interlock.voltage h :), propext ha⟩

theorem publishVoltage_low (h : s.published .supplyV < 105) : voltageOf (publishVoltage s) = (false, none, True) := by
  have hwatch := publishVoltage_watchOf s
  rw [if_pos h, if_pos h] at hwatch
  simp only [voltageOf, Prod.mk.injEq]
  refine ⟨(congrArg Interlock.voltageOk hwatch :), (congrArg Interlock.voltage hwatch :), eq_true ?_⟩
  have hevent : ∀ y : State, AlarmCause.voltage ∈ y.alarm.causes → AlarmCause.voltage ∈ (conditionEvent y).alarm.causes :=
    fun y hy => ((moves_conditionEvent (K := [.event]) (b := true) (by decide) (.refl ..)).stands.cause .voltage (by decide)
      (by decide) (by decide)).2 hy
  unfold publishVoltage
  dsimp only
  rw [if_pos h]
  split
  · next hin => exact hevent _ hin
  · refine hevent _ ?_
    rw [(stands_record_notices _ _ _).alarm (by decide) (by decide)]
    exact (mem_addAlarm ..).2 (.inl rfl)

theorem publishVoltage_ok (h : 105 ≤ s.published .supplyV) : voltageOf (publishVoltage s) = (s.interlock.voltageOk,
    if s.interlock.voltageOk then s.interlock.voltage else runTimer 5000 s.interlock.voltage, .voltage ∈ s.alarm.causes) := by
  unfold publishVoltage
  dsimp only
  rw [if_neg (by omega)]
  rfl

theorem reader_voltageOf {f : State → State} (hf : f ∈ setConsumers) (hne : f ≠ publishVoltage) (y : State) :
    voltageOf (f y) = voltageOf y := by
  have hcause : ∀ {K : List Part} {x : State}, Moves K true y x → .cause .voltage ∉ K →
      (AlarmCause.voltage ∈ x.alarm.causes ↔ AlarmCause.voltage ∈ y.alarm.causes) := fun h hK =>
    h.stands.cause .voltage (by decide) hK fun hv => absurd hv (by decide)
  obtain (rfl | rfl | rfl | rfl | rfl | rfl) | h := reader_cases hf
  · rw [publishMotion_eq]
    rfl
  · have h := moves_publishRoll (K := modeParts) (b := true) (x := y) (by decide) (.refl ..)
    exact voltageOf_of_watchOf (h.stands.watchOf (by decide)) (hcause h (by decide))
  · exact absurd rfl hne
  · have hwatch := publishEngineIdle_watchOf y
    simp only [voltageOf, Prod.mk.injEq]
    refine ⟨(congrArg Interlock.voltageOk hwatch :), (congrArg Interlock.voltage hwatch :), propext ?_⟩
    exact hcause (moves_conditionEvent (K := [.event, .watch]) (by decide) (moves_watch (by decide) rfl (.refl ..)))
      (by decide)
  · have h := moves_publishDrive_engaged y
    exact voltageOf_of_watchOf (h.stands.watchOf (by decide)) (hcause h (by decide))
  · have h := moves_publishZone (K := .zone :: thermalParts) (b := true) (x := y) (by decide) (by decide) (.refl ..)
    exact voltageOf_of_watchOf (h.stands.watchOf (by decide)) (hcause h (by decide))
  · exact voltageOf_of_watchOf ((h y).stands.watchOf (by decide)) (hcause (h y) (by decide))

/-- The set's readings, as any state that holds the set gives them. -/
theorem published_congr (h : t.sense = s.sense) : t.published = s.published ∧ t.healthOf = s.healthOf := by
  constructor <;> funext c
  · rw [State.published, State.published, h]
  · rw [State.healthOf, State.healthOf, h]

theorem scan_voltage_low {codes : Analog (BitVec 12)} (h : (scanAnalog codes s).published .supplyV < 105) :
    voltageOf (scanAnalog codes s) = (false, none, True) := by
  refine scan_owner (f := publishVoltage) (a := voltageOf (scanned codes s)) (by simp [setConsumers]) voltageOf rfl (fun _ _ => rfl) (fun y hs _ _ => ?_)
    fun h hh => or_iff_not_imp_left.2 fun hne y _ => reader_voltageOf hh hne y
  refine publishVoltage_low ?_
  rwa [(published_congr (hs.trans (scanAnalog_sense codes s).symm)).1]

theorem scan_voltage_ok {codes : Analog (BitVec 12)} (h : 105 ≤ (scanAnalog codes s).published .supplyV) :
    voltageOf (scanAnalog codes s) = (s.interlock.voltageOk,
      if s.interlock.voltageOk then s.interlock.voltage else runTimer 5000 s.interlock.voltage,
      (voltageOf (scanned codes s)).2.2) := by
  obtain ⟨hok, htimer⟩ := voltage_of_watchOf ((scanned_stands codes s).watchOf (by decide))
  refine scan_owner (f := publishVoltage) (a := (s.interlock.voltageOk, s.interlock.voltage, (voltageOf (scanned codes s)).2.2))
    (by simp [setConsumers]) voltageOf (by simp only [voltageOf, hok, htimer]) (fun _ _ => rfl) (fun y hs _ hy => ?_)
    fun h hh => or_iff_not_imp_left.2 fun hne y _ => reader_voltageOf hh hne y
  rw [publishVoltage_ok (by rwa [(published_congr (hs.trans (scanAnalog_sense codes s).symm)).1])]
  simp only [voltageOf, Prod.mk.injEq] at hy
  obtain ⟨ho, ht, hc⟩ | ⟨ho, ht, hc⟩ := hy
  · rw [ho, ht, hc]
    rfl
  · rw [ho, ht, hc]
    cases s.interlock.voltageOk <;> cases s.interlock.voltage <;> rfl

/-! ### The thermal zone -/

/-- The zone and whether it is unknown. -/
def zoneOf (s : State) : Zone × Bool := (s.thermal.zone, s.thermal.unknown)

theorem Stands.zoneOf (h : Stands K s t) (hK : .zone ∉ K) : zoneOf t = zoneOf s := Prod.ext (h.zone hK).1 (h.zone hK).2

theorem reader_zoneOf {f : State → State} (hf : f ∈ setConsumers) (hne : f ≠ publishZone) (y : State) :
    zoneOf (f y) = zoneOf y := by
  obtain (rfl | rfl | rfl | rfl | rfl | rfl) | h := reader_cases hf
  · rfl
  · exact (moves_publishRoll (K := modeParts) (b := true) (by decide) (.refl ..)).stands.zoneOf (by decide)
  · exact (moves_publishVoltage (K := watchParts) (b := true) (by decide) (.refl ..)).stands.zoneOf (by decide)
  · exact (moves_publishEngineIdle (K := watchParts) (b := true) (by decide) (.refl ..)).stands.zoneOf (by decide)
  · exact (moves_publishDrive_engaged y).stands.zoneOf (by decide)
  · exact absurd rfl hne
  · exact (h y).stands.zoneOf (by decide)

theorem nextZone_congr (h : t.params = s.params) : nextZone t = nextZone s := by
  have hparam : ∀ i, t.param i = s.param i := fun i => by rw [State.param, State.param, h]
  funext z v
  simp only [nextZone, entryZone, zoneKept, warmThreshold, hotThreshold, hparam]
  cases z <;> rfl

/-- A zone entered is kept by its own band. -/
theorem nextZone_again (s : State) (z : Zone) (v : Int) : nextZone s (nextZone s z v) v = nextZone s z v := by
  have hentry : zoneKept s v (entryZone s v) = true := by
    unfold entryZone
    split
    · simp only [zoneKept, decide_eq_true_eq]
      omega
    · split
      · simp only [zoneKept, Bool.and_eq_true, decide_eq_true_eq]
        omega
      · simp only [zoneKept, decide_eq_true_eq]
        omega
  by_cases h : zoneKept s v z = true
  · have hz : nextZone s z v = z := if_pos h
    rw [hz, hz]
  · have hz : nextZone s z v = entryZone s v := if_neg h
    rw [hz]
    exact if_pos hentry

theorem setZone_zoneOf (z : Zone) (c : ZoneCause) (s : State) : zoneOf (setZone z c s) = (z, s.thermal.unknown) := by
  unfold setZone
  dsimp only
  split
  · next h => rw [zoneOf, h]
  · have hhot : ∀ y : State, zoneOf (if s.thermal.zone = .hot ∧ c ≠ .sensorFailed then endOverheat y else y) = zoneOf y :=
      fun y => by
        split
        · exact (moves_endOverheat (K := [.thermal, .alarm]) (b := true) (by decide) (by decide) (.refl ..)).stands.zoneOf
            (by decide)
        · rfl
    have halarm : ∀ (d : AlarmCause) (y : State), zoneOf (addAlarm d y) = zoneOf y ∧ zoneOf (removeAlarm d y) = zoneOf y :=
      fun d y => ⟨by rw [addAlarm_frame]; rfl, by rw [removeAlarm_frame]; rfl⟩
    have hrecirc : ∀ y : State, zoneOf (addRecirc .thermal y) = zoneOf y ∧ zoneOf (removeRecirc .thermal y) = zoneOf y :=
      fun y => ⟨(moves_addRecirc (K := thermalParts) (b := true) (by decide) (by decide) (.refl ..)).stands.zoneOf (by decide),
        (moves_removeRecirc (K := thermalParts) (b := true) (by decide) (by decide) (.refl ..)).stands.zoneOf (by decide)⟩
    have hzone : ∀ y f, zoneOf (clipDemand (State.modThermal y f)) = ((f y.thermal).zone, (f y.thermal).unknown) :=
      fun y f => (stands_clipDemand_governor _).zoneOf (by decide)
    have hrecord : ∀ k n (y : State), (record k n y).thermal = y.thermal := fun k n y =>
      (stands_record_notices k n y).thermal (by decide)
    rw [hhot]
    split
    · rw [(halarm _ _).2, (hrecirc _).2, hzone, hrecord]
    · rw [(halarm _ _).1, (hrecirc _).1, hzone, hrecord]

theorem endOverheat_zoneOf (s : State) : zoneOf (endOverheat s) = zoneOf s :=
  (moves_endOverheat (K := [.thermal, .alarm]) (b := true) (by decide) (by decide) (.refl ..)).stands.zoneOf (by decide)

theorem publishZone_failed (h : s.healthOf .pumpTemp = .failed) : zoneOf (publishZone s) = (.warm, true) := by
  unfold publishZone
  dsimp only
  rw [h]
  exact setZone_zoneOf ..

theorem publishZone_known (h : s.healthOf .pumpTemp ≠ .failed) (hu : s.thermal.unknown = false) :
    zoneOf (publishZone s) = (nextZone s s.thermal.zone (s.published .pumpTemp), false) := by
  unfold publishZone
  dsimp only
  split
  · next hf => exact absurd hf h
  · rw [hu]
    exact (setZone_zoneOf ..).trans (by rw [hu])
  · exact (setZone_zoneOf ..).trans (by rw [hu])

theorem scan_zone_failed {codes : Analog (BitVec 12)} (h : (scanAnalog codes s).healthOf .pumpTemp = .failed) :
    zoneOf (scanAnalog codes s) = (.warm, true) := by
  refine scan_owner (f := publishZone) (a := zoneOf (scanned codes s)) (by simp [setConsumers]) zoneOf rfl (fun _ _ => rfl)
    (fun y hs _ _ => publishZone_failed ?_) fun h hh => or_iff_not_imp_left.2 fun hne y _ => reader_zoneOf hh hne y
  exact (congrFun (published_congr (hs.trans (scanAnalog_sense codes s).symm)).2 _).trans h

theorem scan_zone_known {codes : Analog (BitVec 12)} (h : (scanAnalog codes s).healthOf .pumpTemp ≠ .failed)
    (hu : s.thermal.unknown = false) : zoneOf (scanAnalog codes s) =
      (nextZone s s.thermal.zone ((scanAnalog codes s).published .pumpTemp), false) := by
  have hscan : zoneOf (scanned codes s) = (s.thermal.zone, false) :=
    ((scanned_stands codes s).zoneOf (by decide)).trans (by rw [zoneOf, hu])
  refine scan_owner (f := publishZone) (by simp [setConsumers]) zoneOf hscan (fun _ _ => rfl)
    (fun y hs hp hy => ?_) fun h hh => or_iff_not_imp_left.2 fun hne y _ => reader_zoneOf hh hne y
  obtain ⟨hpub, hhealth⟩ := published_congr (hs.trans (scanAnalog_sense codes s).symm)
  have hknown : y.thermal.unknown = false := by
    obtain e | e := hy
    · exact congrArg Prod.snd e
    · exact congrArg Prod.snd e
  rw [publishZone_known (by rwa [hhealth]) hknown, hpub, nextZone_congr hp]
  obtain e | e := hy
  · rw [show y.thermal.zone = s.thermal.zone from congrArg Prod.fst e]
  · rw [show y.thermal.zone = _ from congrArg Prod.fst e, nextZone_again]

/-! ### The roll modes while ENGAGED -/

/-- The drive and the mode's record. -/
def modeOf (s : State) : Drive × OpMode × Nat × Option Timer × Option Timer :=
  (s.drive, s.interlock.mode, s.interlock.ceiling, s.interlock.recovery, s.interlock.trip)

theorem publishDrive_of_engaged (h : s.drive.pto = .engaged) : publishDrive s = s := by
  unfold publishDrive endRampIfIdle
  simp [h]

theorem reader_modeOf {f : State → State} (hf : f ∈ setConsumers) (hne : f ≠ publishRoll) (hy : y.drive.pto = .engaged) :
    modeOf (f y) = modeOf y := by
  have hcalm : ∀ {K : List Part} {x : State}, Moves K true y x → .drive ∉ K → .mode ∉ K → modeOf x = modeOf y := by
    intro K x h hd hm
    obtain ⟨ed, em⟩ := h.calm hd (notShifting_of_engaged hy)
    obtain ⟨e₁, e₂, e₃, e₄⟩ := em hm
    rw [modeOf, modeOf, ed, e₁, e₂, e₃, e₄]
  obtain (rfl | rfl | rfl | rfl | rfl | rfl) | h := reader_cases hf
  · exact hcalm (moves_publishMotion (K := watchParts) (by decide) (.refl ..)) (by decide) (by decide)
  · exact absurd rfl hne
  · exact hcalm (moves_publishVoltage (K := watchParts) (by decide) (.refl ..)) (by decide) (by decide)
  · exact hcalm (moves_publishEngineIdle (K := watchParts) (by decide) (.refl ..)) (by decide) (by decide)
  · rw [publishDrive_of_engaged hy]
  · exact hcalm (moves_publishZone (K := .zone :: thermalParts) (by decide) (by decide) (.refl ..)) (by decide) (by decide)
  · exact hcalm (h y) (by decide) (by decide)

/-- The mode after a published set in PUMP_ROLL (R29). -/
def rollMode (limit road : Nat) : OpMode := if limit < road then .rollOverspeed else .pumpRoll

theorem publishRoll_roll (h : s.interlock.mode = .pumpRoll) : publishRoll s =
    if s.paramNat 23 < s.roadSpeed then setMode .rollOverspeed .overspeed s else s := by
  rw [publishRoll, h]
  rfl

theorem publishRoll_overspeed (h : s.interlock.mode = .rollOverspeed) : publishRoll s = overspeedTimers s := by
  rw [publishRoll, h]

/-- The drive, the mode and its ceiling. -/
def rollOf (s : State) : Drive × OpMode × Nat := (s.drive, s.interlock.mode, s.interlock.ceiling)

theorem rollOf_modeOf (h : modeOf t = modeOf s) : rollOf t = rollOf s := by
  simp only [modeOf, Prod.mk.injEq] at h
  obtain ⟨hd, hm, hc, -, -⟩ := h
  rw [rollOf, rollOf, hd, hm, hc]

theorem setMode_rollOf (c : ModeCause) (s : State) :
    rollOf (setMode .rollOverspeed c s) = (s.drive, .rollOverspeed, s.interlock.ceiling) := by
  rw [(setMode_spec (by decide) c s).1]
  rfl

/-- The readings and the roll limit, as any state that holds the set gives them. -/
theorem rollReadings {codes : Analog (BitVec 12)} (hs : y.sense = (scanned codes s).sense) (hp : y.params = s.params) :
    y.roadSpeed = (scanAnalog codes s).roadSpeed ∧ y.paramNat 23 = s.paramNat 23 := by
  rw [State.roadSpeed, State.roadSpeed, hs, scanAnalog_sense, paramNat_congr hp]
  exact ⟨rfl, rfl⟩

theorem scan_roll (codes : Analog (BitVec 12)) (hpto : s.drive.pto = .engaged) (hmode : s.interlock.mode = .pumpRoll) :
    rollOf (scanAnalog codes s) =
      (s.drive, rollMode (s.paramNat 23) (scanAnalog codes s).roadSpeed, s.interlock.ceiling) := by
  have hst := scanned_stands codes s
  have hscan : rollOf (scanned codes s) = (s.drive, .pumpRoll, s.interlock.ceiling) := by
    rw [rollOf, hst.drive (by decide) (by decide), (hst.mode (by decide) (by decide)).1, hmode,
      (hst.mode (by decide) (by decide)).2.1]
  have hvalue : ∀ y, rollOf y = (s.drive, .pumpRoll, s.interlock.ceiling) ∨
      rollOf y = (s.drive, rollMode (s.paramNat 23) (scanAnalog codes s).roadSpeed, s.interlock.ceiling) →
      y.drive = s.drive ∧ y.interlock.ceiling = s.interlock.ceiling ∧ (y.interlock.mode = .pumpRoll ∨
        y.interlock.mode = .rollOverspeed ∧ s.paramNat 23 < (scanAnalog codes s).roadSpeed) := fun y hy => by
    simp only [rollOf, Prod.mk.injEq] at hy
    obtain ⟨hd, hm, hc⟩ | ⟨hd, hm, hc⟩ := hy
    · exact ⟨hd, hc, .inl hm⟩
    · unfold rollMode at hm
      split at hm
      · next hlt => exact ⟨hd, hc, .inr ⟨hm, hlt⟩⟩
      · exact ⟨hd, hc, .inl hm⟩
  refine scan_owner (f := publishRoll) (by simp [setConsumers]) rollOf hscan (fun _ _ => rfl) (fun y hs hp hy => ?_)
    fun h hh => or_iff_not_imp_left.2 fun hne y hy =>
      rollOf_modeOf (reader_modeOf hh hne (by rw [(hvalue y hy).1, hpto]))
  obtain ⟨hroad, hlimit⟩ := rollReadings hs hp
  obtain ⟨hd, hc, hm | ⟨hm, hlt⟩⟩ := hvalue y hy
  · rw [publishRoll_roll hm, hroad, hlimit, rollMode]
    split
    · rw [setMode_rollOf, hd, hc]
    · rw [rollOf, hd, hm, hc]
  · rw [publishRoll_overspeed hm, rollMode, if_pos hlt]
    show (y.drive, y.interlock.mode, y.interlock.ceiling) = _
    rw [hd, hm, hc]

theorem scan_overspeed (codes : Analog (BitVec 12)) (hpto : s.drive.pto = .engaged)
    (hmode : s.interlock.mode = .rollOverspeed) : modeOf (scanAnalog codes s) =
      (s.drive, .rollOverspeed, s.interlock.ceiling,
        timerWhile (decide ((scanAnalog codes s).roadSpeed + 10 ≤ s.paramNat 23)) 1000 s.interlock.recovery,
        timerWhile (decide (s.paramNat 23 + 50 < (scanAnalog codes s).roadSpeed)) 2000 s.interlock.trip) := by
  have hst := scanned_stands codes s
  obtain ⟨hm, hc, hr, ht⟩ := hst.mode (by decide) (by decide)
  have hscan : modeOf (scanned codes s) =
      (s.drive, .rollOverspeed, s.interlock.ceiling, s.interlock.recovery, s.interlock.trip) := by
    rw [modeOf, hst.drive (by decide) (by decide), hm, hmode, hc, hr, ht]
  refine scan_owner (f := publishRoll) (by simp [setConsumers]) modeOf hscan (fun _ _ => rfl) (fun y hs hp hy => ?_)
    fun h hh => or_iff_not_imp_left.2 fun hne y hy => reader_modeOf hh hne ?_
  · obtain ⟨hroad, hlimit⟩ := rollReadings hs hp
    simp only [modeOf, Prod.mk.injEq] at hy
    have hy' : y.drive = s.drive ∧ y.interlock.mode = .rollOverspeed ∧ y.interlock.ceiling = s.interlock.ceiling := by
      obtain ⟨hd, hm, hc, -⟩ | ⟨hd, hm, hc, -⟩ := hy
      · exact ⟨hd, hm, hc⟩
      · exact ⟨hd, hm, hc⟩
    obtain ⟨hd, hm, hc⟩ := hy'
    have htimers : modeOf (publishRoll y) = (y.drive, y.interlock.mode, y.interlock.ceiling,
        timerWhile (decide (y.roadSpeed + 10 ≤ y.paramNat 23)) 1000 y.interlock.recovery,
        timerWhile (decide (y.paramNat 23 + 50 < y.roadSpeed)) 2000 y.interlock.trip) := by
      rw [publishRoll_overspeed hm]
      rfl
    rw [htimers, hroad, hlimit, hd, hm, hc]
    obtain ⟨-, -, -, hr, ht⟩ | ⟨-, -, -, hr, ht⟩ := hy
    · rw [hr, ht]
    · rw [hr, ht, timerWhile_again, timerWhile_again]
  · obtain e | e := hy
    · rw [show y.drive = s.drive from congrArg Prod.fst e, hpto]
    · rw [show y.drive = s.drive from congrArg Prod.fst e, hpto]

end Sys2Proof.Machine
end

section
/-! PROOFS. What each block does with a published set (O17). -/

namespace Sys2Proof.Machine

variable {K : List Part} {s t y : State}

/-! ### The scan and its readers in their order -/

theorem scanChannel_eq_with (codes : Analog (BitVec 12)) (s : State) (c : AnalogChannel) :
    scanChannel codes s c = { scanChannel codes s c with choices := s.choices } := by
  unfold scanChannel recordHealth
  dsimp only
  split
  · rw [record_eq_with]
    rfl
  · split
    · rw [record_eq_with]
      rfl
    · rfl

theorem foldl_scanChannel_choices (codes : Analog (BitVec 12)) : ∀ (l : List AnalogChannel) (s : State),
    (l.foldl (scanChannel codes) s).choices = s.choices
  | [], _ => rfl
  | c :: l, s => by
    rw [List.foldl_cons, foldl_scanChannel_choices codes l, scanChannel_eq_with]

/-- Each reader acts once, in an order of the free keys. -/
theorem scanAnalog_eq (codes : Analog (BitVec 12)) (s : State) : scanAnalog codes s =
    (arrange s.choices setConsumers).foldl (fun u act => act u)
      { swapSets (allAnalog.foldl (scanChannel codes) s) with choices := s.choices.drop 14 } := by
  have hchoices := foldl_scanChannel_choices codes allAnalog s
  unfold scanAnalog
  generalize allAnalog.foldl (scanChannel codes) s = u at hchoices ⊢
  rw [← hchoices]
  rfl

/-- The notice of a change of health (R4, R5). -/
theorem scanChannel_notices (codes : Analog (BitVec 12)) (s : State) (c : AnalogChannel) :
    let before := (getAnalog s.sense.channels c).health
    let after := (getAnalog (scanChannel codes s c).sense.channels c).health
    (scanChannel codes s c).notices =
      if before = .stale ∧ after = .failed then (record .channelFault
        { subject := some (.analog c), old := some (.health .stale), new := some (.health .failed) } s).notices
      else if before = .failed ∧ after = .ok then (record .channelRecovered
        { subject := some (.analog c), old := some (.health .failed), new := some (.health .ok) } s).notices
      else s.notices := by
  dsimp only
  rw [scanChannel_sense, getAnalog_setAnalog, if_pos rfl]
  unfold scanChannel recordHealth
  dsimp only
  split
  · exact (record_congr (s := s) (t := s.modSense _) _ _ rfl rfl rfl rfl).1
  · split
    · exact (record_congr (s := s) (t := s.modSense _) _ _ rfl rfl rfl rfl).1
    · rfl

/-! ### The zone by its bands -/

theorem entryZone_eq (s : State) (v : Int) :
    entryZone s v = if s.param 53 ≤ v then .hot else if s.param 52 ≤ v then .warm else .normal := rfl

theorem nextZone_eq (s : State) (z : Zone) (v : Int) : nextZone s z v =
    if (z = .normal ∧ v < s.param 52) ∨ (z = .warm ∧ s.param 52 - 5 ≤ v ∧ v < s.param 53) ∨ (z = .hot ∧ s.param 53 - 5 ≤ v)
    then z else entryZone s v := by
  have hkept : zoneKept s v z = true ↔ (z = .normal ∧ v < warmThreshold s) ∨
      (z = .warm ∧ warmThreshold s - 5 ≤ v ∧ v < hotThreshold s) ∨ (z = .hot ∧ hotThreshold s - 5 ≤ v) := by
    cases z <;> simp [zoneKept]
  exact if_congr hkept rfl rfl

theorem nextZone_normal_iff (s : State) (z : Zone) (v : Int) : nextZone s z v = .normal ↔
    (z = .normal ∧ v < s.param 52) ∨ (z = .warm ∧ v < s.param 52 - 5 ∧ v < s.param 53) ∨
      (z = .hot ∧ v < s.param 53 - 5 ∧ v < s.param 52) := by
  rw [nextZone_eq, entryZone_eq]
  generalize s.param 52 = w
  generalize s.param 53 = h
  cases z <;> simp <;> split_ifs <;> simp <;> omega

theorem nextZone_hot {s : State} {z : Zone} {v : Int} (hgap : s.param 52 + 10 ≤ s.param 53) (hv : s.param 53 ≤ v) :
    nextZone s z v = .hot := by
  rw [nextZone_eq, entryZone_eq, if_pos hv]
  split
  · next h =>
    obtain ⟨-, h⟩ | ⟨-, -, h⟩ | ⟨hz, -⟩ := h
    · omega
    · omega
    · exact hz
  · rfl

/-! ### A tank takes a published set (R130, R135, R137) -/

theorem nextLevel_congr {a : Tank} (hp : t.params = s.params) (htab : (t.tank a).table = (s.tank a).table)
    (hv : (t.tank a).volume = (s.tank a).volume) (hst : (t.tank a).state = (s.tank a).state) :
    nextLevel t a = nextLevel s a := by
  simp only [nextLevel, hv, hst, levelKept_congr hp htab, entryLevel_congr hp htab]

/-- Whether a published set reaches a tank's volume: the tank is not estimating, and its head has been read. -/
def readsHead (s : State) (a : Tank) : Bool :=
  (s.tank a).estimating.isNone && ((s.tank a).headKnown || s.healthOf (headChannel a) == .ok)

/-- The volume of a tank that a published set reaches. -/
def volumeTaken (s : State) (a : Tank) : Option Nat :=
  if readsHead s a then some (tableVolume (s.tank a).table (s.published (headChannel a)).toNat) else (s.tank a).volume

/-- A tank's record with its reading taken, the level state as it stands. -/
def levelTakenRecord (s : State) (a : Tank) : TankRecord :=
  { s.tank a with level := s.published (headChannel a), volume := volumeTaken s a }

/-- The tank's reading of a published set (R130). -/
def headRead (s : State) (a : Tank) (r : TankRecord) : TankRecord :=
  { r with
    level := s.published (headChannel a)
    headKnown := r.headKnown || s.healthOf (headChannel a) == .ok }

theorem takeLevel_eq (a : Tank) (s : State) : takeLevel a s =
    if readsHead s a then evaluateLevel a (s.modTank a fun r => { headRead s a r with volume := volumeTaken s a })
    else s.modTank a (headRead s a) := by
  have hread : (((s.modTank a (headRead s a)).tank a).estimating.isNone ∧
      ((s.modTank a (headRead s a)).tank a).headKnown = true) ↔ readsHead s a = true := by
    rw [tank_modTank, if_pos rfl, readsHead, Bool.and_eq_true]
    rfl
  refine (if_congr hread rfl rfl).trans ?_
  split
  · next h =>
    have hvolume : some (measuredVolume (s.modTank a (headRead s a)) a) = volumeTaken s a := by
      rw [volumeTaken, if_pos h, measuredVolume, tank_modTank, if_pos rfl]
      rfl
    show evaluateLevel a ((s.modTank a (headRead s a)).modTank a fun r =>
      { r with volume := some (measuredVolume (s.modTank a (headRead s a)) a) }) = _
    rw [hvolume, modTank_modTank]
    rfl
  · rfl

theorem takeLevel_spec (a : Tank) (s : State) :
    ((takeLevel a s).tank a).readings = (headRead s a (s.tank a)).readings ∧
    ((takeLevel a s).tank a).table = (s.tank a).table ∧ ((takeLevel a s).tank a).volume = volumeTaken s a ∧
    ((takeLevel a s).tank a).state =
      if readsHead s a then nextLevel (s.modTank a fun _ => levelTakenRecord s a) a else (s.tank a).state := by
  rw [takeLevel_eq]
  split
  · next h =>
    let x := s.modTank a fun r => { headRead s a r with volume := volumeTaken s a }
    have hx : x.tank a = { headRead s a (s.tank a) with volume := volumeTaken s a } := by rw [tank_modTank, if_pos rfl]
    obtain ⟨hst, hv, htab, hread⟩ := setLevel_level a (nextLevel x a) x
    rw [hx] at hv htab hread
    refine ⟨hread, htab, hv, hst.trans (nextLevel_congr rfl ?_ ?_ ?_)⟩ <;> rw [hx, tank_modTank, if_pos rfl] <;> rfl
  · next h =>
    rw [tank_modTank, if_pos rfl, volumeTaken, if_neg h]
    exact ⟨rfl, rfl, rfl, rfl⟩

theorem stands_takeLevel (a : Tank) (s : State) : Stands (.enter :: .readings :: levelParts a) s (takeLevel a s) :=
  (moves_takeLevel (b := true) (by simp) (by simp) (.inl (by simp)) (.refl ..)).stands

/-- An estimate begun in a tank that has none. -/
theorem beginEstimate_readings (a : Tank) (c : EstimateCause) (s : State) :
    ((beginEstimate a c s).tank a).readings = (if (s.tank a).estimating.isSome then s.tank a else
      { s.tank a with
        estimating := some c, frozen := (s.tank a).volume, estimate := (s.tank a).volume.map (· * 1000)
        settle := none }).readings := by
  unfold beginEstimate
  split
  · rfl
  · rw [(moves_reviewFill (t := a) (K := fillParts a) (b := true) (List.Subset.refl _) (.refl ..)).stands.readings a
      (by cases a <;> decide), tank_modTank, if_pos rfl]

theorem beginEstimate_level (a : Tank) (c : EstimateCause) (s : State) :
    ((beginEstimate a c s).tank a).table = (s.tank a).table ∧ ((beginEstimate a c s).tank a).volume = (s.tank a).volume ∧
      ((beginEstimate a c s).tank a).state = (s.tank a).state := by
  have h := (moves_beginEstimate (t := a) (c := c) (K := .readings :: fillParts a) (b := true) (x := s) (by simp) (by simp)
    (.refl ..)).stands
  obtain ⟨hv, hs⟩ := h.level a (by cases a <;> decide)
  exact ⟨h.tables a (by cases a <;> decide), hv, hs⟩

theorem reviewSettle_tank (a : Tank) (s : State) : (reviewSettle a s).tank a = { s.tank a with
    settle := if (s.tank a).estimating.isSome then
      timerWhile (!s.interlock.moving && s.healthOf (headChannel a) == .ok) 10000 (s.tank a).settle
      else (s.tank a).settle } := by
  unfold reviewSettle
  split
  · rw [tank_modTank, if_pos rfl]
  · rfl

/-- A tank after a published set, its settle timer apart (R130, R135). -/
def setTaken (a : Tank) (s : State) : State :=
  if s.healthOf (headChannel a) = .failed then beginEstimate a .headFailed (takeLevel a s) else takeLevel a s

theorem publishTank_eq (a : Tank) (s : State) : publishTank a s = reviewSettle a (setTaken a s) := rfl

theorem stands_setTaken (a : Tank) (s : State) : Stands (.enter :: .readings :: levelParts a) s (setTaken a s) := by
  unfold setTaken
  split
  · exact (stands_takeLevel a s).trans (moves_beginEstimate (t := a) (b := true)
      (List.Subset.trans (by cases a <;> decide : fillParts a ⊆ levelParts a) (by simp)) (by simp) (.refl ..)).stands
  · exact stands_takeLevel a s

theorem setTaken_level (a : Tank) (s : State) : ((setTaken a s).tank a).table = (s.tank a).table ∧
    ((setTaken a s).tank a).volume = volumeTaken s a ∧ ((setTaken a s).tank a).state =
      if readsHead s a then nextLevel (s.modTank a fun _ => levelTakenRecord s a) a else (s.tank a).state := by
  obtain ⟨-, htab, hv, hst⟩ := takeLevel_spec a s
  unfold setTaken
  split
  · obtain ⟨h₁, h₂, h₃⟩ := beginEstimate_level a .headFailed (takeLevel a s)
    exact ⟨h₁.trans htab, h₂.trans hv, h₃.trans hst⟩
  · exact ⟨htab, hv, hst⟩

theorem setTaken_readings (a : Tank) (s : State) : ((setTaken a s).tank a).readings =
    (if s.healthOf (headChannel a) = .failed ∧ (s.tank a).estimating = none then
      { headRead s a (s.tank a) with
        estimating := some .headFailed, frozen := volumeTaken s a, estimate := (volumeTaken s a).map (· * 1000)
        settle := none }
    else headRead s a (s.tank a)).readings := by
  obtain ⟨hread, -, hv, -⟩ := takeLevel_spec a s
  have hest : ((takeLevel a s).tank a).estimating = (s.tank a).estimating := congrArg (·.2.2.1) hread
  unfold setTaken
  by_cases hf : s.healthOf (headChannel a) = .failed
  · rw [if_pos hf, beginEstimate_readings, hest, hv]
    cases he : (s.tank a).estimating with
    | none =>
      simp only [TankRecord.readings, Prod.mk.injEq] at hread
      obtain ⟨hl, hk, -, -, -, -, hr⟩ := hread
      simp [hf, TankRecord.readings, hl, hk, hr]
    | some c => simpa [hf] using hread
  · rw [if_neg hf, if_neg fun h => hf h.1]
    exact hread

/-- A tank's readings after a published set (R130, R135, R137). -/
theorem publishTank_readings (a : Tank) (s : State) :
    let q := (publishTank a s).tank a
    q.level = s.published (headChannel a) ∧ q.headKnown = ((s.tank a).headKnown || s.healthOf (headChannel a) == .ok) ∧
    q.recon = (s.tank a).recon ∧
    ((s.tank a).estimating = none → s.healthOf (headChannel a) ≠ .failed → q.estimating = none ∧
      q.frozen = (s.tank a).frozen ∧ q.estimate = (s.tank a).estimate ∧ q.settle = (s.tank a).settle) ∧
    ((s.tank a).estimating = none → s.healthOf (headChannel a) = .failed → q.estimating = some .headFailed ∧
      q.frozen = volumeTaken s a ∧ q.estimate = (volumeTaken s a).map (· * 1000) ∧ q.settle = none) ∧
    ((s.tank a).estimating.isSome = true → q.estimating = (s.tank a).estimating ∧ q.frozen = (s.tank a).frozen ∧
      q.estimate = (s.tank a).estimate ∧ q.settle = if s.interlock.moving = false ∧ s.healthOf (headChannel a) = .ok then
        some ((s.tank a).settle.getD ⟨10000, 0⟩) else none) := by
  have hst := stands_setTaken a s
  have hmoving : (setTaken a s).interlock.moving = s.interlock.moving := by rw [hst.watch (by cases a <;> decide)]
  have hhealth := (published_congr (hst.sense (by cases a <;> decide))).2
  have hread := setTaken_readings a s
  dsimp only
  rw [publishTank_eq, reviewSettle_tank, hmoving, hhealth]
  generalize (setTaken a s).tank a = q at hread ⊢
  by_cases h : s.healthOf (headChannel a) = .failed ∧ (s.tank a).estimating = none
  · obtain ⟨hf, he⟩ := h
    rw [if_pos ⟨hf, he⟩] at hread
    simp only [TankRecord.readings, Prod.mk.injEq] at hread
    obtain ⟨hl, hk, hq, hfr, hes, hse, hr⟩ := hread
    simp [hl, hk, hq, hfr, hes, hr, hf, he, headRead, timerWhile]
  · rw [if_neg h] at hread
    simp only [TankRecord.readings, Prod.mk.injEq] at hread
    obtain ⟨hl, hk, hq, hfr, hes, hse, hr⟩ := hread
    refine ⟨hl, hk, hr, fun he hf => ?_, fun he hf => absurd ⟨hf, he⟩ h, fun he => ⟨hq, hfr, hes, ?_⟩⟩
    · have hnone : q.estimating = none := hq.trans he
      exact ⟨hnone, hfr, hes, (if_neg (by simp [hnone])).trans hse⟩
    · have hsome : q.estimating.isSome = true := by rw [hq]; exact he
      rw [if_pos hsome, timerWhile_eq, hse]
      simp [headRead]

/-! ### Overrides begun and ended (R85, R88) -/

/-- The body of OVERRIDE_CHANGED (R88). -/
def overrideChange (k : OverrideKind) (before : Source) (g : Governor) (c : CauseName) : NoticeBody :=
  { subject := some (.override k), old := some (.source before), new := some (.source g.source)
    value := g.active.value?.map Int.ofNat, cause := some c }

theorem recordOverride_eq (k : OverrideKind) (before : Source) (c : CauseName) (g : Governor) (s : State) :
    recordOverride k before c { s with governor := g } = { s with
      governor := g
      notices := (record .overrideChanged (overrideChange k before g c) s).notices
      tx := (record .overrideChanged (overrideChange k before g c) s).tx } := by
  obtain ⟨hn, hx⟩ := record_congr (s := s) (t := { s with governor := g }) .overrideChanged
    (overrideChange k before g c) rfl rfl rfl rfl
  rw [← hn, ← hx]
  exact record_eq_with ..

/-- A state whose governor alone has changed and whose change of override is recorded. -/
theorem overrideRecorded {k : OverrideKind} {before : Source} {c : CauseName} {g : Governor} {u : State}
    (h : u = recordOverride k before c { s with governor := g }) :
    u = { s with governor := u.governor, notices := u.notices, tx := u.tx } ∧ u.governor = g ∧
      u.notices = (record .overrideChanged (overrideChange k before u.governor c) s).notices := by
  rw [recordOverride_eq] at h
  subst h
  exact ⟨rfl, rfl, rfl⟩

theorem derivePair_captured (s : State) : (derivePair s).governor.captured = s.governor.captured ∧
    (derivePair s).governor.demand = s.governor.demand := by
  obtain ⟨_, _, h⟩ := derivePair_frame s
  rw [h]
  exact ⟨rfl, rfl⟩

/-- The governor with an override given up, before the pair is derived. -/
def overrideLeft (k : OverrideKind) (g : Governor) : Governor :=
  { g with overrides := removeFrom k g.overrides, captured := if k = .sensorFallback then none else g.captured }

theorem endOverride_held {k : OverrideKind} (h : k ∈ s.governor.overrides) : endOverride k s =
    recordOverride k s.governor.source .overrideEnded
      { s with governor := (derivePair (s.modGovernor (overrideLeft k))).governor } := if_pos h

/-- The governor with sensor fallback taken up, before the pair is derived (R91). -/
def fallbackTaken (rpm : Nat) (g : Governor) : Governor :=
  { g with
    captured := some (capturedSpeed rpm), overrides := insertIn allOverrides .sensorFallback g.overrides }

theorem tryFallback_new (hf : s.healthOf .dischargeP = .failed) (hpto : s.drive.pto = .engaged)
    (hshadow : s.governor.shadow.isPressure = true) (hnew : .sensorFallback ∉ s.governor.overrides) : tryFallback s =
      recordOverride .sensorFallback s.governor.source .overrideBegan
        { s with governor := (derivePair (s.modGovernor (fallbackTaken s.engineSpeed))).governor } := by
  rw [tryFallback_begins ⟨hshadow, hpto, hf⟩ hnew]
  exact beginOverride_new (by exact hpto) (by exact hnew)

theorem publishFallback_ends (hok : s.healthOf .dischargeP = .ok) (hin : .sensorFallback ∈ s.governor.overrides) :
    let u := publishFallback s
    u = { s with governor := u.governor, notices := u.notices, tx := u.tx } ∧
    u.governor.shadow = s.governor.shadow ∧ u.governor.demand = s.governor.demand ∧
    (∀ k : OverrideKind, k ∈ u.governor.overrides ↔ k ≠ .sensorFallback ∧ k ∈ s.governor.overrides) ∧
    u.governor.captured = none ∧ u.notices =
      (record .overrideChanged (overrideChange .sensorFallback s.governor.source u.governor .overrideEnded) s).notices := by
  have heq : publishFallback s = endOverride .sensorFallback s := if_pos hok
  obtain ⟨hframe, hg, hn⟩ := overrideRecorded (heq.trans (endOverride_held hin))
  refine ⟨hframe, ?_, ?_, fun k => ?_, ?_, hn⟩ <;> rw [hg]
  · exact derivePair_shadow _
  · exact (derivePair_captured _).2
  · rw [derivePair_overrides]
    exact (mem_removeFrom ..).trans and_comm
  · exact (derivePair_captured _).1

theorem publishFallback_begins (hf : s.healthOf .dischargeP = .failed) (hpto : s.drive.pto = .engaged)
    (hshadow : s.governor.shadow.isPressure = true) (hnew : .sensorFallback ∉ s.governor.overrides) :
    let u := publishFallback s
    u = { s with governor := u.governor, notices := u.notices, tx := u.tx } ∧
    u.governor.shadow = s.governor.shadow ∧ u.governor.demand = s.governor.demand ∧
    (∀ k : OverrideKind, k ∈ u.governor.overrides ↔ k = .sensorFallback ∨ k ∈ s.governor.overrides) ∧
    u.governor.captured = some (min (max ((s.engineSpeed + 12) / 25 * 25) 700) 3000) ∧ u.notices =
      (record .overrideChanged (overrideChange .sensorFallback s.governor.source u.governor .overrideBegan) s).notices := by
  have heq : publishFallback s = tryFallback s := if_neg (by rw [hf]; decide)
  obtain ⟨hframe, hg, hn⟩ := overrideRecorded (heq.trans (tryFallback_new hf hpto hshadow hnew))
  refine ⟨hframe, ?_, ?_, fun k => ?_, ?_, hn⟩ <;> rw [hg]
  · exact derivePair_shadow _
  · exact (derivePair_captured _).2
  · rw [derivePair_overrides]
    simp [fallbackTaken, mem_insertIn, mem_allOverrides]
  · exact (derivePair_captured _).1

/-- Elsewhere the fallback stands as it is. -/
theorem publishFallback_idle (h : (s.healthOf .dischargeP = .ok ∧ .sensorFallback ∉ s.governor.overrides) ∨
    s.healthOf .dischargeP = .stale ∨ (s.healthOf .dischargeP = .failed ∧ (s.drive.pto ≠ .engaged ∨
      s.governor.shadow.isPressure = false ∨ .sensorFallback ∈ s.governor.overrides))) : publishFallback s = s := by
  unfold publishFallback endOverride tryFallback
  obtain ⟨hok, hnot⟩ | hst | ⟨hf, h⟩ := h
  · rw [if_pos hok, if_neg hnot]
  · simp [hst]
  · rw [if_neg (by rw [hf]; decide)]
    refine if_neg fun ⟨hpto, hshadow, _, hnew⟩ => ?_
    obtain h | h | h := h
    · exact h hpto
    · simp [h] at hshadow
    · exact hnew h

/-- Whatever the fallback does, the setpoint, the demand and the rest of the part stand. -/
theorem publishFallback_eq_with (s : State) :
    let u := publishFallback s
    u = { s with governor := u.governor, notices := u.notices, tx := u.tx } ∧
    u.governor.shadow = s.governor.shadow ∧ u.governor.demand = s.governor.demand := by
  by_cases hidle : publishFallback s = s
  · rw [hidle]
    exact ⟨rfl, rfl, rfl⟩
  · cases hh : s.healthOf .dischargeP with
    | ok =>
      have hin : .sensorFallback ∈ s.governor.overrides := by
        by_contra hnot
        exact hidle (publishFallback_idle (.inl ⟨hh, hnot⟩))
      obtain ⟨h₁, h₂, h₃, -⟩ := publishFallback_ends hh hin
      exact ⟨h₁, h₂, h₃⟩
    | stale => exact absurd (publishFallback_idle (.inr (.inl hh))) hidle
    | failed =>
      have hgo : ¬(s.drive.pto ≠ .engaged ∨ s.governor.shadow.isPressure = false ∨ .sensorFallback ∈ s.governor.overrides) :=
        fun h => hidle (publishFallback_idle (.inr (.inr ⟨hh, h⟩)))
      simp only [not_or, ne_eq, not_not, Bool.not_eq_false] at hgo
      obtain ⟨hpto, hshadow, hnew⟩ := hgo
      obtain ⟨h₁, h₂, h₃, -⟩ := publishFallback_begins hh hpto hshadow hnew
      exact ⟨h₁, h₂, h₃⟩

/-! ### The drive's watch of the engine (R51, R58) -/

theorem publishDrive_idle (h : (s.drive.pto ≠ .precheck ∧ s.drive.pto ≠ .rampdown) ∨ s.paramNat 24 < s.engineSpeed) :
    publishDrive s = s := by
  have hlimit : engageLimit s = s.paramNat 24 := rfl
  unfold publishDrive endRampIfIdle
  obtain ⟨hp, hr⟩ | h := h
  · rw [if_neg fun h => hp h.1, if_neg fun h => hr h.1]
  · rw [if_neg fun hc => by omega, if_neg fun hc => by omega]

theorem publishDrive_shifts (hpto : s.drive.pto = .precheck) (hrpm : s.engineSpeed ≤ s.paramNat 24)
    (hfb : s.qualified .ptoFb ≠ some true) : publishDrive s = { s with drive := { s.drive with
      pto := .shifting, clutch := true, tries := s.drive.tries + 1, precheck := none
      feedback := some ⟨s.paramNat 25, 0⟩, settle := none, ramp := none, releasing := none, window := none } } := by
  have heq : publishDrive s = enterShifting s := if_pos ⟨hpto, hrpm⟩
  rw [heq, enterShifting]
  exact if_neg hfb

theorem publishDrive_releases {c : ReleaseCause} (hpto : s.drive.pto = .rampdown) (hrpm : s.engineSpeed ≤ s.paramNat 24)
    (hc : s.drive.release = some c) : publishDrive s = confirmRelease (startRelease c s) := by
  have heq : publishDrive s = endRampIfIdle s := if_neg fun h => by simp [hpto] at h
  rw [heq, endRampIfIdle, if_pos ⟨hpto, hrpm⟩, hc]

/-! ### The timers of the other readers -/

theorem publishPulseLoss_eq (s : State) : publishPulseLoss s = { s with governor :=
    if s.governor.frozen = true then
      if s.sense.front.quiet.engineSpeed = true then s.governor else { s.governor with frozen := false, reseed := true }
    else { s.governor with
      loss := if s.drive.pto = .engaged ∧ s.governor.active.isSpeed = true ∧ s.sense.front.quiet.engineSpeed = true ∧
          300 ≤ s.governor.demand then some (s.governor.loss.getD ⟨2000, 0⟩) else none } } := by
  unfold publishPulseLoss
  split
  · split <;> rfl
  · simp only [State.modGovernor, timerWhile_eq, losingPulses, Bool.and_eq_true, beq_iff_eq, decide_eq_true_eq, and_assoc]

theorem publishWindow_eq (h : s.supply.attempt.isSome = true) : publishWindow s = { s with supply := { s.supply with window :=
    { count := s.supply.window.count + 1, sum := s.supply.window.sum + s.published .intakeP
      least := if s.supply.window.count = 0 then s.published .intakeP else min s.supply.window.least (s.published .intakeP)
      greatest :=
        if s.supply.window.count = 0 then s.published .intakeP else max s.supply.window.greatest (s.published .intakeP)
      failed := s.supply.window.failed || s.healthOf .intakeP == .failed } } } := if_pos h

theorem publishPrime_eq (s : State) : publishPrime s = { s with supply := (
    if s.supply.phase = some .priming then { s.supply with
      prime := if s.published .intakeP ≤ -10 ∧ 150 ≤ s.published .dischargeP ∧ s.healthOf .intakeP ≠ .failed ∧
          s.healthOf .dischargeP ≠ .failed then some (s.supply.prime.getD ⟨1000, 0⟩) else none }
    else s.supply) } := by
  unfold publishPrime
  split
  · simp only [State.modSupply, timerWhile_eq, primeTest, Bool.and_eq_true, bne_iff_ne, decide_eq_true_eq, and_assoc]
  · rfl

theorem publishNoFlow_eq (h : s.drive.pto = .engaged) : publishNoFlow s = { s with thermal :=
    if s.thermal.noFlowHeld = true then { s.thermal with
      noFlow := none
      flowReturn := if s.paramNat 56 + 10 ≤ s.flow then some (s.thermal.flowReturn.getD ⟨10000, 0⟩) else none }
    else { s.thermal with
      noFlow := if s.flow < s.paramNat 56 then some (s.thermal.noFlow.getD ⟨120000, 0⟩) else none
      flowReturn := none } } := by
  unfold publishNoFlow
  rw [if_pos h]
  simp only [State.modThermal, timerWhile_eq, decide_eq_true_eq]
  rfl

theorem publishDryRun_eq (s : State) : publishDryRun s = { s with thermal := { s.thermal with
    dry := if s.drive.pto = .engaged ∧ s.supply.state ≠ .draftPriming ∧ s.thermal.latch = false ∧
        200 ≤ s.governor.demand ∧ s.healthOf .dischargeP ≠ .failed ∧ s.published .dischargeP < 100 ∧
        s.flow < s.paramNat 56 then some (s.thermal.dry.getD ⟨30000, 0⟩) else none } } := by
  unfold publishDryRun
  simp only [State.modThermal, timerWhile_eq, runningDry, Bool.and_eq_true, bne_iff_ne, beq_iff_eq, decide_eq_true_eq,
    Bool.not_eq_true', and_assoc]
  rfl

/-! ### The scan taken whole -/

theorem watches_after_scan (codes : Analog (BitVec 12)) (s : State) :
    let u := scanAnalog codes s
    u.interlock.moving = s.interlock.moving ∧
    u.interlock.rise = (if s.interlock.moving = false ∧ 20 ≤ u.roadSpeed then some (s.interlock.rise.getD ⟨1000, 0⟩)
      else none) ∧
    u.interlock.fall = (if s.interlock.moving = true ∧ u.roadSpeed < 10 then some (s.interlock.fall.getD ⟨2000, 0⟩)
      else none) ∧
    u.interlock.engineAtIdle = decide (u.engineSpeed ≤ s.paramNat 24) := by
  have hmotion := scan_motion codes s
  have hidle := scan_engineIdle codes s
  generalize scanAnalog codes s = u at hmotion hidle ⊢
  simp only [motionOf, motionTimers, timerWhile_eq, Prod.mk.injEq] at hmotion
  obtain ⟨hm, ht⟩ := hmotion
  cases hmoving : s.interlock.moving with
  | true =>
    rw [hmoving, if_pos rfl, Prod.mk.injEq] at ht
    exact ⟨hm.trans hmoving, by simp [ht.1], by simpa using ht.2, hidle⟩
  | false =>
    rw [hmoving, if_neg (by decide), Prod.mk.injEq] at ht
    exact ⟨hm.trans hmoving, by simpa using ht.1, by simp [ht.2], hidle⟩

theorem voltage_after_scan (codes : Analog (BitVec 12)) (s : State) :
    let u := scanAnalog codes s
    (u.published .supplyV < 105 →
      u.interlock.voltageOk = false ∧ u.interlock.voltage = none ∧ .voltage ∈ u.alarm.causes) ∧
    (105 ≤ u.published .supplyV → u.interlock.voltageOk = s.interlock.voltageOk ∧
      (s.interlock.voltageOk = false → u.interlock.voltage = some (s.interlock.voltage.getD ⟨5000, 0⟩))) := by
  refine ⟨fun h => ?_, fun h => ?_⟩
  · have hv := scan_voltage_low h
    simp only [voltageOf, Prod.mk.injEq] at hv
    exact ⟨hv.1, hv.2.1, of_eq_true hv.2.2⟩
  · have hv := scan_voltage_ok h
    generalize voltageOf (scanned codes s) = v at hv
    generalize scanAnalog codes s = u at hv ⊢
    simp only [voltageOf, Prod.mk.injEq] at hv
    obtain ⟨ho, ht, -⟩ := hv
    refine ⟨ho, fun hlow => ht.trans ?_⟩
    rw [hlow]
    cases s.interlock.voltage <;> rfl

theorem zone_after_scan (codes : Analog (BitVec 12)) (s : State) :
    let u := scanAnalog codes s
    (u.healthOf .pumpTemp = .failed → u.thermal.zone = .warm ∧ u.thermal.unknown = true) ∧
    (u.healthOf .pumpTemp ≠ .failed → s.thermal.unknown = false →
      (u.thermal.zone = .normal ↔
        (s.thermal.zone = .normal ∧ u.published .pumpTemp < s.param 52) ∨
        (s.thermal.zone = .warm ∧ u.published .pumpTemp < s.param 52 - 5 ∧ u.published .pumpTemp < s.param 53) ∨
        (s.thermal.zone = .hot ∧ u.published .pumpTemp < s.param 53 - 5 ∧ u.published .pumpTemp < s.param 52)) ∧
      (s.param 52 + 10 ≤ s.param 53 → s.param 53 ≤ u.published .pumpTemp → u.thermal.zone = .hot)) := by
  refine ⟨fun h => ?_, fun h hu => ?_⟩
  · have hz := scan_zone_failed h
    generalize scanAnalog codes s = u at hz ⊢
    exact ⟨congrArg Prod.fst hz, congrArg Prod.snd hz⟩
  · have hz := scan_zone_known h hu
    generalize scanAnalog codes s = u at hz ⊢
    rw [show u.thermal.zone = _ from congrArg Prod.fst hz]
    exact ⟨nextZone_normal_iff .., nextZone_hot⟩

theorem roll_after_scan (codes : Analog (BitVec 12)) (s : State) (hpto : s.drive.pto = .engaged) :
    let u := scanAnalog codes s
    (s.interlock.mode = .pumpRoll → u.interlock.ceiling = s.interlock.ceiling ∧
      (s.paramNat 23 < u.roadSpeed → u.interlock.mode = .rollOverspeed) ∧
      (u.roadSpeed ≤ s.paramNat 23 → u.interlock.mode = .pumpRoll)) ∧
    (s.interlock.mode = .rollOverspeed → u.interlock.mode = .rollOverspeed ∧
      u.interlock.ceiling = s.interlock.ceiling ∧
      u.interlock.recovery = (if u.roadSpeed + 10 ≤ s.paramNat 23 then some (s.interlock.recovery.getD ⟨1000, 0⟩)
        else none) ∧
      u.interlock.trip = (if s.paramNat 23 + 50 < u.roadSpeed then some (s.interlock.trip.getD ⟨2000, 0⟩) else none)) := by
  refine ⟨fun hm => ?_, fun hm => ?_⟩
  · have h := scan_roll codes hpto hm
    generalize scanAnalog codes s = u at h ⊢
    simp only [rollOf, rollMode, Prod.mk.injEq] at h
    obtain ⟨-, hmode, hceil⟩ := h
    exact ⟨hceil, fun hlt => hmode.trans (if_pos hlt), fun hle => hmode.trans (if_neg (by omega))⟩
  · have h := scan_overspeed codes hpto hm
    generalize scanAnalog codes s = u at h ⊢
    simp only [modeOf, timerWhile_eq, decide_eq_true_eq, Prod.mk.injEq] at h
    exact h.2

/-- Settles O17: each reader acts once, on values that it alone owns or that its neighbours leave to it. -/
theorem publishedSetRunsTheWatches : Obligations.PublishedSetRunsTheWatches := by
  refine ⟨fun s codes hp => ?_, fun s codes hp => ?_, fun s codes c => ?_, fun s hm hlt => ?_, fun s => publishDrive_idle,
    fun s => publishDrive_shifts, fun s c hpto hrpm hc => ?_, fun s => ?_, fun s => ?_, fun s h => ?_, fun s h => ?_,
    fun s => ?_, fun s t => ?_, fun s h => ?_, fun s h => ?_, fun s => ?_⟩
  · obtain ⟨hm, hr, hf, hi⟩ := watches_after_scan codes s.fresh
    obtain ⟨hlow, hok⟩ := voltage_after_scan codes s.fresh
    obtain ⟨hfail, hknown⟩ := zone_after_scan codes s.fresh
    exact ⟨scanAnalog codes s.fresh, exec_on hp rfl, hm, hr, hf, hi, hlow, hok, hfail, hknown,
      fun hpto => (roll_after_scan codes s.fresh hpto).1, fun hpto => (roll_after_scan codes s.fresh hpto).2⟩
  · exact ⟨_, arrange_perm s.fresh.choices setConsumers, exec_leaves hp rfl (scanAnalog_eq codes s.fresh)⟩
  · exact scanChannel_notices codes s c
  · refine ⟨publishRoll s, rfl, ?_⟩
    rw [publishRoll_roll hm, if_pos hlt]
    obtain ⟨hset, -⟩ := setMode_spec (m := .rollOverspeed) (by decide) .overspeed s
    rw [hm] at hset
    generalize setMode .rollOverspeed .overspeed s = u at hset ⊢
    have hnotices := congrArg State.notices hset
    have htx := congrArg State.tx hset
    exact ⟨hset.trans (by rw [← htx, ← hnotices]; rfl), hnotices⟩
  · rw [publishDrive_releases hpto hrpm hc]
    refine ⟨fun hfb => if_neg fun h => hfb h.2, fun hfb => ?_⟩
    have hconfirm : confirmRelease (startRelease c s) = endRelease 0 (startRelease c s) := if_pos ⟨rfl, hfb⟩
    rw [hconfirm, endRelease_drive]
    rfl
  · obtain ⟨hframe, hshadow, hdemand⟩ := publishFallback_eq_with s
    refine ⟨hframe, hshadow, hdemand, fun hok hin => ?_, fun hf hpto hpressure hnew => ?_, publishFallback_idle⟩
    · obtain ⟨-, -, -, hset, hcap, hn⟩ := publishFallback_ends hok hin
      exact ⟨hset, hcap, hn⟩
    · obtain ⟨-, -, -, hset, hcap, hn⟩ := publishFallback_begins hf hpto hpressure hnew
      exact ⟨hset, hcap, hn⟩
  · exact publishPulseLoss_eq s
  · exact if_neg (by rw [h]; decide)
  · exact publishWindow_eq h
  · exact publishPrime_eq s
  · obtain ⟨hl, hk, hr, hidle, hbegin, hon⟩ := publishTank_readings t s
    obtain ⟨htab, hv, hst⟩ := setTaken_level t s
    have htank : ((publishTank t s).tank t).table = (s.tank t).table ∧ ((publishTank t s).tank t).volume = volumeTaken s t ∧
        ((publishTank t s).tank t).state = ((setTaken t s).tank t).state := by
      rw [publishTank_eq, reviewSettle_tank]
      exact ⟨htab, hv, rfl⟩
    obtain ⟨htab, hv, hstate⟩ := htank
    exact ⟨hl, hk, htab, hr, hv, hstate.trans hst, hidle, hbegin, hon⟩
  · exact if_neg h
  · exact publishNoFlow_eq h
  · exact publishDryRun_eq s

end Sys2Proof.Machine
end

section
/-! PROOFS. The drive's timers (O34): what DISENGAGED and FAULT, once entered, leave behind. -/

namespace Sys2Proof.Machine

variable {s : State}

theorem mem_reviewStop_iff {c : AlarmCause} (hpto : s.drive.pto = .disengaged) :
    c ∈ (reviewStop s).alarm.causes ↔ c ∈ s.alarm.causes ∧ (c ≠ .stop ∨ s.asserted .panelStop = true) := by
  unfold reviewStop
  split
  · next h => simp [h.2]
  · next h => simp [show s.asserted .panelStop = true by simpa [hpto] using h]

theorem record_exists (k : NoticeKind) (n : NoticeBody) (s : State) :
    ∃ m x, record k n s = { s with notices := m, tx := x } := ⟨_, _, record_eq_with k n s⟩

theorem reviewStop_exists (s : State) : ∃ a, reviewStop s = { s with alarm := a } := ⟨_, reviewStop_frame s⟩

theorem removeAlarm_exists (c : AlarmCause) (s : State) : ∃ a, removeAlarm c s = { s with alarm := a } :=
  ⟨_, removeAlarm_frame c s⟩

theorem addAlarm_exists (c : AlarmCause) (s : State) : ∃ a, addAlarm c s = { s with alarm := a } := ⟨_, addAlarm_frame c s⟩

/-- The unit in DISENGAGED, its notice recorded and STOP reviewed, before the mode follows (R59, R60). -/
def driveEnded (k : NoticeKind) (n : NoticeBody) (s : State) : State :=
  reviewStop (record k n (s.modDrive driveIdle))

theorem endRelease_eq (v : Int) (s : State) : endRelease v s = modeOnDisengaged (driveEnded .disengageDone
    { old := some (.pto .releasing), new := some (.pto .disengaged), value := some v
      cause := s.drive.release.map .release } s) := rfl

theorem driveEnded_spec (k : NoticeKind) (n : NoticeBody) (s : State) :
    let u := driveEnded k n s
    u = { s with drive := u.drive, alarm := u.alarm, notices := u.notices, tx := u.tx } ∧
    u.drive = driveIdle s.drive ∧ u.notices = (record k n s).notices ∧
    ∀ c : AlarmCause, c ∈ u.alarm.causes ↔ c ∈ s.alarm.causes ∧ (c ≠ .stop ∨ s.asserted .panelStop = true) := by
  have hnotices := (record_congr (s := s) (t := s.modDrive driveIdle) k n rfl rfl rfl rfl).1
  have hcauses := fun c => mem_reviewStop_iff (c := c) (s := record k n (s.modDrive driveIdle)) (by rw [record_drive]; rfl)
  dsimp only [driveEnded]
  obtain ⟨m, x, hrecord⟩ := record_exists k n (s.modDrive driveIdle)
  rw [hrecord] at hnotices hcauses ⊢
  obtain ⟨a, ha⟩ := reviewStop_exists { s.modDrive driveIdle with notices := m, tx := x }
  rw [ha] at hcauses ⊢
  exact ⟨rfl, rfl, hnotices, hcauses⟩

/-- In any mode but MOTION_TRIP the mode stands as DISENGAGED is reached (R32). -/
theorem modeOnDisengaged_of_ne (h : s.interlock.mode ≠ .motionTrip) : modeOnDisengaged s = s := if_neg h

theorem modeOnDisengaged_ended {k : NoticeKind} {n : NoticeBody} (h : s.interlock.mode ≠ .motionTrip) :
    modeOnDisengaged (driveEnded k n s) = driveEnded k n s :=
  modeOnDisengaged_of_ne (by rw [(driveEnded_spec k n s).1]; exact h)

/-- From MOTION_TRIP the mode goes to ROAD, the demand to 0 and MOTION out of the alarm (R32). -/
theorem modeOnDisengaged_trip (h : s.interlock.mode = .motionTrip) :
    let u := modeOnDisengaged s
    u = { s with
      governor := u.governor, alarm := u.alarm, notices := u.notices, tx := u.tx
      interlock := { s.interlock with mode := .road, ceiling := 0, recovery := none, trip := none } } ∧
    (∀ c : AlarmCause, c ∈ u.alarm.causes ↔ c ∈ s.alarm.causes ∧ c ≠ .motion) ∧
    u.governor.demand = 0 ∧ u.governor.shadow = s.governor.shadow := by
  have hu : modeOnDisengaged s = removeAlarm .motion (setMode .road .ptoReleased s) := if_pos h
  obtain ⟨hframe, hdemand⟩ := setMode_spec (m := .road) (by decide) .ptoReleased s
  have hceiling : (ceilings (setMode .road .ptoReleased s)).mode = 0 := by rw [hframe]; rfl
  have hle := (leastCeiling_le (ceilings (setMode .road .ptoReleased s))).2.1
  have hzero : (setMode .road .ptoReleased s).governor.demand = 0 := by omega
  have hshadow : (setMode .road .ptoReleased s).governor.shadow = s.governor.shadow := by
    rw [setMode_eq (by decide)]
    obtain ⟨g, -, hg, hsame⟩ := clipDemand_frame (record .modeChanged (modeChange s.interlock.mode .road .ptoReleased) (modeEntered .road s))
    rw [hg, hsame, record_governor]
    rfl
  dsimp only
  rw [hu, removeAlarm_frame]
  refine ⟨?_, fun c => ?_, hzero, hshadow⟩
  · generalize removeAlarm .motion (setMode .road .ptoReleased s) = a
    generalize setMode .road .ptoReleased s = t at hframe
    rw [hframe]
    rfl
  · have hcauses : (setMode .road .ptoReleased s).alarm = s.alarm := by rw [hframe]; rfl
    exact (mem_removeAlarm ..).trans (by rw [hcauses])

/-- DISENGAGED reached in MOTION_TRIP: the drive idle, the mode ROAD, STOP and MOTION out of the alarm. -/
theorem modeOnDisengaged_ended_trip (k : NoticeKind) (n : NoticeBody) (h : s.interlock.mode = .motionTrip) :
    let u := modeOnDisengaged (driveEnded k n s)
    u = { s with
      drive := u.drive, governor := u.governor, alarm := u.alarm, notices := u.notices, tx := u.tx
      interlock := { s.interlock with mode := .road, ceiling := 0, recovery := none, trip := none } } ∧
    u.drive = driveIdle s.drive ∧
    (∀ c : AlarmCause, c ∈ u.alarm.causes ↔
      c ∈ s.alarm.causes ∧ c ≠ .motion ∧ (c ≠ .stop ∨ s.asserted .panelStop = true)) ∧
    u.governor.demand = 0 ∧ u.governor.shadow = s.governor.shadow := by
  obtain ⟨hframe, hdrive, -, hcauses⟩ := driveEnded_spec k n s
  generalize driveEnded k n s = x at *
  have hinter : x.interlock = s.interlock := by rw [hframe]
  have hgov : x.governor = s.governor := by rw [hframe]
  obtain ⟨hu, halarm, hdemand, hshadow⟩ := modeOnDisengaged_trip (s := x) (by rw [hinter]; exact h)
  generalize modeOnDisengaged x = u at *
  have hudrive : u.drive = x.drive := by rw [hu]
  refine ⟨?_, hudrive.trans hdrive, fun c => ?_, hdemand, hshadow.trans (congrArg Governor.shadow hgov)⟩
  · rw [hframe, ← hudrive] at hu
    exact hu
  · rw [halarm, hcauses]
    tauto

theorem expirePrecheck_eq (h : s.drive.precheck.isSome = true) : expirePrecheck s = modeOnDisengaged (driveEnded .engageAborted
    { old := some (.pto .precheck), new := some (.pto .disengaged), cause := some (.abort .engineSpeed) } s) :=
  (ite_isNone ..).trans (if_pos h)

theorem expireRamp_eq {c : ReleaseCause} (h : s.drive.ramp.isSome = true) (hc : s.drive.release = some c) :
    expireRamp s = confirmRelease (startRelease c s) := by
  obtain ⟨x, hx⟩ := Option.isSome_iff_exists.1 h
  unfold expireRamp
  rw [hx, hc]

theorem confirmRelease_unshown (h : s.qualified .ptoFb ≠ some false) : confirmRelease s = s := if_neg fun hc => h hc.2

theorem confirmRelease_shown (hpto : s.drive.pto = .releasing) (h : s.qualified .ptoFb = some false) :
    confirmRelease s = endRelease 0 s := if_pos ⟨hpto, h⟩

theorem expireRelease_eq (h : s.drive.releasing.isSome = true) : expireRelease s =
    if s.qualified .ptoFb = some true then driveFault .stuck s
    else endRelease (if s.qualified .ptoFb = none then 1 else 0) s := by
  refine ((ite_isNone ..).trans (if_pos h)).trans ?_
  cases hfb : s.qualified .ptoFb with
  | none => rfl
  | some b => cases b <;> rfl

theorem expireRamp_idle (h : s.drive.ramp = none) : expireRamp s = s := by
  unfold expireRamp
  rw [h]

/-- A timer that does not run has no expiry to act on (log entry 2). -/
theorem drive_idle_expiry {s : State} {c : Instr} (hp : s.powered = true)
    (h : (c = .precheckTimerExpiry ∧ s.drive.precheck = none) ∨ (c = .rampTimerExpiry ∧ s.drive.ramp = none) ∨
      (c = .releaseTimerExpiry ∧ s.drive.releasing = none) ∨ (c = .feedbackTimerExpiry ∧ s.drive.feedback = none) ∨
      (c = .driveSettleExpiry ∧ s.drive.settle = none)) : exec c s = .next (finish s.fresh) := by
  obtain ⟨rfl, ht⟩ | ⟨rfl, ht⟩ | ⟨rfl, ht⟩ | ⟨rfl, ht⟩ | ⟨rfl, ht⟩ := h
  · exact exec_leaves hp rfl (if_pos (Option.isNone_iff_eq_none.2 ht))
  · exact exec_leaves hp rfl (expireRamp_idle ht)
  · exact exec_leaves hp rfl (if_pos (Option.isNone_iff_eq_none.2 ht))
  · exact exec_leaves hp rfl (if_pos (Option.isNone_iff_eq_none.2 ht))
  · exact exec_leaves hp rfl (if_pos (Option.isNone_iff_eq_none.2 ht))

/-- The timers that end in DISENGAGED do so alike: the drive idle, whatever its record was just before. -/
theorem drive_expiry_trip {s : State} {c : Instr} (hp : s.powered = true)
    (h : (c = .precheckTimerExpiry ∧ s.drive.precheck.isSome = true) ∨
      (c = .rampTimerExpiry ∧ s.drive.ramp.isSome = true ∧ s.drive.release.isSome = true ∧
        s.qualified .ptoFb = some false) ∨
      (c = .releaseTimerExpiry ∧ s.drive.releasing.isSome = true ∧ s.qualified .ptoFb = none)) :
    ∃ k n d, exec c s = .next (finish (modeOnDisengaged (driveEnded k n (s.fresh.modDrive d)))) ∧
      driveIdle (d s.drive) = disengagedRecord { s.drive with window := (driveIdle (d s.drive)).window } := by
  obtain ⟨rfl, ht⟩ | ⟨rfl, ht, hc, hfb⟩ | ⟨rfl, ht, hfb⟩ := h
  · exact ⟨_, _, id, exec_leaves hp rfl (expirePrecheck_eq (s := s.fresh) ht), rfl⟩
  · obtain ⟨c, hc⟩ := Option.isSome_iff_exists.1 hc
    exact ⟨_, _, _, exec_leaves hp rfl (((expireRamp_eq (s := s.fresh) ht hc).trans
      (confirmRelease_shown rfl (by exact hfb))).trans (endRelease_eq 0 _)), rfl⟩
  · exact ⟨_, _, id, exec_leaves hp rfl (((expireRelease_eq (s := s.fresh) ht).trans
      (if_neg fun e => by simp [show s.fresh.qualified .ptoFb = none from hfb] at e)).trans (endRelease_eq _ _)), rfl⟩

/-- Settles O34. -/
theorem driveTimersEndTheirStates : Obligations.DriveTimersEndTheirStates := by
  refine ⟨fun s hp ht hm => ?_, fun s c hp ht hc hfb => ?_, fun s c hp ht hc hfb hm => ?_, fun s hp ht hfb hpto => ?_,
    fun s hp ht hfb hm => ?_, fun s c hp hm h => ?_, fun s hp => exec_leaves (f := expireWindow) hp rfl rfl, fun s c hp h => drive_idle_expiry hp h⟩
  · have hact := (expirePrecheck_eq (s := s.fresh) ht).trans (modeOnDisengaged_ended hm)
    obtain ⟨hframe, hdrive, hnotices, hcauses⟩ := driveEnded_spec .engageAborted
      { old := some (.pto .precheck), new := some (.pto .disengaged), cause := some (.abort .engineSpeed) } s.fresh
    exact ⟨_, exec_leaves hp rfl hact, hdrive, hframe,
      hnotices.trans (record_congr (s := s) (t := s.fresh) _ _ rfl rfl rfl rfl).1, fun c => hcauses c⟩
  · have hact := (expireRamp_eq (s := s.fresh) ht hc).trans (confirmRelease_unshown (s := startRelease c s.fresh) hfb)
    refine exec_leaves hp rfl (hact.trans ?_)
    unfold startRelease
    rw [← hc]
    exact (rfl :)
  · have hact := ((expireRamp_eq (s := s.fresh) ht hc).trans (confirmRelease_shown rfl (by exact hfb))).trans
      ((endRelease_eq 0 _).trans (modeOnDisengaged_ended (by exact hm)))
    obtain ⟨hframe, hdrive, hnotices, -⟩ := driveEnded_spec .disengageDone
      { old := some (.pto .releasing), new := some (.pto .disengaged), value := some 0
        cause := (startRelease c s.fresh).drive.release.map .release } (startRelease c s.fresh)
    exact ⟨_, exec_leaves hp rfl hact, by rw [hdrive]; rfl, by rw [hdrive]; rfl, by rw [hdrive]; rfl, by rw [hdrive]; rfl,
      by rw [hdrive]; rfl, hframe, hnotices.trans (record_congr (s := s) (t := startRelease c s.fresh) _ _ rfl rfl rfl rfl).1⟩
  · have hact : expireRelease s.fresh = enterDriveFault .stuck s.fresh :=
      ((expireRelease_eq (s := s.fresh) ht).trans (if_pos hfb)).trans (driveFault_outside .stuck fun e => by simp [show s.fresh.drive.pto = .releasing from hpto] at e)
    obtain ⟨hframe, hdrive, halarm, htrend, -⟩ := enterDriveFault_spec .stuck s.fresh
    exact ⟨_, exec_leaves hp rfl hact, by rw [hdrive]; rfl, by rw [hdrive]; rfl, by rw [hdrive]; rfl, by rw [hdrive]; rfl,
      halarm, (congrArg Trend.fast htrend).trans rfl, hframe⟩
  · have hact : expireRelease s.fresh = _ :=
      ((expireRelease_eq (s := s.fresh) ht).trans (if_neg fun e => by simp [show s.fresh.qualified .ptoFb = none from hfb] at e)).trans
        ((endRelease_eq _ _).trans (modeOnDisengaged_ended (by exact hm)))
    rw [if_pos (by exact hfb)] at hact
    obtain ⟨hframe, hdrive, hnotices, -⟩ := driveEnded_spec .disengageDone
      { old := some (.pto .releasing), new := some (.pto .disengaged), value := some 1
        cause := s.fresh.drive.release.map .release } s.fresh
    exact ⟨_, exec_leaves hp rfl hact, by rw [hdrive]; rfl, by rw [hdrive]; rfl, by rw [hdrive]; rfl, by rw [hdrive]; rfl,
      by rw [hdrive]; rfl, hframe, hnotices.trans (record_congr (s := s) (t := s.fresh) _ _ rfl rfl rfl rfl).1⟩
  · obtain ⟨k, n, d, hexec, hdrive⟩ := drive_expiry_trip hp h
    obtain ⟨hframe, hu, hcauses, hdemand, hshadow⟩ := modeOnDisengaged_ended_trip k n (s := s.fresh.modDrive d) hm
    generalize modeOnDisengaged (driveEnded k n (s.fresh.modDrive d)) = u at *
    refine ⟨u, hexec, ?_, hcauses, hdemand, hshadow, hframe⟩
    rw [hu]
    exact hdrive

end Sys2Proof.Machine
end

section
/-! PROOFS. What an exit from ENGAGED leaves (R49, R95, R99, R139, R158). -/

namespace Sys2Proof.Machine

variable {K : List Part} {s t x y : State} {n : Tank}

/-! ### Fills stop without their permission (R145) -/

/-- A tank whose fill does not run. -/
def NotFilling (r : TankRecord) : Prop := r.stage ≠ .bulk ∧ r.stage ≠ .topoff ∧ r.stage ≠ .fullHold

theorem record_tank (k : NoticeKind) (b : NoticeBody) (s : State) (n : Tank) : (record k b s).tank n = s.tank n :=
  (stands_record_notices k b s).tank n (by simp) (by simp)

theorem commandFill_stage (n : Tank) (o : Bool) (s : State) : ((commandFill n o s).tank n).stage = (s.tank n).stage := by
  obtain ⟨a, c, m, x, -, h⟩ := commandFill_frame n o s
  rw [h]
  cases n <;> rfl

theorem suspendFill_stage (n : Tank) (s : State) : ((suspendFill n s).tank n).stage = .suspended := by
  unfold suspendFill recordStage
  dsimp only
  rw [record_tank, commandFill_stage, tank_modTank_same]

/-- A fill whose permission does not hold does not run after the review. -/
theorem reviewFill_stops (h : fillPermission s n = false) : NotFilling ((reviewFill n s).tank n) := by
  have hlost : NotFilling ((if fillPermission s n then s else suspendFill n s).tank n) := by
    rw [if_neg (by simp [h])]
    simp [NotFilling, suspendFill_stage]
  unfold reviewFill
  split
  · exact hlost
  · exact hlost
  · exact hlost
  · next hst =>
    rw [if_neg (by simp [h])]
    simp [NotFilling, hst]
  · next hst => simp [NotFilling, hst]
  · next hst => simp [NotFilling, hst]

theorem fillPermission_outOfEngaged (h : OutOfEngaged s) : fillPermission s n = false := by
  have hpto : permissionPart s n .ptoEngaged = false := by simpa [permissionPart, OutOfEngaged] using h
  exact List.all_eq_false.2 ⟨.ptoEngaged, by decide, by simp [hpto]⟩

/-- Outside ENGAGED no fill runs after both were reviewed. -/
theorem reviewFills_stops (h : OutOfEngaged s) (n : Tank) : NotFilling ((reviewFills s).tank n) := by
  have hreview : ∀ (m : Tank) (y : State), Moves (fillParts m) true y (reviewFill m y) := fun m y =>
    moves_reviewFill (List.Subset.refl _) (.refl ..)
  have hout : ∀ (m : Tank) (y : State), OutOfEngaged y → OutOfEngaged (reviewFill m y) := fun m y hy =>
    (hreview m y).outOfEngaged (by cases m <;> decide) hy
  have hacts : ∀ f ∈ [reviewFill .main, reviewFill .reserve], ∃ m, f = reviewFill m := by simp
  refine (runInOrder_reaches (P := OutOfEngaged) (Q := fun y => OutOfEngaged y ∧ NotFilling (y.tank n))
    (fun _ _ hy => hy) (reviewFill n) _ (by cases n <;> simp) (fun f hf y hy => ?_) (fun f hf y hy => ?_)
    (fun y hy => ⟨hout n y hy, reviewFill_stops (fillPermission_outOfEngaged hy)⟩) s h).2
  · obtain ⟨m, rfl⟩ := hacts f hf
    exact hout m y hy
  · obtain ⟨m, rfl⟩ := hacts f hf
    refine ⟨hout m y hy.1, ?_⟩
    obtain rfl | hne := eq_or_ne m n
    · exact reviewFill_stops (fillPermission_outOfEngaged hy.1)
    · rw [(hreview m y).stands.tank n (by revert hne; cases m <;> cases n <;> decide)
        (by revert hne; cases m <;> cases n <;> decide)]
      exact hy.2

/-! ### The five acts of an exit -/

/-- The blocks that follow the PTO out of ENGAGED (R49). -/
inductive ExitBlock where
  | mode | governor | supply | thermal | tanks
deriving DecidableEq

/-- What a block does at an exit. -/
def ExitBlock.act : ExitBlock → State → State
  | .mode => modeOnExit
  | .governor => governorReset
  | .supply => supplyLeaveEngaged
  | .thermal => thermalLeaveEngaged
  | .tanks => tanksOnPto

/-- What a block's act at an exit touches. -/
def ExitBlock.parts : ExitBlock → List Part
  | .mode => modeParts
  | .governor => [.governor, .setpoint]
  | .supply => restParts
  | .thermal => coolParts
  | .tanks => tankPtoParts

/-- Every block. -/
def exitBlocks : List ExitBlock := [.mode, .governor, .supply, .thermal, .tanks]

theorem mem_exitBlocks (a : ExitBlock) : a ∈ exitBlocks := by cases a <;> decide

theorem handExit_eq (sample : Bool) (s : State) :
    handExit sample s = runInOrder (exitBlocks.map ExitBlock.act) (tripTogether sample s) := by
  unfold handExit
  exact congrArg (runInOrder · _) rfl

theorem moves_exitAct (a : ExitBlock) (y : State) : Moves a.parts true y (a.act y) := by
  cases a
  · exact moves_modeOnExit (List.Subset.refl _) (.refl ..)
  · exact moves_governorReset (K := [.governor, .setpoint]) (by decide) (by decide) (.refl ..)
  · exact moves_supplyLeaveEngaged (List.Subset.refl _) (.refl ..)
  · exact moves_thermalLeaveEngaged (List.Subset.refl _) (.refl ..)
  · exact moves_tanksOnPto (List.Subset.refl _) (.refl ..)

/-- What one block brings about and no other can undo holds after the exit. -/
theorem handExit_owned {Q : State → Prop} (X : List Part) (a : ExitBlock)
    (hX : ∀ b ∈ exitBlocks, b ≠ a → ∀ p ∈ X, p ∉ b.parts) (hown : ∀ y, Q (a.act y))
    (hkeep : ∀ {L y z}, Moves L true y z → (∀ p ∈ X, p ∉ L) → Q y → Q z) (sample : Bool) (s : State) :
    Q (handExit sample s) := by
  rw [handExit_eq]
  refine runInOrder_reaches (P := fun _ => True) (fun _ _ _ => trivial) a.act _ (List.mem_map_of_mem (mem_exitBlocks a))
    (fun _ _ _ _ => trivial) (fun f hf y hy => ?_) (fun y _ => hown y) _ trivial
  obtain ⟨b, hb, rfl⟩ := List.mem_map.1 hf
  obtain rfl | hne := eq_or_ne b a
  · exact hown y
  · exact hkeep (moves_exitAct b y) (hX b hb hne) hy

theorem handExit_pair (sample : Bool) (s : State) :
    let g := (handExit sample s).governor
    g.shadow = .idle ∧ g.active = .idle ∧ g.overrides = [] := by
  refine handExit_owned (Q := fun y => y.governor.shadow = .idle ∧ y.governor.active = .idle ∧ y.governor.overrides = [])
    [.governor] .governor (by decide) (fun _ => ⟨rfl, rfl, rfl⟩) (fun h hX hy => ?_) sample s
  rw [h.stands.pair (by simpa using hX)]
  exact hy

theorem commandTankValve_closed (n : Tank) (s : State) :
    ((commandTankValve n false s).valve (tankValve n)).openCmd = false ∧
    (commandTankValve n false s).valve (tankValve (otherTank n)) = s.valve (tankValve (otherTank n)) := by
  have hreview : ∀ (y : State) (v : Tank), (reviewFill n y).valve (tankValve v) = y.valve (tankValve v) := fun y v =>
    (moves_reviewFill (b := true) (List.Subset.refl _) (.refl ..)).stands.valve _ (tankValve_part_not_mem_fillParts v n)
  have hact : commandTankValve n false s = reviewFill n (carryOut (tankValve n) false s) := rfl
  rw [hact, hreview, hreview, carryOut_openCmd, carryOut_other _ _ _ _ (by cases n <;> decide)]
  exact ⟨rfl, rfl⟩

theorem closeTankValves_openCmd (s : State) :
    (closeTankValves s).valves.mainValve.openCmd = false ∧ (closeTankValves s).valves.reserveValve.openCmd = false := by
  obtain ⟨hreserve, hmain⟩ := commandTankValve_closed .reserve (commandTankValve .main false s)
  exact ⟨(congrArg Actuator.openCmd hmain).trans (commandTankValve_closed .main s).1, hreserve⟩

/-- The supply at rest, both tank valves commanded CLOSED and the primer off. -/
structure AtRest (s : State) : Prop where
  state : s.supply.state = .idle
  selected : s.supply.selected = .main
  switchHeld : s.supply.switchHeld = false
  primeHeld : s.supply.primeHeld = false
  primer : s.outputs.primer = ⟨false, none⟩
  mainValve : s.valves.mainValve.openCmd = false
  reserveValve : s.valves.reserveValve.openCmd = false

theorem supplyLeaveEngaged_atRest (s : State) : AtRest (supplyLeaveEngaged s) := by
  unfold supplyLeaveEngaged
  dsimp only
  generalize (if s.supply.state = .draftPriming then recordPrimeFailed (exitPrimeCause s) s.supply.phase s else s) = x
  have hclosed := closeTankValves_openCmd x
  generalize closeTankValves x = y at hclosed
  have hselect := (moves_selectTank (t := .main) (K := handParts) (b := true) (by decide) (.refl _ _ (setPrimer false y))).stands
  have hsupply := selectTank_supply .main (setPrimer false y)
  generalize selectTank .main (setPrimer false y) = z at hselect hsupply
  have hidle := (moves_setSupply_idle (K := .leave :: handParts) (b := true) (x := z)
    (g := fun x => { x with attempts := 0, lastReason := none, switchHeld := false, primeHeld := false })
    (by decide) (by decide) (.refl ..)).stands
  have hrecord := setSupply_supply .idle none
    (z.modSupply fun x => { x with attempts := 0, lastReason := none, switchHeld := false, primeHeld := false })
  rw [if_neg (by decide)] at hrecord
  generalize setSupply .idle none _ = u at hidle hrecord
  have hvalve : ∀ v, v = .mainValve ∨ v = .reserveValve → u.valve v = y.valve v := fun v hv =>
    (hidle.valve v (by obtain rfl | rfl := hv <;> decide)).trans (hselect.valve v (by obtain rfl | rfl := hv <;> decide))
  refine ⟨by rw [hrecord]; rfl, ?_, by rw [hrecord]; rfl, by rw [hrecord]; rfl, ?_, ?_, ?_⟩
  · rw [hrecord]
    exact (congrArg Supply.selected hsupply).trans rfl
  · rw [hidle.outputs (by decide), hselect.outputs (by decide)]
    rfl
  · exact (congrArg Actuator.openCmd (hvalve .mainValve (.inl rfl))).trans hclosed.1
  · exact (congrArg Actuator.openCmd (hvalve .reserveValve (.inr rfl))).trans hclosed.2

theorem handExit_atRest (sample : Bool) (s : State) : AtRest (handExit sample s) := by
  refine handExit_owned [.supply, .outputs, .valve .mainValve, .valve .reserveValve] .supply (by decide)
    supplyLeaveEngaged_atRest (fun {L y z} h hX hy => ?_) sample s
  have hsupply := h.stands.supply (hX _ (by decide))
  have hmain : z.valves.mainValve = y.valves.mainValve := h.stands.valve .mainValve (hX _ (by decide))
  have hreserve : z.valves.reserveValve = y.valves.reserveValve := h.stands.valve .reserveValve (hX _ (by decide))
  obtain ⟨h₁, h₂, h₃, h₄, h₅, h₆, h₇⟩ := hy
  exact ⟨hsupply ▸ h₁, hsupply ▸ h₂, hsupply ▸ h₃, hsupply ▸ h₄, (h.stands.outputs (hX _ (by decide))) ▸ h₅, hmain ▸ h₆, hreserve ▸ h₇⟩

/-! ### The Thermal Monitor -/

/-- The Thermal Monitor's record out of ENGAGED (R158, R160, R161, R163). -/
def thermalLeft (x : Thermal) : Thermal :=
  { x with
    hot := none, dry := none, noFlow := none, flowReturn := none, noFlowHeld := false, overheat := false, latch := false }

theorem dropNoFlow_thermal (s : State) :
    (dropNoFlow s).thermal = { s.thermal with noFlow := none, flowReturn := none, noFlowHeld := false } := by
  unfold dropNoFlow
  dsimp only
  split
  · exact (moves_removeRecirc (K := [.valve .recircValve, .recirc]) (b := true) (by decide) (by decide) (.refl ..)).stands.thermal
      (by decide)
  · rfl

theorem endOverheat_thermal (s : State) : (endOverheat s).thermal = { s.thermal with overheat := false } := by
  unfold endOverheat
  split
  · rw [removeAlarm_frame]
    rfl
  · next h => rw [← Bool.eq_false_iff.2 h]

theorem conditionEvent_thermal (s : State) : (conditionEvent s).thermal = s.thermal :=
  (moves_conditionEvent (K := [.event]) (b := true) (by decide) (.refl ..)).stands.thermal (by decide)

theorem clearDryRun_thermal (s : State) : (clearDryRun s).thermal = { s.thermal with latch := false } := by
  unfold clearDryRun
  split
  · rw [conditionEvent_thermal, removeAlarm_frame]
    rfl
  · next h => rw [← Bool.eq_false_iff.2 h]

theorem thermalLeaveEngaged_thermal (s : State) : (thermalLeaveEngaged s).thermal = thermalLeft s.thermal := by
  unfold thermalLeaveEngaged
  rw [clearDryRun_thermal, endOverheat_thermal, dropNoFlow_thermal]
  rfl

theorem handExit_thermal (sample : Bool) (s : State) : thermalLeft (handExit sample s).thermal = (handExit sample s).thermal := by
  refine handExit_owned (Q := fun y => thermalLeft y.thermal = y.thermal) [.thermal] .thermal (by decide)
    (fun y => ?_) (fun h hX hy => ?_) sample s
  · rw [ExitBlock.act, thermalLeaveEngaged_thermal]
    rfl
  · rw [h.stands.thermal (hX _ (by decide))]
    exact hy

/-! ### The tanks -/

theorem setLimit_drive (l : Nat) (s : State) : (setLimit l s).drive = s.drive :=
  (moves_setLimit (K := limiterParts) (b := true) (by decide) (.refl ..)).stands.drive (by decide) (by decide)

theorem handSupply_notFilling {st : SupplyState} (h : OutOfEngaged s) (n : Tank) : NotFilling ((handSupply st s).tank n) := by
  unfold handSupply
  refine reviewFills_stops (outOfEngaged_conditionEvent ?_) n
  rw [OutOfEngaged, clipDemand_eq_with]
  dsimp only
  split <;> split <;> split <;> simpa [removeAlarm_drive, setLimit_drive, OutOfEngaged] using h

theorem supplyLeaveEngaged_notFilling (h : OutOfEngaged s) (n : Tank) : NotFilling ((supplyLeaveEngaged s).tank n) := by
  unfold supplyLeaveEngaged
  dsimp only
  rw [setSupply_eq]
  refine handSupply_notFilling ?_ n
  have hfailed : OutOfEngaged (if s.supply.state = .draftPriming then recordPrimeFailed (exitPrimeCause s) s.supply.phase s else s) := by
    split
    · exact (moves_record (K := [.notices]) (b := true) (by decide) (.refl ..)).outOfEngaged (by decide) h
    · exact h
  have hselect := moves_selectTank (K := .outputs :: handParts ++ feedParts) (b := true) (t := .main) (by decide)
    (moves_setPrimer (on := false) (by decide) (moves_closeTankValves (by decide) (.refl _ _
      (if s.supply.state = .draftPriming then recordPrimeFailed (exitPrimeCause s) s.supply.phase s else s))))
  exact hselect.outOfEngaged (by decide) hfailed

theorem handExit_notFilling (sample : Bool) (h : OutOfEngaged s) (n : Tank) : NotFilling ((handExit sample s).tank n) := by
  have hout : ∀ (a : ExitBlock) (y : State), OutOfEngaged y → OutOfEngaged (a.act y) := fun a y hy =>
    (moves_exitAct a y).outOfEngaged (by cases a <;> decide) hy
  have hstops : ∀ y : State, OutOfEngaged y → NotFilling ((tanksOnPto y).tank n) := fun y hy =>
    reviewFills_stops ((moves_reviewLowTank (K := [.alarm]) (b := true) (by decide) (.refl ..)).outOfEngaged (by decide) hy) n
  rw [handExit_eq]
  refine (runInOrder_reaches (P := OutOfEngaged) (Q := fun y => OutOfEngaged y ∧ NotFilling (y.tank n))
    (fun _ _ hy => hy) tanksOnPto _ (List.mem_map_of_mem (f := ExitBlock.act) (mem_exitBlocks .tanks))
    (fun f hf y hy => ?_) (fun f hf y hy => ?_) (fun y hy => ⟨hout .tanks y hy, hstops y hy⟩) _ ?_).2
  · obtain ⟨a, -, rfl⟩ := List.mem_map.1 hf
    exact hout a y hy
  · obtain ⟨a, -, rfl⟩ := List.mem_map.1 hf
    refine ⟨hout a y hy.1, ?_⟩
    cases a
    case tanks => exact hstops y hy.1
    case supply => exact supplyLeaveEngaged_notFilling hy.1 n
    all_goals
      rw [(moves_exitAct _ y).stands.tank n (by cases n <;> decide) (by cases n <;> decide)]
      exact hy.2
  · exact (moves_tripTogether (K := exitParts) (b := true) (List.Subset.refl _) (.refl ..)).outOfEngaged (by decide) h

end Sys2Proof.Machine
end

section
/-! PROOFS. The trip (R28, R30) and the mode at an exit from ENGAGED (R32). -/

namespace Sys2Proof.Machine

variable {K : List Part} {s t x y : State}

/-! ### A trip -/

/-- MOTION_TRIP entered (R28): the mode, the alarm, fast capture, the notice, and the demand at 0. -/
theorem tripMode_spec (c : ModeCause) (s : State) :
    let u := tripMode c s
    u = { s with
      interlock := { s.interlock with mode := .motionTrip, ceiling := 0, recovery := none, trip := none }
      governor := u.governor, alarm := u.alarm, trend := u.trend, notices := u.notices, tx := u.tx } ∧
    (∀ a : AlarmCause, a ∈ u.alarm.causes ↔ a ∈ s.alarm.causes ∨ a = .motion) ∧ u.trend.fast = 30 ∧
    u.governor.demand = 0 ∧
    u.governor = { s.governor with
      demand := u.governor.demand, ceiling := u.governor.ceiling, binding := u.governor.binding
      inputs := u.governor.inputs } ∧
    u.notices = (record .modeChanged (modeChange s.interlock.mode .motionTrip c) s).notices := by
  obtain ⟨a, ha⟩ := addAlarm_exists .motion s
  have hcauses : ∀ d : AlarmCause, d ∈ a.causes ↔ d ∈ s.alarm.causes ∨ d = .motion := fun d => by
    rw [← or_comm, ← mem_addAlarm, ha]
  have hu : tripMode c s = clipDemand (protectiveEvent (record .modeChanged (modeChange s.interlock.mode .motionTrip c)
      (modeEntered .motionTrip { s with alarm := a }))) := by
    unfold tripMode
    rw [ha]
    unfold setMode
    exact congrArg clipDemand (if_pos rfl)
  have hnotices := (record_congr (s := s) (t := modeEntered .motionTrip { s with alarm := a }) .modeChanged
    (modeChange s.interlock.mode .motionTrip c) rfl rfl rfl rfl).1
  obtain ⟨n, w, hrecord⟩ := record_exists .modeChanged (modeChange s.interlock.mode .motionTrip c)
    (modeEntered .motionTrip { s with alarm := a })
  rw [hrecord] at hu hnotices
  let v : State := protectiveEvent { modeEntered .motionTrip { s with alarm := a } with notices := n, tx := w }
  have hv : v.interlock.ceiling = 0 := rfl
  have hzero : (clipDemand v).governor.demand = 0 := by
    have hle := (leastCeiling_le (ceilings v)).2.1
    have hmode : (ceilings v).mode = v.interlock.ceiling := rfl
    rw [clipDemand_demand]
    omega
  obtain ⟨g, -, hclip, hg⟩ := clipDemand_frame v
  rw [hclip] at hzero
  simp only [hu]
  rw [show clipDemand (protectiveEvent { modeEntered .motionTrip { s with alarm := a } with notices := n, tx := w }) =
    { v with governor := g } from hclip]
  exact ⟨rfl, hcauses, rfl, hzero, hg, hnotices⟩

/-- A trip made: what it leaves whatever else changes. -/
structure Tripped (s : State) : Prop where
  mode : s.interlock.mode = .motionTrip
  ceiling : s.interlock.ceiling = 0
  recovery : s.interlock.recovery = none
  trip : s.interlock.trip = none
  alarm : .motion ∈ s.alarm.causes
  fast : s.trend.fast = 30

theorem tripMode_tripped (c : ModeCause) (s : State) : Tripped (tripMode c s) := by
  obtain ⟨hframe, halarm, hfast, -⟩ := tripMode_spec c s
  generalize tripMode c s = u at *
  have hinter := congrArg State.interlock hframe
  exact ⟨by rw [hinter], by rw [hinter], by rw [hinter], by rw [hinter], (halarm _).2 (.inr rfl), hfast⟩

/-- A chain that touches neither the mode, the drive, MOTION nor fast capture leaves a trip as it is. -/
theorem Tripped.moves (h : Moves K true s t) (hs : Tripped s) (hshift : NotShifting s) (hd : .drive ∉ K) (hm : .mode ∉ K)
    (hc : .cause .motion ∉ K) (hT : .trend ∉ K) : Tripped t := by
  obtain ⟨-, hmode⟩ := h.calm hd hshift
  obtain ⟨e₁, e₂, e₃, e₄⟩ := hmode hm
  have hcalm := (h.calmed (L := .conditions :: K.filter (· ≠ .event)) hd hshift (by simp)
    (fun p hp hne => by simp [hp, hne])).stands
  refine ⟨e₁.trans hs.mode, e₂.trans hs.ceiling, e₃.trans hs.recovery, e₄.trans hs.trip, ?_, ?_⟩
  · exact (hcalm.cause .motion (by decide) (by simp [hc]) (by simp)).2 hs.alarm
  · rw [hcalm.trend (by simp [hT])]
    exact hs.fast

/-! ### The trip that falls together with an exit -/

/-- The mode machine's part of a change of the motion state (R28). -/
def motionTrip (moving : Bool) (trip : ModeCause → State → State) (x : State) : State :=
  if moving = true ∧ x.interlock.mode = .pumpStationary then trip .moving x else x

/-- The motion state changed, before it is handed on (R25). -/
def motionSet (moving : Bool) (s : State) : State :=
  s.modInterlock fun i => { i with moving := moving, rise := none, fall := none }

theorem changeMotion_eq (moving : Bool) (trip : ModeCause → State → State) (s : State) : changeMotion moving trip s =
    runInOrder [conditionEvent, motionTrip moving trip, motionTank .main, motionTank .reserve] (motionSet moving s) := rfl

theorem motionTrip_trips (trip : ModeCause → State → State) (h : s.interlock.mode = .pumpStationary) :
    motionTrip true trip s = trip .moving s := if_pos ⟨rfl, h⟩

theorem tripMode_drive (c : ModeCause) (s : State) : (tripMode c s).drive = s.drive := by
  obtain ⟨hframe, -⟩ := tripMode_spec c s
  generalize tripMode c s = u at hframe
  rw [hframe]

theorem motionTrip_of_ne {moving : Bool} (trip : ModeCause → State → State)
    (h : moving = false ∨ s.interlock.mode ≠ .pumpStationary) : motionTrip moving trip s = s :=
  if_neg fun hc => h.elim (fun e => by simp [e] at hc) fun e => e hc.2

theorem changeMotion_trips (hmode : s.interlock.mode = .pumpStationary) (hs : NotShifting s) :
    Tripped (changeMotion true tripMode s) := by
  have htank : ∀ (n : Tank) (y : State), Moves (.readings :: fillsParts) true y (motionTank n y) := fun n y =>
    moves_motionTank (List.Subset.trans (fillParts_subset n) (by decide)) (by decide) (.refl ..)
  have hevent : ∀ y : State, Moves [.event] true y (conditionEvent y) := fun y => moves_conditionEvent (by decide) (.refl ..)
  have hacts : ∀ f ∈ [conditionEvent, motionTrip true tripMode, motionTank .main, motionTank .reserve],
      f = motionTrip true tripMode ∨ ∀ y, Moves (.event :: .readings :: fillsParts) true y (f y) := by
    intro f hf
    simp only [List.mem_cons, List.not_mem_nil, or_false] at hf
    obtain rfl | rfl | rfl | rfl := hf
    · exact .inr fun y => (hevent y).mono (by decide)
    · exact .inl rfl
    · exact .inr fun y => (htank .main y).mono (by decide)
    · exact .inr fun y => (htank .reserve y).mono (by decide)
  have husers : ∀ y : State, y.interlock.mode = .pumpStationary ∨ Tripped y → Tripped (motionTrip true tripMode y) := by
    rintro y (hy | hy)
    · exact motionTrip_trips tripMode hy ▸ tripMode_tripped ..
    · exact (motionTrip_of_ne (s := y) tripMode (.inr (by simp [hy.mode]))).symm ▸ hy
  have hdrive : ∀ y : State, (motionTrip true tripMode y).drive = y.drive := fun y => by
    unfold motionTrip
    split
    · exact tripMode_drive ..
    · rfl
  rw [changeMotion_eq]
  refine (runInOrder_reaches (P := fun y => NotShifting y ∧ (y.interlock.mode = .pumpStationary ∨ Tripped y))
    (Q := fun y => NotShifting y ∧ Tripped y) (fun _ _ hy => ⟨hy.1, hy.2.imp id fun h => ⟨h.1, h.2, h.3, h.4, h.5, h.6⟩⟩)
    (motionTrip true tripMode) [conditionEvent, motionTrip true tripMode, motionTank .main, motionTank .reserve]
    (List.mem_cons_of_mem _ List.mem_cons_self) (fun f hf y hy => ?_) (fun f hf y hy => ?_)
    (fun y hy => ⟨notShifting_of_drive_eq (hdrive y) hy.1, husers y hy.2⟩) (motionSet true s)
    ⟨hs, .inl hmode⟩).2
  · obtain rfl | hmoves := hacts f hf
    · exact ⟨notShifting_of_drive_eq (hdrive y) hy.1, .inr (husers y hy.2)⟩
    · obtain ⟨hd, hm⟩ := (hmoves y).calm (by decide) hy.1
      exact ⟨notShifting_of_drive_eq hd hy.1, hy.2.imp (fun h => ((hm (by decide)).1).trans h) fun h =>
        h.moves (hmoves y) hy.1 (by decide) (by decide) (by decide) (by decide)⟩
  · obtain rfl | hmoves := hacts f hf
    · exact ⟨notShifting_of_drive_eq (hdrive y) hy.1, husers y (.inr hy.2)⟩
    · exact ⟨notShifting_of_drive_eq ((hmoves y).calm (by decide) hy.1).1 hy.1,
        hy.2.moves (hmoves y) hy.1 (by decide) (by decide) (by decide) (by decide)⟩

/-- An act of the trips at an exit trips or changes nothing, and nothing after a trip. -/
theorem tripAct_cases {sample : Bool} {f : State → State} (hf : f ∈ tripActs sample) (hs : NotShifting s) :
    f s = s ∨ Tripped (f s) := by
  simp only [tripActs, List.cons_append, List.nil_append, List.mem_cons] at hf
  obtain rfl | rfl | hf := hf
  · unfold tripByMotion
    split
    · next h => exact .inr (changeMotion_trips h.1 hs)
    · exact .inl rfl
  · unfold tripByOverspeed
    split
    · exact .inr (tripMode_tripped ..)
    · exact .inl rfl
  · have hmem : f ∈ allTerminals.map tripByInput := by
      cases sample
      · simp at hf
      · exact hf
    obtain ⟨n, -, rfl⟩ := List.mem_map.1 hmem
    unfold tripByInput
    split
    · exact .inr (tripMode_tripped ..)
    · exact .inl rfl

theorem tripAct_tripped {sample : Bool} {f : State → State} (hf : f ∈ tripActs sample) (hs : Tripped s) : f s = s := by
  simp only [tripActs, List.cons_append, List.nil_append, List.mem_cons] at hf
  obtain rfl | rfl | hf := hf
  · exact if_neg (by simp [hs.mode])
  · exact if_neg (by simp [hs.mode])
  · have hmem : f ∈ allTerminals.map tripByInput := by
      cases sample
      · simp at hf
      · exact hf
    obtain ⟨n, -, rfl⟩ := List.mem_map.1 hmem
    unfold tripByInput
    split
    · next h _ => simp [hs.mode] at h
    · rfl

/-- Where a trip falls at this instant one of the acts makes it. -/
theorem exists_tripAct {sample : Bool} (h : tripsNow sample s = true) (hs : NotShifting s) :
    ∃ f ∈ tripActs sample, ∀ k, Tripped (f (s.modChoices k)) := by
  unfold tripsNow at h
  split at h
  · next hmode =>
    simp only [Bool.or_eq_true, Bool.and_eq_true] at h
    obtain h | ⟨hsample, hloss⟩ := h
    · refine ⟨tripByMotion, by simp [tripActs], fun k => ?_⟩
      have hact : tripByMotion (s.modChoices k) = changeMotion true tripMode (s.modChoices k) := if_pos ⟨hmode, h⟩
      exact hact ▸ changeMotion_trips (s := s.modChoices k) hmode hs
    · obtain ⟨n, hn, hlost⟩ := List.any_eq_true.1 hloss
      obtain ⟨c, hc⟩ := Option.isSome_iff_exists.1 hlost
      refine ⟨tripByInput n, by simp [tripActs, hsample], fun k => ?_⟩
      have hact : tripByInput n (s.modChoices k) =
          tripMode c (conditionEvent (setInput n (sampledNext (s.modChoices k) n) (s.modChoices k))) := by
        unfold tripByInput
        rw [show (s.modChoices k).interlock.mode = .pumpStationary from hmode, show lossNow (s.modChoices k) n = some c from hc]
      exact hact ▸ tripMode_tripped ..
  · next hmode =>
    refine ⟨tripByOverspeed, by simp [tripActs], fun k => ?_⟩
    have hact : tripByOverspeed (s.modChoices k) = tripMode .overspeedTrip (s.modChoices k) := if_pos ⟨hmode, h⟩
    exact hact ▸ tripMode_tripped ..
  all_goals exact absurd h (by simp)

/-- An exit finds no trip, or one made before it. -/
theorem tripTogether_cases (sample : Bool) (hs : NotShifting s) :
    (tripTogether sample s = s ∧ ¬(s.choices.headD 0 % 2 = 1 ∧ TripWithExit sample s)) ∨
    (Tripped (tripTogether sample s) ∧ s.choices.headD 0 % 2 = 1 ∧ TripWithExit sample s) := by
  have hbit : freeBit s = true ↔ s.choices.headD 0 % 2 = 1 := beq_iff_eq
  unfold tripTogether
  split
  · next h =>
    refine .inr ⟨?_, hbit.1 h.1, (tripsNow_iff sample s).1 h.2⟩
    obtain ⟨f, hf, htrip⟩ := exists_tripAct h.2 hs
    have hstep : ∀ g ∈ tripActs sample, ∀ y, ((∃ k, y = s.modChoices k) ∨ Tripped y) →
        (∃ k, g y = s.modChoices k) ∨ Tripped (g y) := by
      rintro g hg y (⟨k, rfl⟩ | hy)
      · obtain e | e := tripAct_cases (s := s.modChoices k) hg hs
        · exact .inl ⟨k, e⟩
        · exact .inr e
      · exact .inr ((tripAct_tripped hg hy).symm ▸ hy)
    refine runInOrder_reaches (P := fun y => (∃ k, y = s.modChoices k) ∨ Tripped y) (Q := Tripped) ?_ f _ hf hstep
      (fun g hg y hy => (tripAct_tripped hg hy).symm ▸ hy) ?_ s (.inl ⟨id, rfl⟩)
    · rintro y k (⟨k', rfl⟩ | hy)
      · exact .inl ⟨k ∘ k', rfl⟩
      · exact .inr ⟨hy.1, hy.2, hy.3, hy.4, hy.5, hy.6⟩
    · rintro y (⟨k, rfl⟩ | hy)
      · exact htrip k
      · exact (tripAct_tripped hf hy).symm ▸ hy
  · next h =>
    exact .inl ⟨rfl, fun hc => h ⟨hbit.2 hc.1, (tripsNow_iff sample s).2 hc.2⟩⟩

/-! ### The mode at an exit (R32) -/

theorem exitBlock_calm {a : ExitBlock} (ha : a ≠ .mode) (hy : NotShifting y) :
    (a.act y).drive = y.drive ∧ (a.act y).interlock.mode = y.interlock.mode ∧
      (a.act y).interlock.ceiling = y.interlock.ceiling := by
  obtain ⟨hd, hm⟩ := (moves_exitAct a y).calm (by cases a <;> decide) hy
  obtain ⟨hmode, hceiling, -, -⟩ := hm (by revert ha; cases a <;> decide)
  exact ⟨hd, hmode, hceiling⟩

theorem exitBlock_drive (a : ExitBlock) (hy : NotShifting y) : (a.act y).drive = y.drive :=
  ((moves_exitAct a y).calm (by cases a <;> decide) hy).1

theorem modeOnExit_of_pumping (h : isPumping s.interlock.mode = true) : modeOnExit s = setMode .road .ptoReleased s := if_pos h

theorem modeOnExit_of_not_pumping (h : isPumping s.interlock.mode = false) : modeOnExit s = s := if_neg (by simp [h])

theorem exitBlock_mode_stands (h : isPumping s.interlock.mode = false) : ExitBlock.mode.act s = s :=
  modeOnExit_of_not_pumping h

theorem modeOnExit_road (h : isPumping s.interlock.mode = true) :
    (modeOnExit s).interlock.mode = .road ∧ (modeOnExit s).interlock.ceiling = 0 := by
  rw [modeOnExit_of_pumping h, (setMode_spec (by decide) .ptoReleased s).1]
  exact ⟨rfl, rfl⟩

theorem exitBlock_tripped (a : ExitBlock) (hy : NotShifting y) (h : Tripped y) : Tripped (a.act y) := by
  obtain rfl | ha := eq_or_ne a .mode
  · rwa [exitBlock_mode_stands (by rw [h.mode]; rfl)]
  · revert ha
    cases a <;> intro ha
    · exact absurd rfl ha
    all_goals exact h.moves (moves_exitAct _ y) hy (by decide) (by decide) (by decide) (by decide)

/-- A trip made before the hand-on stands after it. -/
theorem handExit_tripped {sample : Bool} (hs : NotShifting (tripTogether sample s)) (h : Tripped (tripTogether sample s)) :
    Tripped (handExit sample s) := by
  rw [handExit_eq]
  refine (runInOrder_keeps (P := fun y => NotShifting y ∧ Tripped y)
    (fun _ _ hy => ⟨hy.1, hy.2.1, hy.2.2, hy.2.3, hy.2.4, hy.2.5, hy.2.6⟩) _ (fun f hf y hy => ?_) _ ⟨hs, h⟩).2
  obtain ⟨a, -, rfl⟩ := List.mem_map.1 hf
  exact ⟨notShifting_of_drive_eq (exitBlock_drive a hy.1) hy.1, exitBlock_tripped a hy.1 hy.2⟩

theorem tripTogether_drive (sample : Bool) (hs : NotShifting s) : (tripTogether sample s).drive = s.drive :=
  ((moves_tripTogether (K := exitParts) (b := true) (List.Subset.refl _) (.refl ..)).calm (by decide) hs).1

theorem handExit_drive (sample : Bool) (hs : NotShifting s) : (handExit sample s).drive = s.drive :=
  ((moves_handExit (K := exitParts) (b := true) (List.Subset.refl _) (.refl ..)).calm (by decide) hs).1

theorem handExit_road {sample : Bool} (hs : NotShifting (tripTogether sample s))
    (h : isPumping (tripTogether sample s).interlock.mode = true) :
    (handExit sample s).interlock.mode = .road ∧ (handExit sample s).interlock.ceiling = 0 := by
  rw [handExit_eq]
  refine (runInOrder_reaches (P := fun y => NotShifting y ∧
      (isPumping y.interlock.mode = true ∨ y.interlock.mode = .road ∧ y.interlock.ceiling = 0))
    (Q := fun y => NotShifting y ∧ y.interlock.mode = .road ∧ y.interlock.ceiling = 0) (fun _ _ hy => hy) modeOnExit _
    (List.mem_map_of_mem (f := ExitBlock.act) (mem_exitBlocks .mode)) (fun f hf y hy => ?_) (fun f hf y hy => ?_) ?_
    (tripTogether sample s) ⟨hs, .inl h⟩).2
  · obtain ⟨a, -, rfl⟩ := List.mem_map.1 hf
    refine ⟨notShifting_of_drive_eq (exitBlock_drive a hy.1) hy.1, ?_⟩
    obtain rfl | ha := eq_or_ne a .mode
    · obtain hp | hp := hy.2
      · exact .inr (modeOnExit_road hp)
      · rw [exitBlock_mode_stands (by rw [hp.1]; rfl)]
        exact .inr hp
    · obtain ⟨-, hm, hc⟩ := exitBlock_calm ha hy.1
      rw [hm, hc]
      exact hy.2
  · obtain ⟨a, -, rfl⟩ := List.mem_map.1 hf
    refine ⟨notShifting_of_drive_eq (exitBlock_drive a hy.1) hy.1, ?_⟩
    obtain rfl | ha := eq_or_ne a .mode
    · rw [exitBlock_mode_stands (by rw [hy.2.1]; rfl)]
      exact hy.2
    · obtain ⟨-, hm, hc⟩ := exitBlock_calm ha hy.1
      rw [hm, hc]
      exact hy.2
  · rintro y ⟨hy, hp | hp⟩
    · exact ⟨notShifting_of_drive_eq (exitBlock_drive .mode hy) hy, modeOnExit_road hp⟩
    · rw [modeOnExit_of_not_pumping (by rw [hp.1]; rfl)]
      exact ⟨hy, hp⟩

theorem handExit_motionTrip {sample : Bool} (hs : NotShifting s) (h : s.interlock.mode = .motionTrip) :
    (handExit sample s).interlock.mode = .motionTrip := by
  rw [handExit_eq, tripTogether_motionTrip h]
  refine (runInOrder_keeps (P := fun y => NotShifting y ∧ y.interlock.mode = .motionTrip) (fun _ _ hy => hy) _
    (fun f hf y hy => ?_) _ ⟨hs, h⟩).2
  obtain ⟨a, -, rfl⟩ := List.mem_map.1 hf
  refine ⟨notShifting_of_drive_eq (exitBlock_drive a hy.1) hy.1, ?_⟩
  obtain rfl | ha := eq_or_ne a .mode
  · rw [exitBlock_mode_stands (by rw [hy.2]; rfl)]
    exact hy.2
  · exact (exitBlock_calm ha hy.1).2.1.trans hy.2

/-- The mode after an exit, by the trip that falls together with it or not (R32). -/
theorem handExit_modeAtExit (sample : Bool) (hs : NotShifting s) : ModeAtExit sample s.choices s (handExit sample s) := by
  have hdrive : NotShifting (tripTogether sample s) := notShifting_of_drive_eq (tripTogether_drive sample hs) hs
  refine ⟨fun hpump => ?_, handExit_motionTrip hs⟩
  obtain ⟨halone, hno⟩ | ⟨htrip, hbit, hwith⟩ := tripTogether_cases sample hs
  · obtain ⟨hroad, hceiling⟩ := handExit_road hdrive (by rw [halone]; exact hpump)
    exact ⟨hceiling, fun _ => hroad, fun hb hw => absurd ⟨hb, hw⟩ hno⟩
  · have hdone := handExit_tripped hdrive htrip
    exact ⟨hdone.ceiling, fun hno => absurd ⟨hbit, hwith⟩ hno, fun _ _ => ⟨hdone.mode, hdone.alarm, hdone.fast⟩⟩

/-! ### The feedback and the engine speed at an exit -/

/-- A trip's terminal is a PARK_BRAKE or a NEUTRAL. -/
theorem lossNow_role {n : Terminal} (h : (lossNow s n).isSome = true) :
    s.terminals.assignment[n].role = .parkBrake ∨ s.terminals.assignment[n].role = .neutral := by
  unfold lossNow at h
  split at h
  · exact (lossCause_isSome _).1 h
  · exact absurd h (by simp)

theorem qualified_congr {r : Role} (h : t.terminals = s.terminals) : t.qualified r = s.qualified r := by
  unfold State.qualified State.terminalOf
  rw [h]

theorem qualified_setInput {r : Role} {n : Terminal} {i : InputState} (h : s.terminals.assignment[n].role ≠ r) :
    (setInput n i s).qualified r = s.qualified r := by
  unfold State.qualified
  have hterm : (setInput n i s).terminalOf r = s.terminalOf r := rfl
  rw [hterm]
  cases hfind : s.terminalOf r with
  | none => rfl
  | some m =>
    have hrole : s.terminals.assignment[m].role = r :=
      eq_of_beq (List.find?_some (p := fun v : Terminal => s.terminals.assignment[v].role == r) hfind)
    have hne : n.val ≠ m.val := fun e => h ((Fin.ext e : n = m) ▸ hrole)
    simp [setInput, hne]

theorem tripAct_qualified {sample : Bool} {f : State → State} (hf : f ∈ tripActs sample) (y : State) :
    (f y).qualified .ptoFb = y.qualified .ptoFb := by
  simp only [tripActs, List.cons_append, List.nil_append, List.mem_cons] at hf
  obtain rfl | rfl | hf := hf
  · unfold tripByMotion
    split
    · exact qualified_congr ((moves_changeMotion_tripMode true y).terminals (by decide))
    · rfl
  · unfold tripByOverspeed
    split
    · exact qualified_congr (tripMode_terminals ..)
    · rfl
  · have hmem : f ∈ allTerminals.map tripByInput := by
      cases sample
      · simp at hf
      · exact hf
    obtain ⟨n, -, rfl⟩ := List.mem_map.1 hmem
    unfold tripByInput
    split
    · next hloss =>
      have hrole := lossNow_role (s := y) (n := n) (by rw [hloss]; rfl)
      rw [qualified_congr (tripMode_terminals ..), qualified_congr (conditionEvent_terminals _)]
      exact qualified_setInput (by obtain h | h := hrole <;> rw [h] <;> decide)
    · rfl

theorem tripTogether_qualified (sample : Bool) (s : State) :
    (tripTogether sample s).qualified .ptoFb = s.qualified .ptoFb := by
  unfold tripTogether
  split
  · exact runInOrder_same (fun y => y.qualified .ptoFb) (fun _ _ => rfl) _ (fun f hf y => tripAct_qualified hf y) s
  · rfl

theorem handExit_qualified (sample : Bool) (s : State) : (handExit sample s).qualified .ptoFb = s.qualified .ptoFb :=
  (qualified_congr ((moves_leave sample s).terminals (by decide))).trans (tripTogether_qualified sample s)

theorem moves_handExit_stands (sample : Bool) (s : State) : Stands exitParts s (handExit sample s) :=
  (moves_handExit (b := true) (List.Subset.refl _) (.refl ..)).stands

end Sys2Proof.Machine
end

section
/-! PROOFS. The disengage orders (R58, R61, R62), the motion trip with its order (O29) and DISENGAGE (O33). -/

namespace Sys2Proof.Machine

variable {K : List Part} {s t x y : State}

/-! ### ENGAGED left for RAMPDOWN (R58) -/

/-- The record as RAMPDOWN is entered (R58). -/
def rampRecord (c : ReleaseCause) (d : Drive) : Drive :=
  { toPto .rampdown d with release := some c, ramp := startTimer 3000 }

/-- The record that an order from ENGAGED leaves: RAMPDOWN, or RELEASING where the engine is at or below the limit. -/
def leavingRecord (c : ReleaseCause) (s : State) : Drive :=
  if s.engineSpeed ≤ s.paramNat 24 then releasingRecord c s.drive else rampRecord c s.drive

theorem leavingRecord_pto (c : ReleaseCause) (s : State) :
    (leavingRecord c s).pto = if s.engineSpeed ≤ s.paramNat 24 then .releasing else .rampdown := by
  unfold leavingRecord
  split <;> rfl

theorem leavingRecord_release (c : ReleaseCause) (s : State) : (leavingRecord c s).release = some c := by
  unfold leavingRecord
  split <;> rfl

theorem leavingRecord_notShifting {c : ReleaseCause} (h : y.drive = leavingRecord c s) : NotShifting y := by
  unfold NotShifting
  rw [h, leavingRecord_pto]
  split <;> simp

/-- What an order from ENGAGED leaves: the record, the governor and the supply at rest. -/
structure PumpStopped (c : ReleaseCause) (s u : State) : Prop where
  drive : u.drive = leavingRecord c s
  demand : u.governor.demand = 0
  shadow : u.governor.shadow = .idle
  active : u.governor.active = .idle
  overrides : u.governor.overrides = []
  rest : AtRest u

/-- The state that an order from ENGAGED hands on. -/
def rampStarted (c : ReleaseCause) (s : State) : State := s.modDrive (rampRecord c)

theorem rampStarted_notShifting (c : ReleaseCause) (s : State) : NotShifting (rampStarted c s) := by
  simp [NotShifting, rampStarted, rampRecord]

/-- An order from ENGAGED, a feedback that confirms nothing: the hand-on, and the record as the engine speed has it. -/
theorem disengageOrder_engaged (c : ReleaseCause) (hpto : s.drive.pto = .engaged) (hfb : s.qualified .ptoFb ≠ some false) :
    disengageOrder c s = { handExit true (rampStarted c s) with drive := leavingRecord c s } := by
  have hact : disengageOrder c s = endRampIfIdle (handExit true (rampStarted c s)) := by
    unfold disengageOrder
    rw [hpto]
    rfl
  have hdrive := handExit_drive true (rampStarted_notShifting c s)
  have hq := handExit_qualified true (rampStarted c s)
  have hst := moves_handExit_stands true (rampStarted c s)
  have hspeed : (handExit true (rampStarted c s)).engineSpeed = s.engineSpeed := by
    rw [State.engineSpeed, hst.sense (by decide)]
    rfl
  have hlimit : engageLimit (handExit true (rampStarted c s)) = s.paramNat 24 := congrFun (paramNat_congr hst.params) 24
  rw [hact]
  generalize handExit true (rampStarted c s) = y at *
  unfold endRampIfIdle leavingRecord
  rw [hspeed, hlimit, hdrive]
  by_cases hle : s.engineSpeed ≤ s.paramNat 24
  · rw [if_pos ⟨rfl, hle⟩, if_pos hle]
    have hrel : (rampStarted c s).drive.release = some c := rfl
    rw [hrel]
    dsimp only
    rw [confirmRelease_unshown]
    · unfold startRelease State.modDrive
      rw [hdrive]
      rfl
    · exact (hq.trans rfl : y.qualified .ptoFb = s.qualified .ptoFb) ▸ hfb
  · rw [if_neg fun h => hle h.2, if_neg hle]
    exact congrArg (fun d => { y with drive := d }) hdrive

theorem AtRest.of_eq (h : AtRest s) (hsupply : t.supply = s.supply) (hout : t.outputs = s.outputs)
    (hvalve : ∀ v, v = .mainValve ∨ v = .reserveValve → t.valve v = s.valve v) : AtRest t :=
  ⟨hsupply ▸ h.1, hsupply ▸ h.2, hsupply ▸ h.3, hsupply ▸ h.4, hout ▸ h.5,
    (congrArg Actuator.openCmd (hvalve .mainValve (.inl rfl))).trans h.6,
    (congrArg Actuator.openCmd (hvalve .reserveValve (.inr rfl))).trans h.7⟩

theorem disengageOrder_stopped (c : ReleaseCause) (hpto : s.drive.pto = .engaged) (hfb : s.qualified .ptoFb ≠ some false) :
    PumpStopped c s (disengageOrder c s) := by
  obtain ⟨hs, ha, ho⟩ := handExit_pair true (rampStarted c s)
  rw [disengageOrder_engaged c hpto hfb]
  exact ⟨rfl, handExit_demand .., hs, ha, ho, (handExit_atRest ..).of_eq rfl rfl fun _ _ => rfl⟩

/-- What a chain without the governor, the drive, the supply and the tank valves keeps of it. -/
theorem PumpStopped.moves {c : ReleaseCause} (h : Moves K true x y) (hx : PumpStopped c s x) (hd : .drive ∉ K)
    (hg : .governor ∉ K) (hs : .supply ∉ K) (ho : .outputs ∉ K) (hm : .valve .mainValve ∉ K) (hr : .valve .reserveValve ∉ K) :
    PumpStopped c s y := by
  have hpair := h.stands.pair hg
  refine ⟨((h.calm hd (leavingRecord_notShifting hx.drive)).1).trans hx.drive,
    Nat.eq_zero_of_le_zero (h.demand_le.trans hx.demand.le), ?_, ?_, ?_,
    hx.rest.of_eq (h.stands.supply hs) (h.stands.outputs ho) ?_⟩
  · rw [hpair]; exact hx.shadow
  · rw [hpair]; exact hx.active
  · rw [hpair]; exact hx.overrides
  · rintro v (rfl | rfl)
    · exact h.stands.valve _ hm
    · exact h.stands.valve _ hr

/-! ### A trip with its order (R28) -/

/-- What a trip with its order touches. -/
def tripAndOrderParts : List Part := tripParts ++ tripOrderParts

theorem moves_tripWithOrder (c : ModeCause) (s : State) : Moves tripAndOrderParts true s (tripAndOrder c s) :=
  (moves_tripMode_of_tripParts (by decide) (.refl ..)).trans
    ((moves_orderInTrip .motion (tripMode_mode c s)).mono (by decide))

theorem leavingRecord_congr (c : ReleaseCause) (hsense : t.sense = s.sense) (hparams : t.params = s.params)
    (hdrive : t.drive = s.drive) : leavingRecord c t = leavingRecord c s := by
  unfold leavingRecord State.engineSpeed
  rw [hsense, hdrive, paramNat_congr hparams]

theorem tripMode_stands (c : ModeCause) (s : State) : Stands tripParts s (tripMode c s) :=
  (moves_tripMode_of_tripParts (b := true) (List.Subset.refl _) (.refl ..)).stands

/-- The order of a trip made before. -/
theorem disengageOrder_tripped (htrip : Tripped x) (hpto : x.drive.pto = .engaged) (hfb : x.qualified .ptoFb ≠ some false) :
    Tripped (disengageOrder .motion x) := by
  rw [disengageOrder_engaged .motion hpto hfb]
  have htog : tripTogether true (rampStarted .motion x) = rampStarted .motion x := tripTogether_motionTrip htrip.mode
  have hdone := handExit_tripped (sample := true) (s := rampStarted .motion x)
    (by rw [htog]; exact rampStarted_notShifting ..) (by rw [htog]; exact ⟨htrip.1, htrip.2, htrip.3, htrip.4, htrip.5, htrip.6⟩)
  exact ⟨hdone.1, hdone.2, hdone.3, hdone.4, hdone.5, hdone.6⟩

theorem tripAndOrder_stops (c : ModeCause) (hpto : s.drive.pto = .engaged) (hfb : s.qualified .ptoFb ≠ some false) :
    Tripped (tripAndOrder c s) ∧ PumpStopped .motion s (tripAndOrder c s) := by
  have htrip := tripMode_tripped c s
  have hst := tripMode_stands c s
  have hdrive := tripMode_drive c s
  have hq : (tripMode c s).qualified .ptoFb = s.qualified .ptoFb := qualified_congr (hst.inputs (by decide))
  have hact : tripAndOrder c s = disengageOrder .motion (tripMode c s) := rfl
  have hrecord : leavingRecord .motion (tripMode c s) = leavingRecord .motion s :=
    leavingRecord_congr _ (hst.sense (by decide)) hst.params hdrive
  rw [hact]
  generalize tripMode c s = x at *
  have hpto' : x.drive.pto = .engaged := by rw [hdrive, hpto]
  have hfb' : x.qualified .ptoFb ≠ some false := by rw [hq]; exact hfb
  have hstop := disengageOrder_stopped .motion hpto' hfb'
  exact ⟨disengageOrder_tripped htrip hpto' hfb', ⟨hstop.1.trans hrecord, hstop.2, hstop.3, hstop.4, hstop.5, hstop.6⟩⟩

/-- What the hand-on of a change of the motion state touches beside the trip. -/
def motionRestParts : List Part := .event :: .readings :: fillsParts

theorem motionAct_cases {moving : Bool} {trip : ModeCause → State → State} {f : State → State}
    (hf : f ∈ [conditionEvent, motionTrip moving trip, motionTank .main, motionTank .reserve]) :
    f = motionTrip moving trip ∨ ∀ y, Moves motionRestParts true y (f y) := by
  simp only [List.mem_cons, List.not_mem_nil, or_false] at hf
  obtain rfl | rfl | rfl | rfl := hf
  · exact .inr fun y => moves_conditionEvent (by decide) (.refl ..)
  · exact .inl rfl
  · exact .inr fun y => moves_motionTank (by decide) (by decide) (.refl ..)
  · exact .inr fun y => moves_motionTank (by decide) (by decide) (.refl ..)

/-- Before the trip of a change of the motion state: the pump as it was. -/
structure StillPumping (s y : State) : Prop where
  mode : y.interlock.mode = .pumpStationary
  drive : y.drive = s.drive
  sense : y.sense = s.sense
  params : y.params = s.params
  terminals : y.terminals = s.terminals

theorem setMoving_stops (hmode : s.interlock.mode = .pumpStationary) (hpto : s.drive.pto = .engaged)
    (hfb : s.qualified .ptoFb ≠ some false) : Tripped (setMoving true s) ∧ PumpStopped .motion s (setMoving true s) := by
  have htrip : ∀ y, StillPumping s y → Tripped (motionTrip true tripAndOrder y) ∧
      PumpStopped .motion s (motionTrip true tripAndOrder y) := by
    intro y hy
    rw [motionTrip_trips _ hy.mode]
    obtain ⟨h, hstop⟩ := tripAndOrder_stops .moving (s := y) (by rw [hy.drive, hpto])
      (by rw [qualified_congr hy.terminals]; exact hfb)
    exact ⟨h, hstop.1.trans (leavingRecord_congr _ hy.sense hy.params hy.drive), hstop.2, hstop.3, hstop.4, hstop.5, hstop.6⟩
  have hkept : ∀ y, Tripped y ∧ PumpStopped .motion s y → motionTrip true tripAndOrder y = y := fun y hy =>
    motionTrip_of_ne _ (.inr (by simp [hy.1.mode]))
  have hmoves : ∀ y z, Moves motionRestParts true y z → Tripped y ∧ PumpStopped .motion s y →
      Tripped z ∧ PumpStopped .motion s z := fun y z h hy =>
    ⟨hy.1.moves h (leavingRecord_notShifting hy.2.drive) (by decide) (by decide) (by decide) (by decide),
      hy.2.moves h (by decide) (by decide) (by decide) (by decide) (by decide) (by decide)⟩
  have hact : setMoving true s = runInOrder
      [conditionEvent, motionTrip true tripAndOrder, motionTank .main, motionTank .reserve] (motionSet true s) := changeMotion_eq ..
  rw [hact]
  refine runInOrder_reaches (P := fun y => StillPumping s y ∨ Tripped y ∧ PumpStopped .motion s y)
    (Q := fun y => Tripped y ∧ PumpStopped .motion s y) ?_ (motionTrip true tripAndOrder)
    [conditionEvent, motionTrip true tripAndOrder, motionTank .main, motionTank .reserve]
    (List.mem_cons_of_mem _ List.mem_cons_self) (fun f hf y hy => ?_) (fun f hf y hy => ?_) (fun y hy => ?_)
    (motionSet true s) (.inl ⟨hmode, rfl, rfl, rfl, rfl⟩)
  · rintro y k (hy | hy)
    · exact .inl ⟨hy.1, hy.2, hy.3, hy.4, hy.5⟩
    · exact .inr ⟨⟨hy.1.1, hy.1.2, hy.1.3, hy.1.4, hy.1.5, hy.1.6⟩, hy.2.1, hy.2.2, hy.2.3, hy.2.4, hy.2.5, hy.2.6.of_eq rfl rfl fun _ _ => rfl⟩
  · obtain rfl | hother := motionAct_cases hf
    · obtain hy | hy := hy
      · exact .inr (htrip y hy)
      · exact .inr ((hkept y hy).symm ▸ hy)
    · obtain hy | hy := hy
      · have hst := (hother y).stands
        obtain ⟨hd, hm⟩ := (hother y).calm (by decide) (notShifting_of_engaged (by rw [hy.drive, hpto]))
        exact .inl ⟨(hm (by decide)).1.trans hy.mode, hd.trans hy.drive, (hst.sense (by decide)).trans hy.sense,
          hst.params.trans hy.params, (hst.inputs (by decide)).trans hy.terminals⟩
      · exact .inr (hmoves y _ (hother y) hy)
  · obtain rfl | hother := motionAct_cases hf
    · exact (hkept y hy).symm ▸ hy
    · exact hmoves y _ (hother y) hy
  · obtain hy | hy := hy
    · exact htrip y hy
    · exact (hkept y hy).symm ▸ hy

theorem moves_setMoving_trip (s : State) : Moves (motionParts ++ tripAndOrderParts) true s (setMoving true s) :=
  moves_changeMotion (by decide) (by decide) (by decide) (by decide)
    (fun c y => (moves_tripWithOrder c y).mono (by decide)) (.refl ..)

/-- Settles O29: the trip comes first in its block, and nothing handed on beside it undoes what its order leaves. -/
theorem motionTripStopsThePump : Obligations.MotionTripStopsThePump := by
  intro s c hp hpto hfb h
  obtain ⟨u, hexec, hmoves, htrip, hstop⟩ : ∃ u : State, exec c s = .next (finish u) ∧
      Moves (motionParts ++ tripAndOrderParts) true s.fresh u ∧ Tripped u ∧ PumpStopped .motion s.fresh u := by
    obtain ⟨rfl, ht, hmode⟩ | ⟨rfl, ht⟩ := h
    · have hact : expireRise s.fresh = setMoving true s.fresh := (ite_isNone ..).trans (if_pos (by exact ht))
      exact ⟨_, exec_leaves hp rfl hact, moves_setMoving_trip _, setMoving_stops (s := s.fresh) hmode hpto hfb⟩
    · have hact : expireTrip s.fresh = tripAndOrder .overspeedTrip s.fresh := (ite_isNone ..).trans (if_pos (by exact ht))
      exact ⟨_, exec_leaves hp rfl hact, (moves_tripWithOrder ..).mono (by decide),
        tripAndOrder_stops (s := s.fresh) .overspeedTrip hpto hfb⟩
  have hst := hmoves.stands
  have hsense : u.sense = s.sense := hst.sense (by decide)
  have hterm : u.terminals = s.terminals := hst.inputs (by decide)
  have htotals : u.totals = s.totals := hst.totals (by decide)
  have hclock : u.clock = s.clock := hst.clock
  have hlink : u.link = s.link := hst.link
  have hparams : u.params = s.params := hst.params
  have hpow : u.powered = true := hst.powered.trans hp
  have hcount : u.choiceCount = s.choiceCount + 1 := hst.choiceCount
  have hpending : u.pending = s.pending := hst.pending
  have hlockout : u.interlock.lockout = s.interlock.lockout := hst.lockout
  have hflags : u.interlock.flags = s.interlock.flags := hst.flags (by decide)
  have hgeneral : u.outputs.general = s.outputs.general := hst.general (by decide)
  refine ⟨u, hexec, htrip.mode, htrip.ceiling, htrip.recovery, htrip.trip, ?_, ?_, ?_, hstop.demand, hstop.shadow,
    hstop.active, hstop.overrides, hstop.rest.state, hstop.rest.selected, hstop.rest.primer, hstop.rest.mainValve,
    hstop.rest.reserveValve, htrip.alarm, htrip.fast, ?_⟩
  · rw [hstop.drive, leavingRecord_release]
  · rw [hstop.drive]
    exact leavingRecord_pto ..
  · rw [hstop.drive, leavingRecord]
    split
    · next hle => exact (decide_eq_false (not_not.2 hle)).symm
    · next hle => exact (decide_eq_true hle).symm
  · rw [← hsense, ← hterm, ← htotals, ← hclock, ← hlink, ← hparams, ← hpow, ← hcount, ← hpending, ← hlockout, ← hflags,
      ← hgeneral]

/-! ### An engagement abandoned (R55, R60, R61) -/

/-- The body of ENGAGE_ABORTED. -/
def abortBody (a : AbortCause) (l : Option (List Condition)) (s : State) : NoticeBody :=
  { old := some (.pto s.drive.pto), new := some (.pto .releasing), cause := some (.abort a), conds := l }

theorem abortEngagement_eq (a : AbortCause) (c : ReleaseCause) (l : Option (List Condition)) (s : State) :
    abortEngagement a c l s = confirmRelease { s with
      drive := releasingRecord c s.drive, notices := (record .engageAborted (abortBody a l s) s).notices
      tx := (record .engageAborted (abortBody a l s) s).tx } := by
  obtain ⟨hn, hx⟩ := record_congr (s := s) (t := startRelease c s) .engageAborted (abortBody a l s) rfl rfl rfl rfl
  have hrecord := record_eq_with .engageAborted (abortBody a l s) (startRelease c s)
  rw [hn, hx] at hrecord
  exact congrArg confirmRelease hrecord

theorem abortEngagement_unshown (a : AbortCause) (c : ReleaseCause) (l : Option (List Condition))
    (hfb : s.qualified .ptoFb ≠ some false) : abortEngagement a c l s = { s with
      drive := releasingRecord c s.drive, notices := (record .engageAborted (abortBody a l s) s).notices
      tx := (record .engageAborted (abortBody a l s) s).tx } :=
  (abortEngagement_eq a c l s).trans (confirmRelease_unshown (by exact hfb))

/-- The release confirmed at once: DISENGAGED is reached, the mode but MOTION_TRIP standing. -/
theorem abortEngagement_shown (a : AbortCause) (c : ReleaseCause) (l : Option (List Condition))
    (hfb : s.qualified .ptoFb = some false) (hm : s.interlock.mode ≠ .motionTrip) :
    let u := abortEngagement a c l s
    u.drive = disengagedRecord { s.drive with window := none } ∧
    u = { s with drive := u.drive, alarm := u.alarm, notices := u.notices, tx := u.tx } := by
  rw [abortEngagement_eq, confirmRelease_shown (by rfl) (by exact hfb), endRelease_eq, modeOnDisengaged_ended (by exact hm)]
  generalize (record .engageAborted (abortBody a l s) s).notices = n
  generalize (record .engageAborted (abortBody a l s) s).tx = x
  obtain ⟨hframe, hdrive, -, -⟩ := driveEnded_spec .disengageDone
    { old := some (.pto .releasing), new := some (.pto .disengaged), value := some 0
      cause := ({ s with drive := releasingRecord c s.drive, notices := n, tx := x } : State).drive.release.map .release }
    { s with drive := releasingRecord c s.drive, notices := n, tx := x }
  exact ⟨hdrive.trans rfl, hframe⟩

/-! ### DISENGAGE (R61) -/

theorem actDisengage_engaging (h : s.drive.pto = .precheck ∨ s.drive.pto = .shifting ∨ s.drive.pto = .settle) :
    actDisengage s = ⟨abortEngagement .operator .operator none s, .ok,
      codeByte (abortEngagement .operator .operator none s).drive.pto.ctorIdx⟩ := by
  unfold actDisengage disengageOrder
  obtain h | h | h := h <;> rw [h] <;> rfl

theorem actDisengage_engaged (h : s.drive.pto = .engaged) : actDisengage s =
    ⟨disengageOrder .operator s, .ok, codeByte (disengageOrder .operator s).drive.pto.ctorIdx⟩ := by
  unfold actDisengage
  rw [h]

/-- Settles O33. -/
theorem disengageReleasesThePump : Obligations.DisengageReleasesThePump := by
  refine ⟨fun s tag hs hpto => ?_, fun s tag hs hpto => ?_, fun s tag hs hpto hfb => ?_, fun s tag hs hpto hfb hm => ?_,
    fun s tag hs hpto hfb => ?_⟩
  · refine exec_of_act_unchanged (r := .disengage) rfl rfl rfl hs ?_
    simp only [act, actDisengage, show (holdRequest 19 tag s.fresh).drive.pto = .rampdown from hpto]
    rfl
  · refine exec_of_act_unchanged (r := .disengage) rfl rfl rfl hs ?_
    have hsame : (holdRequest 19 tag s.fresh).drive.pto = s.drive.pto := rfl
    simp only [act, actDisengage]
    obtain h | h | h := hpto <;> simp only [hsame, h] <;> rfl
  · have hact := actDisengage_engaging (s := holdRequest 19 tag s.fresh) hpto
    rw [abortEngagement_unshown _ _ _ (by exact hfb)] at hact
    have hnotices := (record_congr (s := s) (t := holdRequest 19 tag s.fresh) .engageAborted
      (abortBody .operator none (holdRequest 19 tag s.fresh)) rfl rfl rfl rfl).1
    generalize record .engageAborted (abortBody .operator none (holdRequest 19 tag s.fresh)) (holdRequest 19 tag s.fresh) = r at *
    exact ⟨{ s.fresh with drive := releasingRecord .operator s.drive, notices := r.notices, tx := r.tx },
      exec_taken_link (r := .disengage) rfl rfl rfl hs hact rfl, rfl, rfl, hnotices⟩
  · have hact := actDisengage_engaging (s := holdRequest 19 tag s.fresh) hpto
    obtain ⟨hdrive, hframe⟩ := abortEngagement_shown .operator .operator none (s := holdRequest 19 tag s.fresh) hfb hm
    generalize abortEngagement .operator .operator none (holdRequest 19 tag s.fresh) = u at *
    have hlink := congrArg State.link hframe
    refine ⟨{ u with link := s.link }, ?_, hdrive, ?_⟩
    · rw [hdrive] at hact
      exact exec_taken_link (r := .disengage) rfl rfl rfl hs hact hlink
    · exact (congrArg (fun x : State => { x with link := s.link }) hframe).trans rfl
  · have hact := actDisengage_engaged (s := holdRequest 19 tag s.fresh) hpto
    have hstop := disengageOrder_stopped .operator (s := holdRequest 19 tag s.fresh) hpto hfb
    have hu := disengageOrder_engaged .operator (s := holdRequest 19 tag s.fresh) hpto hfb
    rw [hu] at hact hstop
    have hr := rampStarted_notShifting .operator (holdRequest 19 tag s.fresh)
    have hmode := handExit_modeAtExit true hr
    have hth := handExit_thermal true (rampStarted .operator (holdRequest 19 tag s.fresh))
    have hfill := handExit_notFilling true (s := rampStarted .operator (holdRequest 19 tag s.fresh))
      (by simp [OutOfEngaged, rampStarted, rampRecord])
    have hlink := (moves_handExit_stands true (rampStarted .operator (holdRequest 19 tag s.fresh))).link
    generalize handExit true (rampStarted .operator (holdRequest 19 tag s.fresh)) = y at *
    have hpto' := leavingRecord_pto .operator (holdRequest 19 tag s.fresh)
    have hrel := leavingRecord_release .operator (holdRequest 19 tag s.fresh)
    refine ⟨{ y with drive := leavingRecord .operator (holdRequest 19 tag s.fresh), link := s.link },
      exec_taken_link (r := .disengage) rfl rfl rfl hs hact hlink, hpto', hrel, ?_, hstop.demand, hstop.shadow,
      hstop.active, hstop.overrides, hstop.rest.state, hstop.rest.selected, hstop.rest.switchHeld, hstop.rest.primeHeld,
      hstop.rest.mainValve, hstop.rest.reserveValve, hmode, (congrArg Thermal.latch hth).symm,
      (congrArg Thermal.overheat hth).symm, (congrArg Thermal.dry hth).symm, (congrArg Thermal.noFlowHeld hth).symm, hfill⟩
    unfold leavingRecord
    exact (apply_ite Drive.ramp ..).trans rfl

end Sys2Proof.Machine
end

section
/-! PROOFS. The motion timers (O28). -/

namespace Sys2Proof.Machine

variable {K : List Part} {s t x y : State}

/-! ### What the conditions read (R37) -/

/-- A chain that leaves what the conditions read leaves the conditions that hold. -/
theorem Stands.trueConditions (h : Stands K s t) (hi : .inputs ∉ K) (hw : .watch ∉ K) (hf : .flags ∉ K) (hs : .supply ∉ K)
    (hm : .level .main ∉ K) (hr : .level .reserve ∉ K) (hth : .thermal ∉ K) (hd : t.drive = s.drive) :
    trueConditions t = trueConditions s := by
  have hasserted : ∀ r, t.asserted r = s.asserted r := fun r => by
    rw [State.asserted, State.asserted, qualified_congr (h.inputs hi)]
  have hwatch := h.watch hw
  have hstate : ∀ n, (t.tank n).state = (s.tank n).state := fun n => (h.level n (by cases n <;> assumption)).2
  refine List.filter_congr fun c _ => ?_
  cases c
  case parkBrakeSet | inNeutral | rollSelected => exact hasserted _
  case stopClear => exact congrArg Bool.not (hasserted _)
  case still => exact congrArg Bool.not (congrArg Interlock.moving hwatch :)
  case engineAtIdle => exact (congrArg Interlock.engineAtIdle hwatch :)
  case voltageOk => exact (congrArg Interlock.voltageOk hwatch :)
  case supplyIsTank => rw [conditionHolds, conditionHolds, h.supply hs]
  case tankAvailable => rw [conditionHolds, conditionHolds, h.supply hs, hstate]
  case noPtoFault => rw [conditionHolds, conditionHolds, hd]
  case noDryRun => rw [conditionHolds, conditionHolds, h.thermal hth]
  case panelFlag n => rw [conditionHolds, conditionHolds, h.flags hf]

/-- A chain of the tanks' fills and readings, and of the evaluated conditions, alone. -/
theorem Stands.fills (h : Stands (.conditions :: .readings :: fillsParts) s t) :
    t = { s with
      interlock := { s.interlock with conditions := t.interlock.conditions }
      tanks := t.tanks, valves := t.valves, notices := t.notices, tx := t.tx, choices := t.choices } ∧
    t.valves = { s.valves with mainFill := t.valves.mainFill, reserveFill := t.valves.reserveFill } ∧
    ∀ n : Tank, (t.tank n).volume = (s.tank n).volume ∧ (t.tank n).state = (s.tank n).state := by
  have hinter : t.interlock = { s.interlock with conditions := t.interlock.conditions } := by
    obtain ⟨hm, hc, hr, ht⟩ := h.mode (by decide) (by decide)
    have hwatch := h.watch (by decide)
    rw [hm, hc, hr, ht] at hwatch
    exact hwatch
  have hmain : t.valves.mainValve = s.valves.mainValve := h.valve .mainValve (by decide)
  have hreserve : t.valves.reserveValve = s.valves.reserveValve := h.valve .reserveValve (by decide)
  have hrecirc : t.valves.recircValve = s.valves.recircValve := h.valve .recircValve (by decide)
  refine ⟨?_, ?_, fun n => h.level n (by cases n <;> decide)⟩
  · rw [← hinter, ← h.sense (by decide), ← h.inputs (by decide), ← h.drive (by decide) (by decide),
      ← h.governor (by decide) (by decide) (by decide), ← h.supply (by decide), ← h.totals (by decide),
      ← h.thermal (by decide), ← h.recirc (by decide), ← h.alarm (by decide) (by decide), ← h.outputs (by decide), ← h.clock,
      ← h.trend (by decide), ← h.link, ← h.params, ← h.powered, ← h.choiceCount, ← h.pending]
  · dsimp only
    rw [← hmain, ← hreserve, ← hrecirc]

/-! ### A tank as the vehicle moves (R135, R139) -/

theorem readings_modTank_settle (n m : Tank) (s : State) (o : Option Timer) :
    ((s.modTank n fun r => { r with settle := o }).tank m).estimating = (s.tank m).estimating := by
  rw [tank_modTank]
  split <;> rfl

theorem reviewFill_readings (n : Tank) (s : State) (m : Tank) : ((reviewFill n s).tank m).readings = (s.tank m).readings :=
  (moves_reviewFill (K := fillParts n) (b := true) (List.Subset.refl _) (.refl ..)).stands.readings m (by cases n <;> decide)

theorem estimating_of_readings {r q : TankRecord} (h : r.readings = q.readings) : r.estimating = q.estimating :=
  congrArg (fun x => x.2.2.1) h

/-- A tank that the moving vehicle has put on its estimate, its fill at rest. -/
def Suspended (r : TankRecord) : Prop := r.estimating.isSome = true ∧ NotFilling r

theorem beginEstimate_estimating (n : Tank) (c : EstimateCause) (s : State) :
    ((beginEstimate n c s).tank n).estimating.isSome = true := by
  unfold beginEstimate
  split
  · next h => exact h
  · rw [estimating_of_readings (reviewFill_readings ..), tank_modTank_same]
    rfl

theorem fillPermission_estimating {n : Tank} (h : (s.tank n).estimating.isSome = true) : fillPermission s n = false := by
  have hpart : permissionPart s n .notEstimating = false := by simpa [permissionPart, Option.isSome_iff_ne_none] using h
  exact List.all_eq_false.2 ⟨.notEstimating, by decide, by simp [hpart]⟩

theorem motionTank_suspends {n : Tank} (h : s.interlock.moving = true) : Suspended ((motionTank n s).tank n) := by
  have hact : motionTank n s = reviewFill n (reviewSettle n (beginEstimate n .moving s)) := by
    unfold motionTank
    rw [if_pos h]
  have hest : ((reviewSettle n (beginEstimate n .moving s)).tank n).estimating.isSome = true := by
    have hbegin := beginEstimate_estimating n .moving s
    unfold reviewSettle
    rw [if_pos hbegin, tank_modTank_same]
    exact hbegin
  rw [hact]
  refine ⟨?_, reviewFill_stops (fillPermission_estimating hest)⟩
  rw [estimating_of_readings (reviewFill_readings ..)]
  exact hest

/-- A chain without this tank's fill and readings keeps it so. -/
theorem Suspended.moves {n : Tank} (hx : Suspended (x.tank n)) (h : Moves K true x y) (ht : .tank n ∉ K)
    (hl : .level n ∉ K) : Suspended (y.tank n) := by
  rw [h.stands.tank n ht hl]
  exact hx

/-- A disengage order leaves no fill running that did not run. -/
theorem disengageOrder_notFilling {c : ReleaseCause} {n : Tank} (hs : NotFilling (s.tank n)) :
    NotFilling ((disengageOrder c s).tank n) := by
  have hrelease : ∀ {y z : State}, Moves releaseParts true y z → NotFilling (y.tank n) → NotFilling (z.tank n) :=
    fun hm hy => by rwa [hm.stands.tank n (by cases n <;> decide) (by cases n <;> decide)]
  unfold disengageOrder
  split
  · exact hrelease (moves_endRampIfIdle (List.Subset.refl _) (.refl ..))
      (handExit_notFilling true (by simp [OutOfEngaged]) n)
  case h_2 | h_3 | h_4 => exact hrelease (moves_abortEngagement (List.Subset.refl _) (.refl ..)) hs
  all_goals exact hs

theorem tripAndOrder_suspended {c : ModeCause} {n : Tank} (hs : Suspended (s.tank n)) : Suspended ((tripAndOrder c s).tank n) := by
  have htank : (tripMode c s).tank n = s.tank n := (tripMode_stands c s).tank n (by cases n <;> decide) (by cases n <;> decide)
  refine ⟨?_, disengageOrder_notFilling (by rw [htank]; exact hs.2)⟩
  rw [estimating_of_readings ((moves_tripWithOrder c s).stands.readings n (by decide))]
  exact hs.1

theorem motionTrip_stands (moving : Bool) (s : State) : Moves tripAndOrderParts true s (motionTrip moving tripAndOrder s) := by
  unfold motionTrip
  split
  · exact moves_tripWithOrder ..
  · exact .refl ..

/-- What the hand-on of a change of the motion state touches. -/
def handMotionParts : List Part := motionRestParts ++ tripAndOrderParts

theorem moves_motionAct {moving : Bool} {f : State → State}
    (hf : f ∈ [conditionEvent, motionTrip moving tripAndOrder, motionTank .main, motionTank .reserve]) (y : State) :
    Moves handMotionParts true y (f y) := by
  obtain rfl | h := motionAct_cases hf
  · exact (motionTrip_stands moving y).mono (by decide)
  · exact (h y).mono (by decide)

theorem setMoving_eq (moving : Bool) (s : State) : setMoving moving s = runInOrder
    [conditionEvent, motionTrip moving tripAndOrder, motionTank .main, motionTank .reserve] (motionSet moving s) := changeMotion_eq ..

theorem setMoving_watch (moving : Bool) (s : State) :
    (setMoving moving s).interlock.moving = moving ∧ (setMoving moving s).interlock.rise = none ∧
    (setMoving moving s).interlock.fall = none := by
  have hm : Moves handMotionParts true (motionSet moving s) (setMoving moving s) := by
    rw [setMoving_eq]
    exact moves_runInOrder (fun f hf y => moves_motionAct hf y) (.refl ..)
  have hwatch := hm.stands.watch (by decide)
  exact ⟨congrArg Interlock.moving hwatch, congrArg Interlock.rise hwatch, congrArg Interlock.fall hwatch⟩

/-- A MOVING vehicle puts both tanks on their estimates and suspends every fill (R135, R139, R145). -/
theorem setMoving_suspends (s : State) (n : Tank) : Suspended ((setMoving true s).tank n) := by
  have hother : ∀ f ∈ [conditionEvent, motionTrip true tripAndOrder, motionTank .main, motionTank .reserve], ∀ y : State,
      y.interlock.moving = true → Suspended (y.tank n) → Suspended ((f y).tank n) := by
    intro f hf y hmoving hy
    simp only [List.mem_cons, List.not_mem_nil, or_false] at hf
    obtain rfl | rfl | rfl | rfl := hf
    · exact hy.moves (moves_conditionEvent (K := [.event]) (by decide) (.refl ..)) (by simp) (by simp)
    · unfold motionTrip
      split
      · exact tripAndOrder_suspended hy
      · exact hy
    · cases n
      · exact motionTank_suspends hmoving
      · exact hy.moves (moves_motionTank (K := .readings :: fillParts .main) (by decide) (by decide) (.refl ..)) (by decide)
          (by decide)
    · cases n
      · exact hy.moves (moves_motionTank (K := .readings :: fillParts .reserve) (by decide) (by decide) (.refl ..)) (by decide)
          (by decide)
      · exact motionTank_suspends hmoving
  have hmoving : ∀ f ∈ [conditionEvent, motionTrip true tripAndOrder, motionTank .main, motionTank .reserve], ∀ y : State,
      y.interlock.moving = true → (f y).interlock.moving = true := fun f hf y hy =>
    (congrArg Interlock.moving ((moves_motionAct hf y).stands.watch (by decide))).trans hy
  rw [setMoving_eq]
  exact (runInOrder_reaches (P := fun y => y.interlock.moving = true)
    (Q := fun y => y.interlock.moving = true ∧ Suspended (y.tank n)) (fun _ _ hy => hy) (motionTank n)
    [conditionEvent, motionTrip true tripAndOrder, motionTank .main, motionTank .reserve] (by cases n <;> simp) hmoving
    (fun f hf y hy => ⟨hmoving f hf y hy.1, hother f hf y hy.1 hy.2⟩)
    (fun y hy => ⟨hmoving _ (by cases n <;> simp) y hy, motionTank_suspends hy⟩) (motionSet true s) rfl).2

/-- Where no trip is made the change moves the tanks, and the conditions come to what they then read. -/
theorem setMoving_calm {moving : Bool} (hs : NotShifting s) (hm : moving = false ∨ s.interlock.mode ≠ .pumpStationary) :
    Stands (.conditions :: .readings :: fillsParts) (motionSet moving s) (setMoving moving s) ∧
    (setMoving moving s).interlock.conditions = trueConditions (setMoving moving s) := by
  have hmoves : ∀ f ∈ [conditionEvent, motionTrip moving tripAndOrder, motionTank .main, motionTank .reserve], ∀ y : State,
      NotShifting y → (moving = false ∨ y.interlock.mode ≠ .pumpStationary) →
      Moves (.conditions :: .readings :: fillsParts) true y (f y) := by
    intro f hf y hy hmode
    obtain rfl | h := motionAct_cases hf
    · rw [motionTrip_of_ne _ hmode]
      exact .refl ..
    · exact (h y).calmed (by decide) hy (by decide) (by decide)
  have hkept : ∀ y z : State, Moves (.conditions :: .readings :: fillsParts) true y z → NotShifting y →
      (moving = false ∨ y.interlock.mode ≠ .pumpStationary) →
      NotShifting z ∧ (moving = false ∨ z.interlock.mode ≠ .pumpStationary) := by
    intro y z h hy hmode
    obtain ⟨hd, hmo⟩ := h.calm (by decide) hy
    exact ⟨notShifting_of_drive_eq hd hy, hmode.imp_right fun e => by rwa [(hmo (by decide)).1]⟩
  have htrue : ∀ n : Tank, ∀ y : State, NotShifting y → y.interlock.conditions = trueConditions y →
      (motionTank n y).interlock.conditions = trueConditions (motionTank n y) := by
    intro n y hy hc
    have h := (moves_motionTank (t := n) (K := .readings :: fillParts n) (b := true) (by simp) (by simp) (.refl _ _ y))
    rw [h.stands.conditions (by cases n <;> decide) (by cases n <;> decide), hc,
      h.stands.trueConditions (by cases n <;> decide) (by cases n <;> decide) (by cases n <;> decide)
        (by cases n <;> decide) (by cases n <;> decide) (by cases n <;> decide) (by cases n <;> decide)
        (h.calm (by cases n <;> decide) hy).1]
  let P := fun y : State => Moves (.conditions :: .readings :: fillsParts) true (motionSet moving s) y ∧ NotShifting y ∧
    (moving = false ∨ y.interlock.mode ≠ .pumpStationary)
  have hP : ∀ f ∈ [conditionEvent, motionTrip moving tripAndOrder, motionTank .main, motionTank .reserve], ∀ y, P y → P (f y) :=
    fun f hf y hy => ⟨hy.1.trans (hmoves f hf y hy.2.1 hy.2.2), hkept y _ (hmoves f hf y hy.2.1 hy.2.2) hy.2.1 hy.2.2⟩
  have hdone : ∀ y, NotShifting y → (conditionEvent y).interlock.conditions = trueConditions (conditionEvent y) := by
    intro y hy
    rw [conditionEvent_notShifting y hy]
    rfl
  have hres := runInOrder_reaches (P := P) (Q := fun y => P y ∧ y.interlock.conditions = trueConditions y)
    (fun y f hy => ⟨hy.1.trans (.choices ..), hy.2⟩) conditionEvent
    [conditionEvent, motionTrip moving tripAndOrder, motionTank .main, motionTank .reserve] (by simp) hP
    (fun f hf y hy => ⟨hP f hf y hy.1, ?_⟩) (fun y hy => ⟨hP _ (by simp) y hy, hdone y hy.2.1⟩) (motionSet moving s)
    ⟨.refl .., hs, hm⟩
  · rw [setMoving_eq]
    exact ⟨hres.1.1.stands, hres.2⟩
  · simp only [List.mem_cons, List.not_mem_nil, or_false] at hf
    obtain rfl | rfl | rfl | rfl := hf
    · exact hdone y hy.1.2.1
    · rw [motionTrip_of_ne _ hy.1.2.2]
      exact hy.2
    · exact htrue _ y hy.1.2.1 hy.2
    · exact htrue _ y hy.1.2.1 hy.2

/-- Settles O28. -/
theorem motionTimersMoveTheState : Obligations.MotionTimersMoveTheState := by
  refine ⟨fun s c moving hp h => ?_, fun s c hp h => ?_⟩
  · have hexec : exec c s = .next (finish (setMoving moving s.fresh)) := by
      obtain ⟨rfl, ht, rfl⟩ | ⟨rfl, ht, rfl⟩ := h
      · exact exec_leaves (f := expireRise) hp rfl ((ite_isNone ..).trans (if_pos (by exact ht)))
      · exact exec_leaves (f := expireFall) hp rfl ((ite_isNone ..).trans (if_pos (by exact ht)))
    obtain ⟨hm, hr, hf⟩ := setMoving_watch moving s.fresh
    refine ⟨_, hexec, hm, hr, hf, fun hmov n => ?_, fun hs hmode => ?_⟩
    · subst hmov
      exact setMoving_suspends s.fresh n
    · obtain ⟨hst, hcond⟩ := setMoving_calm (s := s.fresh) hs hmode
      generalize setMoving moving s.fresh = u at *
      obtain ⟨hframe, hvalves, hlevel⟩ := hst.fills
      exact ⟨hcond, hframe, hvalves, hlevel⟩
  · obtain ⟨rfl, ht⟩ | ⟨rfl, ht⟩ := h
    · exact exec_leaves hp rfl (if_pos (Option.isNone_iff_eq_none.2 ht))
    · exact exec_leaves hp rfl (if_pos (Option.isNone_iff_eq_none.2 ht))

end Sys2Proof.Machine
end

section
/-! PROOFS. CHANGE_KIND, and what a changed input is handed on to (O36). -/

namespace Sys2Proof.Machine

variable {K : List Part} {s t x y : State}

/-! ### CHANGE_KIND (R35) -/

theorem setMode_governor {m : OpMode} (hm : m ≠ .motionTrip) (c : ModeCause) (s : State) :
    (setMode m c s).governor = { s.governor with
      demand := (setMode m c s).governor.demand, ceiling := (setMode m c s).governor.ceiling
      binding := (setMode m c s).governor.binding, inputs := (setMode m c s).governor.inputs } :=
  (moves_setMode (K := modeParts) (b := true) (List.Subset.refl _) (fun h => absurd h hm) (.refl ..)).stands.pair (by decide)

/-- The mode of an engagement kind (R26). -/
def kindMode : Kind → OpMode
  | .stationary => .pumpStationary
  | .roll => .pumpRoll

theorem kindMode_ne_trip (k : Kind) : kindMode k ≠ .motionTrip := by cases k <;> decide

/-- The entry check finds the vehicle standing with its parking brake set (R27), or the mode has none. -/
def MayStand (k : Kind) (s : State) : Prop := k = .roll ∨ (s.interlock.moving = false ∧ s.asserted .parkBrake = true)

theorem enterKindMode_stands {k : Kind} {c : ModeCause} (h : MayStand k s) :
    enterKindMode k c s = setMode (kindMode k) c s := by
  cases k with
  | roll => rfl
  | stationary =>
    obtain ⟨hmov, hbrake⟩ := h.resolve_left (by simp)
    obtain ⟨hframe, -⟩ := setMode_spec (m := .pumpStationary) (by decide) c s
    have hstill : (setMode .pumpStationary c s).interlock.moving = false := by rw [hframe]; exact hmov
    have hset : (setMode .pumpStationary c s).asserted .parkBrake = true := by rw [hframe]; exact hbrake
    show checkStationary (setMode .pumpStationary c s) = _
    unfold checkStationary
    rw [if_neg (not_not.2 (setMode_mode ..)), if_neg (by rw [hstill]; decide), if_neg (by rw [hset]; decide)]
    rfl

theorem enterKindMode_trips {c : ModeCause} (h : s.interlock.moving = true ∨ s.asserted .parkBrake = false) :
    ∃ d, enterKindMode .stationary c s = tripMode d (setMode .pumpStationary c s) := by
  obtain ⟨hframe, -⟩ := setMode_spec (m := .pumpStationary) (by decide) c s
  have hmov : (setMode .pumpStationary c s).interlock.moving = s.interlock.moving := by rw [hframe]; rfl
  have hbrake : (setMode .pumpStationary c s).asserted .parkBrake = s.asserted .parkBrake := by rw [hframe]; rfl
  show ∃ d, checkStationary (setMode .pumpStationary c s) = _
  unfold checkStationary
  rw [if_neg (not_not.2 (setMode_mode ..)), hmov, hbrake]
  by_cases hm : s.interlock.moving = true
  · exact ⟨.moving, if_pos hm⟩
  · exact ⟨.parkBrake, (if_neg hm).trans (if_pos (h.resolve_left hm))⟩

/-- The state in which a change of kind enters the mode. -/
def kindSet (k : Kind) (s : State) : State := s.modDrive fun d => { d with kind := some k }

theorem changeKind_stands {k : Kind} (h : MayStand k s) : changeKind k s = setMode (kindMode k) .changeKind (kindSet k s) := by
  have hact : changeKind k s = orderIfTripped (enterKindMode k .changeKind (kindSet k s)) := rfl
  rw [hact, enterKindMode_stands (by exact h)]
  exact if_neg (by rw [setMode_mode]; exact kindMode_ne_trip k)

theorem changeKind_trips (h : s.interlock.moving = true ∨ s.asserted .parkBrake = false) :
    ∃ d, changeKind .stationary s = tripAndOrder d (setMode .pumpStationary .changeKind (kindSet .stationary s)) := by
  have hact : changeKind .stationary s = orderIfTripped (enterKindMode .stationary .changeKind (kindSet .stationary s)) := rfl
  obtain ⟨d, hd⟩ := enterKindMode_trips (c := .changeKind) (s := kindSet .stationary s) h
  rw [hact, hd]
  exact ⟨d, if_pos (tripMode_mode ..)⟩

theorem actChangeKind_taken {k : Kind} (hj : judge s (changeEntry k) = .passed) :
    actChangeKind (BitVec.ofNat 8 k.ctorIdx) s =
      ⟨changeKind k s, .ok, codeByte (changeKind k s).interlock.mode.ctorIdx⟩ := by
  unfold actChangeKind
  rw [kindOfCode_kind]
  exact guarded_of_passed _ hj

theorem changeKind_taken {k : Kind} {tag : Byte} (hs : Ready s) (hj : judge s (changeEntry k) = .passed)
    (hstand : k = .roll ∨ (s.interlock.moving = false ∧ s.asserted .parkBrake = true)) : ∃ u : State,
    let n := record .modeChanged
      { old := some (.mode s.interlock.mode), new := some (.mode (if k = .roll then .pumpRoll else .pumpStationary))
        cause := some (.mode .changeKind) } s
    exec (.changeKind tag (BitVec.ofNat 8 k.ctorIdx)) s =
      .next (finish (u.answered 20 tag .ok [if k = .roll then 2 else 1])) ∧
    u = { s.fresh with
      drive := { s.drive with kind := some k }
      interlock := { s.interlock with
        mode := if k = .roll then .pumpRoll else .pumpStationary
        ceiling := if k = .roll then s.paramNat 22 else 1000
        recovery := none, trip := none }
      governor := u.governor, notices := n.notices, tx := n.tx } ∧
    u.governor.demand = min s.governor.demand (leastCeiling (ceilings u)) ∧
    u.governor.shadow = s.governor.shadow ∧ u.governor.active = s.governor.active := by
  have hact := actChangeKind_taken (s := holdRequest 20 tag s.fresh) ((judge_holdRequest_fresh ..).trans hj)
  have hmode := setMode_mode (kindMode k) .changeKind (kindSet k (holdRequest 20 tag s.fresh))
  have hgov := setMode_governor (kindMode_ne_trip k) .changeKind (kindSet k (holdRequest 20 tag s.fresh))
  obtain ⟨hframe, hdemand⟩ := setMode_spec (kindMode_ne_trip k) .changeKind (kindSet k (holdRequest 20 tag s.fresh))
  obtain ⟨hn, hx⟩ := record_congr (s := s) (t := kindSet k (holdRequest 20 tag s.fresh)) .modeChanged
    (modeChange s.interlock.mode (kindMode k) .changeKind) rfl rfl rfl rfl
  have hold : modeChange (kindSet k (holdRequest 20 tag s.fresh)).interlock.mode (kindMode k) .changeKind =
    modeChange s.interlock.mode (kindMode k) .changeKind := rfl
  rw [changeKind_stands (s := holdRequest 20 tag s.fresh) hstand, hmode] at hact
  rw [hold, hn, hx] at hframe
  generalize setMode (kindMode k) .changeKind (kindSet k (holdRequest 20 tag s.fresh)) = u at *
  have hlink : u.link = (holdRequest 20 tag s.fresh).link := (congrArg State.link hframe :)
  cases k with
  | stationary =>
    refine ⟨{ u with link := s.link }, exec_taken_link (r := .changeKind _) rfl rfl rfl hs hact hlink, ?_, hdemand, ?_, ?_⟩
    · exact (congrArg (fun x : State => { x with link := s.link }) hframe).trans rfl
    · exact (congrArg Governor.shadow hgov).trans rfl
    · exact (congrArg Governor.active hgov).trans rfl
  | roll =>
    refine ⟨{ u with link := s.link }, exec_taken_link (r := .changeKind _) rfl rfl rfl hs hact hlink, ?_, hdemand, ?_, ?_⟩
    · exact (congrArg (fun x : State => { x with link := s.link }) hframe).trans rfl
    · exact (congrArg Governor.shadow hgov).trans rfl
    · exact (congrArg Governor.active hgov).trans rfl

theorem changeKind_taken_trips {tag : Byte} (hs : Ready s) (hj : judge s .changeToStationary = .passed)
    (hmove : s.interlock.moving = true ∨ s.asserted .parkBrake = false) (hpto : s.drive.pto = .engaged)
    (hfb : s.qualified .ptoFb ≠ some false) : ∃ u : State,
    exec (.changeKind tag 0) s = .next (finish (u.answered 20 tag .ok [4])) ∧
    u.interlock.mode = .motionTrip ∧ u.interlock.ceiling = 0 ∧ u.drive.kind = some .stationary ∧
    (u.drive.pto = .rampdown ∨ u.drive.pto = .releasing) ∧ u.drive.release = some .motion ∧ u.governor.demand = 0 ∧
    u.supply.state = .idle ∧ .motion ∈ u.alarm.causes ∧ u.trend.fast = 30 := by
  have hact := actChangeKind_taken (k := .stationary) (s := holdRequest 20 tag s.fresh) ((judge_holdRequest_fresh ..).trans hj)
  obtain ⟨d, hd⟩ := changeKind_trips (s := holdRequest 20 tag s.fresh) hmove
  obtain ⟨hframe, -⟩ := setMode_spec (m := .pumpStationary) (by decide) .changeKind (kindSet .stationary (holdRequest 20 tag s.fresh))
  rw [hd] at hact
  generalize setMode .pumpStationary .changeKind (kindSet .stationary (holdRequest 20 tag s.fresh)) = y at *
  have hy : y.drive = { s.drive with kind := some .stationary } := congrArg State.drive hframe
  have hterm : y.terminals = s.terminals := (congrArg State.terminals hframe :)
  obtain ⟨htrip, hstop⟩ := tripAndOrder_stops d (s := y) (by rw [hy]; exact hpto) (by rw [qualified_congr hterm]; exact hfb)
  have hlink : (tripAndOrder d y).link = (holdRequest 20 tag s.fresh).link :=
    (moves_tripWithOrder d y).stands.link.trans (congrArg State.link hframe :)
  rw [htrip.mode] at hact
  generalize tripAndOrder d y = u at *
  refine ⟨{ u with link := s.link }, exec_taken_link (r := .changeKind _) rfl rfl rfl hs hact hlink, htrip.mode, htrip.ceiling,
    ?_, ?_, ?_, hstop.demand, hstop.rest.state, htrip.alarm, htrip.fast⟩
  · show u.drive.kind = _
    rw [hstop.drive, leavingRecord, hy]
    split <;> rfl
  · show u.drive.pto = _ ∨ u.drive.pto = _
    rw [hstop.drive, leavingRecord_pto]
    split <;> simp
  · show u.drive.release = _
    rw [hstop.drive, leavingRecord_release]

/-! ### PARK_BRAKE and NEUTRAL (R28) -/

theorem conditionEvent_refresh (h : NotShifting s) : conditionEvent s =
    { s with interlock := { s.interlock with conditions := trueConditions s } } := conditionEvent_notShifting s h

theorem runInOrder_event (f : State → State) (s : State) :
    runInOrder [conditionEvent, f] s = f (conditionEvent (s.modChoices (·.drop 2))) ∨
    runInOrder [conditionEvent, f] s = conditionEvent (f (s.modChoices (·.drop 2))) := runInOrder_pair ..

theorem tripOnLoss_lost {c : ModeCause} (h : s.interlock.mode = .pumpStationary) : tripOnLoss c false s = tripMode c s :=
  if_pos ⟨rfl, h⟩

theorem lossHandOn (c : ModeCause) (hmode : s.interlock.mode = .pumpStationary) (hs : NotShifting s) :
    let u := runInOrder [conditionEvent, tripOnLoss c false] s
    (∀ a : AlarmCause, a ∈ u.alarm.causes ↔ a ∈ s.alarm.causes ∨ a = .motion) ∧ u.trend.fast = 30 ∧
    u.governor.demand = 0 ∧ u.governor.shadow = s.governor.shadow ∧ u.governor.active = s.governor.active ∧
    u.notices = (record .modeChanged
      { old := some (.mode .pumpStationary), new := some (.mode .motionTrip), cause := some (.mode c) } s).notices ∧
    u = { s with
      interlock := { s.interlock with
        mode := .motionTrip, ceiling := 0, recovery := none, trip := none, conditions := u.interlock.conditions }
      governor := u.governor, alarm := u.alarm, trend := u.trend, notices := u.notices, tx := u.tx
      choices := u.choices } := by
  have hevent : conditionEvent (s.modChoices (·.drop 2)) = { s with
      interlock := { s.interlock with conditions := trueConditions s }, choices := s.choices.drop 2 } :=
    conditionEvent_refresh (s := s.modChoices (·.drop 2)) hs
  dsimp only
  obtain e | e := runInOrder_event (tripOnLoss c false) s <;> rw [e]
  · rw [hevent, tripOnLoss_lost (by exact hmode)]
    obtain ⟨hframe, halarm, hfast, hdemand, hgov, hnotices⟩ := tripMode_spec c { s with
      interlock := { s.interlock with conditions := trueConditions s }, choices := s.choices.drop 2 }
    generalize tripMode c _ = u at *
    refine ⟨halarm, hfast, hdemand, by rw [hgov], by rw [hgov], ?_, ?_⟩
    · refine hnotices.trans ?_
      rw [modeChange, show ({ s with
        interlock := { s.interlock with conditions := trueConditions s }, choices := s.choices.drop 2 } : State).interlock.mode =
          .pumpStationary from hmode]
      exact (record_congr (s := s) (t := { s with
        interlock := { s.interlock with conditions := trueConditions s }, choices := s.choices.drop 2 }) _ _ rfl rfl rfl rfl).1
    · rw [hframe]
  · rw [tripOnLoss_lost (by exact hmode)]
    obtain ⟨hframe, halarm, hfast, hdemand, hgov, hnotices⟩ := tripMode_spec c (s.modChoices (·.drop 2))
    have hdrive := tripMode_drive c (s.modChoices (·.drop 2))
    generalize tripMode c (s.modChoices (·.drop 2)) = v at *
    rw [conditionEvent_refresh (notShifting_of_drive_eq (hdrive.trans rfl : v.drive = s.drive) hs)]
    refine ⟨halarm, hfast, hdemand, by rw [hgov]; rfl, by rw [hgov]; rfl, ?_, ?_⟩
    · refine hnotices.trans ?_
      rw [modeChange, show (s.modChoices (·.drop 2)).interlock.mode = .pumpStationary from hmode]
      exact (record_congr (s := s) (t := s.modChoices (·.drop 2)) _ _ rfl rfl rfl rfl).1
    · generalize trueConditions v = l
      rw [hframe]
      rfl

/-! ### The order of a trip, and ROLL_SELECT (R28, R31) -/

theorem deliverOrder_stands {m : OpMode} (h : m = .motionTrip ∨ s.interlock.mode ≠ .motionTrip ∨ s.drive.pto = .rampdown ∨
    s.drive.pto = .releasing ∨ s.drive.pto = .fault ∨ s.drive.pto = .disengaged) : deliverOrder m s = s := by
  unfold deliverOrder
  split
  · next hc =>
    have hpto := (h.resolve_left hc.1).resolve_left (not_not.2 hc.2)
    unfold disengageOrder
    obtain e | e | e | e := hpto <;> rw [e]
  · rfl

theorem deselectRoll_lost (h : s.interlock.mode = .pumpRoll ∨ s.interlock.mode = .rollOverspeed) :
    deselectRoll false s = disengageOrder .rollDeselect s := if_pos ⟨rfl, h⟩

/-- The mode after an order from ENGAGED. -/
theorem disengageOrder_modeAtExit (c : ReleaseCause) (hpto : s.drive.pto = .engaged) (hfb : s.qualified .ptoFb ≠ some false) :
    ModeAtExit true s.choices s (disengageOrder c s) := by
  rw [disengageOrder_engaged c hpto hfb]
  exact handExit_modeAtExit true (rampStarted_notShifting c s)

theorem rollHandOn (hmode : s.interlock.mode = .pumpRoll ∨ s.interlock.mode = .rollOverspeed) (hpto : s.drive.pto = .engaged)
    (hfb : s.qualified .ptoFb ≠ some false) :
    let u := runInOrder [conditionEvent, deselectRoll false] s
    ModeAtExit true (s.choices.drop 2) s u ∧ u.drive.release = some .rollDeselect ∧
    u.drive.pto = (if s.engineSpeed ≤ s.paramNat 24 then .releasing else .rampdown) ∧ u.governor.demand = 0 ∧
    u.governor.shadow = .idle ∧ u.supply.state = .idle := by
  have hevent : conditionEvent (s.modChoices (·.drop 2)) = { s with
      interlock := { s.interlock with conditions := trueConditions s }, choices := s.choices.drop 2 } :=
    conditionEvent_refresh (s := s.modChoices (·.drop 2)) (notShifting_of_engaged hpto)
  have hdone : ∀ x : State, PumpStopped .rollDeselect s x → x.drive.release = some .rollDeselect ∧
      x.drive.pto = (if s.engineSpeed ≤ s.paramNat 24 then .releasing else .rampdown) ∧ x.governor.demand = 0 ∧
      x.governor.shadow = .idle ∧ x.supply.state = .idle := fun x hx =>
    ⟨by rw [hx.drive, leavingRecord_release], by rw [hx.drive, leavingRecord_pto], hx.demand, hx.shadow, hx.rest.state⟩
  dsimp only
  obtain e | e := runInOrder_event (deselectRoll false) s <;> rw [e]
  · rw [hevent, deselectRoll_lost (by exact hmode)]
    have hexit := disengageOrder_modeAtExit .rollDeselect (s := { s with
      interlock := { s.interlock with conditions := trueConditions s }, choices := s.choices.drop 2 }) hpto hfb
    have hstop := disengageOrder_stopped .rollDeselect (s := { s with
      interlock := { s.interlock with conditions := trueConditions s }, choices := s.choices.drop 2 }) hpto hfb
    exact ⟨hexit, hdone _ ⟨hstop.1, hstop.2, hstop.3, hstop.4, hstop.5, hstop.6⟩⟩
  · rw [deselectRoll_lost (by exact hmode)]
    have hexit := disengageOrder_modeAtExit .rollDeselect (s := s.modChoices (·.drop 2)) hpto hfb
    have hstop := disengageOrder_stopped .rollDeselect (s := s.modChoices (·.drop 2)) hpto hfb
    generalize disengageOrder .rollDeselect (s.modChoices (·.drop 2)) = v at *
    rw [conditionEvent_refresh (leavingRecord_notShifting hstop.drive)]
    generalize trueConditions v = l
    exact ⟨hexit, hdone _ ⟨hstop.1, hstop.2, hstop.3, hstop.4, hstop.5, hstop.6.of_eq rfl rfl fun _ _ => rfl⟩⟩

/-- A condition event leaves the mode or takes it to ROAD. -/
theorem modeOnDisengaged_mode (s : State) :
    (modeOnDisengaged s).interlock.mode = s.interlock.mode ∨ (modeOnDisengaged s).interlock.mode = .road := by
  by_cases h : s.interlock.mode = .motionTrip
  · right
    rw [(modeOnDisengaged_trip h).1]
  · left
    rw [modeOnDisengaged_of_ne h]

theorem endRelease_mode (v : Int) (s : State) :
    (endRelease v s).interlock.mode = s.interlock.mode ∨ (endRelease v s).interlock.mode = .road := by
  rw [endRelease_eq]
  refine (modeOnDisengaged_mode _).imp_left fun h => h.trans ?_
  rw [(driveEnded_spec ..).1]

theorem confirmRelease_mode (s : State) :
    (confirmRelease s).interlock.mode = s.interlock.mode ∨ (confirmRelease s).interlock.mode = .road := by
  obtain e | ⟨-, -, e⟩ := confirmRelease_cases s <;> rw [e]
  · exact .inl rfl
  · exact endRelease_mode 0 s

theorem abortEngagement_mode (a : AbortCause) (c : ReleaseCause) (l : Option (List Condition)) (s : State) :
    (abortEngagement a c l s).interlock.mode = s.interlock.mode ∨ (abortEngagement a c l s).interlock.mode = .road := by
  rw [abortEngagement_eq]
  exact confirmRelease_mode _

theorem stopOutsideEngaged_mode (s : State) :
    (stopOutsideEngaged s).interlock.mode = s.interlock.mode ∨ (stopOutsideEngaged s).interlock.mode = .road := by
  have halarm : (addAlarm .stop s).interlock = s.interlock := by rw [addAlarm_frame]
  unfold stopOutsideEngaged
  split
  case h_1 | h_2 | h_3 =>
    rw [← halarm]
    exact abortEngagement_mode ..
  case h_4 =>
    rw [← halarm]
    exact confirmRelease_mode (startRelease .panelStop (addAlarm .stop s))
  case h_5 => exact .inl (congrArg Interlock.mode halarm)
  all_goals exact .inl rfl

theorem conditionReport_mode (l : List Condition) (s : State) :
    (conditionReport l s).interlock.mode = s.interlock.mode ∨ (conditionReport l s).interlock.mode = .road := by
  unfold conditionReport
  split
  · exact stopOutsideEngaged_mode s
  split
  case h_1 | h_2 | h_3 =>
    split
    · exact .inl rfl
    · exact abortEngagement_mode ..
  all_goals exact .inl rfl

theorem conditionEvent_mode (s : State) :
    (conditionEvent s).interlock.mode = s.interlock.mode ∨ (conditionEvent s).interlock.mode = .road := by
  unfold conditionEvent
  split
  · exact .inl rfl
  dsimp only
  split
  · split
    · exact conditionReport_mode _ (refreshConditions s)
    · exact .inl rfl
  · exact .inl rfl

/-- Where the second block does nothing the hand-on is the evaluation of the conditions. -/
theorem runInOrder_event_alone {f : State → State} (hf : f (s.modChoices (·.drop 2)) = s.modChoices (·.drop 2))
    (hg : f (conditionEvent (s.modChoices (·.drop 2))) = conditionEvent (s.modChoices (·.drop 2))) :
    runInOrder [conditionEvent, f] s = conditionEvent (s.modChoices (·.drop 2)) := by
  obtain e | e := runInOrder_event f s <;> rw [e]
  · exact hg
  · rw [hf]

theorem handOn_alone (n : Terminal) {r : Role} {b : Bool}
    (h : ((r = .parkBrake ∨ r = .neutral) ∧ (b = true ∨ s.interlock.mode ≠ .pumpStationary)) ∨
      (r = .rollSelect ∧ (b = true ∨ (s.interlock.mode ≠ .pumpRoll ∧ s.interlock.mode ≠ .rollOverspeed)))) :
    inputChange n r b s = conditionEvent { s with choices := s.choices.drop 2 } := by
  have hmode := conditionEvent_mode (s.modChoices (·.drop 2))
  have hloss : ∀ c, b = true ∨ s.interlock.mode ≠ .pumpStationary →
      runInOrder [conditionEvent, tripOnLoss c b] s = conditionEvent (s.modChoices (·.drop 2)) := by
    intro c hb
    refine runInOrder_event_alone (if_neg fun hc => ?_) (if_neg fun hc => ?_)
    · obtain rfl | hb := hb
      · simp at hc
      · exact hb hc.2
    · obtain rfl | hb := hb
      · simp at hc
      · obtain e | e := hmode
        · exact hb (e.symm.trans hc.2)
        · simp [e] at hc
  obtain ⟨rfl | rfl, hb⟩ | ⟨rfl, hb⟩ := h
  · exact hloss _ hb
  · exact hloss _ hb
  · refine runInOrder_event_alone (f := deselectRoll b) (if_neg fun hc => ?_) (if_neg fun hc => ?_)
    · obtain rfl | hb := hb
      · simp at hc
      · exact hc.2.elim hb.1 hb.2
    · obtain rfl | hb := hb
      · simp at hc
      · obtain e | e := hmode
        · rw [e] at hc
          exact hc.2.elim hb.1 hb.2
        · simp [e] at hc

end Sys2Proof.Machine
end

section
/-! PROOFS. PANEL_STOP (R60) and the report of a condition change (R39, R55), for O36. -/

namespace Sys2Proof.Machine

variable {K : List Part} {s t x y : State}

/-- A notice recorded in a state that differs elsewhere. -/
theorem record_with (k : NoticeKind) (n : NoticeBody) (hnotices : t.notices = s.notices) (htx : t.tx = s.tx)
    (htag : t.clock.tag = s.clock.tag) (hhold : t.link.hold = s.link.hold) :
    record k n t = { t with notices := (record k n s).notices, tx := (record k n s).tx } := by
  obtain ⟨hn, hx⟩ := record_congr k n hnotices htx htag hhold
  rw [← hn, ← hx]
  exact record_eq_with k n t

/-- A notice recorded after another one, in a state that differs elsewhere. -/
theorem record_after (k l : NoticeKind) (n m : NoticeBody) (hnotices : t.notices = (record k n s).notices)
    (htx : t.tx = (record k n s).tx) (htag : t.clock.tag = s.clock.tag) (hhold : t.link.hold = s.link.hold) :
    (record l m t).notices = (record l m (record k n s)).notices := by
  have hst := stands_record_notices k n s
  exact (record_congr l m hnotices htx (by rw [hst.clock, htag]) (by rw [hst.link, hhold])).1

/-- Two notices recorded in states that differ elsewhere. -/
theorem record_congr_twice (k l : NoticeKind) (n m : NoticeBody) (hnotices : t.notices = s.notices) (htx : t.tx = s.tx)
    (htag : t.clock.tag = s.clock.tag) (hhold : t.link.hold = s.link.hold) :
    (record l m (record k n t)).notices = (record l m (record k n s)).notices := by
  obtain ⟨hn, hx⟩ := record_congr k n hnotices htx htag hhold
  have hst := stands_record_notices k n t
  exact record_after k l n m hn hx (by rw [hst.clock, htag]) (by rw [hst.link, hhold])

/-- The body of PANEL_STOP. -/
def stopBody (p : PtoState) : NoticeBody := { new := some (.qualified true), cause := some (.ptoState p) }

theorem panelStopAsserted_eq (s : State) : panelStopAsserted s = stopEffect (record .panelStop (stopBody s.drive.pto) s) := rfl

theorem addAlarm_stop (s : State) : ∃ a : Alarm, .stop ∈ a.causes ∧ addAlarm .stop s = { s with alarm := a } :=
  ⟨_, (mem_addAlarm ..).2 (.inl rfl), addAlarm_frame ..⟩

/-! ### PANEL_STOP in ENGAGED -/

theorem handExit_cause {c : AlarmCause} (hc : c ∈ keptCauses) (hne : c ≠ .motion) (sample : Bool) (hs : NotShifting s) :
    c ∈ (handExit sample s).alarm.causes ↔ c ∈ s.alarm.causes := by
  have h := ((moves_handExit (K := exitParts) (b := true) (sample := sample) (List.Subset.refl _) (.refl _ _ s)).calmed
    (L := .conditions :: exitParts.filter (· ≠ .event)) (by decide) hs (by simp) (fun p hp hn => by simp [hp, hn])).stands
  refine h.cause c hc ?_ (fun _ => by decide)
  have hK : .cause c ∉ exitParts := by
    simp only [keptCauses, List.mem_cons, List.not_mem_nil, or_false] at hc
    obtain rfl | rfl | rfl | rfl | rfl := hc
    · exact absurd rfl hne
    all_goals decide
  simp [hK]

/-- What a release from ENGAGED without RAMPDOWN leaves (R60). -/
theorem stopEffect_engaged (hpto : s.drive.pto = .engaged) (hfb : s.qualified .ptoFb ≠ some false) :
    let u := stopEffect s
    u.drive = releasingRecord .panelStop s.drive ∧ .stop ∈ u.alarm.causes ∧ u.governor.demand = 0 ∧
    u.governor.shadow = .idle ∧ AtRest u ∧ ModeAtExit false s.choices s u := by
  obtain ⟨a, ha, halarm⟩ := addAlarm_stop s
  have hact : stopEffect s = confirmRelease (handExit false (startRelease .panelStop { s with alarm := a })) := by
    unfold stopEffect
    rw [if_pos hpto, halarm]
  have hcalm : NotShifting (startRelease .panelStop { s with alarm := a }) := by simp [NotShifting, startRelease]
  have hdrive := handExit_drive false hcalm
  have hq := handExit_qualified false (startRelease .panelStop { s with alarm := a })
  have hstop := (handExit_cause (c := .stop) (by decide) (by decide) false hcalm).2 ha
  have hmode := handExit_modeAtExit false hcalm
  have hrest := handExit_atRest false (startRelease .panelStop { s with alarm := a })
  have hpair := (handExit_pair false (startRelease .panelStop { s with alarm := a })).1
  have hdemand := handExit_demand false (startRelease .panelStop { s with alarm := a })
  rw [confirmRelease_unshown (by rw [hq]; exact hfb)] at hact
  dsimp only
  rw [hact]
  exact ⟨hdrive, hstop, hdemand, hpair, hrest, hmode⟩

theorem panelStopAsserted_engaged (hpto : s.drive.pto = .engaged) (hfb : s.qualified .ptoFb ≠ some false) :
    let u := panelStopAsserted s
    u.drive = releasingRecord .panelStop s.drive ∧ .stop ∈ u.alarm.causes ∧ u.governor.demand = 0 ∧
    u.governor.shadow = .idle ∧ AtRest u ∧ ModeAtExit false s.choices s u := by
  obtain ⟨n, x, hrecord⟩ := record_exists .panelStop (stopBody s.drive.pto) s
  rw [panelStopAsserted_eq, hrecord]
  exact stopEffect_engaged (s := { s with notices := n, tx := x }) hpto hfb

theorem panelStop_engaged (hpto : s.drive.pto = .engaged) (hfb : s.qualified .ptoFb ≠ some false) :
    let u := runInOrder [conditionEvent, panelStopChange true] s
    u.drive = releasingRecord .panelStop s.drive ∧ .stop ∈ u.alarm.causes ∧ u.governor.demand = 0 ∧
    u.governor.shadow = .idle ∧ u.supply.state = .idle ∧ u.valves.mainValve.openCmd = false ∧
    u.valves.reserveValve.openCmd = false ∧ ModeAtExit false (s.choices.drop 2) s u := by
  have hact : panelStopChange true = panelStopAsserted := rfl
  dsimp only
  obtain e | e := runInOrder_event (panelStopChange true) s <;> rw [e, hact]
  · rw [conditionEvent_refresh (s := s.modChoices (·.drop 2)) (notShifting_of_engaged hpto)]
    obtain ⟨hdrive, hstop, hdemand, hshadow, hrest, hmode⟩ := panelStopAsserted_engaged (s := { s.modChoices (·.drop 2) with
      interlock := { (s.modChoices (·.drop 2)).interlock with conditions := trueConditions (s.modChoices (·.drop 2)) } })
      hpto hfb
    exact ⟨hdrive, hstop, hdemand, hshadow, hrest.state, hrest.mainValve, hrest.reserveValve, hmode⟩
  · obtain ⟨hdrive, hstop, hdemand, hshadow, hrest, hmode⟩ := panelStopAsserted_engaged (s := s.modChoices (·.drop 2)) hpto hfb
    generalize panelStopAsserted (s.modChoices (·.drop 2)) = v at *
    rw [conditionEvent_refresh (by simp [NotShifting, hdrive])]
    generalize trueConditions v = l
    exact ⟨hdrive, hstop, hdemand, hshadow, hrest.state, hrest.mainValve, hrest.reserveValve, hmode⟩

/-! ### PANEL_STOP while the clutch is shifted -/

theorem shifting_cases (h : ¬NotShifting s) : s.drive.pto = .precheck ∨ s.drive.pto = .shifting ∨ s.drive.pto = .settle := by
  unfold NotShifting at h
  tauto

theorem not_engaged_of_shifting (h : ¬NotShifting s) : s.drive.pto ≠ .engaged := fun e => h (notShifting_of_engaged e)

theorem stopOutsideEngaged_shifting (h : ¬NotShifting s) :
    stopOutsideEngaged s = abortEngagement .panelStop .panelStop none (addAlarm .stop s) := by
  unfold stopOutsideEngaged
  obtain e | e | e := shifting_cases h <;> rw [e]

/-- A stop while the clutch is shifted: the engagement abandoned, STOP in the alarm. -/
theorem stopOutsideEngaged_abandons (h : ¬NotShifting s) (hfb : s.qualified .ptoFb ≠ some false) :
    ∃ a : Alarm, .stop ∈ a.causes ∧ stopOutsideEngaged s = { s with
      drive := releasingRecord .panelStop s.drive, alarm := a
      notices := (record .engageAborted (abortBody .panelStop none s) s).notices
      tx := (record .engageAborted (abortBody .panelStop none s) s).tx } := by
  obtain ⟨a, ha, halarm⟩ := addAlarm_stop s
  obtain ⟨hn, hx⟩ := record_congr (s := s) (t := { s with alarm := a }) .engageAborted
    (abortBody .panelStop none s) rfl rfl rfl rfl
  refine ⟨a, ha, ?_⟩
  rw [stopOutsideEngaged_shifting h, halarm, abortEngagement_unshown _ _ _ (by exact hfb),
    show abortBody .panelStop none { s with alarm := a } = abortBody .panelStop none s from rfl, hn, hx]

theorem stopEffect_outside (h : s.drive.pto ≠ .engaged) : stopEffect s = stopOutsideEngaged s := if_neg h

theorem panelStopAsserted_shifting (h : ¬NotShifting s) (hfb : s.qualified .ptoFb ≠ some false) :
    let stop := record .panelStop (stopBody s.drive.pto) s
    ∃ a : Alarm, .stop ∈ a.causes ∧ panelStopAsserted s = { s with
      drive := releasingRecord .panelStop s.drive, alarm := a
      notices := (record .engageAborted (abortBody .panelStop none s) stop).notices
      tx := (record .engageAborted (abortBody .panelStop none s) stop).tx } := by
  obtain ⟨n, x, hrecord⟩ := record_exists .panelStop (stopBody s.drive.pto) s
  rw [panelStopAsserted_eq, hrecord, stopEffect_outside (by exact not_engaged_of_shifting h)]
  exact stopOutsideEngaged_abandons (s := { s with notices := n, tx := x }) h hfb

theorem panelStopAsserted_releasing (h : s.drive.pto = .releasing) :
    ∃ a : Alarm, .stop ∈ a.causes ∧ panelStopAsserted s = { s with
      alarm := a, notices := (record .panelStop (stopBody .releasing) s).notices
      tx := (record .panelStop (stopBody .releasing) s).tx } := by
  have hrecord := record_eq_with .panelStop (stopBody .releasing) s
  have hact : panelStopAsserted s = addAlarm .stop (record .panelStop (stopBody .releasing) s) := by
    rw [panelStopAsserted_eq, h, hrecord, stopEffect_outside (by simp [h])]
    unfold stopOutsideEngaged
    rw [show ({ s with
      notices := (record .panelStop (stopBody .releasing) s).notices
      tx := (record .panelStop (stopBody .releasing) s).tx } : State).drive.pto = .releasing from h]
  obtain ⟨a, ha, halarm⟩ := addAlarm_stop (record .panelStop (stopBody .releasing) s)
  refine ⟨a, ha, ?_⟩
  rw [hact, halarm]
  exact congrArg (fun z : State => { z with alarm := a }) hrecord

/-- STOP_CLEAR is required of an engagement (R40). -/
theorem stopClear_failing {k : Kind} (hl : LockoutWithinFixed s) (ha : s.asserted .panelStop = true) :
    .stopClear ∈ failingConditions s (engageEntry k) := by
  have hfixed : .stopClear ∈ (s.entry (engageEntry k)).conds :=
    (hl (engageEntry k) (by cases k <;> decide)).2 _ (by cases k <;> decide)
  refine List.mem_filter.2 ⟨by decide, ?_⟩
  simp [hfixed, conditionHolds, ha]

/-- The conditions refreshed, and the report that follows while the clutch is shifted. -/
theorem conditionEvent_shifting (h : ¬NotShifting s) : conditionEvent s = refreshConditions s ∨
    ∃ k, s.drive.kind = some k ∧
      conditionEvent s = conditionReport (failingConditions (refreshConditions s) (engageEntry k)) (refreshConditions s) := by
  have hengaging : engaging s.drive.pto = true := by
    obtain e | e | e := shifting_cases h <;> rw [e] <;> rfl
  by_cases e : trueConditions s = s.interlock.conditions
  · have hsame : refreshConditions s = s := by
      unfold refreshConditions State.modInterlock
      rw [e]
    exact .inl ((if_pos e).trans hsame.symm)
  · cases hk : s.drive.kind with
    | none => exact .inl (by simp [conditionEvent, e, hengaging, hk])
    | some k => exact .inr ⟨k, rfl, by simp [conditionEvent, e, hengaging, hk]⟩

theorem panelStop_shifting (h : ¬NotShifting s) (hl : LockoutWithinFixed s) (hstop : s.asserted .panelStop = true)
    (hfb : s.qualified .ptoFb ≠ some false) :
    let u := runInOrder [conditionEvent, panelStopChange true] s
    let stop := fun p : PtoState => record .panelStop { new := some (.qualified true), cause := some (.ptoState p) }
    let abort := record .engageAborted
      { old := some (.pto s.drive.pto), new := some (.pto .releasing), cause := some (.abort .panelStop) }
    u.drive = releasingRecord .panelStop s.drive ∧ .stop ∈ u.alarm.causes ∧
    (u.notices = (abort (stop s.drive.pto s)).notices ∨ u.notices = (stop .releasing (abort s)).notices) ∧
    u = { s with
      drive := u.drive, alarm := u.alarm, notices := u.notices, tx := u.tx, choices := u.choices
      interlock := { s.interlock with conditions := u.interlock.conditions } } := by
  have hother : ∀ y : State, NotShifting y → conditionEvent y =
      { y with interlock := { y.interlock with conditions := trueConditions y } } := fun y hy => conditionEvent_refresh hy
  dsimp only
  obtain e | e := runInOrder_event (panelStopChange true) s
  · obtain hr | ⟨k, -, hr⟩ := conditionEvent_shifting (s := s.modChoices (·.drop 2)) h
    · obtain ⟨a, ha, hu⟩ := panelStopAsserted_shifting (s := refreshConditions (s.modChoices (·.drop 2))) h hfb
      have e' := (e.trans (congrArg (panelStopChange true) hr)).trans hu
      rw [e']
      exact ⟨rfl, ha, .inl (record_congr_twice (s := s) (t := refreshConditions (s.modChoices (·.drop 2))) .panelStop
        .engageAborted _ _ rfl rfl rfl rfl), rfl⟩
    · obtain ⟨a, ha, hy⟩ := stopOutsideEngaged_abandons (s := refreshConditions (s.modChoices (·.drop 2))) h hfb
      have hfail : .stopClear ∈ failingConditions (refreshConditions (s.modChoices (·.drop 2))) (engageEntry k) :=
        stopClear_failing hl hstop
      have hr' := (hr.trans (if_pos hfail)).trans hy
      obtain ⟨hn, hx⟩ := record_congr (s := s) (t := refreshConditions (s.modChoices (·.drop 2))) .engageAborted
        (abortBody .panelStop none s) rfl rfl rfl rfl
      rw [show abortBody .panelStop none (refreshConditions (s.modChoices (·.drop 2))) = abortBody .panelStop none s from rfl,
        hn, hx] at hr'
      have e' := e.trans (congrArg (panelStopChange true) hr')
      obtain ⟨c, hc, hu⟩ := panelStopAsserted_releasing (s := conditionEvent (s.modChoices (·.drop 2))) (by rw [hr'])
      rw [hr'] at hu
      rw [e'.trans hu]
      exact ⟨rfl, hc, .inr (record_after (s := s) .engageAborted .panelStop _ _ rfl rfl rfl rfl), rfl⟩
  · obtain ⟨a, ha, hu⟩ := panelStopAsserted_shifting (s := s.modChoices (·.drop 2)) h hfb
    have e' := e.trans ((congrArg conditionEvent hu).trans (hother _ (by simp [NotShifting])))
    rw [e']
    exact ⟨rfl, ha, .inl (record_congr_twice (s := s) (t := s.modChoices (·.drop 2)) .panelStop .engageAborted _ _ rfl rfl rfl rfl),
      rfl⟩

end Sys2Proof.Machine
end

section
/-! PROOFS. PANEL_STOP in the other PTO states, and condition reports, for O36. -/

namespace Sys2Proof.Machine

variable {K : List Part} {s t x y : State}

/-! ### PANEL_STOP where the clutch is not shifted -/

theorem trueConditions_congr (h : ∀ c, conditionHolds t c = conditionHolds s c) : trueConditions t = trueConditions s :=
  List.filter_congr fun c _ => h c

/-- Neither the alarm, the notices nor a record of the drive that is as much in FAULT bear on the conditions. -/
theorem trueConditions_drive {d : Drive} {a : Alarm} {n : Notices} {w : Option TxFrame} {ch : List Nat}
    (h : d.pto = .fault ↔ s.drive.pto = .fault) :
    trueConditions { s with drive := d, alarm := a, notices := n, tx := w, choices := ch } = trueConditions s := by
  refine trueConditions_congr fun c => ?_
  cases c
  case noPtoFault => simp [conditionHolds, bne, Bool.beq_eq_decide_eq, h]
  all_goals rfl

/-- The drive record as a panel stop leaves it outside ENGAGED and the shift (R60). -/
def stoppedDrive (d : Drive) : Drive := if d.pto = .rampdown then releasingRecord .panelStop d else d

theorem stoppedDrive_fault (d : Drive) : (stoppedDrive d).pto = .fault ↔ d.pto = .fault := by
  unfold stoppedDrive
  split
  · next h => simp [h]
  · rfl

/-- A panel stop in DISENGAGED, FAULT, RELEASING or RAMPDOWN. -/
theorem panelStopAsserted_standing (h : s.drive.pto = .disengaged ∨ s.drive.pto = .fault ∨ s.drive.pto = .releasing ∨
      (s.drive.pto = .rampdown ∧ s.qualified .ptoFb ≠ some false)) :
    ∃ a : Alarm, (s.drive.pto = .disengaged ∨ s.drive.pto = .fault → a = s.alarm) ∧
      (s.drive.pto = .rampdown ∨ s.drive.pto = .releasing → .stop ∈ a.causes) ∧
      panelStopAsserted s = { s with
        drive := stoppedDrive s.drive, alarm := a, notices := (record .panelStop (stopBody s.drive.pto) s).notices
        tx := (record .panelStop (stopBody s.drive.pto) s).tx } := by
  have hrecord := record_eq_with .panelStop (stopBody s.drive.pto) s
  generalize hn : (record .panelStop (stopBody s.drive.pto) s).notices = n at hrecord
  generalize hx : (record .panelStop (stopBody s.drive.pto) s).tx = w at hrecord
  have hact : s.drive.pto ≠ .engaged → panelStopAsserted s = stopOutsideEngaged { s with notices := n, tx := w } := fun hne => by
    rw [panelStopAsserted_eq, hrecord]
    exact stopEffect_outside hne
  have hsame : ∀ p, s.drive.pto = p → p ≠ .rampdown → stoppedDrive s.drive = s.drive := fun p hp hne =>
    if_neg (by rw [hp]; exact hne)
  obtain h | h | h | ⟨h, hfb⟩ := h
  · refine ⟨s.alarm, fun _ => rfl, by simp [h], ?_⟩
    rw [hact (by simp [h]), hsame _ h (by decide)]
    unfold stopOutsideEngaged
    simp only [h]
  · refine ⟨s.alarm, fun _ => rfl, by simp [h], ?_⟩
    rw [hact (by simp [h]), hsame _ h (by decide)]
    unfold stopOutsideEngaged
    simp only [h]
  · obtain ⟨a, ha, halarm⟩ := addAlarm_stop { s with notices := n, tx := w }
    refine ⟨a, by simp [h], fun _ => ha, ?_⟩
    rw [hact (by simp [h]), hsame _ h (by decide)]
    unfold stopOutsideEngaged
    simp only [h, halarm]
  · obtain ⟨a, ha, halarm⟩ := addAlarm_stop { s with notices := n, tx := w }
    refine ⟨a, by simp [h], fun _ => ha, ?_⟩
    have hdrive : stoppedDrive s.drive = releasingRecord .panelStop s.drive := if_pos h
    rw [hact (by simp [h]), hdrive]
    unfold stopOutsideEngaged
    simp only [h, halarm]
    exact confirmRelease_unshown (by exact hfb)

theorem stoppedDrive_calm (h : s.drive.pto = .disengaged ∨ s.drive.pto = .fault ∨ s.drive.pto = .releasing ∨
      (s.drive.pto = .rampdown ∧ s.qualified .ptoFb ≠ some false)) (hy : y.drive = stoppedDrive s.drive) : NotShifting y := by
  unfold NotShifting
  rw [hy, stoppedDrive]
  obtain h | h | h | ⟨h, -⟩ := h <;> simp [h]

theorem panelStop_standing (h : s.drive.pto = .disengaged ∨ s.drive.pto = .fault ∨ s.drive.pto = .releasing ∨
      (s.drive.pto = .rampdown ∧ s.qualified .ptoFb ≠ some false)) :
    let u := runInOrder [conditionEvent, panelStopChange true] s
    u.drive = (if s.drive.pto = .rampdown then releasingRecord .panelStop s.drive else s.drive) ∧
    (s.drive.pto = .disengaged ∨ s.drive.pto = .fault → u.alarm = s.alarm) ∧
    (s.drive.pto = .rampdown ∨ s.drive.pto = .releasing → .stop ∈ u.alarm.causes) ∧
    u.notices = (record .panelStop
      { new := some (.qualified true), cause := some (.ptoState s.drive.pto) } s).notices ∧
    u = { s with
      drive := u.drive, alarm := u.alarm, notices := u.notices, tx := u.tx, choices := u.choices
      interlock := { s.interlock with conditions := trueConditions s } } := by
  have hcalm : NotShifting s := by
    unfold NotShifting
    obtain h | h | h | ⟨h, -⟩ := h <;> simp [h]
  dsimp only
  obtain e | e := runInOrder_event (panelStopChange true) s
  · have hevent : conditionEvent (s.modChoices (·.drop 2)) = { s with
        interlock := { s.interlock with conditions := trueConditions s }, choices := s.choices.drop 2 } :=
      conditionEvent_refresh (s := s.modChoices (·.drop 2)) hcalm
    obtain ⟨a, hsame, hstop, hu⟩ := panelStopAsserted_standing (s := { s with
      interlock := { s.interlock with conditions := trueConditions s }, choices := s.choices.drop 2 }) h
    rw [(e.trans (congrArg (panelStopChange true) hevent)).trans hu]
    exact ⟨rfl, hsame, hstop, (record_congr (s := s) (t := { s with
      interlock := { s.interlock with conditions := trueConditions s }, choices := s.choices.drop 2 }) .panelStop
      (stopBody s.drive.pto) rfl rfl rfl rfl).1, rfl⟩
  · obtain ⟨a, hsame, hstop, hu⟩ := panelStopAsserted_standing (s := s.modChoices (·.drop 2)) h
    have hevent := (congrArg conditionEvent hu).trans (conditionEvent_refresh (stoppedDrive_calm h rfl))
    have htrue := trueConditions_drive (s := s) (a := a) (n := (record .panelStop (stopBody s.drive.pto) (s.modChoices (·.drop 2))).notices)
      (w := (record .panelStop (stopBody s.drive.pto) (s.modChoices (·.drop 2))).tx) (ch := s.choices.drop 2)
      (stoppedDrive_fault s.drive)
    rw [e.trans hevent]
    exact ⟨rfl, hsame, hstop, (record_congr (s := s) (t := s.modChoices (·.drop 2)) .panelStop (stopBody s.drive.pto)
      rfl rfl rfl rfl).1, congrArg (fun l : List Condition => ({ s with
        drive := stoppedDrive s.drive, alarm := a, choices := s.choices.drop 2
        notices := (record .panelStop (stopBody s.drive.pto) (s.modChoices (·.drop 2))).notices
        tx := (record .panelStop (stopBody s.drive.pto) (s.modChoices (·.drop 2))).tx
        interlock := { s.interlock with conditions := l } } : State)) htrue⟩

/-- PANEL_STOP that is no more asserted (R60). -/
theorem panelStop_ended (hs : NotShifting s) :
    let u := runInOrder [conditionEvent, panelStopChange false] s
    ((s.drive.pto = .disengaged ∨ s.drive.pto = .fault) → s.asserted .panelStop = false → .stop ∉ u.alarm.causes) ∧
    (s.drive.pto ≠ .disengaged → s.drive.pto ≠ .fault → u.alarm = s.alarm) ∧
    u = { s with
      alarm := u.alarm, interlock := { s.interlock with conditions := trueConditions s }, choices := u.choices } := by
  have hact : panelStopChange false = reviewStop := rfl
  have hreview : ∀ z : State, ∃ a : Alarm,
      ((z.drive.pto = .disengaged ∨ z.drive.pto = .fault) → z.asserted .panelStop = false → .stop ∉ a.causes) ∧
      (z.drive.pto ≠ .disengaged → z.drive.pto ≠ .fault → a = z.alarm) ∧ reviewStop z = { z with alarm := a } := by
    intro z
    refine ⟨(reviewStop z).alarm, fun hpto ha => ?_, fun hd hf => ?_, reviewStop_frame z⟩
    · unfold reviewStop
      rw [if_pos ⟨hpto, ha⟩]
      simp
    · unfold reviewStop
      rw [if_neg fun hc => hc.1.elim hd hf]
  have hevent : conditionEvent (s.modChoices (·.drop 2)) = { s with
      interlock := { s.interlock with conditions := trueConditions s }, choices := s.choices.drop 2 } :=
    conditionEvent_refresh (s := s.modChoices (·.drop 2)) hs
  dsimp only
  obtain e | e := runInOrder_event (panelStopChange false) s <;> rw [e, hact]
  · obtain ⟨a, ha, hsame, hu⟩ := hreview { s with
      interlock := { s.interlock with conditions := trueConditions s }, choices := s.choices.drop 2 }
    rw [hevent, hu]
    exact ⟨ha, hsame, rfl⟩
  · obtain ⟨a, ha, hsame, hu⟩ := hreview (s.modChoices (·.drop 2))
    have hlast := (congrArg conditionEvent hu).trans (conditionEvent_refresh (by exact hs))
    rw [hlast]
    exact ⟨ha, hsame, rfl⟩

/-! ### Condition reports (R55) -/

theorem conditionEvent_reported {k : Kind} (h : ¬NotShifting s) (hne : trueConditions s ≠ s.interlock.conditions)
    (hk : s.drive.kind = some k) :
    conditionEvent s = conditionReport (failingConditions s (engageEntry k)) (refreshConditions s) := by
  have hengaging : engaging s.drive.pto = true := by
    obtain e | e | e := shifting_cases h <;> rw [e] <;> rfl
  have hfail : failingConditions (refreshConditions s) (engageEntry k) = failingConditions s (engageEntry k) := rfl
  simp [conditionEvent, hne, hengaging, hk, hfail]

theorem conditionReport_none {l : List Condition} (hstop : .stopClear ∉ l)
    (h : l = [] ∨ (s.drive.pto = .precheck ∧ ∀ c ∈ l, c = .engineAtIdle)) : conditionReport l s = s := by
  unfold conditionReport
  rw [if_neg hstop]
  obtain rfl | ⟨hpto, hl⟩ := h
  · split <;> simp
  · simp only [hpto]
    exact if_pos (by simpa using hl)

theorem conditionReport_abandons {l : List Condition} (hs : ¬NotShifting s) (hstop : .stopClear ∉ l) (hne : l ≠ [])
    (h : s.drive.pto ≠ .precheck ∨ ∃ c ∈ l, c ≠ .engineAtIdle) :
    conditionReport l s = abortEngagement .conditions .conditions (some l) s := by
  unfold conditionReport
  rw [if_neg hstop]
  obtain hpto | hpto | hpto := shifting_cases hs
  · simp only [hpto]
    obtain ⟨c, hc, hidle⟩ := h.resolve_left (not_not.2 hpto)
    exact if_neg fun hall => hidle (eq_of_beq (List.all_eq_true.1 hall c hc))
  · simp only [hpto]
    exact if_neg hne
  · simp only [hpto]
    exact if_neg hne

end Sys2Proof.Machine
end

section
/-! PROOFS. One changed input of a sample is handed on as if alone (O36, log entry 44): an order reads of the terminals no
more than their qualified states, and after it no order is due. -/

namespace Sys2Proof.Machine

variable {K : List Part} {s t x y z : State}

/-! ### No order is due -/

/-- The PTO has left ENGAGED, or stands where an order changes nothing (R62). -/
def OrderIdle (s : State) : Prop :=
  s.drive.pto = .rampdown ∨ s.drive.pto = .releasing ∨ s.drive.pto = .fault ∨ s.drive.pto = .disengaged

theorem OrderIdle.notShifting (h : OrderIdle s) : NotShifting s := by
  unfold NotShifting
  obtain h | h | h | h := h <;> simp [h]

theorem OrderIdle.of_drive (h : OrderIdle s) (hd : t.drive = s.drive) : OrderIdle t := by rwa [OrderIdle, hd]

theorem endRelease_orderIdle (v : Int) (s : State) : OrderIdle (endRelease v s) := by
  right; right; right
  rw [endRelease_drive]
  rfl

theorem confirmRelease_orderIdle (h : OrderIdle s) : OrderIdle (confirmRelease s) := by
  obtain e | ⟨-, -, e⟩ := confirmRelease_cases s <;> rw [e]
  · exact h
  · exact endRelease_orderIdle ..

theorem abortEngagement_orderIdle (a : AbortCause) (c : ReleaseCause) (l : Option (List Condition)) (s : State) :
    OrderIdle (abortEngagement a c l s) := by
  rw [abortEngagement_eq]
  exact confirmRelease_orderIdle (.inr (.inl rfl))

theorem endRampIfIdle_orderIdle (h : OrderIdle s) : OrderIdle (endRampIfIdle s) := by
  unfold endRampIfIdle
  split
  · split
    · exact confirmRelease_orderIdle (.inr (.inl rfl))
    · exact h
  · exact h

theorem disengageOrder_orderIdle (c : ReleaseCause) (s : State) : OrderIdle (disengageOrder c s) := by
  unfold disengageOrder
  split
  · exact endRampIfIdle_orderIdle (.inl (by rw [handExit_drive true (by simp [NotShifting])]; rfl))
  case h_2 | h_3 | h_4 => exact abortEngagement_orderIdle ..
  case h_5 h => exact .inr (.inr (.inr h))
  case h_6 h => exact .inl h
  case h_7 h => exact .inr (.inl h)
  case h_8 h => exact .inr (.inr (.inl h))

/-- No trip waits for its order. -/
def NoOrderDue (s : State) : Prop := s.interlock.mode ≠ .motionTrip ∨ OrderIdle s

theorem conditionEvent_noOrderDue (h : NoOrderDue s) : NoOrderDue (conditionEvent s) := by
  obtain h | h := h
  · left
    obtain e | e := conditionEvent_mode s
    · rwa [e]
    · simp [e]
  · right
    rw [conditionEvent_refresh h.notShifting]
    exact h

/-- A chain that touches neither the drive nor the mode makes no order due. -/
theorem Moves.noOrderDue {b : Bool} (h : Moves K b s t) (hd : .drive ∉ K) (hm : .mode ∉ K) (hs : NoOrderDue s) : NoOrderDue t := by
  induction h with
  | trans _ _ ih₁ ih₂ => exact ih₂ hd hm (ih₁ hd hm hs)
  | drive _ h => exact absurd h hd
  | mode _ h => exact absurd h hm
  | watch b _ s f hf =>
    refine hs.imp_left fun hne => ?_
    show (f s.interlock).mode ≠ _
    rwa [(congrArg Interlock.mode hf :)]
  | @clip _ b _ s t h ih =>
    rw [clipDemand_eq_with]
    exact ih hd hm hs
  | record b _ s k n =>
    rw [record_eq_with]
    exact hs
  | event b _ s => exact conditionEvent_noOrderDue hs
  | _ => exact hs

theorem stopOutsideEngaged_noOrderDue (h : NoOrderDue s) : NoOrderDue (stopOutsideEngaged s) := by
  by_cases hshift : NotShifting s
  · have halarm : (addAlarm .stop s).drive = s.drive := addAlarm_drive ..
    have hinter : (addAlarm .stop s).interlock = s.interlock := by rw [addAlarm_frame]
    unfold stopOutsideEngaged
    split
    case h_4 => exact .inr (confirmRelease_orderIdle (.inr (.inl rfl)))
    case h_5 => rwa [NoOrderDue, OrderIdle, halarm, hinter]
    case h_1 e | h_2 e | h_3 e => exact absurd e (by obtain ⟨h₁, h₂, h₃⟩ := hshift; assumption)
    all_goals exact h
  · rw [stopOutsideEngaged_shifting hshift]
    exact .inr (abortEngagement_orderIdle ..)

theorem stopEffect_noOrderDue (h : NoOrderDue s) : NoOrderDue (stopEffect s) := by
  unfold stopEffect
  split
  · refine .inr (confirmRelease_orderIdle (.inr (.inl ?_)))
    rw [handExit_drive false (by simp [NotShifting, startRelease])]
    rfl
  · exact stopOutsideEngaged_noOrderDue h

theorem driveFault_orderIdle (c : DriveFault) (s : State) : OrderIdle (driveFault c s) := by
  have hfault : (enterDriveFault c s).drive.pto = .fault := (congrArg Drive.pto (enterDriveFault_drive c s)).trans rfl
  unfold driveFault
  dsimp only
  split
  · right; right; left
    rw [handExit_drive false (by simp [NotShifting, hfault]), hfault]
  · exact .inr (.inr (.inl hfault))

theorem enterEngaged_noOrderDue (c : Confirmation) (s : State) : NoOrderDue (enterEngaged c s) := by
  unfold enterEngaged orderIfTripped
  split
  · exact .inr (disengageOrder_orderIdle ..)
  · next h => exact .inl h

theorem ptoFeedbackChange_noOrderDue (b : Bool) (h : NoOrderDue s) : NoOrderDue (ptoFeedbackChange b s) := by
  unfold ptoFeedbackChange
  split
  · exact .inr (driveFault_orderIdle ..)
  · exact enterEngaged_noOrderDue ..
  · exact .inr (driveFault_orderIdle ..)
  · exact .inr (endRelease_orderIdle ..)
  · split
    · exact .inr (driveFault_orderIdle ..)
    · exact h
  · exact h

theorem runInOrder_event_noOrderDue {f : State → State} (hf : ∀ y, NoOrderDue y → NoOrderDue (f y)) (h : NoOrderDue s) :
    NoOrderDue (runInOrder [conditionEvent, f] s) := by
  refine runInOrder_keeps (P := NoOrderDue) (fun _ _ hy => hy) _ (fun g hg y hy => ?_) s h
  simp only [List.mem_cons, List.not_mem_nil, or_false] at hg
  obtain rfl | rfl := hg
  · exact conditionEvent_noOrderDue hy
  · exact hf y hy

/-- A hand-on whose trip would wait for its order: PARK_BRAKE or NEUTRAL lost in PUMP_STATIONARY (R28). -/
def LossTrips (r : Role) (b : Bool) (s : State) : Prop :=
  (r = .parkBrake ∨ r = .neutral) ∧ b = false ∧ s.interlock.mode = .pumpStationary

/-- No other hand-on leaves an order due. -/
theorem inputChange_noOrderDue (n : Terminal) {r : Role} {b : Bool} (h : NoOrderDue s) (hno : ¬LossTrips r b s) :
    NoOrderDue (inputChange n r b s) := by
  have hloss : (r = .parkBrake ∨ r = .neutral) → NoOrderDue (inputChange n r b s) := by
    intro hr
    rw [handOn_alone n (.inl ⟨hr, ?_⟩)]
    · exact conditionEvent_noOrderDue h
    · by_contra hc
      simp only [not_or, Bool.not_eq_true, not_not] at hc
      exact hno ⟨hr, hc⟩
  have hsupply : ∀ v, NoOrderDue (valveFeedbackChange v b s) := fun v =>
    (moves_valveFeedbackChange (K := .valve .recircValve :: supplyParts) (b := true) (by decide) (by cases v <;> decide)
      (.refl ..)).noOrderDue (by decide) (by decide) h
  cases r
  case parkBrake => exact hloss (.inl rfl)
  case neutral => exact hloss (.inr rfl)
  case rollSelect =>
    refine runInOrder_event_noOrderDue (fun y hy => ?_) h
    unfold deselectRoll
    split
    · exact .inr (disengageOrder_orderIdle ..)
    · exact hy
  case panelStop =>
    refine runInOrder_event_noOrderDue (fun y hy => ?_) h
    unfold panelStopChange
    split
    · refine stopEffect_noOrderDue ?_
      rw [record_eq_with]
      exact hy
    · rw [reviewStop_frame]
      exact hy
  case ptoFb => exact ptoFeedbackChange_noOrderDue b h
  case mainValveFb | reserveValveFb | recircFb => exact hsupply _
  case generalIn =>
    unfold inputChange recordInputChanged
    rw [record_eq_with]
    exact h
  all_goals exact h

theorem deliverOrder_idle {m : OpMode} (h : m = .motionTrip ∨ NoOrderDue s) : deliverOrder m s = s :=
  deliverOrder_stands (by unfold NoOrderDue OrderIdle at h; tauto)

theorem deliverOrder_done (m : OpMode) (s : State) : m = .motionTrip ∨ NoOrderDue (deliverOrder m s) := by
  unfold deliverOrder
  split
  · exact .inr (.inr (disengageOrder_orderIdle ..))
  · next h => tauto

end Sys2Proof.Machine
end

section
/-! PROOFS. What the units' acts read of the terminals and of the line: the qualified states and the hold, no more. So one
changed input of a sample is handed on as if alone (O36, log entry 44), and a request in hand alters no act. -/

namespace Sys2Proof.Machine

variable {s t x y z : State} {f g : State → State} {T U V : Terminals} {l : Link}

/-! ### What reads of the terminals no more than their qualified states -/

/-- Two sets of terminals of the same records and the same qualified states. -/
def Agrees (T U : Terminals) : Prop :=
  T.assignment = U.assignment ∧ ∀ n : Terminal, T.inputs[n].asserted = U.inputs[n].asserted

/-- The state with its terminals replaced. -/
def withTerminals (T : Terminals) (s : State) : State := { s with terminals := T }

/-- The state with its terminals and its line replaced. -/
def facing (T : Terminals) (l : Link) (s : State) : State := { s with terminals := T, link := l }

/-- Terminals and a line that a state's own may be replaced by: the same records, qualified states and hold. -/
def Faces (T : Terminals) (l : Link) (s : State) : Prop := Agrees T s.terminals ∧ l.hold = s.link.hold

/-- An act that leaves the terminals and the line alone and reads no more of them than `Faces` compares. -/
def Blind (f : State → State) : Prop :=
  ∀ (s : State) (T : Terminals) (l : Link), Faces T l s →
    ((f s).terminals = s.terminals ∧ (f s).link = s.link) ∧ f (facing T l s) = facing T l (f s)

theorem Blind.terminals (h : Blind f) (s : State) (T : Terminals) (hT : Agrees T s.terminals) :
    (f s).terminals = s.terminals ∧ f (withTerminals T s) = withTerminals T (f s) := by
  obtain ⟨⟨hterm, hlink⟩, he⟩ := h s T s.link ⟨hT, rfl⟩
  refine ⟨hterm, he.trans ?_⟩
  unfold facing withTerminals
  rw [← hlink]

/-- The same of the line alone. -/
theorem Blind.line (h : Blind f) (s : State) (l : Link) (hl : l.hold = s.link.hold) :
    (f s).link = s.link ∧ f { s with link := l } = { f s with link := l } := by
  obtain ⟨⟨hterm, hlink⟩, he⟩ := h s s.terminals l ⟨⟨rfl, fun _ => rfl⟩, hl⟩
  refine ⟨hlink, he.trans ?_⟩
  unfold facing
  rw [← hterm]

theorem Faces.qualified (h : Faces T l s) (r : Role) : (facing T l s).qualified r = s.qualified r := by
  obtain ⟨⟨ha, hi⟩, -⟩ := h
  have hfind : (facing T l s).terminalOf r = s.terminalOf r := by
    unfold State.terminalOf facing
    dsimp only
    rw [ha]
  have hread : (fun n : Terminal => T.inputs[n].asserted) = fun n : Terminal => s.terminals.inputs[n].asserted := funext hi
  unfold State.qualified
  rw [hfind]
  exact congrArg (fun g => (s.terminalOf r).map g) hread

theorem Faces.asserted (h : Faces T l s) (r : Role) : (facing T l s).asserted r = s.asserted r := by
  unfold State.asserted
  rw [h.qualified]

theorem blind_id : Blind id := fun _ _ _ _ => ⟨⟨rfl, rfl⟩, rfl⟩

theorem Blind.comp (hg : Blind g) (hf : Blind f) : Blind (fun s => g (f s)) := fun s T l h => by
  obtain ⟨⟨hfs, hfl⟩, hft⟩ := hf s T l h
  obtain ⟨⟨hgs, hgl⟩, hgt⟩ := hg (f s) T l ⟨hfs ▸ h.1, hfl ▸ h.2⟩
  exact ⟨⟨hgs.trans hfs, hgl.trans hfl⟩, (congrArg g hft).trans hgt⟩

theorem Blind.ite {p : State → Prop} [DecidablePred p] (hp : ∀ s T l, Faces T l s → (p (facing T l s) ↔ p s))
    (hf : Blind f) (hg : Blind g) : Blind (fun s => if p s then f s else g s) := fun s T l h => by
  dsimp only
  by_cases hs : p s
  · rw [if_pos hs, if_pos ((hp s T l h).2 hs)]
    exact hf s T l h
  · rw [if_neg hs, if_neg (mt (hp s T l h).1 hs)]
    exact hg s T l h

/-- An act chosen by what it reads of the state. -/
theorem Blind.choose {α : Type} {v : State → α} {f : α → State → State} (hv : ∀ s T l, Faces T l s → v (facing T l s) = v s)
    (hf : ∀ a, Blind (f a)) : Blind (fun s => f (v s) s) := fun s T l h => by
  dsimp only
  rw [hv s T l h]
  exact hf (v s) s T l h

theorem blind_record (k : NoticeKind) (n : NoticeBody) : Blind (record k n) := fun s T l h =>
  ⟨⟨by rw [record_eq_with], by rw [record_eq_with]⟩, by
    rw [record_with (s := s) (t := facing T l s) k n rfl rfl rfl h.2]
    exact congrArg (facing T l) (record_eq_with k n s).symm⟩

theorem blind_addAlarm (c : AlarmCause) : Blind (addAlarm c) :=
  Blind.ite (fun _ _ _ _ => .rfl) blind_id fun _ _ _ _ => ⟨⟨rfl, rfl⟩, rfl⟩

theorem blind_removeAlarm (c : AlarmCause) : Blind (removeAlarm c) :=
  Blind.ite (fun _ _ _ _ => .rfl) (fun _ _ _ _ => ⟨⟨rfl, rfl⟩, rfl⟩) blind_id

theorem blind_clipDemand : Blind clipDemand :=
  Blind.ite (p := fun s => leastCeiling (ceilings s) < s.governor.demand) (fun _ _ _ _ => .rfl) (fun _ _ _ _ => ⟨⟨rfl, rfl⟩, rfl⟩) blind_id

/-- The mode and its ceiling set. -/
def modeSet (m : OpMode) (s : State) : State :=
  s.modInterlock fun i => { i with mode := m, ceiling := entryCeiling s m, recovery := none, trip := none }

theorem blind_setMode (m : OpMode) (c : ModeCause) : Blind (setMode m c) := by
  have hrecord : Blind fun s => record .modeChanged
      { old := some (.mode s.interlock.mode), new := some (.mode m), cause := some (.mode c) } (modeSet m s) :=
    Blind.choose (v := fun s => s.interlock.mode)
      (f := fun old s => record .modeChanged { old := some (.mode old), new := some (.mode m), cause := some (.mode c) } (modeSet m s))
      (fun _ _ _ _ => rfl) fun old => (blind_record _ _).comp fun _ _ _ _ => ⟨⟨rfl, rfl⟩, rfl⟩
  by_cases hm : m = .motionTrip
  · have hset : setMode m c = fun s => clipDemand (protectiveEvent (record .modeChanged
        { old := some (.mode s.interlock.mode), new := some (.mode m), cause := some (.mode c) } (modeSet m s))) :=
      funext fun s => congrArg clipDemand (if_pos hm)
    rw [hset]
    exact blind_clipDemand.comp (Blind.comp (g := protectiveEvent) (fun _ _ _ _ => ⟨⟨rfl, rfl⟩, rfl⟩) hrecord)
  · have hset : setMode m c = fun s => clipDemand (record .modeChanged
        { old := some (.mode s.interlock.mode), new := some (.mode m), cause := some (.mode c) } (modeSet m s)) :=
      funext fun s => congrArg clipDemand (if_neg hm)
    rw [hset]
    exact blind_clipDemand.comp hrecord

theorem blind_reviewStop : Blind reviewStop :=
  Blind.ite (p := fun s => (s.drive.pto = .disengaged ∨ s.drive.pto = .fault) ∧ s.asserted .panelStop = false)
    (fun s T l h => and_congr .rfl (by rw [h.asserted])) (blind_removeAlarm .stop) blind_id

theorem blind_modeOnDisengaged : Blind modeOnDisengaged :=
  Blind.ite (p := fun s => s.interlock.mode = .motionTrip) (fun _ _ _ _ => .rfl)
    ((blind_removeAlarm .motion).comp (blind_setMode _ _)) blind_id

theorem blind_endRelease (v : Int) : Blind (endRelease v) :=
  Blind.choose (v := fun s => s.drive.release)
    (f := fun r s => modeOnDisengaged (reviewStop (record .disengageDone
      { old := some (.pto .releasing), new := some (.pto .disengaged), value := some v, cause := r.map .release }
      (s.modDrive driveIdle))))
    (fun _ _ _ _ => rfl) fun _ => blind_modeOnDisengaged.comp (blind_reviewStop.comp ((blind_record _ _).comp fun _ _ _ _ => ⟨⟨rfl, rfl⟩, rfl⟩))

theorem blind_confirmRelease : Blind confirmRelease :=
  Blind.ite (p := fun s => s.drive.pto = .releasing ∧ s.qualified .ptoFb = some false)
    (fun s T l h => and_congr .rfl (by rw [h.qualified])) (blind_endRelease 0) blind_id

theorem blind_startRelease (c : ReleaseCause) : Blind (startRelease c) := fun _ _ _ _ => ⟨⟨rfl, rfl⟩, rfl⟩

theorem blind_abortEngagement (a : AbortCause) (c : ReleaseCause) (l : Option (List Condition)) :
    Blind (abortEngagement a c l) :=
  Blind.choose (v := fun s => s.drive.pto)
    (f := fun p s => confirmRelease (record .engageAborted
      { old := some (.pto p), new := some (.pto .releasing), cause := some (.abort a), conds := l } (startRelease c s)))
    (fun _ _ _ _ => rfl) fun _ => blind_confirmRelease.comp ((blind_record _ _).comp (blind_startRelease c))

/-- An act chosen by the state of the PTO. -/
theorem blind_by_pto (h : ∀ p : PtoState, ∃ g, Blind g ∧ ∀ s : State, s.drive.pto = p → f s = g s) : Blind f := fun s T l hT => by
  obtain ⟨g, hg, heq⟩ := h s.drive.pto
  rw [heq s rfl, heq (facing T l s) rfl]
  exact hg s T l hT

theorem blind_stopOutsideEngaged : Blind stopOutsideEngaged := by
  have halarm := blind_addAlarm .stop
  refine blind_by_pto fun p => ?_
  cases p
  case precheck | shifting | settle =>
    exact ⟨_, (blind_abortEngagement .panelStop .panelStop none).comp halarm, fun s hs => by unfold stopOutsideEngaged; rw [hs]⟩
  case rampdown =>
    exact ⟨_, blind_confirmRelease.comp ((blind_startRelease .panelStop).comp halarm), fun s hs => by
      unfold stopOutsideEngaged; rw [hs]⟩
  case releasing => exact ⟨_, halarm, fun s hs => by unfold stopOutsideEngaged; rw [hs]⟩
  all_goals exact ⟨_, blind_id, fun s hs => by unfold stopOutsideEngaged; rw [hs]; exact rfl⟩

theorem Faces.conditions (h : Faces T l s) : conditionHolds (facing T l s) = conditionHolds s :=
  funext fun c => by
    cases c
    case parkBrakeSet => exact h.asserted _
    case inNeutral => exact h.asserted _
    case rollSelected => exact h.asserted _
    case stopClear => exact congrArg (!·) (h.asserted .panelStop)
    all_goals rfl

theorem Faces.trueConditions (h : Faces T l s) : trueConditions (facing T l s) = trueConditions s := by
  unfold Machine.trueConditions
  rw [h.conditions]

theorem blind_refreshConditions : Blind refreshConditions :=
  Blind.choose (v := trueConditions) (f := fun l s => s.modInterlock fun i => { i with conditions := l })
    (fun _ _ _ h => h.trueConditions) fun _ _ _ _ _ => ⟨⟨rfl, rfl⟩, rfl⟩

theorem blind_conditionReport (l : List Condition) : Blind (conditionReport l) := by
  have habort := blind_abortEngagement .conditions .conditions (some l)
  by_cases hstop : .stopClear ∈ l
  · rw [show conditionReport l = stopOutsideEngaged from funext fun s => if_pos hstop]
    exact blind_stopOutsideEngaged
  · refine blind_by_pto fun p => ?_
    cases p
    case precheck =>
      exact ⟨_, Blind.ite (p := fun _ => l.all (· == .engineAtIdle) = true) (fun _ _ _ _ => .rfl) blind_id habort, fun s hs => by
        unfold conditionReport; rw [if_neg hstop, hs]; exact rfl⟩
    case shifting | settle =>
      exact ⟨_, Blind.ite (p := fun _ => l = []) (fun _ _ _ _ => .rfl) blind_id habort, fun s hs => by
        unfold conditionReport; rw [if_neg hstop, hs]; exact rfl⟩
    all_goals exact ⟨_, blind_id, fun s hs => by unfold conditionReport; rw [if_neg hstop, hs]; exact rfl⟩

/-- A condition event of a clutch being shifted to a kind reports the conditions of that kind's entry (R55). -/
theorem conditionEvent_reports {k : Kind} (h : ¬NotShifting s) (hk : s.drive.kind = some k) :
    conditionEvent s = if trueConditions s = s.interlock.conditions then s
      else conditionReport (failingConditions s (engageEntry k)) (refreshConditions s) := by
  by_cases he : trueConditions s = s.interlock.conditions
  · rw [if_pos he]
    exact if_pos he
  · rw [if_neg he]
    exact conditionEvent_reported h he hk

theorem conditionEvent_quiet (h : NotShifting s ∨ s.drive.kind = none) : conditionEvent s = refreshConditions s := by
  obtain h | h := h
  · exact conditionEvent_refresh h
  · by_cases he : trueConditions s = s.interlock.conditions
    · have hsame : refreshConditions s = s := by
        unfold refreshConditions State.modInterlock
        rw [he]
      rw [hsame]
      exact if_pos he
    · simp [conditionEvent, he, h]

theorem Faces.failing (h : Faces T l s) (k : GuardedKind) :
    failingConditions (facing T l s) k = failingConditions s k := by
  unfold failingConditions
  rw [h.conditions]
  rfl

theorem blind_conditionEvent : Blind conditionEvent := fun s T l h => by
  by_cases hquiet : NotShifting s ∨ s.drive.kind = none
  · rw [conditionEvent_quiet hquiet, conditionEvent_quiet (s := facing T l s) hquiet]
    exact blind_refreshConditions s T l h
  · obtain ⟨hs, hkind⟩ := not_or.1 hquiet
    obtain ⟨k, hk⟩ := Option.ne_none_iff_exists'.1 hkind
    rw [conditionEvent_reports hs hk, conditionEvent_reports (s := facing T l s) hs hk]
    refine Blind.ite (p := fun s => trueConditions s = s.interlock.conditions)
      (f := id) (g := fun s => conditionReport (failingConditions s (engageEntry k)) (refreshConditions s))
      (fun s T l h => by rw [h.trueConditions]; rfl) blind_id ?_ s T l h
    exact Blind.choose (v := fun s => failingConditions s (engageEntry k)) (f := fun l s => conditionReport l (refreshConditions s))
      (fun s T l h => h.failing _) fun l => (blind_conditionReport l).comp blind_refreshConditions

theorem blind_tripOnLoss (c : ModeCause) : Blind (tripOnLoss c false) :=
  Blind.ite (p := fun s => false = false ∧ s.interlock.mode = .pumpStationary) (fun _ _ _ _ => .rfl)
    ((blind_setMode .motionTrip c).comp (blind_addAlarm .motion)) blind_id

theorem blind_foldl : ∀ l : List (State → State), (∀ f ∈ l, Blind f) → Blind fun s => l.foldl (fun y f => f y) s
  | [], _ => blind_id
  | f :: l, h => (blind_foldl l fun g hg => h g (by simp [hg])).comp (h f (by simp))

theorem blind_runInOrder {l : List (State → State)} (h : ∀ f ∈ l, Blind f) : Blind (runInOrder l) := by
  have hdrop : Blind fun s => s.modChoices (·.drop l.length) := fun _ _ _ _ => ⟨⟨rfl, rfl⟩, rfl⟩
  intro s T l' hT
  exact ((blind_foldl (arrange s.choices l) fun f hf => h f ((mem_arrange _ _ _).1 hf)).comp hdrop) s T l' hT

/-- The hand-on of a lost PARK_BRAKE or NEUTRAL. -/
theorem LossTrips.blind {r : Role} {b : Bool} (h : LossTrips r b s) (n : Terminal) : Blind (inputChange n r b) := by
  obtain ⟨hr, rfl, -⟩ := h
  have hpair : ∀ c : ModeCause, Blind (runInOrder [conditionEvent, tripOnLoss c false]) := fun c =>
    blind_runInOrder fun f hf => by
      simp only [List.mem_cons, List.not_mem_nil, or_false] at hf
      obtain rfl | rfl := hf
      · exact blind_conditionEvent
      · exact blind_tripOnLoss c
  obtain rfl | rfl := hr
  · exact hpair .parkBrake
  · exact hpair .neutral

end Sys2Proof.Machine
end

section
/-! PROOFS. A sample in which one terminal changes, and the obligation of CHANGE_KIND and the hand-on (O36). -/

namespace Sys2Proof.Machine

variable {s t x y z : State} {T U V : Terminals} {levels : BitVec 16} {m : OpMode} {l l' : List (Option Terminal)}

/-! ### Samples that change no qualified state -/

/-- None of these terminals changes its qualified state at a sample of these levels. -/
def Quiet (levels : BitVec 16) (l : List (Option Terminal)) (T : Terminals) : Prop :=
  ∀ w : Terminal, some w ∈ l → isInputRole T.assignment[w].role = true →
    (sampleInput T.assignment[w] (levels.getLsbD w.val) T.inputs[w]).asserted = T.inputs[w].asserted

/-- The terminals after a quiet sample of these. -/
def Resampled (l : List (Option Terminal)) (T U : Terminals) : Prop :=
  Agrees T U ∧ ∀ w : Terminal, some w ∉ l → T.inputs[w] = U.inputs[w]

theorem Quiet.resampled (h : Quiet levels l U) (hT : Resampled l' T U) (hd : ∀ w, some w ∈ l → some w ∉ l') : Quiet levels l T := by
  obtain ⟨⟨ha, -⟩, hi⟩ := hT
  intro w hw hr
  rw [ha] at hr ⊢
  rw [hi w (hd w hw)]
  exact h w hw hr

theorem Quiet.mono (h : Quiet levels l T) (hl : l' ⊆ l) : Quiet levels l' T := fun w hw => h w (hl hw)

/-- One terminal sampled quietly. -/
theorem sampleTerminal_quiet {n : Terminal} (h : Quiet levels [some n] s.terminals) :
    ∃ T, sampleTerminal levels n s = withTerminals T s ∧ Resampled [some n] T s.terminals := by
  unfold sampleTerminal
  dsimp only
  split
  · next hr =>
    have hsame := h n (by simp) hr
    rw [if_pos hsame]
    refine ⟨_, rfl, ⟨rfl, fun w => ?_⟩, fun w hw => ?_⟩
    · by_cases hw : w = n
      · subst hw
        simpa using hsame
      · have hval : n.val ≠ w.val := fun h => hw (Fin.ext h.symm)
        simp [hval]
    · have hval : n.val ≠ w.val := fun h => hw (by rw [Fin.ext h]; simp)
      simp [hval]
  · exact ⟨s.terminals, rfl, ⟨rfl, fun _ => rfl⟩, fun _ _ => rfl⟩

/-- Acts of a sample that change no qualified state and bring no order write the terminals alone. -/
theorem sampleActs_quiet : ∀ (l : List (Option Terminal)) (s : State), l.Nodup → Quiet levels l s.terminals →
    (none ∈ l → ∀ T, deliverOrder m (withTerminals T s) = withTerminals T s) →
    ∃ T, (l.map (sampleAct levels m)).foldl (fun y f => f y) s = withTerminals T s ∧ Resampled l T s.terminals
  | [], s, _, _, _ => ⟨s.terminals, rfl, ⟨rfl, fun _ => rfl⟩, fun _ _ => rfl⟩
  | none :: l, s, hl, hq, hm => by
    obtain ⟨T, hT, ha, hi⟩ := sampleActs_quiet l s (List.nodup_cons.1 hl).2 (hq.mono (by simp)) fun h => hm (by simp)
    refine ⟨T, ?_, ha, fun w hw => hi w fun h => hw (List.mem_cons_of_mem _ h)⟩
    rw [List.map_cons, List.foldl_cons]
    exact (congrArg (fun y => (l.map (sampleAct levels m)).foldl (fun y f => f y) y) (hm (by simp) s.terminals)).trans hT
  | some n :: l, s, hl, hq, hm => by
    obtain ⟨hn, hl⟩ := List.nodup_cons.1 hl
    obtain ⟨T, hT, hr⟩ := sampleTerminal_quiet (s := s) (n := n) (hq.mono (by simp))
    have hrest : Quiet levels l (withTerminals T s).terminals := (hq.mono (by simp)).resampled hr fun w hw => by
      simp only [List.mem_singleton, Option.some.injEq]
      rintro rfl
      exact hn hw
    obtain ⟨U, hU, ⟨ha, has⟩, hi⟩ := sampleActs_quiet l (withTerminals T s) hl hrest fun h => hm (by simp [h])
    obtain ⟨⟨hTa, hTas⟩, hTi⟩ := hr
    refine ⟨U, ?_, ⟨ha.trans hTa, fun w => (has w).trans (hTas w)⟩, fun w hw => ?_⟩
    · rw [List.map_cons, List.foldl_cons]
      exact (congrArg (fun y => (l.map (sampleAct levels m)).foldl (fun y f => f y) y) hT).trans hU
    · exact (hi w fun h => hw (by simp [h])).trans (hTi w fun h => hw (by rw [List.mem_singleton.1 h]; simp))

/-! ### One changed input -/

/-- The acts of a sample in their free order. -/
theorem sampleInputs_order (levels : BitVec 16) (s : State) : ∃ l : List (Option Terminal),
    l.Perm (allTerminals.map some ++ [none]) ∧
    sampleInputs levels s = deliverOrder s.interlock.mode
      ((l.map (sampleAct levels s.interlock.mode)).foldl (fun y f => f y) (s.modChoices (·.drop 17))) := by
  have hacts : allTerminals.map (sampleTerminal levels) ++ [deliverOrder s.interlock.mode] =
      (allTerminals.map some ++ [none]).map (sampleAct levels s.interlock.mode) := rfl
  refine ⟨arrange s.choices (allTerminals.map some ++ [none]), arrange_perm _ _, ?_⟩
  unfold sampleInputs runInOrder
  dsimp only
  rw [hacts, arrange_map]
  rfl

/-- Where no order is due, the acts left of a sample write the terminals alone. -/
theorem restOfSample_idle (hl : l.Nodup) (hq : Quiet levels l z.terminals) (h : m = .motionTrip ∨ NoOrderDue z) :
    ∃ T, deliverOrder m ((l.map (sampleAct levels m)).foldl (fun y f => f y) z) = withTerminals T z := by
  have hidle : ∀ T, deliverOrder m (withTerminals T z) = withTerminals T z := fun T => deliverOrder_idle h
  obtain ⟨T, hT, -⟩ := sampleActs_quiet (m := m) l z hl hq fun _ => hidle
  exact ⟨T, (congrArg (deliverOrder m) hT).trans (hidle T)⟩

/-- The acts left of a sample bring the order of a trip once, in its free place among them. -/
theorem restOfSample_order (hl : l.Nodup) (hq : Quiet levels l z.terminals) : ∃ T U, Agrees T z.terminals ∧
    deliverOrder m ((l.map (sampleAct levels m)).foldl (fun y f => f y) z) =
      withTerminals U (deliverOrder m (withTerminals T z)) := by
  by_cases hnone : none ∈ l
  · obtain ⟨l₁, l₂, rfl⟩ := List.append_of_mem hnone
    obtain ⟨hl₁, hl₂, hdisj⟩ := List.nodup_append.1 hl
    have hn₁ : none ∉ l₁ := fun h => hdisj none h none (by simp) rfl
    obtain ⟨T, hT, hr⟩ := sampleActs_quiet (m := m) l₁ z hl₁ (hq.mono (by simp)) fun h => absurd h hn₁
    have hq₂ : Quiet levels l₂ (deliverOrder m (withTerminals T z)).terminals := by
      rw [deliverOrder_terminals]
      exact (hq.mono fun a ha => by simp [ha]).resampled hr fun w hw hw₁ => hdisj _ hw₁ _ (List.mem_cons_of_mem _ hw) rfl
    obtain ⟨U, hU⟩ := restOfSample_idle (m := m) (List.nodup_cons.1 hl₂).2 hq₂ (deliverOrder_done m _)
    refine ⟨T, U, hr.1, ?_⟩
    rw [List.map_append, List.foldl_append, hT]
    exact hU
  · obtain ⟨T, hT, hr⟩ := sampleActs_quiet (m := m) l z hl hq fun h => absurd h hnone
    exact ⟨T, (deliverOrder m (withTerminals T z)).terminals, hr.1, congrArg (deliverOrder m) hT⟩

/-- The terminals as the changed one has just been sampled: that one at its new state, the others at theirs. -/
def OnlyChanged (n : Terminal) (b : Bool) (s : State) (T : Terminals) : Prop :=
  T.assignment = s.terminals.assignment ∧
  ∀ w : Terminal, T.inputs[w].asserted = if w = n then b else s.terminals.inputs[w].asserted

theorem OnlyChanged.of_agrees {n : Terminal} {b : Bool} (h : OnlyChanged n b s U) (hT : Agrees T U) : OnlyChanged n b s T :=
  ⟨hT.1.trans h.1, fun w => (hT.2 w).trans (h.2 w)⟩

/-- A terminal that changes at its sample. -/
theorem sampleTerminal_changed {n : Terminal} {b : Bool} (hr : isInputRole s.terminals.assignment[n].role = true)
    (hwas : s.terminals.inputs[n].asserted = !b)
    (hnow : (sampleInput s.terminals.assignment[n] (levels.getLsbD n.val) s.terminals.inputs[n]).asserted = b) :
    ∃ T, sampleTerminal levels n s = inputChange n s.terminals.assignment[n].role b (withTerminals T s) ∧
      T.assignment = s.terminals.assignment ∧ T.inputs[n].asserted = b ∧ ∀ w, w ≠ n → T.inputs[w] = s.terminals.inputs[w] := by
  refine ⟨{ s.terminals with
    inputs := s.terminals.inputs.set n (sampleInput s.terminals.assignment[n] (levels.getLsbD n.val) s.terminals.inputs[n]) }, ?_, rfl, ?_, fun w hw => ?_⟩
  · unfold sampleTerminal
    dsimp only
    rw [if_pos hr, if_neg (by rw [hnow, hwas]; simp), hnow]
    rfl
  · simpa using hnow
  · have hval : n.val ≠ w.val := fun h => hw (Fin.ext h.symm)
    simp [hval]

/-- A sample in which one terminal changes hands that change on as if alone. -/
theorem sampleInputs_onlyChange {n : Terminal} {b : Bool} (h : OnlyChange s levels n b) : ∃ T U, OnlyChanged n b s T ∧
    sampleInputs levels s = withTerminals U (deliverOrder s.interlock.mode
      (inputChange n s.terminals.assignment[n].role b (withTerminals T (s.modChoices (·.drop 17))))) := by
  obtain ⟨hrole, hwas, hall⟩ := h
  obtain ⟨l, hperm, hsample⟩ := sampleInputs_order levels s
  have hnodup : l.Nodup := hperm.nodup_iff.2 (by decide)
  obtain ⟨l₁, l₂, rfl⟩ := List.append_of_mem (hperm.mem_iff.2 (show some n ∈ allTerminals.map some ++ [none] by simp))
  obtain ⟨hl₁, hl₂, hdisj⟩ := List.nodup_append.1 hnodup
  obtain ⟨hn₂, hl₂⟩ := List.nodup_cons.1 hl₂
  have hn₁ : some n ∉ l₁ := fun h => hdisj _ h _ (by simp) rfl
  have hquiet : ∀ l : List (Option Terminal), some n ∉ l → Quiet levels l s.terminals := fun l hl w hw hr => by
    have hne : w ≠ n := fun e => hl (e ▸ hw)
    rw [hall w hr, if_neg hne]
  -- the terminals before the changed one, and the changed one
  obtain ⟨T₁, hT₁, hr₁⟩ := sampleActs_quiet (m := s.interlock.mode) l₁ (s.modChoices (·.drop 17)) hl₁ (hquiet l₁ hn₁) fun _ T =>
    deliverOrder_idle (by by_cases hm : s.interlock.mode = .motionTrip; exacts [.inl hm, .inr (.inl hm)])
  have hstands : T₁.inputs[n] = s.terminals.inputs[n] := hr₁.2 n hn₁
  have hassign : T₁.assignment = s.terminals.assignment := hr₁.1.1
  obtain ⟨T₂, hT₂, ha₂, hb₂, hw₂⟩ := sampleTerminal_changed (s := withTerminals T₁ (s.modChoices (·.drop 17))) (levels := levels)
    (n := n) (b := b) (by show isInputRole T₁.assignment[n].role = true; rw [hassign]; exact hrole)
    (by show T₁.inputs[n].asserted = _; rw [hstands]; exact hwas)
    (by show (sampleInput T₁.assignment[n] _ T₁.inputs[n]).asserted = _; rw [hstands, hassign, hall n hrole, if_pos rfl])
  have hrole₂ : (withTerminals T₁ (s.modChoices (·.drop 17))).terminals.assignment[n].role = s.terminals.assignment[n].role := by
    rw [← hassign]; rfl
  rw [hrole₂] at hT₂
  have honly : OnlyChanged n b s T₂ := ⟨ha₂.trans hassign, fun w => by
    by_cases hw : w = n
    · rw [if_pos hw, hw, hb₂]
    · rw [if_neg hw, hw₂ w hw]
      exact hr₁.1.2 w⟩
  have hquiet₂ : Quiet levels l₂ T₂ := fun w hw hr => by
    have hne : w ≠ n := fun e => hn₂ (e ▸ hw)
    have hsame : T₂.inputs[w] = s.terminals.inputs[w] := (hw₂ w hne).trans (hr₁.2 w fun h => hdisj _ h _ (List.mem_cons_of_mem _ hw) rfl)
    have ha : T₂.assignment = s.terminals.assignment := ha₂.trans hassign
    rw [ha] at hr ⊢
    rw [hsame]
    exact hquiet l₂ hn₂ w hw hr
  have hfold : sampleInputs levels s = deliverOrder s.interlock.mode ((l₂.map (sampleAct levels s.interlock.mode)).foldl
      (fun y f => f y) (inputChange n s.terminals.assignment[n].role b (withTerminals T₂ (s.modChoices (·.drop 17))))) := by
    rw [hsample, List.map_append, List.foldl_append, hT₁, List.map_cons, List.foldl_cons]
    exact congrArg (fun y => deliverOrder s.interlock.mode ((l₂.map (sampleAct levels s.interlock.mode)).foldl (fun y f => f y) y)) hT₂
  have hterm := inputChange_terminals n s.terminals.assignment[n].role b (withTerminals T₂ (s.modChoices (·.drop 17)))
  by_cases hdue : s.interlock.mode ≠ .motionTrip ∧ LossTrips s.terminals.assignment[n].role b s
  · -- the trip of a lost PARK_BRAKE or NEUTRAL, its order in a free place
    obtain ⟨T₃, U, hT₃, hU⟩ := restOfSample_order (m := s.interlock.mode) hl₂ (by rw [hterm]; exact hquiet₂)
    rw [hterm] at hT₃
    obtain ⟨-, hblind⟩ := (hdue.2.blind n).terminals (withTerminals T₂ (s.modChoices (·.drop 17))) T₃ hT₃
    refine ⟨T₃, U, honly.of_agrees hT₃, hfold.trans (hU.trans ?_)⟩
    rw [← hblind]
    rfl
  · -- no order is due
    have hidle : s.interlock.mode = .motionTrip ∨
        NoOrderDue (inputChange n s.terminals.assignment[n].role b (withTerminals T₂ (s.modChoices (·.drop 17)))) := by
      by_cases hm : s.interlock.mode = .motionTrip
      · exact .inl hm
      · exact .inr (inputChange_noOrderDue n (.inl hm) fun hloss => hdue ⟨hm, hloss⟩)
    obtain ⟨U, hU⟩ := restOfSample_idle (m := s.interlock.mode) hl₂ (by rw [hterm]; exact hquiet₂) hidle
    refine ⟨T₂, U, honly, hfold.trans (hU.trans ?_)⟩
    rw [deliverOrder_idle hidle]

end Sys2Proof.Machine
end

section
/-! PROOFS. A reported condition (R55), and O36 from its parts. -/

namespace Sys2Proof.Machine

variable {s : State}

/-- What a condition event does while the clutch is shifted to a kind. -/
theorem conditionEvent_acts {k : Kind} (h : ¬NotShifting s) (hne : trueConditions s ≠ s.interlock.conditions)
    (hk : s.drive.kind = some k) :
    let l := failingConditions s (engageEntry k)
    let t := { s with interlock := { s.interlock with conditions := trueConditions s } }
    let u := conditionEvent s
    (.stopClear ∉ l → l = [] ∨ (s.drive.pto = .precheck ∧ ∀ c ∈ l, c = .engineAtIdle) → u = t) ∧
    (.stopClear ∉ l → l ≠ [] → s.drive.pto ≠ .precheck ∨ (∃ c ∈ l, c ≠ .engineAtIdle) →
      (s.qualified .ptoFb ≠ some false →
        u = { t with drive := releasingRecord .conditions s.drive, notices := u.notices, tx := u.tx } ∧
        u.notices = (record .engageAborted
          { old := some (.pto s.drive.pto), new := some (.pto .releasing), cause := some (.abort .conditions)
            conds := some l } s).notices) ∧
      (s.qualified .ptoFb = some false → s.interlock.mode ≠ .motionTrip →
        u = { t with
          drive := disengagedRecord { s.drive with window := none }, alarm := u.alarm, notices := u.notices
          tx := u.tx })) ∧
    (.stopClear ∈ l → s.qualified .ptoFb ≠ some false →
      u = { t with
        drive := releasingRecord .panelStop s.drive, alarm := u.alarm, notices := u.notices, tx := u.tx } ∧
      .stop ∈ u.alarm.causes) := by
  have hreport := conditionEvent_reported h hne hk
  dsimp only
  generalize failingConditions s (engageEntry k) = l at *
  refine ⟨fun hstop hl => ?_, fun hstop hl hcond => ⟨fun hfb => ?_, fun hfb hm => ?_⟩, fun hstop hfb => ?_⟩
  · rw [hreport]
    exact conditionReport_none hstop hl
  · have hact := hreport.trans ((conditionReport_abandons (s := refreshConditions s) h hstop hl hcond).trans
      (abortEngagement_unshown .conditions .conditions (some l) hfb))
    rw [hact]
    exact ⟨rfl, (record_congr (s := s) (t := refreshConditions s) _ _ rfl rfl rfl rfl).1⟩
  · have hact := hreport.trans (conditionReport_abandons (s := refreshConditions s) h hstop hl hcond)
    obtain ⟨hdrive, hframe⟩ := abortEngagement_shown (s := refreshConditions s) .conditions .conditions (some l) hfb hm
    rw [hact]
    rw [hdrive] at hframe
    exact hframe
  · obtain ⟨a, ha, hu⟩ := stopOutsideEngaged_abandons (s := refreshConditions s) h hfb
    have hact := hreport.trans ((if_pos hstop).trans hu)
    rw [hact]
    exact ⟨rfl, ha⟩

/-- Settles O36. -/
theorem changeKindChangesTheMode : Obligations.ChangeKindChangesTheMode := by
  refine ⟨fun s tag kind hs hk => ?_, fun s tag k hs hj hstand => changeKind_taken hs hj hstand,
    fun s tag hs hj hmove hpto hfb => changeKind_taken_trips hs hj hmove hpto hfb, fun s levels hp => ?_,
    fun s levels t b hp h => ?_, fun s t r c hrc hm hs => ?_, fun s m hm hmode hpto hfb => ?_,
    fun s m h => deliverOrder_stands h, fun s t hmode hpto hfb => rollHandOn hmode hpto hfb,
    fun s t r b h => handOn_alone t h, fun s t hpto hfb => panelStop_engaged hpto hfb,
    fun s t hs hl hstop hfb => panelStop_shifting hs hl hstop hfb, fun s t h => panelStop_standing h,
    fun s t hs => panelStop_ended hs, fun s t b => rfl, fun s h => ?_, fun s k h hne hk => conditionEvent_acts h hne hk⟩
  · refine exec_of_act_unchanged (r := .changeKind kind) rfl rfl rfl hs ?_
    show actChangeKind kind _ = _
    unfold actChangeKind
    rw [kindOfCode_none hk]
    rfl
  · refine ⟨arrange s.fresh.choices (allTerminals.map (sampleTerminal levels) ++ [deliverOrder s.interlock.mode]), ?_, ?_⟩
    · exact (arrange_perm _ _).trans (List.perm_append_singleton _ _)
    · exact exec_on (f := sampleInputs levels) hp rfl
  · obtain ⟨T, U, ⟨ha, hi⟩, hsample⟩ := sampleInputs_onlyChange (s := s.fresh) h
    exact ⟨_, withTerminals T (s.fresh.modChoices (·.drop 17)), exec_leaves (f := sampleInputs levels) hp rfl hsample, rfl, ha, hi,
      rfl⟩
  · obtain ⟨rfl, rfl⟩ | ⟨rfl, rfl⟩ := hrc
    · exact lossHandOn .parkBrake hm hs
    · exact lossHandOn .neutral hm hs
  · have hdeliver : deliverOrder m s = disengageOrder .motion s := if_pos ⟨hm, hmode⟩
    obtain ⟨hdrive, hdemand, hshadow, -, -, hrest⟩ := disengageOrder_stopped .motion hpto hfb
    have hexit := disengageOrder_modeAtExit .motion hpto hfb
    dsimp only
    rw [hdeliver]
    refine ⟨hexit.2 hmode, ?_, ?_, hdemand, hshadow, hrest.state⟩
    · rw [hdrive, leavingRecord_release]
    · rw [hdrive, leavingRecord_pto]
  · obtain hs | he := h
    · exact conditionEvent_refresh hs
    · have hsame : conditionEvent s = s := if_pos he
      rw [hsame, he]

end Sys2Proof.Machine
end

section
/-! PROOFS. What the Supply Unit's acts read, and the tank-to-pump valves as it commands them (R167 to R169, R174). -/

namespace Sys2Proof.Machine

variable {K : List Part} {b : Bool} {s t x y : State} {n m : Tank}

/-! ### What the acts of the Supply Unit read -/

/-- What the Supply Unit reads beside its own record and the tank-to-pump valves, and what its records are stamped with:
the same in both states. -/
structure SameRig (s x : State) : Prop where
  level : ∀ n : Tank, (x.tank n).state = (s.tank n).state
  params : x.params = s.params
  terminals : x.terminals = s.terminals
  disabled : x.notices.disabled = s.notices.disabled
  clock : x.clock = s.clock

theorem SameRig.refl (s : State) : SameRig s s := ⟨fun _ => rfl, rfl, rfl, rfl, rfl⟩

theorem SameRig.trans (h : SameRig s x) (g : SameRig x y) : SameRig s y :=
  ⟨fun n => (g.level n).trans (h.level n), g.params.trans h.params, g.terminals.trans h.terminals,
    g.disabled.trans h.disabled, g.clock.trans h.clock⟩

theorem SameRig.param (h : SameRig s x) (i : Nat) : x.param i = s.param i := by
  unfold State.param
  rw [h.params]

theorem SameRig.paramNat (h : SameRig s x) (i : Nat) : x.paramNat i = s.paramNat i := by
  unfold State.paramNat
  rw [h.param]

theorem SameRig.qualified (h : SameRig s x) (r : Role) : x.qualified r = s.qualified r := qualified_congr h.terminals

/-- The same with both tank-to-pump valves. -/
structure SameFeed (s x : State) : Prop extends SameRig s x where
  valve : ∀ n : Tank, x.valve (tankValve n) = s.valve (tankValve n)

theorem SameFeed.refl (s : State) : SameFeed s s := ⟨.refl s, fun _ => rfl⟩

theorem SameFeed.trans (h : SameFeed s x) (g : SameFeed x y) : SameFeed s y :=
  ⟨h.toSameRig.trans g.toSameRig, fun n => (g.valve n).trans (h.valve n)⟩

/-- What a chain must leave alone to keep what the Supply Unit reads. -/
def rigParts : List Part := [.inputs, .level .main, .level .reserve]

theorem Moves.sameRig (h : Moves K b s x) (hK : ∀ p ∈ rigParts, p ∉ K) : SameRig s x := by
  have hst := h.stands
  exact ⟨fun n => (hst.level n (hK _ (by cases n <;> decide))).2, hst.params, hst.inputs (hK _ (by decide)), hst.disabled, hst.clock⟩

theorem Moves.sameFeed (h : Moves K b s x) (hK : ∀ p ∈ rigParts ++ [.valve .mainValve, .valve .reserveValve], p ∉ K) :
    SameFeed s x :=
  ⟨h.sameRig fun p hp => hK p (by simp [hp]), fun n => h.stands.valve _ (hK _ (by cases n <;> decide))⟩

/-! ### A commanded valve -/

/-- A valve's record after a command to open (R167, R168). -/
def openedRecord (s : State) (v : ValveRole) : Actuator :=
  if (s.valve v).openCmd = true ∨ (s.valve v).state = .fault then { s.valve v with openCmd := true }
  else if feedback s v = some true then arrived .atOpen .confirmed { s.valve v with openCmd := true }
  else { s.valve v with
    openCmd := true, state := .opening, tries := 1, retry := none, travel := startTimer (travelTime s v) }

/-- A valve's record after a command to close (R167, R169). -/
def closedRecord (s : State) (v : ValveRole) : Actuator :=
  if (s.valve v).openCmd = false ∨ (s.valve v).state = .fault then { s.valve v with openCmd := false }
  else { s.valve v with
    openCmd := false, state := .closing, tries := 0, retry := none, travel := startTimer (travelTime s v) }

theorem openedValve_eq (s : State) (n : Tank) : openedValve s n = openedRecord s (tankValve n) := by cases n <;> rfl

theorem closedValve_eq (s : State) (n : Tank) : closedValve s n = closedRecord s (tankValve n) := by cases n <;> rfl

theorem setValve_self (s : State) (v : ValveRole) : setValve s.valves v (s.valve v) = s.valves := by cases v <;> rfl

theorem valve_setValve (s : State) (v : ValveRole) (a : Actuator) : ({ s with valves := setValve s.valves v a } : State).valve v = a := by
  cases v <;> rfl

theorem modValve_eq (s : State) (v : ValveRole) (f : Actuator → Actuator) :
    s.modValve v f = { s with valves := setValve s.valves v (f (s.valve v)) } := rfl

theorem setValve_setValve (s : State) (v : ValveRole) (a c : Actuator) :
    setValve (setValve s.valves v a) v c = setValve s.valves v c := by cases v <;> rfl

/-- The command written, before the valve moves. -/
def commanded (o : Bool) (v : ValveRole) (s : State) : State := s.modValve v fun a => { a with openCmd := o }

theorem commanded_valve (o : Bool) (v : ValveRole) (s : State) :
    (commanded o v s).valve v = { s.valve v with openCmd := o } := valve_setValve ..

theorem commanded_modValve (o : Bool) (v : ValveRole) (s : State) (f : Actuator → Actuator) :
    (commanded o v s).modValve v f = { s with valves := setValve s.valves v (f { s.valve v with openCmd := o }) } := by
  rw [modValve_eq, commanded_valve]
  show ({ s with valves := setValve (setValve s.valves v _) v _ } : State) = _
  rw [setValve_setValve]

theorem carryOut_opens (v : ValveRole) (s : State) :
    carryOut v true s = { s with valves := setValve s.valves v (openedRecord s v) } := by
  unfold openedRecord
  by_cases hcmd : (s.valve v).openCmd = true
  · have hsame : ({ s.valve v with openCmd := true } : Actuator) = s.valve v := by rw [← hcmd]
    rw [if_pos (.inl hcmd), hsame, setValve_self]
    exact if_pos hcmd
  · have hact : carryOut v true s =
        if (s.valve v).state = .fault then commanded true v s else enterOpening v (commanded true v s) := if_neg hcmd
    rw [hact]
    by_cases hf : (s.valve v).state = .fault
    · rw [if_pos hf, if_pos (.inr hf)]
      rfl
    · rw [if_neg hf, if_neg (not_or.2 ⟨hcmd, hf⟩)]
      have hfeed : feedback (commanded true v s) v = feedback s v := rfl
      unfold enterOpening
      rw [hfeed]
      split <;> exact commanded_modValve ..

theorem carryOut_closes (v : ValveRole) (s : State) :
    carryOut v false s = { s with valves := setValve s.valves v (closedRecord s v) } := by
  unfold closedRecord
  by_cases hcmd : (s.valve v).openCmd = false
  · have hsame : ({ s.valve v with openCmd := false } : Actuator) = s.valve v := by rw [← hcmd]
    rw [if_pos (.inl hcmd), hsame, setValve_self]
    exact if_pos hcmd
  · have hact : carryOut v false s =
        if (s.valve v).state = .fault then commanded false v s else enterClosing v (commanded false v s) := if_neg hcmd
    rw [hact]
    by_cases hf : (s.valve v).state = .fault
    · rw [if_pos hf, if_pos (.inr hf)]
      rfl
    · rw [if_neg hf, if_neg (not_or.2 ⟨hcmd, hf⟩)]
      exact commanded_modValve ..

/-! ### A commanded tank-to-pump valve (R174) -/

theorem reviewFill_tankValve (n m : Tank) (s : State) : (reviewFill n s).valve (tankValve m) = s.valve (tankValve m) :=
  (moves_reviewFill (K := fillParts n) (b := true) (List.Subset.refl _) (.refl ..)).stands.valve _
    (tankValve_part_not_mem_fillParts m n)

theorem forceFillClosed_tankValve (n m : Tank) (s : State) :
    (forceFillClosed n s).valve (tankValve m) = s.valve (tankValve m) :=
  (moves_forceFillClosed (K := fillParts n) (b := true) (List.Subset.refl _) (.refl ..)).stands.valve _
    (tankValve_part_not_mem_fillParts m n)

theorem sameRig_commandTankValve (n : Tank) (o : Bool) (s : State) : SameRig s (commandTankValve n o s) :=
  (moves_commandTankValve (K := feedParts) (b := true) (List.Subset.refl _) (.refl ..)).sameRig (by decide)

theorem sameRig_forceFillClosed (n : Tank) (s : State) : SameRig s (forceFillClosed n s) :=
  (moves_forceFillClosed (K := fillParts n) (b := true) (List.Subset.refl _) (.refl ..)).sameRig (by cases n <;> decide)

theorem SameRig.travelTime (h : SameRig s x) (v : ValveRole) : travelTime x v = travelTime s v := by
  cases v <;> exact congrArg (1000 * ·) (h.paramNat _)

theorem SameRig.feedback (h : SameRig s x) (v : ValveRole) : feedback x v = feedback s v := by
  cases v
  exacts [h.qualified _, h.qualified _, rfl, rfl, h.qualified _]

theorem openedRecord_congr {v : ValveRole} (h : SameRig s x) (hv : x.valve v = s.valve v) :
    openedRecord x v = openedRecord s v := by
  unfold openedRecord
  rw [hv, h.feedback, h.travelTime]

theorem closedRecord_congr {v : ValveRole} (h : SameRig s x) (hv : x.valve v = s.valve v) :
    closedRecord x v = closedRecord s v := by
  unfold closedRecord
  rw [hv, h.travelTime]

theorem SameFeed.openedValve (h : SameFeed s x) (n : Tank) : openedValve x n = openedValve s n := by
  rw [openedValve_eq, openedValve_eq, openedRecord_congr h.toSameRig (h.valve n)]

theorem SameFeed.closedValve (h : SameFeed s x) (n : Tank) : closedValve x n = closedValve s n := by
  rw [closedValve_eq, closedValve_eq, closedRecord_congr h.toSameRig (h.valve n)]

theorem tankValve_ne (n : Tank) : tankValve (otherTank n) ≠ tankValve n := by cases n <;> decide

theorem valve_setValve_ne {v w : ValveRole} (h : w ≠ v) (s : State) (a : Actuator) :
    ({ s with valves := setValve s.valves v a } : State).valve w = s.valve w :=
  (valve_modValve s v w fun _ => a).trans (if_neg h)

theorem commandTankValve_closes (n : Tank) (s : State) :
    (commandTankValve n false s).valve (tankValve n) = closedValve s n ∧
    (commandTankValve n false s).valve (tankValve (otherTank n)) = s.valve (tankValve (otherTank n)) := by
  refine ⟨?_, (commandTankValve_closed n s).2⟩
  have hact : commandTankValve n false s = reviewFill n (carryOut (tankValve n) false s) := rfl
  rw [hact, reviewFill_tankValve, carryOut_closes, valve_setValve, closedValve_eq]

/-- A tank valve commanded OPEN while the other tank's is commanded CLOSED. -/
theorem commandTankValve_opens (h : (s.valve (tankValve (otherTank n))).openCmd = false) :
    (commandTankValve n true s).valve (tankValve n) = openedValve s n ∧
    (commandTankValve n true s).valve (tankValve (otherTank n)) = s.valve (tankValve (otherTank n)) := by
  have hact : commandTankValve n true s = reviewFill n (carryOut (tankValve n) true (forceFillClosed n s)) := by
    unfold commandTankValve
    rw [if_pos rfl, if_neg (by rw [h]; decide)]
  rw [hact, reviewFill_tankValve, reviewFill_tankValve, carryOut_opens, valve_setValve, valve_setValve_ne (tankValve_ne n),
    openedRecord_congr (sameRig_forceFillClosed n s) (forceFillClosed_tankValve n n s), openedValve_eq, forceFillClosed_tankValve]
  exact ⟨rfl, rfl⟩

end Sys2Proof.Machine
end

section
/-! PROOFS. A supply state entered, and NO_SUPPLY (R98, R102, R103). -/

namespace Sys2Proof.Machine

variable {K : List Part} {b : Bool} {s t x y : State} {n m : Tank} {a : AlarmCause}

/-! ### Causes of the alarm that a condition event leaves alone -/

/-- A cause that only its own unit adds and removes. -/
def Owned (a : AlarmCause) : Prop := a ≠ .stop ∧ a ≠ .motion

theorem record_causes (k : NoticeKind) (n : NoticeBody) (s : State) : (record k n s).alarm = s.alarm := by rw [record_eq_with]

theorem setMode_alarm (m : OpMode) (c : ModeCause) (s : State) : (setMode m c s).alarm = s.alarm := by
  unfold setMode
  rw [clipDemand_eq_with]
  dsimp only
  split <;> exact record_causes ..

theorem modeOnDisengaged_owned (ha : Owned a) (s : State) : a ∈ (modeOnDisengaged s).alarm.causes ↔ a ∈ s.alarm.causes := by
  unfold modeOnDisengaged
  split
  · rw [mem_removeAlarm, setMode_alarm]
    simp [ha.2]
  · rfl

theorem reviewStop_owned (ha : Owned a) (s : State) : a ∈ (reviewStop s).alarm.causes ↔ a ∈ s.alarm.causes := by
  unfold reviewStop
  split
  · simp [ha.1]
  · rfl

theorem confirmRelease_owned (ha : Owned a) (s : State) : a ∈ (confirmRelease s).alarm.causes ↔ a ∈ s.alarm.causes := by
  unfold confirmRelease
  split
  · unfold endRelease
    rw [modeOnDisengaged_owned ha, reviewStop_owned ha, record_causes]
    rfl
  · rfl

theorem abortEngagement_owned (ha : Owned a) (c : AbortCause) (r : ReleaseCause) (l : Option (List Condition)) (s : State) :
    a ∈ (abortEngagement c r l s).alarm.causes ↔ a ∈ s.alarm.causes := by
  unfold abortEngagement
  rw [confirmRelease_owned ha, record_causes]
  rfl

theorem stopOutsideEngaged_owned (ha : Owned a) (s : State) : a ∈ (stopOutsideEngaged s).alarm.causes ↔ a ∈ s.alarm.causes := by
  have halarm : a ∈ (addAlarm .stop s).alarm.causes ↔ a ∈ s.alarm.causes := by simp [ha.1]
  unfold stopOutsideEngaged
  split
  case h_1 | h_2 | h_3 => exact (abortEngagement_owned ha ..).trans halarm
  case h_4 => exact (confirmRelease_owned ha _).trans halarm
  case h_5 => exact halarm
  all_goals rfl

theorem conditionReport_owned (ha : Owned a) (l : List Condition) (s : State) :
    a ∈ (conditionReport l s).alarm.causes ↔ a ∈ s.alarm.causes := by
  unfold conditionReport
  split
  · exact stopOutsideEngaged_owned ha s
  split
  case h_1 | h_2 | h_3 =>
    split
    · rfl
    · exact abortEngagement_owned ha ..
  all_goals rfl

theorem conditionEvent_owned (ha : Owned a) (s : State) : a ∈ (conditionEvent s).alarm.causes ↔ a ∈ s.alarm.causes := by
  by_cases hs : NotShifting s
  · rw [conditionEvent_refresh hs]
  · obtain h | ⟨k, -, h⟩ := conditionEvent_shifting hs
    · rw [h]
      rfl
    · rw [h]
      exact conditionReport_owned ha ..

/-! ### A supply state entered -/

theorem reviewFills_alarm (s : State) : (reviewFills s).alarm = s.alarm :=
  (moves_reviewFills (K := fillsParts) (b := true) (List.Subset.refl _) (.refl ..)).stands.alarm (by decide) (by decide)

theorem setLimit_causes (l : Nat) (s : State) (h : 1000 ≤ l) :
    a ∈ (setLimit l s).alarm.causes ↔ a ∈ s.alarm.causes ∧ a ≠ .limiter := by
  unfold setLimit
  dsimp only
  rw [clipDemand_eq_with, if_neg (by omega)]
  exact mem_removeAlarm ..

/-- The alarm as a supply state is entered: LIMITER goes where the limiter does not run, EXHAUSTED as NO_SUPPLY is left. -/
theorem setSupply_causes (ha : Owned a) (st : SupplyState) (ph : Option Phase) (s : State) :
    a ∈ (setSupply st ph s).alarm.causes ↔ a ∈ s.alarm.causes ∧ (a = .limiter → limiterRuns st = true) ∧
      (a = .exhausted → st = .noSupply) := by
  have hlast : ∀ y : State, a ∈ (reviewFills (conditionEvent (clipDemand y))).alarm.causes ↔ a ∈ y.alarm.causes := fun y => by
    rw [reviewFills_alarm, conditionEvent_owned ha, clipDemand_eq_with]
  rw [setSupply_eq]
  generalize hx : s.modSupply (supplyIn st ph (floorOf s st)) = x
  have halarm : x.alarm = s.alarm := by rw [← hx]; rfl
  have hlimit : a ∈ (if limiterRuns st then x else setLimit 1000 x).alarm.causes ↔
      a ∈ s.alarm.causes ∧ (a = .limiter → limiterRuns st = true) := by
    split
    · next h => simp [halarm, h]
    · next h => rw [setLimit_causes _ _ le_rfl, halarm]; simp [h]
  unfold handSupply
  rw [hlast]
  have hrest : a ∈ (if st = .noSupply then if limiterRuns st then x else setLimit 1000 x
      else removeAlarm .exhausted (if limiterRuns st then x else setLimit 1000 x)).alarm.causes ↔
      a ∈ s.alarm.causes ∧ (a = .limiter → limiterRuns st = true) ∧ (a = .exhausted → st = .noSupply) := by
    split
    · next h => rw [hlimit]; simp [h]
    · next h => rw [mem_removeAlarm, hlimit]; simp [h, and_assoc]
  split <;> exact hrest

/-- A state entered keeps what the Supply Unit reads. -/
theorem sameFeed_setSupply (st : SupplyState) (ph : Option Phase) (s : State) : SameFeed s (setSupply st ph s) := by
  rw [setSupply_eq]
  have hset : SameFeed s (s.modSupply (supplyIn st ph (floorOf s st))) := ⟨⟨fun _ => rfl, rfl, rfl, rfl, rfl⟩, fun _ => rfl⟩
  exact hset.trans ((moves_handSupply (K := .thermal :: handParts) (b := true) (by decide) (by simp) (.refl ..)
    (.refl ..)).sameFeed (by decide))

/-- The last acts of a state's entry: the demand under its ceilings, the conditions and the fills. -/
theorem handSupply_last (st : SupplyState) (s : State) : ∃ y : State,
    handSupply st s = reviewFills (conditionEvent (clipDemand y)) := ⟨_, rfl⟩

/-- NO_SUPPLY and IDLE take the demand to 0 (R98). -/
theorem setSupply_demand {st : SupplyState} (h : st = .idle ∨ st = .noSupply) (ph : Option Phase) (s : State) :
    (setSupply st ph s).governor.demand = 0 := by
  have hstate := setSupply_state st ph s
  rw [setSupply_eq] at hstate ⊢
  obtain ⟨y, hy⟩ := handSupply_last st (s.modSupply (supplyIn st ph (floorOf s st)))
  rw [hy] at hstate ⊢
  have hlast : Moves ([.event] ++ fillsParts) true (clipDemand y) (reviewFills (conditionEvent (clipDemand y))) :=
    moves_reviewFills (by decide) (moves_conditionEvent (by decide) (.refl ..))
  rw [hlast.stands.supply (by decide)] at hstate
  have hceiling : supplyCeiling (clipDemand y) = 0 := by
    unfold supplyCeiling
    obtain rfl | rfl := h <;> rw [hstate]
  have hle := hlast.demand_le.trans (clipDemand_le_supply y)
  omega

/-! ### NO_SUPPLY (R102) -/

theorem owned_of_mem (h : a = .exhausted ∨ a = .limiter) : Owned a := by
  obtain rfl | rfl := h <;> simp [Owned]

theorem closeTankValves_alarm (s : State) : (closeTankValves s).alarm = s.alarm :=
  (moves_closeTankValves (K := feedParts) (b := true) (List.Subset.refl _) (.refl ..)).stands.alarm (by decide) (by decide)

/-- What the end of an override held by the Supply Unit touches. -/
def overrideParts : List Part := [.supply, .governor, .notices]

theorem moves_endSwitchover_over (s : State) : Moves overrideParts true s (endSwitchover s) := by
  unfold endSwitchover
  split
  · exact moves_endOverride (by decide) (by decide) (moves_supply (by decide) rfl rfl id (.refl ..))
  · exact .refl ..

theorem moves_beginSwitchover_over (s : State) : Moves overrideParts true s (beginSwitchover s) := by
  unfold beginSwitchover
  split
  · exact .refl ..
  · exact moves_beginOverride (by decide) (by decide) (moves_supply (by decide) rfl rfl id (.refl ..))

/-- NO_SUPPLY as it is entered, up to its notice and alarm. -/
def noSupplySet (s : State) : State := setSupply .noSupply none (endSwitchover (closeTankValves s))

/-- The record of SUPPLY_EXHAUSTED. -/
def exhaustedBody (t : Tank) (old : SupplyState) (c : ExhaustCause) : NoticeBody :=
  { subject := some (.tank t), old := some (.supply old), new := some (.supply .noSupply), cause := some (.exhausted c) }

theorem enterNoSupply_eq (c : ExhaustCause) (s : State) : enterNoSupply c s =
    addAlarm .exhausted (record .supplyExhausted (exhaustedBody (noSupplySet s).supply.selected s.supply.state c) (noSupplySet s)) := by
  unfold enterNoSupply noSupplySet exhaustedBody
  exact rfl

/-- The supply record in NO_SUPPLY. -/
def noSupplyRecord (x : Supply) : Supply :=
  { supplyIn .noSupply none x.floor { x with switchHeld := false } with limit := 1000, activity := none }

theorem noSupplySet_supply (s : State) : (noSupplySet s).supply = noSupplyRecord s.supply := by
  have hover : (endSwitchover (closeTankValves s)).supply = { s.supply with switchHeld := false } := by
    rw [endSwitchover_supply, closeTankValves_supply]
  have hfloor : floorOf (endSwitchover (closeTankValves s)) .noSupply = s.supply.floor :=
    (congrArg Supply.floor hover :)
  unfold noSupplySet noSupplyRecord
  rw [setSupply_supply, if_neg (by decide), hfloor, hover]

theorem sameRig_noSupplySet (s : State) : SameRig s (noSupplySet s) := by
  have hclose : SameRig s (closeTankValves s) :=
    (sameRig_commandTankValve .main false s).trans (sameRig_commandTankValve .reserve false _)
  have hover := (moves_endSwitchover_over (closeTankValves s)).sameRig (by decide)
  exact (hclose.trans hover).trans (sameFeed_setSupply ..).toSameRig

theorem sameFeed_noSupplySet (s : State) : SameFeed (closeTankValves s) (noSupplySet s) :=
  ((moves_endSwitchover_over (closeTankValves s)).sameFeed (by decide)).trans (sameFeed_setSupply .noSupply none _)

theorem noSupplySet_valves (s : State) :
    (noSupplySet s).valves.mainValve.openCmd = false ∧ (noSupplySet s).valves.reserveValve.openCmd = false := by
  have hsame := (sameFeed_noSupplySet s).valve
  obtain ⟨hm, hr⟩ := closeTankValves_openCmd s
  generalize closeTankValves s = x at *
  generalize noSupplySet s = y at *
  have hmain : y.valves.mainValve = x.valves.mainValve := hsame .main
  have hreserve : y.valves.reserveValve = x.valves.reserveValve := hsame .reserve
  rw [hmain, hreserve]
  exact ⟨hm, hr⟩

theorem noSupplySet_demand (s : State) : (noSupplySet s).governor.demand = 0 := by
  unfold noSupplySet
  exact setSupply_demand (.inr rfl) none _

theorem noSupplySet_limiter (s : State) : .limiter ∉ (noSupplySet s).alarm.causes := by
  unfold noSupplySet
  rw [setSupply_causes (owned_of_mem (.inr rfl))]
  exact fun h => absurd (h.2.1 rfl) (by decide)

theorem addAlarm_record_frame (c : AlarmCause) (k : NoticeKind) (n : NoticeBody) (s : State) :
    ∃ al : Alarm, (∀ d, d ∈ al.causes ↔ d = c ∨ d ∈ s.alarm.causes) ∧ addAlarm c (record k n s) =
      { s with notices := (record k n s).notices, tx := (record k n s).tx, alarm := al } := by
  refine ⟨(addAlarm c (record k n s)).alarm, fun d => ?_, (addAlarm_frame c (record k n s)).trans ?_⟩
  · rw [mem_addAlarm, record_causes]
  · exact congrArg (fun y : State => { y with alarm := (addAlarm c (record k n s)).alarm }) (record_eq_with k n s)

/-- NO_SUPPLY entered: both tank valves commanded CLOSED, the demand at 0, and the notice after the hand-on. -/
theorem enterNoSupply_exhausted (c : ExhaustCause) (h : SameRig s x) :
    Exhausted x.supply.selected x.supply.state c s (enterNoSupply c x) := by
  have hrig := h.trans (sameRig_noSupplySet x)
  have hsupply := noSupplySet_supply x
  have hvalves := noSupplySet_valves x
  have hdemand := noSupplySet_demand x
  have hlimiter := noSupplySet_limiter x
  have hsel : (noSupplySet x).supply.selected = x.supply.selected := by rw [hsupply]; rfl
  rw [enterNoSupply_eq, hsel]
  generalize noSupplySet x = y at *
  obtain ⟨al, hal, e⟩ := addAlarm_record_frame .exhausted .supplyExhausted (exhaustedBody x.supply.selected x.supply.state c) y
  rw [e]
  refine ⟨?_, hsel, ?_, ?_, ?_, hvalves.1, hvalves.2, hdemand, (hal _).2 (.inl rfl), ?_, y, rfl, hrig.disabled, hrig.clock⟩
  · exact (congrArg Supply.state hsupply :)
  · exact (congrArg Supply.phase hsupply :)
  · exact (congrArg Supply.limit hsupply :)
  · exact (congrArg Supply.switchHeld hsupply :)
  · intro hmem
    exact ((hal _).1 hmem).elim (by simp) hlimiter

end Sys2Proof.Machine
end

section
/-! PROOFS. A switch begun, and the return to tank feed (R100 to R102, R119, R121). -/

namespace Sys2Proof.Machine

variable {K : List Part} {b : Bool} {s t x y : State} {n m : Tank}

/-! ### The valves a switch waits for -/

/-- A valve that counts as arrived: it stands there, or in FAULT for a cause that does not hold it. -/
theorem judgeTarget_eq (s : State) : judgeTarget s =
    let a := s.valve (tankValve s.supply.selected)
    if a.state = .fault ∧ a.fault = some .noOpen then enterNoSupply .valveFault s
    else if a.state = .atOpen ∨ a.state = .fault then startSettling (decide (a.state = .fault)) s else s := by
  unfold judgeTarget
  dsimp only
  split <;> simp_all

theorem judgeOther_eq (s : State) : judgeOther s =
    let a := s.valve (tankValve (otherTank s.supply.selected))
    if a.state = .fault ∧ a.fault = some .stuckOpen then enterNoSupply .valveFault s
    else if a.state = .atClosed ∨ a.state = .fault then openTarget s else s := by
  unfold judgeOther
  dsimp only
  split <;> simp_all

theorem closedValve_openCmd (s : State) (n : Tank) : (closedValve s n).openCmd = false := by
  unfold closedValve
  dsimp only
  split <;> rfl

theorem closedValve_fault (s : State) (n : Tank) : (closedValve s n).fault = (s.valve (tankValve n)).fault ∧
    ((closedValve s n).state = .fault ↔ (s.valve (tankValve n)).state = .fault) := by
  unfold closedValve
  dsimp only
  split
  · exact ⟨rfl, .rfl⟩
  · next h => exact ⟨rfl, by simp [(not_or.1 h).2]⟩

theorem openedValve_openCmd (s : State) (n : Tank) : (openedValve s n).openCmd = true := by
  rw [openedValve_eq]
  unfold openedRecord
  split
  · rfl
  · split <;> rfl

theorem openedValve_fault (s : State) (n : Tank) : (openedValve s n).fault = (s.valve (tankValve n)).fault ∧
    ((openedValve s n).state = .fault ↔ (s.valve (tankValve n)).state = .fault) := by
  rw [openedValve_eq]
  unfold openedRecord
  split
  · exact ⟨rfl, .rfl⟩
  · next h => split <;> exact ⟨rfl, by simp [arrived, (not_or.1 h).2]⟩

/-! ### SWITCHING -/

/-- The state a switch was entered from (R119, R120). -/
def switchedFrom (x : Supply) : SupplyState := if x.state = .switching then x.switchFrom else x.state

/-- The supply record as a switch begins. -/
def switchingRecord (floor : Int) (x : Supply) : Supply :=
  supplyIn .switching (some .closingOther) floor { x with switchFrom := switchedFrom x }

theorem tankFloor_eq (s : State) : tankFloor s = s.param 36 := rfl

theorem markSwitching_supply (s : State) : (markSwitching s).supply = switchingRecord (s.param 36) s.supply := by
  unfold markSwitching
  rw [setSupply_supply, if_pos (by decide)]
  exact rfl

theorem sameFeed_markSwitching (s : State) : SameFeed s (markSwitching s) := by
  have hset : SameFeed s (s.modSupply fun x => { x with switchFrom := if x.state = .switching then x.switchFrom else x.state }) :=
    ⟨⟨fun _ => rfl, rfl, rfl, rfl, rfl⟩, fun _ => rfl⟩
  exact hset.trans (sameFeed_setSupply ..)

/-- The phases of a switch under way: the supply record but for its phase, its settle timer and its mark. -/
def SwitchOn (y u : State) : Prop :=
  ∃ (ph : Option Phase) (t : Option Timer) (k : Bool), u.supply = { y.supply with phase := ph, settle := t, targetStuck := k }

theorem SwitchOn.refl (y : State) : SwitchOn y y := ⟨y.supply.phase, y.supply.settle, y.supply.targetStuck, rfl⟩

theorem switchOn_of_supply {ph : Option Phase} {t : Option Timer} {k : Bool}
    (h : x.supply = { y.supply with phase := ph, settle := t, targetStuck := k }) : SwitchOn y x := ⟨ph, t, k, h⟩

/-- The phase OPENING_TARGET entered. -/
def openingTarget (s : State) : State := s.modSupply fun x => { x with phase := some .openingTarget }

theorem openTarget_eq (s : State) : openTarget s = judgeTarget (commandTankValve s.supply.selected true (openingTarget s)) := rfl

/-- What a switch leaves: the target reached, waited for or found at fault. -/
structure TargetJudged (n : Tank) (s y u : State) : Prop where
  valve : u.valve (tankValve n) = openedValve s n
  other : u.valve (tankValve (otherTank n)) = closedValve s (otherTank n)
  on : SwitchOn y u
  phase : if (openedValve s n).state = .atOpen ∨ (s.valve (tankValve n)).state = .fault then
      u.supply.phase = some .settling ∧ u.supply.settle = some ⟨5000, 0⟩ ∧
      u.supply.targetStuck = decide ((s.valve (tankValve n)).state = .fault)
    else u.supply.phase = some .openingTarget ∧ u.supply.settle = none

/-- The other tank's valve stands closed, or where its fault says: the target's valve is commanded OPEN. -/
theorem openTarget_judged (hrig : SameRig s y) (hsel : y.supply.selected = n) (hst : y.supply.state = .switching)
    (hsettle : y.supply.settle = none) (hv : y.valve (tankValve n) = s.valve (tankValve n))
    (ho : y.valve (tankValve (otherTank n)) = closedValve s (otherTank n)) :
    if (s.valve (tankValve n)).state = .fault ∧ (s.valve (tankValve n)).fault = some .noOpen then
      Exhausted n .switching .valveFault s (openTarget y)
    else TargetJudged n s y (openTarget y) := by
  subst hsel
  have hopen : (y.valve (tankValve (otherTank y.supply.selected))).openCmd = false := by rw [ho, closedValve_openCmd]
  obtain ⟨hz, hzo⟩ := commandTankValve_opens (s := openingTarget y) hopen
  have hopened : openedValve (openingTarget y) y.supply.selected = openedValve s y.supply.selected := by
    rw [openedValve_eq, openedValve_eq]
    exact openedRecord_congr (x := y) hrig hv
  have hsup : (commandTankValve y.supply.selected true (openingTarget y)).supply =
    { y.supply with phase := some .openingTarget } := commandTankValve_supply ..
  have hrig' : SameRig s (commandTankValve y.supply.selected true (openingTarget y)) :=
    hrig.trans (SameRig.trans (x := openingTarget y) ⟨fun _ => rfl, rfl, rfl, rfl, rfl⟩ (sameRig_commandTankValve ..))
  rw [hopened] at hz
  obtain ⟨hcause, hfault⟩ := openedValve_fault s y.supply.selected
  rw [openTarget_eq]
  generalize commandTankValve y.supply.selected true (openingTarget y) = z at *
  have hzsel : z.supply.selected = y.supply.selected := (congrArg Supply.selected hsup :)
  have hzo' : z.valve (tankValve (otherTank y.supply.selected)) = closedValve s (otherTank y.supply.selected) := hzo.trans ho
  rw [judgeTarget_eq, hzsel, hz]
  simp only [hcause, hfault]
  split
  · have hex := enterNoSupply_exhausted .valveFault hrig'
    rw [hzsel, show z.supply.state = .switching from (congrArg Supply.state hsup).trans hst] at hex
    exact hex
  · split
    · next h =>
      refine ⟨hz, hzo', ⟨some .settling, startTimer 5000, decide ((s.valve (tankValve y.supply.selected)).state = ValveState.fault), ?_⟩, ?_⟩
      · exact congrArg (fun r : Supply => { r with
          phase := some .settling, settle := startTimer 5000
          targetStuck := decide ((s.valve (tankValve y.supply.selected)).state = ValveState.fault) }) hsup
      · rw [if_pos h]
        exact ⟨rfl, rfl, rfl⟩
    · next h =>
      refine ⟨hz, hzo', ⟨some .openingTarget, none, y.supply.targetStuck, ?_⟩, ?_⟩
      · rw [hsup, ← hsettle]
      · rw [if_neg h, hsup]
        exact ⟨rfl, hsettle⟩

theorem beginSwitch_eq (s : State) : beginSwitch s =
    judgeOther (commandTankValve (otherTank s.supply.selected) false (markSwitching s)) := rfl

theorem otherTank_otherTank (n : Tank) : otherTank (otherTank n) = n := by cases n <;> rfl

/-- A switch to the selected tank, begun. -/
theorem beginSwitch_begun (h : SameFeed s x) (hfrom : switchedFrom x.supply = switchedFrom s.supply) :
    SwitchBegun x.supply.selected s (beginSwitch x) := by
  have hmark : SameFeed s (markSwitching x) := h.trans (sameFeed_markSwitching x)
  have hsupply := markSwitching_supply x
  obtain ⟨hy, hyo⟩ := commandTankValve_closes (otherTank x.supply.selected) (markSwitching x)
  have hysup := commandTankValve_supply (otherTank x.supply.selected) false (markSwitching x)
  have hrig : SameRig s (commandTankValve (otherTank x.supply.selected) false (markSwitching x)) :=
    hmark.toSameRig.trans (sameRig_commandTankValve ..)
  rw [hmark.closedValve] at hy
  rw [otherTank_otherTank, hmark.valve] at hyo
  rw [beginSwitch_eq]
  rw [hsupply] at hysup
  generalize commandTankValve (otherTank x.supply.selected) false (markSwitching x) = y at *
  generalize hn : x.supply.selected = n at *
  have hsel : y.supply.selected = n := (congrArg Supply.selected hysup).trans hn
  have hst : y.supply.state = .switching := congrArg Supply.state hysup
  have hsettle : y.supply.settle = none := congrArg Supply.settle hysup
  have hphase : y.supply.phase = some .closingOther := congrArg Supply.phase hysup
  have hfrom' : y.supply.switchFrom = switchedFrom s.supply := (congrArg Supply.switchFrom hysup).trans hfrom
  obtain ⟨hcause, hfault⟩ := closedValve_fault s (otherTank n)
  have hjudge := judgeOther_eq y
  rw [hsel, hy] at hjudge
  simp only [hcause, hfault] at hjudge
  have htarget := openTarget_judged (n := n) hrig hsel hst hsettle hyo hy
  unfold SwitchBegun
  dsimp only
  split
  · next hc =>
    rw [hjudge, if_pos hc]
    have hex := enterNoSupply_exhausted .valveFault hrig
    rwa [hsel, hst] at hex
  next hc =>
  rw [if_neg hc] at hjudge
  split
  · next hw =>
    rw [hjudge, if_neg fun h => h.elim hw.2 hw.1]
    exact ⟨hst, hsel, hphase, hsettle, hfrom', hyo, hy⟩
  next hw =>
  rw [hjudge, if_pos ((not_and_or.1 hw).symm.imp not_not.1 not_not.1)]
  split
  · next ha => rwa [if_pos ha] at htarget
  · next ha =>
    rw [if_neg ha] at htarget
    obtain ⟨hv, ho, ⟨ph, t, k, hon⟩, hp⟩ := htarget
    refine ⟨?_, ?_, ?_, hv, ho, hp⟩
    · rw [hon]; exact hst
    · rw [hon]; exact hsel
    · rw [hon]; exact hfrom'

/-! ### What a switch under way leaves alone -/

theorem enterNoSupply_state (c : ExhaustCause) (s : State) : (enterNoSupply c s).supply.state = .noSupply :=
  (enterNoSupply_exhausted c (.refl s)).1

/-- A switch that goes on: the supply record but for its phase and timer, the governor and the alarm stand. -/
structure SwitchGoes (y u : State) : Prop where
  on : SwitchOn y u
  governor : u.governor = y.governor
  alarm : u.alarm = y.alarm

theorem SwitchOn.trans (h : SwitchOn x y) (g : SwitchOn y t) : SwitchOn x t := by
  obtain ⟨p, q, k, e⟩ := h
  obtain ⟨p', q', k', e'⟩ := g
  exact ⟨p', q', k', by rw [e', e]⟩

theorem SwitchGoes.refl (y : State) : SwitchGoes y y := ⟨.refl y, rfl, rfl⟩

theorem SwitchGoes.trans (h : SwitchGoes x y) (g : SwitchGoes y t) : SwitchGoes x t :=
  ⟨h.on.trans g.on, g.governor.trans h.governor, g.alarm.trans h.alarm⟩

theorem commandTankValve_goes (n : Tank) (o : Bool) (s : State) : SwitchGoes s (commandTankValve n o s) := by
  have hst := (moves_commandTankValve (K := feedParts) (b := true) (t := n) (o := o) (List.Subset.refl _) (.refl _ _ s)).stands
  exact ⟨⟨s.supply.phase, s.supply.settle, s.supply.targetStuck, hst.supply (by decide)⟩,
    hst.governor (by decide) (by decide) (by decide), hst.alarm (by decide) (by decide)⟩

theorem judgeTarget_goes (s : State) (h : (judgeTarget s).supply.state ≠ .noSupply) : SwitchGoes s (judgeTarget s) := by
  rw [judgeTarget_eq] at h ⊢
  dsimp only at h ⊢
  split
  · next hc =>
    rw [if_pos hc] at h
    exact absurd (enterNoSupply_state ..) h
  · split
    · exact ⟨⟨_, _, _, rfl⟩, rfl, rfl⟩
    · exact .refl s

theorem openTarget_goes (s : State) (h : (openTarget s).supply.state ≠ .noSupply) : SwitchGoes s (openTarget s) := by
  have hphase : SwitchGoes s (openingTarget s) := ⟨⟨_, s.supply.settle, s.supply.targetStuck, rfl⟩, rfl, rfl⟩
  rw [openTarget_eq] at h ⊢
  exact (hphase.trans (commandTankValve_goes ..)).trans (judgeTarget_goes _ h)

theorem judgeOther_goes (s : State) (h : (judgeOther s).supply.state ≠ .noSupply) : SwitchGoes s (judgeOther s) := by
  rw [judgeOther_eq] at h ⊢
  dsimp only at h ⊢
  split
  · next hc =>
    rw [if_pos hc] at h
    exact absurd (enterNoSupply_state ..) h
  · next hc =>
    rw [if_neg hc] at h
    split
    · next ho =>
      rw [if_pos ho] at h
      exact openTarget_goes s h
    · exact .refl s

theorem beginSwitch_goes (s : State) (h : (beginSwitch s).supply.state ≠ .noSupply) : SwitchGoes (markSwitching s) (beginSwitch s) := by
  rw [beginSwitch_eq] at h ⊢
  exact (commandTankValve_goes ..).trans (judgeOther_goes _ h)

theorem beginSwitch_supply (s : State) (h : (beginSwitch s).supply.state ≠ .noSupply) : ∃ ph t k,
    (beginSwitch s).supply = { switchingRecord (s.param 36) s.supply with phase := ph, settle := t, targetStuck := k } := by
  obtain ⟨⟨ph, t, k, e⟩, -, -⟩ := beginSwitch_goes s h
  rw [markSwitching_supply] at e
  exact ⟨ph, t, k, e⟩

theorem beginSwitch_state (s : State) : (beginSwitch s).supply.state = .switching ∨ (beginSwitch s).supply.state = .noSupply := by
  by_cases h : (beginSwitch s).supply.state = .noSupply
  · exact .inr h
  · obtain ⟨ph, t, k, e⟩ := beginSwitch_supply s h
    exact .inl (by rw [e]; rfl)

/-! ### The empty-tank decision and the return to tank feed -/

/-- RESERVE gives way for an EMPTY MAIN where that is allowed (R102). -/
def ReserveAllowed (s : State) : Prop := s.supply.selected = .main ∧ s.param 44 = 1 ∧ s.tanks.reserve.state ≠ .empty

theorem emptyTankDecision_allowed (h : ReserveAllowed s) :
    emptyTankDecision s = beginSwitch (beginSwitchover (selectTank .reserve s)) :=
  if_pos ⟨h.1, by simp [autoReserve, h.2.1], h.2.2⟩

theorem emptyTankDecision_refused (h : ¬ReserveAllowed s) : emptyTankDecision s = enterNoSupply .tankEmpty s :=
  if_neg fun hc => h ⟨hc.1, by simpa [autoReserve] using hc.2.1, hc.2.2⟩

theorem sameFeed_selectTank (n : Tank) (s : State) : SameFeed s (selectTank n s) :=
  (moves_selectTank (K := handParts) (b := true) (List.Subset.refl _) (.refl ..)).sameFeed (by decide)

theorem sameFeed_beginSwitchover (s : State) : SameFeed s (beginSwitchover s) :=
  (moves_beginSwitchover_over s).sameFeed (by decide)

/-- The state in which the switch to RESERVE begins. -/
def reserveTaken (s : State) : State := beginSwitchover (selectTank .reserve s)

theorem reserveTaken_supply (s : State) : (reserveTaken s).supply = { s.supply with selected := .reserve, switchHeld := true } := by
  unfold reserveTaken
  rw [beginSwitchover_supply, selectTank_supply]

theorem sameFeed_reserveTaken (s : State) : SameFeed s (reserveTaken s) :=
  (sameFeed_selectTank .reserve s).trans (sameFeed_beginSwitchover _)

/-- The empty-tank decision turns to RESERVE under SWITCHOVER. -/
theorem emptyTankDecision_reserve (h : SameFeed s x) (hfrom : switchedFrom x.supply = switchedFrom s.supply)
    (ha : ReserveAllowed x) : SwitchBegun .reserve s (emptyTankDecision x) ∧
      ((emptyTankDecision x).supply.state = .switching → (emptyTankDecision x).supply.switchHeld = true) := by
  have htaken := reserveTaken_supply x
  have hbegun := beginSwitch_begun (h.trans (sameFeed_reserveTaken x))
    ((congrArg switchedFrom htaken).trans hfrom)
  rw [htaken] at hbegun
  rw [emptyTankDecision_allowed ha]
  refine ⟨hbegun, fun hst => ?_⟩
  obtain ⟨ph, t, k, e⟩ := beginSwitch_supply (reserveTaken x) (by rw [reserveTaken, hst]; decide)
  exact ((congrArg Supply.switchHeld e :).trans (congrArg Supply.switchHeld htaken :) :)

end Sys2Proof.Machine
end

section
/-! PROOFS. The return to tank feed (R100 to R102), and the supply as ENGAGED is entered (R99). -/

namespace Sys2Proof.Machine

variable {K : List Part} {b : Bool} {s t x y u : State} {n m : Tank}

/-- A state from which the Supply Unit goes on as from the other. -/
structure SameSupply (s x : State) : Prop extends SameFeed s x where
  selected : x.supply.selected = s.supply.selected
  state : x.supply.state = s.supply.state
  switchFrom : x.supply.switchFrom = s.supply.switchFrom

theorem SameSupply.switchedFrom (h : SameSupply s x) : switchedFrom x.supply = switchedFrom s.supply := by
  unfold Machine.switchedFrom
  rw [h.state, h.switchFrom]

theorem SameRig.symm (h : SameRig s x) : SameRig x s :=
  ⟨fun n => (h.level n).symm, h.params.symm, h.terminals.symm, h.disabled.symm, h.clock.symm⟩

theorem SameRig.reserveAllowed (h : SameRig s x) (hsel : x.supply.selected = s.supply.selected) :
    ReserveAllowed x ↔ ReserveAllowed s := by
  have hlevel : x.tanks.reserve.state = s.tanks.reserve.state := h.level .reserve
  unfold ReserveAllowed
  rw [hsel, h.param, hlevel]

theorem selectedEmpty_iff (s : State) : selectedEmpty s = true ↔ (s.tank s.supply.selected).state = .empty := by
  simp [selectedEmpty]

/-- A tank that feeds the pump (R100). -/
structure Feeding (s u : State) : Prop where
  state : u.supply.state = .tank
  selected : u.supply.selected = s.supply.selected
  phase : u.supply.phase = none
  floor : u.supply.floor = s.param 36
  valve : u.valve (tankValve s.supply.selected) = openedValve s s.supply.selected
  other : u.valve (tankValve (otherTank s.supply.selected)) = s.valve (tankValve (otherTank s.supply.selected))

/-- The supply record as TANK is entered. -/
def feedRecord (floor : Int) (x : Supply) : Supply := supplyIn .tank none floor x

theorem setSupply_tank_supply (s : State) : (setSupply .tank none s).supply = feedRecord (s.param 36) s.supply := by
  rw [setSupply_supply, if_pos (by decide)]
  rfl

/-- The tank that is fed from at once: its neighbour is commanded CLOSED. -/
theorem feedFromTank_feeds (h : SameFeed s x) (hsel : x.supply.selected = s.supply.selected)
    (ho : (s.valve (tankValve (otherTank s.supply.selected))).openCmd = false) :
    let a := s.valve (tankValve s.supply.selected)
    let u := feedFromTank (setSupply .tank none x)
    if a.openCmd = false ∧ a.state = .fault ∧ a.fault = some .noOpen then Exhausted s.supply.selected .tank .valveFault s u
    else Feeding s u ∧ u.supply = feedRecord (s.param 36) x.supply := by
  have hset : SameFeed s (setSupply .tank none x) := h.trans (sameFeed_setSupply ..)
  have hsupply := setSupply_tank_supply x
  rw [h.param] at hsupply
  generalize setSupply .tank none x = y at *
  have hysel : y.supply.selected = s.supply.selected := (congrArg Supply.selected hsupply).trans hsel
  obtain ⟨hv, hvo⟩ := commandTankValve_opens (n := s.supply.selected) (s := y) (by rw [hset.valve]; exact ho)
  rw [hset.openedValve] at hv
  rw [hset.valve] at hvo
  have hz := commandTankValve_supply s.supply.selected true y
  have hrig : SameRig s (commandTankValve s.supply.selected true y) := hset.toSameRig.trans (sameRig_commandTankValve ..)
  obtain ⟨hcause, hfault⟩ := openedValve_fault s s.supply.selected
  unfold feedFromTank
  dsimp only
  rw [hysel, hset.valve]
  generalize commandTankValve s.supply.selected true y = z at *
  rw [hv, openedValve_openCmd]
  simp only [hfault, hcause, true_and]
  rw [hsupply] at hz
  have hzsel : z.supply.selected = s.supply.selected := (congrArg Supply.selected hz).trans hsel
  split
  · have hex := enterNoSupply_exhausted .valveFault hrig
    rwa [hzsel, show z.supply.state = .tank from congrArg Supply.state hz] at hex
  · exact ⟨⟨congrArg Supply.state hz, hzsel, congrArg Supply.phase hz, congrArg Supply.floor hz, hv, hvo⟩, hz⟩

theorem returnToTank_empty (h : (s.tank s.supply.selected).state = .empty) : returnToTank s = emptyTankDecision s :=
  if_pos ((selectedEmpty_iff s).2 h)

theorem returnToTank_feeds (h : (s.tank s.supply.selected).state ≠ .empty)
    (ho : (s.valve (tankValve (otherTank s.supply.selected))).openCmd = false) :
    returnToTank s = feedFromTank (setSupply .tank none s) := by
  unfold returnToTank
  rw [if_neg (mt (selectedEmpty_iff s).1 h), if_pos ho]

theorem enterSwitching_full (h : (s.tank s.supply.selected).state ≠ .empty) : enterSwitching s = beginSwitch s :=
  if_neg (mt (selectedEmpty_iff s).1 h)

theorem returnToTank_switches (h : (s.tank s.supply.selected).state ≠ .empty)
    (ho : (s.valve (tankValve (otherTank s.supply.selected))).openCmd = true) : returnToTank s = beginSwitch s := by
  unfold returnToTank
  rw [if_neg (mt (selectedEmpty_iff s).1 h), if_neg (by rw [ho]; decide), enterSwitching_full h]

/-- What the empty-tank decision leaves. -/
theorem emptyTankDecision_returned (h : SameFeed s x) (hsel : x.supply.selected = s.supply.selected)
    (hfrom : switchedFrom x.supply = switchedFrom s.supply) :
    if s.supply.selected = .main ∧ s.param 44 = 1 ∧ s.tanks.reserve.state ≠ .empty then
      SwitchBegun .reserve s (emptyTankDecision x) ∧
        ((emptyTankDecision x).supply.state = .switching → (emptyTankDecision x).supply.switchHeld = true)
    else Exhausted s.supply.selected x.supply.state .tankEmpty s (emptyTankDecision x) := by
  have hallowed := h.toSameRig.reserveAllowed hsel
  split
  · next hc => exact emptyTankDecision_reserve h hfrom (hallowed.2 hc)
  · next hc =>
    rw [emptyTankDecision_refused fun ha => hc (hallowed.1 ha), ← hsel]
    exact enterNoSupply_exhausted .tankEmpty h.toSameRig

/-- The return to tank feed (R100, R102). -/
theorem returnToTank_returned (h : SameSupply s x) : TankFeedReturned s (returnToTank x) := by
  have hlevel : (x.tank x.supply.selected).state = (s.tank s.supply.selected).state := by rw [h.selected, h.level]
  have hother : (x.valve (tankValve (otherTank x.supply.selected))).openCmd =
      (s.valve (tankValve (otherTank s.supply.selected))).openCmd := by rw [h.selected, h.valve]
  have hempty := emptyTankDecision_returned h.toSameFeed h.selected h.switchedFrom
  rw [h.state] at hempty
  have hbegun := beginSwitch_begun h.toSameFeed h.switchedFrom
  rw [h.selected] at hbegun
  unfold TankFeedReturned
  dsimp only
  split
  · next he =>
    rw [returnToTank_empty (hlevel.trans he)]
    exact hempty
  next he =>
  split
  · next ho => rwa [returnToTank_switches (by rwa [hlevel]) (hother.trans ho)]
  · next ho =>
    have hclosed := Bool.eq_false_iff.2 ho
    have hfeeds := feedFromTank_feeds h.toSameFeed h.selected hclosed
    rw [returnToTank_feeds (by rwa [hlevel]) (hother.trans hclosed)]
    dsimp only at hfeeds
    split
    · next ha => rwa [if_pos ha] at hfeeds
    · next ha =>
      rw [if_neg ha] at hfeeds
      obtain ⟨⟨h₁, h₂, h₃, h₄, h₅, h₆⟩, -⟩ := hfeeds
      exact ⟨h₁, h₂, h₃, h₄, h₅, h₆⟩

/-- A supply on its way to a tank, or without one. -/
def TankBound (st : SupplyState) : Prop := st = .tank ∨ st = .switching ∨ st = .noSupply

theorem emptyTankDecision_bound (s : State) : TankBound (emptyTankDecision s).supply.state := by
  by_cases h : ReserveAllowed s
  · rw [emptyTankDecision_allowed h]
    exact .inr (beginSwitch_state _)
  · rw [emptyTankDecision_refused h]
    exact .inr (.inr (enterNoSupply_state ..))

theorem feedFromTank_bound (s : State) (h : s.supply.state = .tank) : TankBound (feedFromTank s).supply.state := by
  unfold feedFromTank
  dsimp only
  split
  · exact .inr (.inr (enterNoSupply_state ..))
  · rw [commandTankValve_supply]
    exact .inl h

theorem returnToTank_bound (s : State) : TankBound (returnToTank s).supply.state := by
  unfold returnToTank enterSwitching
  split
  · exact emptyTankDecision_bound s
  · split
    · exact feedFromTank_bound _ (setSupply_state ..)
    · exact .inr (beginSwitch_state s)

end Sys2Proof.Machine
end

section
/-! PROOFS. What every act on the way to a tank keeps: a property of the governor, of the Thermal Monitor, of a fill or of the
supply record that the few acts such a way is made of keep. -/

namespace Sys2Proof.Machine

variable {K : List Part} {b : Bool} {s t x y u : State} {n m : Tank} {P : State → Prop}

/-! ### The acts on the way -/

/-- A supply state in which no tank may be filled (R139). -/
def OffLine (st : SupplyState) : Prop := st ≠ .hydrant ∧ st ≠ .draft

/-- What the way to a tank leaves of the supply record, and what stays absent on it. -/
structure Kept (x z : Supply) : Prop where
  attempts : z.attempts = x.attempts
  lastReason : z.lastReason = x.lastReason
  primeHeld : z.primeHeld = x.primeHeld
  attempt : x.attempt = none → z.attempt = none
  prime : x.prime = none → z.prime = none
  primerLimit : x.primerLimit = none → z.primerLimit = none
  hydrant : x.hydrant = none → z.hydrant = none
  loss : x.loss = none → z.loss = none
  lossLatch : x.lossLatch = false → z.lossLatch = false

theorem Kept.refl (x : Supply) : Kept x x := ⟨rfl, rfl, rfl, id, id, id, id, id, id⟩

theorem Kept.trans {x y z : Supply} (h : Kept x y) (g : Kept y z) : Kept x z :=
  ⟨g.attempts.trans h.attempts, g.lastReason.trans h.lastReason, g.primeHeld.trans h.primeHeld, g.attempt ∘ h.attempt,
    g.prime ∘ h.prime, g.primerLimit ∘ h.primerLimit, g.hydrant ∘ h.hydrant, g.loss ∘ h.loss, g.lossLatch ∘ h.lossLatch⟩

/-- A write of the supply record that the way to a tank makes. -/
def FeedWrite (f : Supply → Supply) : Prop := ∀ x : Supply, Kept x (f x) ∧ ((f x).state = x.state ∨ OffLine (f x).state)

theorem feedWrite_supplyIn {st : SupplyState} (h : OffLine st) (ph : Option Phase) (floor : Int) :
    FeedWrite (supplyIn st ph floor) := fun x => by
  refine ⟨⟨rfl, rfl, rfl, fun ha => ?_, fun _ => rfl, fun _ => rfl, fun ha => ?_, fun _ => rfl, fun _ => rfl⟩, .inr h⟩
  · exact (ite_eq_right_iff.2 fun _ => ha)
  · exact (ite_eq_right_iff.2 fun _ => ha)

/-- What is handed on with a supply state, a tank's fill apart. -/
def handOnParts : List Part := [.demand, .alarm, .event, .notices]

/-- A new record of a valve, whose fault stands. -/
def FaultStands (a b : Actuator) : Prop := a.state = .fault → b.state = .fault ∧ b.fault = a.fault

theorem faultStands_commanded (s : State) (v : ValveRole) :
    FaultStands (s.valve v) (openedRecord s v) ∧ FaultStands (s.valve v) (closedRecord s v) := by
  constructor <;> intro h
  · unfold openedRecord
    rw [if_pos (.inr h)]
    exact ⟨h, rfl⟩
  · unfold closedRecord
    rw [if_pos (.inr h)]
    exact ⟨h, rfl⟩

/-- A property that the acts on the way to a tank keep: the hand-on, the fills reviewed or closed, a tank valve's record, a
write of the supply record, and SWITCHOVER begun or ended. -/
structure FeedKeeps (P : State → Prop) : Prop where
  moves : ∀ {y z : State}, Moves handOnParts true y z → P y → P z
  fill : ∀ {y : State} (n : Tank), P y → P (reviewFill n y)
  force : ∀ {y : State} (n : Tank), P y → P (forceFillClosed n y)
  valve : ∀ {y : State} (n : Tank) (a : Actuator), FaultStands (y.valve (tankValve n)) a → P y →
    P { y with valves := setValve y.valves (tankValve n) a }
  supply : ∀ {y : State} {f : Supply → Supply}, FeedWrite f → P y → P (y.modSupply f)
  begins : ∀ {y : State}, P y → P (beginOverride .switchover y)
  ends : ∀ {y : State}, P y → P (endOverride .switchover y)

theorem FeedKeeps.fills (h : FeedKeeps P) (hs : P s) : P (reviewFills s) := by
  refine runInOrder_keeps (fun y f => h.moves (.choices _ _ y f)) _ (fun f hf y hy => ?_) s hs
  simp only [List.mem_cons, List.not_mem_nil, or_false] at hf
  obtain rfl | rfl := hf <;> exact h.fill _ hy

theorem FeedKeeps.limit (h : FeedKeeps P) (hs : P s) : P (setLimit 1000 s) := by
  unfold setLimit
  dsimp only
  rw [if_neg (Nat.lt_irrefl _)]
  refine h.moves (.clip true (by decide) (moves_removeAlarm (by decide) (.refl ..))) (h.supply (fun x => ⟨?_, .inl rfl⟩) hs)
  exact ⟨rfl, rfl, rfl, id, id, id, id, id, fun _ => rfl⟩

theorem FeedKeeps.setSupply (h : FeedKeeps P) {st : SupplyState} (hst : OffLine st) (hd : st ≠ .draftPriming)
    (ph : Option Phase) (hs : P s) : P (setSupply st ph s) := by
  have hset : P (s.modSupply (supplyIn st ph (floorOf s st))) := h.supply (feedWrite_supplyIn hst ph _) hs
  rw [setSupply_eq]
  generalize s.modSupply (supplyIn st ph (floorOf s st)) = y at *
  have hlimit : P (if limiterRuns st then y else setLimit 1000 y) := by
    split
    · exact hset
    · exact h.limit hset
  unfold handSupply
  dsimp only
  rw [if_neg hd]
  refine h.fills (h.moves (moves_conditionEvent (by decide) (.clip true (by decide) (.refl ..))) ?_)
  split
  · exact hlimit
  · exact h.moves (moves_removeAlarm (by decide) (.refl ..)) hlimit

theorem FeedKeeps.command (h : FeedKeeps P) (n : Tank) (o : Bool) (hs : P s) : P (commandTankValve n o s) := by
  unfold commandTankValve
  split
  · split
    · exact h.moves (moves_record (by decide) (.refl ..)) hs
    · rw [carryOut_opens]
      exact h.fill _ (h.valve _ _ (faultStands_commanded ..).1 (h.force _ hs))
  · rw [carryOut_closes]
    exact h.fill _ (h.valve _ _ (faultStands_commanded ..).2 hs)

theorem FeedKeeps.closeValves (h : FeedKeeps P) (hs : P s) : P (closeTankValves s) :=
  h.command .reserve false (h.command .main false hs)

theorem FeedKeeps.write (h : FeedKeeps P) {f : Supply → Supply} (hf : ∀ x, Kept x (f x)) (hst : ∀ x, (f x).state = x.state)
    (hs : P s) : P (s.modSupply f) := h.supply (fun x => ⟨hf x, .inl (hst x)⟩) hs

theorem FeedKeeps.switchover (h : FeedKeeps P) (hs : P s) : P (beginSwitchover s) ∧ P (endSwitchover s) := by
  have hwrite : ∀ k : Bool, P (s.modSupply fun x => { x with switchHeld := k }) := fun k =>
    h.write (fun _ => ⟨rfl, rfl, rfl, id, id, id, id, id, id⟩) (fun _ => rfl) hs
  unfold beginSwitchover endSwitchover
  constructor
  · split
    · exact hs
    · exact h.begins (hwrite true)
  · split
    · exact h.ends (hwrite false)
    · exact hs

theorem FeedKeeps.enterNoSupply (h : FeedKeeps P) (c : ExhaustCause) (hs : P s) : P (enterNoSupply c s) := by
  rw [enterNoSupply_eq]
  refine h.moves (moves_addAlarm (by decide) (moves_record (by decide) (.refl ..))) ?_
  exact h.setSupply (by simp [OffLine]) (by simp) none (h.switchover (h.closeValves hs)).2

theorem FeedKeeps.judgeTarget (h : FeedKeeps P) (hs : P s) : P (judgeTarget s) := by
  rw [judgeTarget_eq]
  dsimp only
  split
  · exact h.enterNoSupply _ hs
  · split
    · exact h.write (fun _ => ⟨rfl, rfl, rfl, id, id, id, id, id, id⟩) (fun _ => rfl) hs
    · exact hs

theorem FeedKeeps.openTarget (h : FeedKeeps P) (hs : P s) : P (openTarget s) := by
  rw [openTarget_eq]
  exact h.judgeTarget (h.command _ _ (h.write (fun _ => ⟨rfl, rfl, rfl, id, id, id, id, id, id⟩) (fun _ => rfl) hs))

theorem FeedKeeps.judgeOther (h : FeedKeeps P) (hs : P s) : P (judgeOther s) := by
  rw [judgeOther_eq]
  dsimp only
  split
  · exact h.enterNoSupply _ hs
  · split
    · exact h.openTarget hs
    · exact hs

theorem FeedKeeps.markSwitching (h : FeedKeeps P) (hs : P s) : P (markSwitching s) :=
  h.setSupply (by simp [OffLine]) (by simp) _
    (h.write (fun _ => ⟨rfl, rfl, rfl, id, id, id, id, id, id⟩) (fun _ => rfl) hs)

theorem FeedKeeps.switchGoes (h : FeedKeeps P) (hs : P (Machine.markSwitching s)) : P (beginSwitch s) := by
  rw [beginSwitch_eq]
  exact h.judgeOther (h.command _ _ hs)

theorem FeedKeeps.beginSwitch (h : FeedKeeps P) (hs : P s) : P (beginSwitch s) := h.switchGoes (h.markSwitching hs)

theorem FeedKeeps.selectTank (h : FeedKeeps P) (n : Tank) (hs : P s) : P (selectTank n s) := by
  unfold Machine.selectTank
  split
  · exact hs
  · exact h.moves (moves_reviewLowTank (by decide) (moves_conditionEvent (by decide) (.refl ..)))
      (h.write (fun _ => ⟨rfl, rfl, rfl, id, id, id, id, id, id⟩) (fun _ => rfl) hs)

theorem FeedKeeps.emptyTankDecision (h : FeedKeeps P) (hs : P s) : P (emptyTankDecision s) := by
  unfold Machine.emptyTankDecision
  split
  · exact h.beginSwitch (h.switchover (h.selectTank _ hs)).1
  · exact h.enterNoSupply _ hs

theorem FeedKeeps.enterSwitching (h : FeedKeeps P) (hs : P s) : P (enterSwitching s) := by
  unfold Machine.enterSwitching
  split
  · exact h.emptyTankDecision (h.markSwitching hs)
  · exact h.beginSwitch hs

theorem FeedKeeps.feedFromTank (h : FeedKeeps P) (hs : P s) : P (feedFromTank s) := by
  unfold Machine.feedFromTank
  dsimp only
  split
  · exact h.enterNoSupply _ (h.command _ _ hs)
  · exact h.command _ _ hs

theorem FeedKeeps.returnToTank (h : FeedKeeps P) (hs : P s) : P (returnToTank s) := by
  unfold Machine.returnToTank
  split
  · exact h.emptyTankDecision hs
  · split
    · exact h.feedFromTank (h.setSupply (by simp [OffLine]) (by simp) none hs)
    · exact h.enterSwitching hs

/-! ### What is kept -/

theorem moves_fill_self (n : Tank) (s : State) :
    Moves (fillParts n) true s (reviewFill n s) ∧ Moves (fillParts n) true s (forceFillClosed n s) :=
  ⟨moves_reviewFill (List.Subset.refl _) (.refl ..), moves_forceFillClosed (List.Subset.refl _) (.refl ..)⟩

theorem moves_override_self (k : OverrideKind) (s : State) :
    Moves [.governor, .notices] true s (beginOverride k s) ∧ Moves [.governor, .notices] true s (endOverride k s) :=
  ⟨moves_beginOverride (by decide) (by decide) (.refl ..), moves_endOverride (by decide) (by decide) (.refl ..)⟩

/-- The accumulator at 0 and no freeze, as the governor starts (R95). -/
def LoopIdle (s : State) : Prop := s.governor.acc = 0 ∧ s.governor.frozen = false

theorem Moves.loopIdle (h : Moves K b s t) (hK : .governor ∉ K) (hs : LoopIdle s) : LoopIdle t := by
  have hpair := h.stands.pair hK
  rw [LoopIdle, hpair]
  exact hs

theorem deriveFreeze_unfrozen {g : Governor} (h : g.frozen = false) : (deriveFreeze g).frozen = false := by
  unfold deriveFreeze
  rwa [if_neg (by simp [h])]

theorem derivePair_loopIdle (hs : LoopIdle s) : LoopIdle (derivePair s) := by
  obtain ⟨frozen, reseed, h⟩ := derivePair_frame s
  refine ⟨?_, deriveFreeze_unfrozen hs.2⟩
  rw [h]
  exact hs.1

theorem loopIdle_of_governor (h : t.governor = s.governor) (hs : LoopIdle s) : LoopIdle t := by rwa [LoopIdle, h]

theorem feedKeeps_loopIdle : FeedKeeps LoopIdle where
  moves h hs := h.loopIdle (by decide) hs
  fill n hs := (moves_fill_self n _).1.loopIdle (by simp [fillParts]) hs
  force n hs := (moves_fill_self n _).2.loopIdle (by simp [fillParts]) hs
  valve _ _ _ hs := hs
  supply _ hs := hs
  begins hs := by
    unfold beginOverride
    split
    · exact loopIdle_of_governor (record_governor ..) (derivePair_loopIdle hs)
    · exact hs
  ends hs := by
    unfold endOverride
    split
    · exact loopIdle_of_governor (record_governor ..) (derivePair_loopIdle hs)
    · exact hs

/-- What the acts on the way touch beside the supply record and the tank valves. -/
def wayParts : List Part := handOnParts ++ .governor :: fillsParts

/-- A reading of the state that those parts leave alone. -/
theorem feedKeeps_of {α : Type} {f : State → α} (a : α) (hm : ∀ {y z : State}, Moves wayParts true y z → f z = f y)
    (hv : ∀ (y : State) (v : PerValve Actuator), f { y with valves := v } = f y)
    (hs : ∀ (y : State) (x : Supply), f { y with supply := x } = f y) : FeedKeeps fun s => f s = a where
  moves h h' := (hm (h.mono (by decide))).trans h'
  fill n h := (hm ((moves_fill_self n _).1.mono (by cases n <;> decide))).trans h
  force n h := (hm ((moves_fill_self n _).2.mono (by cases n <;> decide))).trans h
  valve _ _ _ h := (hv ..).trans h
  supply _ h := (hs ..).trans h
  begins h := (hm ((moves_override_self .switchover _).1.mono (by decide))).trans h
  ends h := (hm ((moves_override_self .switchover _).2.mono (by decide))).trans h

theorem feedKeeps_hot (t : Option Timer) : FeedKeeps fun s => s.thermal.hot = t :=
  feedKeeps_of t (fun h => by rw [h.stands.thermal (by decide)]) (fun _ _ => rfl) fun _ _ => rfl

theorem feedKeeps_outputs (o : Outputs) : FeedKeeps fun s => s.outputs = o :=
  feedKeeps_of o (fun h => h.stands.outputs (by decide)) (fun _ _ => rfl) fun _ _ => rfl

theorem feedKeeps_shadow (x : Setting) : FeedKeeps fun s => s.governor.shadow = x :=
  feedKeeps_of x (fun h => (h.stands.setpoint (by decide)).1) (fun _ _ => rfl) fun _ _ => rfl

theorem feedKeeps_kept (x : Supply) : FeedKeeps fun s => Kept x s.supply where
  moves h hs := by rw [h.stands.supply (by decide)]; exact hs
  fill n hs := by rw [(moves_fill_self n _).1.stands.supply (by simp [fillParts])]; exact hs
  force n hs := by rw [(moves_fill_self n _).2.stands.supply (by simp [fillParts])]; exact hs
  valve _ _ _ hs := hs
  supply hf hs := hs.trans (hf _).1
  begins hs := by rw [(moves_override_self .switchover _).1.stands.supply (by decide)]; exact hs
  ends hs := by rw [(moves_override_self .switchover _).2.stands.supply (by decide)]; exact hs

/-- A tank valve's fault stands on the way. -/
theorem feedKeeps_fault (n : Tank) (c : ValveFault) :
    FeedKeeps fun s => (s.valve (tankValve n)).state = .fault ∧ (s.valve (tankValve n)).fault = some c where
  moves h hs := by rw [h.stands.valve _ (by cases n <;> decide)]; exact hs
  fill m hs := by rw [reviewFill_tankValve]; exact hs
  force m hs := by rw [forceFillClosed_tankValve]; exact hs
  valve m a ha hs := by
    obtain rfl | hm := eq_or_ne m n
    · rw [valve_setValve]
      obtain ⟨hst, hf⟩ := ha hs.1
      exact ⟨hst, hf.trans hs.2⟩
    · rw [valve_setValve_ne (by revert hm; cases m <;> cases n <;> decide)]
      exact hs
  supply _ hs := hs
  begins hs := by rw [(moves_override_self .switchover _).1.stands.valve _ (by cases n <;> decide)]; exact hs
  ends hs := by rw [(moves_override_self .switchover _).2.stands.valve _ (by cases n <;> decide)]; exact hs

/-! ### An override other than SWITCHOVER -/

theorem mem_beginOverride {k l : OverrideKind} (hne : l ≠ k) :
    l ∈ (beginOverride k s).governor.overrides ↔ l ∈ s.governor.overrides := by
  unfold beginOverride
  split
  · unfold recordOverride
    rw [record_governor, derivePair_overrides]
    exact (mem_insertIn ..).trans ⟨fun h => h.2.resolve_left hne, fun h => ⟨by cases l <;> decide, .inr h⟩⟩
  · rfl

theorem mem_endOverride {k l : OverrideKind} :
    l ∈ (endOverride k s).governor.overrides ↔ l ∈ s.governor.overrides ∧ l ≠ k := by
  unfold endOverride
  split
  · unfold recordOverride
    rw [record_governor, derivePair_overrides]
    exact mem_removeFrom ..
  · next h => exact ⟨fun hin => ⟨hin, fun e => h (e ▸ hin)⟩, And.left⟩

theorem Moves.overrides (h : Moves K b s t) (hK : .governor ∉ K) : t.governor.overrides = s.governor.overrides := by
  rw [h.stands.pair hK]

theorem feedKeeps_override {l : OverrideKind} (hl : l ≠ .switchover) (p : Prop) :
    FeedKeeps fun s => l ∈ s.governor.overrides ↔ p where
  moves h hs := by rw [h.overrides (by decide)]; exact hs
  fill n hs := by rw [(moves_fill_self n _).1.overrides (by simp [fillParts])]; exact hs
  force n hs := by rw [(moves_fill_self n _).2.overrides (by simp [fillParts])]; exact hs
  valve _ _ _ hs := hs
  supply _ hs := hs
  begins hs := (mem_beginOverride hl).trans hs
  ends hs := (mem_endOverride.trans (and_iff_left hl)).trans hs

/-! ### A suspended fill -/

/-- A fill that stays suspended: off the line its permission does not hold. -/
structure FillHeld (n : Tank) (s : State) : Prop where
  offLine : OffLine s.supply.state
  stage : (s.tank n).stage = .suspended
  fillOpen : (s.tank n).fillOpen = false
  valve : (s.valve (fillValve n)).openCmd = false

theorem fillPermission_offLine (h : OffLine s.supply.state) (n : Tank) : fillPermission s n = false := by
  refine List.all_eq_false.2 ⟨.supplyHydrantOrDraft, by decide, ?_⟩
  simp [permissionPart, h.1, h.2]

theorem reviewFill_held (h : FillHeld n s) : reviewFill n s = s := by
  unfold reviewFill
  rw [h.stage]
  exact if_neg (by simp [fillPermission_offLine h.offLine])

theorem FillHeld.of_eq (h : FillHeld n s) (hsupply : t.supply = s.supply) (htank : t.tank n = s.tank n)
    (hvalve : t.valve (fillValve n) = s.valve (fillValve n)) : FillHeld n t :=
  ⟨hsupply ▸ h.offLine, htank ▸ h.stage, htank ▸ h.fillOpen, hvalve ▸ h.valve⟩

theorem Moves.fillHeld (h : Moves K b s t) (hs : FillHeld n s) (hK : ∀ p ∈ [.supply, .tank n, .level n, .valve (fillValve n)], p ∉ K) :
    FillHeld n t :=
  hs.of_eq (h.stands.supply (hK _ (by simp))) (h.stands.tank n (hK _ (by simp)) (hK _ (by simp)))
    (h.stands.valve _ (hK _ (by simp)))

theorem feedKeeps_fillHeld (n : Tank) : FeedKeeps (FillHeld n) where
  moves h hs := h.fillHeld hs (by cases n <;> decide)
  fill m hs := by
    obtain rfl | hm := eq_or_ne m n
    · rw [reviewFill_held hs]
      exact hs
    · exact (moves_fill_self m _).1.fillHeld hs (by revert hm; cases m <;> cases n <;> decide)
  force m hs := by
    obtain rfl | hm := eq_or_ne m n
    · rw [show forceFillClosed m _ = _ from if_neg (by rw [hs.valve]; decide)]
      exact hs
    · exact (moves_fill_self m _).2.fillHeld hs (by revert hm; cases m <;> cases n <;> decide)
  valve m a _ hs := hs.of_eq rfl rfl (valve_setValve_ne (by cases m <;> cases n <;> decide) _ a)
  supply hf hs := ⟨(hf _).2.elim (fun e => (by rw [OffLine]; exact e ▸ hs.offLine)) id, hs.stage, hs.fillOpen, hs.valve⟩
  begins hs := (moves_override_self .switchover _).1.fillHeld hs (by cases n <;> decide)
  ends hs := (moves_override_self .switchover _).2.fillHeld hs (by cases n <;> decide)

end Sys2Proof.Machine
end

section
/-! PROOFS. What an entry to ENGAGED leaves (R27, R56, R95, R99, R158). -/

namespace Sys2Proof.Machine

variable {K : List Part} {b : Bool} {s t x y u : State} {n m : Tank} {k : Kind}

/-! ### One act among others in a free order -/

/-- The acts before one and those after it in a free order, by a relation that each of them keeps to. -/
theorem runInOrder_split {β : Type} {l : List β} {a : β} (ha : a ∈ l) (hl : l.Nodup) (act : β → State → State)
    {R : State → State → Prop} (hrefl : ∀ y, R y y) (htrans : ∀ {x y z}, R x y → R y z → R x z)
    (hchoices : ∀ y f, R y (y.modChoices f)) (h : ∀ b ∈ l, b ≠ a → ∀ y, R y (act b y)) (s : State) :
    ∃ x, R s x ∧ R (act a x) (runInOrder (l.map act) s) := by
  have hfold : ∀ (l' : List β), l' ⊆ l → a ∉ l' → ∀ y, R y ((l'.map act).foldl (fun y f => f y) y) := by
    intro l'
    induction l' with
    | nil => exact fun _ _ => hrefl
    | cons c l' ih =>
      intro hsub hnot y
      obtain ⟨hne, hrest⟩ := not_or.1 (mt List.mem_cons.2 hnot)
      exact htrans (h c (hsub (by simp)) (Ne.symm hne) y) (ih (fun d hd => hsub (by simp [hd])) hrest _)
  have hperm := arrange_perm s.choices l
  have hnodup : (arrange s.choices l).Nodup := hperm.nodup_iff.2 hl
  unfold runInOrder
  rw [arrange_map]
  obtain ⟨l₁, l₂, e⟩ := List.append_of_mem (hperm.mem_iff.2 ha)
  have hsub : ∀ c, c ∈ l₁ ++ a :: l₂ → c ∈ l := fun c hc => hperm.subset (e ▸ hc)
  rw [e] at hnodup ⊢
  obtain ⟨-, h₂, hdisj⟩ := List.nodup_append.1 hnodup
  rw [List.map_append, List.foldl_append, List.map_cons, List.foldl_cons]
  refine ⟨_, htrans (hchoices s _) (hfold l₁ (fun c hc => hsub c (by simp [hc])) (fun hc => hdisj _ hc _ (by simp) rfl) _),
    hfold l₂ (fun c hc => hsub c (by simp [hc])) (List.nodup_cons.1 h₂).1 _⟩

/-! ### The five acts of an entry -/

/-- The blocks that follow the PTO into ENGAGED (R49). -/
inductive EntryBlock where
  | mode | governor | supply | thermal | tanks
deriving DecidableEq

/-- What a block does at an entry. -/
def EntryBlock.act : EntryBlock → State → State
  | .mode => modeOnEngaged
  | .governor => governorReset
  | .supply => supplyEnterEngaged
  | .thermal => thermalEnterEngaged
  | .tanks => tanksOnPto

/-- What a block's act at an entry touches, a trip apart. -/
def EntryBlock.parts : EntryBlock → List Part
  | .mode => modeParts
  | .governor => [.governor, .setpoint]
  | .supply => .enter :: switchParts
  | .thermal => [.thermal]
  | .tanks => tankPtoParts

/-- Every block. -/
def entryBlocks : List EntryBlock := [.mode, .governor, .supply, .thermal, .tanks]

theorem mem_entryBlocks (a : EntryBlock) : a ∈ entryBlocks := by cases a <;> decide

/-- What the other blocks touch. -/
def EntryBlock.others (a : EntryBlock) : List Part := (entryBlocks.filter (· ≠ a)).flatMap EntryBlock.parts

/-- What an entry touches, a trip apart. -/
def enteringParts : List Part := entryBlocks.flatMap EntryBlock.parts

theorem handEntry_eq (s : State) : handEntry s = runInOrder (entryBlocks.map EntryBlock.act) s := by
  unfold handEntry
  exact congrArg (runInOrder · _) rfl

/-- ENGAGED to a kind whose mode may stand (R27). -/
def Entering (k : Kind) (s : State) : Prop := s.drive.pto = .engaged ∧ s.drive.kind = some k ∧ MayStand k s

theorem Entering.notShifting (h : Entering k s) : NotShifting s := notShifting_of_engaged h.1

theorem Entering.moves (h : Moves K b s t) (hd : .drive ∉ K) (hw : .watch ∉ K) (hi : .inputs ∉ K) (hs : Entering k s) :
    Entering k t := by
  obtain ⟨hpto, hkind, hstand⟩ := hs
  have hdrive := (h.calm hd (notShifting_of_engaged hpto)).1
  refine ⟨by rw [hdrive, hpto], by rw [hdrive, hkind], hstand.imp_right fun ⟨hmov, hbrake⟩ => ⟨?_, ?_⟩⟩
  · rw [h.stands.watch hw]
    exact hmov
  · rw [State.asserted, qualified_congr (h.stands.inputs hi)]
    exact hbrake

theorem modeOnEngaged_stands (h : Entering k s) : modeOnEngaged s = setMode (kindMode k) .ptoEngaged s := by
  unfold modeOnEngaged
  rw [h.2.1]
  exact enterKindMode_stands h.2.2

theorem moves_entryAct (a : EntryBlock) (h : Entering k y) : Moves a.parts true y (a.act y) := by
  cases a
  · show Moves _ true y (modeOnEngaged y)
    rw [modeOnEngaged_stands h]
    exact moves_setMode (List.Subset.refl _) (fun e => absurd e (kindMode_ne_trip k)) (.refl ..)
  · exact moves_governorReset (K := [.governor, .setpoint]) (by decide) (by decide) (.refl ..)
  · exact moves_supplyEnterEngaged (by decide) (by decide) (.refl ..)
  · exact moves_thermalEnterEngaged (by decide) (.refl ..)
  · exact moves_tanksOnPto (List.Subset.refl _) (.refl ..)

theorem EntryBlock.parts_subset_others {a c : EntryBlock} (h : c ≠ a) : c.parts ⊆ a.others := by
  intro p hp
  exact List.mem_flatMap.2 ⟨c, List.mem_filter.2 ⟨mem_entryBlocks c, by simpa using h⟩, hp⟩

theorem EntryBlock.others_spare (a : EntryBlock) : .drive ∉ a.others ∧ .watch ∉ a.others ∧ .inputs ∉ a.others := by
  cases a <;> decide

theorem entering_act (a : EntryBlock) (h : Entering k y) : Entering k (a.act y) :=
  h.moves (moves_entryAct a h) (by cases a <;> decide) (by cases a <;> decide) (by cases a <;> decide)

/-- An entry with one block's act picked out. -/
theorem handEntry_split (a : EntryBlock) (h : Entering k s) : ∃ x, Entering k x ∧ Moves a.others true s x ∧
    Moves a.others true (a.act x) (handEntry s) := by
  obtain ⟨hd, hw, hi⟩ := a.others_spare
  rw [handEntry_eq]
  obtain ⟨x, hx, hu⟩ := runInOrder_split (mem_entryBlocks a) (by decide) EntryBlock.act
    (R := fun y z => Entering k y → Moves a.others true y z) (fun y _ => .refl ..)
    (fun hxy hyz hx => (hxy hx).trans (hyz (hx.moves (hxy hx) hd hw hi))) (fun y f _ => .choices ..)
    (fun c _ hc y hy => (moves_entryAct c hy).mono (EntryBlock.parts_subset_others hc)) s
  have hxe := h.moves (hx h) hd hw hi
  exact ⟨x, hxe, hx h, hu (entering_act a hxe)⟩

theorem moves_handEntry_entering (h : Entering k s) : Moves enteringParts true s (handEntry s) := by
  obtain ⟨x, hxe, hx, hu⟩ := handEntry_split .mode h
  exact ((hx.mono (by decide)).trans ((moves_entryAct .mode hxe).mono (by decide))).trans (hu.mono (by decide))

/-- A property that the blocks beside one keep holds at the end where that block brings it about. -/
theorem handEntry_owned (a : EntryBlock) {Q : State → Prop} (hc : ∀ y f, Q y → Q (y.modChoices f)) (hown : ∀ y, Q (a.act y))
    (hkeep : ∀ c, c ≠ a → ∀ y, Q y → Q (c.act y)) (s : State) : Q (handEntry s) := by
  rw [handEntry_eq]
  obtain ⟨x, -, hu⟩ := runInOrder_split (mem_entryBlocks a) (by decide) EntryBlock.act (R := fun y z => Q y → Q z)
    (fun y h => h) (fun hxy hyz h => hyz (hxy h)) hc (fun c _ hne y => hkeep c hne y) s
  exact hu (hown x)

end Sys2Proof.Machine
end

section
/-! PROOFS. The mode, the governor, the supply and the hot timer as ENGAGED is entered, and a trip at the entry. -/

namespace Sys2Proof.Machine

variable {K : List Part} {b : Bool} {s t x y u : State} {n m : Tank} {k : Kind}

/-- What a block's act at an entry touches, a trip included. -/
def EntryBlock.wide : EntryBlock → List Part
  | .mode => tripParts
  | a => a.parts

theorem moves_entryAct_wide (a : EntryBlock) (y : State) : Moves a.wide true y (a.act y) := by
  cases a
  · exact moves_modeOnEngaged (List.Subset.refl _) (.refl ..)
  · exact moves_governorReset (K := [.governor, .setpoint]) (by decide) (by decide) (.refl ..)
  · exact moves_supplyEnterEngaged (by decide) (by decide) (.refl ..)
  · exact moves_thermalEnterEngaged (by decide) (.refl ..)
  · exact moves_tanksOnPto (List.Subset.refl _) (.refl ..)

/-! ### The mode -/

/-- The ceiling of the mode an engagement kind enters (R26). -/
def kindCeiling (k : Kind) (s : State) : Nat := if k = .roll then s.paramNat 22 else 1000

theorem handEntry_mode (h : Entering k s) :
    (handEntry s).interlock.mode = kindMode k ∧ (handEntry s).interlock.ceiling = kindCeiling k s := by
  obtain ⟨x, hxe, hx, hu⟩ := handEntry_split .mode h
  have hact : EntryBlock.mode.act x = setMode (kindMode k) .ptoEngaged x := modeOnEngaged_stands hxe
  obtain ⟨hframe, -⟩ := setMode_spec (kindMode_ne_trip k) .ptoEngaged x
  rw [hact] at hu
  have hns : NotShifting (setMode (kindMode k) .ptoEngaged x) := hact ▸ (entering_act .mode hxe).notShifting
  obtain ⟨hm, hc, -, -⟩ := (hu.calm (by decide) hns).2 (by decide)
  rw [hm, hc, setMode_mode]
  refine ⟨rfl, (congrArg (fun y : State => y.interlock.ceiling) hframe).trans ?_⟩
  cases k with
  | stationary => rfl
  | roll => exact congrFun (paramNat_congr hx.stands.params) 22

/-! ### The governor -/

/-- The operator's setpoint and the pair empty. -/
def PairIdle (s : State) : Prop := s.governor.shadow = .idle ∧ s.governor.active = .idle

theorem Moves.pairIdle (h : Moves K b s t) (hK : .setpoint ∉ K) (hs : PairIdle s) : PairIdle t := by
  obtain ⟨hshadow, hactive⟩ := h.stands.setpoint hK
  exact ⟨hshadow.trans hs.1, hactive hs.1 hs.2⟩

theorem handEntry_pairIdle (s : State) : PairIdle (handEntry s) :=
  handEntry_owned .governor (fun _ _ h => h) (fun _ => ⟨rfl, rfl⟩)
    (fun c hc y hy => (moves_entryAct_wide c y).pairIdle (by revert hc; cases c <;> decide) hy) s

theorem handEntry_loopIdle (s : State) : LoopIdle (handEntry s) := by
  refine handEntry_owned .governor (fun _ _ h => h) (fun _ => ⟨rfl, rfl⟩) (fun c hc y hy => ?_) s
  cases c
  case supply => exact feedKeeps_loopIdle.returnToTank (feedKeeps_loopIdle.selectTank .main hy)
  case governor => exact absurd rfl hc
  all_goals exact (moves_entryAct_wide _ y).loopIdle (by decide) hy

/-! ### The supply -/

theorem handEntry_bound (s : State) : TankBound (handEntry s).supply.state := by
  refine handEntry_owned .supply (Q := fun y => TankBound y.supply.state) (fun _ _ h => h) (fun y => returnToTank_bound _) (fun c hc y hy => ?_) s
  rw [(moves_entryAct_wide c y).stands.supply (by revert hc; cases c <;> decide)]
  exact hy

/-- MAIN feeds at once where it is not EMPTY, RESERVE's valve is commanded CLOSED and its own is not in FAULT (R100). -/
structure MainFeeding (s u : State) : Prop where
  state : u.supply.state = .tank
  selected : u.supply.selected = .main
  floor : u.supply.floor = s.param 36
  mainValve : u.valves.mainValve = openedValve s .main
  reserveValve : u.valves.reserveValve = s.valves.reserveValve

theorem supplyEnterEngaged_feeds (h : SameFeed s x) (hm : s.tanks.main.state ≠ .empty)
    (hr : s.valves.reserveValve.openCmd = false) (hf : s.valves.mainValve.state ≠ .fault) :
    MainFeeding s (supplyEnterEngaged x) := by
  have hz : SameFeed s (selectTank .main x) := h.trans (sameFeed_selectTank .main x)
  have hsel : (selectTank .main x).supply.selected = .main := (congrArg Supply.selected (selectTank_supply .main x)).trans rfl
  have hother : ((selectTank .main x).valve (tankValve (otherTank (selectTank .main x).supply.selected))).openCmd = false := by
    rw [hsel, hz.valve]
    exact hr
  have hlevel : ((selectTank .main x).tank (selectTank .main x).supply.selected).state ≠ .empty := by
    rw [hsel, hz.level]
    exact hm
  have hact : supplyEnterEngaged x = feedFromTank (setSupply .tank none (selectTank .main x)) := returnToTank_feeds hlevel hother
  rw [hact]
  generalize selectTank .main x = z at *
  have hfeeds := feedFromTank_feeds (s := { s with supply := { s.supply with selected := .main } }) (x := z)
    ⟨⟨hz.level, hz.params, hz.terminals, hz.disabled, hz.clock⟩, hz.valve⟩ hsel hr
  dsimp only at hfeeds
  rw [if_neg fun hc => hf hc.2.1] at hfeeds
  obtain ⟨⟨h₁, h₂, -, h₄, h₅, h₆⟩, -⟩ := hfeeds
  exact ⟨h₁, h₂, h₄, h₅, h₆⟩

theorem handEntry_feeds (h : Entering k s) (hm : s.tanks.main.state ≠ .empty) (hr : s.valves.reserveValve.openCmd = false)
    (hf : s.valves.mainValve.state ≠ .fault) : MainFeeding s (handEntry s) := by
  obtain ⟨x, -, hx, hu⟩ := handEntry_split .supply h
  obtain ⟨h₁, h₂, h₃, h₄, h₅⟩ := supplyEnterEngaged_feeds (hx.sameFeed (by decide)) hm hr hf
  have hsupply : (handEntry s).supply = (supplyEnterEngaged x).supply := hu.stands.supply (by decide)
  have hmain : (handEntry s).valves.mainValve = (supplyEnterEngaged x).valves.mainValve := hu.stands.valve .mainValve (by decide)
  have hreserve : (handEntry s).valves.reserveValve = (supplyEnterEngaged x).valves.reserveValve :=
    hu.stands.valve .reserveValve (by decide)
  generalize supplyEnterEngaged x = z at *
  exact ⟨by rw [hsupply, h₁], by rw [hsupply, h₂], by rw [hsupply, h₃], by rw [hmain, h₄], by rw [hreserve, h₅]⟩

/-! ### The hot timer (R158) -/

theorem handEntry_hot (h : s.thermal.zone = .hot) : (handEntry s).thermal.hot = startTimer 60000 := by
  have hzone : ∀ (c : EntryBlock) (y : State), (c.act y).thermal.zone = y.thermal.zone := fun c y =>
    ((moves_entryAct_wide c y).stands.zone (by cases c <;> decide)).1
  have hown : ∀ y : State, y.thermal.zone = .hot → (thermalEnterEngaged y).thermal.hot = startTimer 60000 := fun y hy => by
    unfold thermalEnterEngaged
    rw [if_pos hy]
    rfl
  have hkeep : ∀ (c : EntryBlock) (y : State), y.thermal.zone = .hot → y.thermal.hot = startTimer 60000 →
      (c.act y).thermal.hot = startTimer 60000 := fun c y hz hy => by
    cases c
    case thermal => exact hown y hz
    case supply => exact (feedKeeps_hot _).returnToTank ((feedKeeps_hot _).selectTank .main hy)
    all_goals
      rw [(moves_entryAct_wide _ y).stands.thermal (by decide)]
      exact hy
  rw [handEntry_eq]
  obtain ⟨x, hx, hu⟩ := runInOrder_split (mem_entryBlocks .thermal) (by decide) EntryBlock.act
    (R := fun y z => y.thermal.zone = .hot → z.thermal.zone = .hot ∧ (y.thermal.hot = startTimer 60000 → z.thermal.hot = startTimer 60000))
    (fun y hy => ⟨hy, id⟩) (fun hxy hyz hx => ⟨(hyz (hxy hx).1).1, fun ht => (hyz (hxy hx).1).2 ((hxy hx).2 ht)⟩)
    (fun y _ hy => ⟨hy, id⟩) (fun c _ _ y hy => ⟨(hzone c y).trans hy, hkeep c y hy⟩) s
  have hxz := (hx h).1
  exact (hu ((hzone .thermal x).trans hxz)).2 (hown x hxz)

/-! ### A trip at the entry (R27) -/

/-- ENGAGED to PUMP_STATIONARY that may not stand. -/
def EnteringTripped (s : State) : Prop :=
  s.drive.pto = .engaged ∧ s.drive.kind = some .stationary ∧ (s.interlock.moving = true ∨ s.asserted .parkBrake = false)

theorem EnteringTripped.act (a : EntryBlock) (h : EnteringTripped y) : EnteringTripped (a.act y) := by
  obtain ⟨hpto, hkind, hmove⟩ := h
  have hmoves := moves_entryAct_wide a y
  have hdrive := (hmoves.calm (by cases a <;> decide) (notShifting_of_engaged hpto)).1
  have hmov : (a.act y).interlock.moving = y.interlock.moving := by rw [hmoves.stands.watch (by cases a <;> decide)]
  have hbrake : (a.act y).asserted .parkBrake = y.asserted .parkBrake := by
    rw [State.asserted, qualified_congr (hmoves.stands.inputs (by cases a <;> decide))]
    rfl
  exact ⟨by rw [hdrive, hpto], by rw [hdrive, hkind], by rw [hmov, hbrake]; exact hmove⟩

theorem modeOnEngaged_trips (h : EnteringTripped s) : Tripped (modeOnEngaged s) := by
  obtain ⟨-, hkind, hmove⟩ := h
  obtain ⟨d, hd⟩ := enterKindMode_trips (c := .ptoEngaged) hmove
  have hact : modeOnEngaged s = enterKindMode .stationary .ptoEngaged s := by
    unfold modeOnEngaged
    rw [hkind]
  rw [hact, hd]
  exact tripMode_tripped ..

theorem handEntry_tripped (h : EnteringTripped s) : Tripped (handEntry s) := by
  rw [handEntry_eq]
  refine (runInOrder_reaches (P := EnteringTripped) (Q := fun y => EnteringTripped y ∧ Tripped y) (fun _ _ hy => hy)
    modeOnEngaged _ (List.mem_map_of_mem (f := EntryBlock.act) (mem_entryBlocks .mode)) (fun f hf y hy => ?_)
    (fun f hf y hy => ?_) (fun y hy => ⟨hy.act .mode, modeOnEngaged_trips hy⟩) s h).2
  · obtain ⟨a, -, rfl⟩ := List.mem_map.1 hf
    exact hy.act a
  · obtain ⟨a, -, rfl⟩ := List.mem_map.1 hf
    refine ⟨hy.1.act a, ?_⟩
    cases a
    case mode => exact modeOnEngaged_trips hy.1
    all_goals exact hy.2.moves (moves_entryAct_wide _ y) (notShifting_of_engaged hy.1.1) (by decide) (by decide) (by decide) (by decide)

end Sys2Proof.Machine
end

section
/-! PROOFS. The tries of a shift and the engagement (O35). -/

namespace Sys2Proof.Machine

variable {K : List Part} {b : Bool} {s t x y u : State} {k : Kind} {c : Confirmation}

/-! ### ENGAGED entered from SHIFTING (R56) -/

/-- The record of ENGAGE_DONE. -/
def engageDoneBody (c : Confirmation) (s : State) : NoticeBody :=
  { old := some (.pto .shifting), new := some (.pto .engaged), value := some (s.drive.tries : Int)
    cause := some (.confirmation c) }

/-- ENGAGED and its notice, before the hand-on. -/
def engagedSet (c : Confirmation) (s : State) : State := record .engageDone (engageDoneBody c s) (s.modDrive (engagedRecord c))

theorem enterEngaged_eq (c : Confirmation) (s : State) : enterEngaged c s = orderIfTripped (handEntry (engagedSet c s)) := rfl

theorem engagedSet_frame (c : Confirmation) (s : State) : engagedSet c s = { s with
    drive := engagedRecord c s.drive, notices := (record .engageDone (engageDoneBody c s) s).notices
    tx := (record .engageDone (engageDoneBody c s) s).tx } := by
  obtain ⟨hn, hx⟩ := record_congr (s := s) (t := s.modDrive (engagedRecord c)) .engageDone (engageDoneBody c s) rfl rfl rfl rfl
  rw [← hn, ← hx]
  exact record_eq_with ..

theorem engagedSet_entering (hk : s.drive.kind = some k) (h : MayStand k s) : Entering k (engagedSet c s) := by
  rw [engagedSet_frame]
  exact ⟨rfl, hk, h⟩

/-- What an engagement whose mode stands leaves. -/
structure EngagedFrom (c : Confirmation) (k : Kind) (s u : State) : Prop where
  mode : u.interlock.mode = kindMode k
  ceiling : u.interlock.ceiling = kindCeiling k s
  drive : u.drive = engagedRecord c s.drive
  pair : PairIdle u
  demand : u.governor.demand = 0
  loop : LoopIdle u
  bound : TankBound u.supply.state
  feeds : s.tanks.main.state ≠ .empty → s.valves.reserveValve.openCmd = false → s.valves.mainValve.state ≠ .fault → MainFeeding s u
  hot : s.thermal.zone = .hot → u.thermal.hot = startTimer 60000
  stands : Stands (.drive :: enteringParts) s u

theorem MainFeeding.of_eq (h : MainFeeding x u) (hp : x.params = s.params) (hv : x.valves = s.valves) (ht : x.terminals = s.terminals) :
    MainFeeding s u := by
  have hopened : openedValve x .main = openedValve s .main := by
    have hq : ∀ r, x.qualified r = s.qualified r := fun _ => qualified_congr ht
    have hpn : x.paramNat = s.paramNat := paramNat_congr hp
    have hvalve : x.valve = s.valve := by unfold State.valve; rw [hv]
    unfold openedValve
    rw [hvalve, hpn]
    simp only [hq]
  obtain ⟨h₁, h₂, h₃, h₄, h₅⟩ := h
  refine ⟨h₁, h₂, h₃.trans ?_, h₄.trans hopened, h₅.trans (by rw [hv])⟩
  unfold State.param
  rw [hp]

theorem enterEngaged_stands (hk : s.drive.kind = some k) (h : MayStand k s) : EngagedFrom c k s (enterEngaged c s) := by
  have hentering := engagedSet_entering (c := c) hk h
  obtain ⟨hmode, hceiling⟩ := handEntry_mode hentering
  have hmoves := moves_handEntry_entering hentering
  have hdrive := (hmoves.calm (by decide) hentering.notShifting).1
  have hact : enterEngaged c s = handEntry (engagedSet c s) := by
    rw [enterEngaged_eq]
    exact if_neg (by rw [hmode]; exact kindMode_ne_trip k)
  have hframe := engagedSet_frame c s
  have hset : Stands (.drive :: enteringParts) s (engagedSet c s) := by
    have hset : Moves (.drive :: enteringParts) true s (engagedSet c s) :=
      moves_record (by decide) (moves_drive (by decide) (.refl ..))
    exact hset.stands
  rw [hact]
  have hfeeds := handEntry_feeds hentering
  have hhot := handEntry_hot (s := engagedSet c s)
  have hpair := handEntry_pairIdle (engagedSet c s)
  have hdemand := handEntry_demand (engagedSet c s)
  have hloop := handEntry_loopIdle (engagedSet c s)
  have hbound := handEntry_bound (engagedSet c s)
  have hst := hset.trans (hmoves.mono (List.subset_cons_self ..)).stands
  generalize handEntry (engagedSet c s) = u at *
  rw [hframe] at hceiling hdrive hfeeds hhot
  exact ⟨hmode, hceiling, hdrive, hpair, hdemand, hloop, hbound,
    fun h₁ h₂ h₃ => (hfeeds h₁ h₂ h₃).of_eq rfl rfl rfl, hhot, hst⟩

/-- The engagement that trips at its entry (R27): the order follows the hand-on. -/
theorem enterEngaged_trips (hk : s.drive.kind = some .stationary)
    (hmove : s.interlock.moving = true ∨ s.asserted .parkBrake = false) (hfb : s.qualified .ptoFb ≠ some false) :
    Tripped (enterEngaged c s) ∧ ∃ x, x.drive = engagedRecord c s.drive ∧ PumpStopped .motion x (enterEngaged c s) := by
  have hframe := engagedSet_frame c s
  have hentering : EnteringTripped (engagedSet c s) := by
    rw [hframe]
    exact ⟨rfl, hk, hmove⟩
  have htrip := handEntry_tripped hentering
  have hmoves := moves_handEntry (K := entryParts) (b := true) (List.Subset.refl _) (.refl _ _ (engagedSet c s))
  have hdrive := (hmoves.calm (by decide) (notShifting_of_engaged hentering.1)).1
  have hterm := hmoves.stands.inputs (by decide)
  have hact : enterEngaged c s = disengageOrder .motion (handEntry (engagedSet c s)) := by
    rw [enterEngaged_eq]
    exact if_pos htrip.mode
  rw [hact]
  generalize handEntry (engagedSet c s) = x at *
  rw [hframe] at hdrive hterm
  have hpto : x.drive.pto = .engaged := by rw [hdrive]; rfl
  have hfb' : x.qualified .ptoFb ≠ some false := by rw [qualified_congr hterm]; exact hfb
  exact ⟨disengageOrder_tripped htrip hpto hfb', x, hdrive, disengageOrder_stopped .motion hpto hfb'⟩

/-! ### The tries -/

theorem expireFeedback_again (hf : s.drive.feedback.isSome = true) (hq : s.qualified .ptoFb ≠ none)
    (ht : s.drive.tries < s.paramNat 26) :
    expireFeedback s = s.modDrive fun d => { toPto .settle d with settle := startTimer 1000 } := by
  unfold expireFeedback
  rw [ite_isNone, if_pos hf, if_neg hq]
  exact if_pos ht

theorem expireFeedback_spent (hf : s.drive.feedback.isSome = true) (hq : s.qualified .ptoFb ≠ none)
    (ht : s.paramNat 26 ≤ s.drive.tries) : expireFeedback s = driveFault .noFeedback s := by
  unfold expireFeedback
  rw [ite_isNone, if_pos hf, if_neg hq]
  exact if_neg (Nat.not_lt.2 ht)

theorem expireFeedback_engages (hf : s.drive.feedback.isSome = true) (hq : s.qualified .ptoFb = none) :
    expireFeedback s = enterEngaged .unconfirmed s := by
  unfold expireFeedback
  rw [ite_isNone, if_pos hf, if_pos hq]

/-- SHIFTING entered, the try counted (R52). -/
def shiftingSet (s : State) : State :=
  s.modDrive fun d => { toPto .shifting d with tries := d.tries + 1, feedback := startTimer (feedbackTime s) }

theorem expireDriveSettle_shifts (hs : s.drive.settle.isSome = true) (hq : s.qualified .ptoFb ≠ some true) :
    expireDriveSettle s = shiftingSet s := by
  unfold expireDriveSettle
  rw [ite_isNone, if_pos hs]
  exact if_neg hq

theorem expireDriveSettle_engages (hs : s.drive.settle.isSome = true) (hq : s.qualified .ptoFb = some true) :
    expireDriveSettle s = enterEngaged .confirmed (shiftingSet s) := by
  unfold expireDriveSettle
  rw [ite_isNone, if_pos hs]
  exact if_pos hq

/-- A driven clutch found without its feedback, outside ENGAGED. -/
theorem driveFault_spent (h : s.drive.pto = .shifting) :
    let u := driveFault .noFeedback s
    u.drive.pto = .fault ∧ u.drive.fault = some .noFeedback ∧ u.drive.clutch = false ∧ u.drive.tries = s.drive.tries ∧
    .ptoFault ∈ u.alarm.causes ∧ u.trend.fast = 30 ∧
    u = { s with
      drive := u.drive, alarm := u.alarm, trend := u.trend, notices := u.notices, tx := u.tx
      interlock := { s.interlock with conditions := trueConditions u } } := by
  dsimp only
  rw [driveFault_outside .noFeedback (by rw [h]; decide)]
  obtain ⟨hframe, hdrive, hcause, htrend, -⟩ := enterDriveFault_spec .noFeedback s
  dsimp only at hframe hdrive hcause htrend
  refine ⟨by rw [hdrive]; rfl, by rw [hdrive]; rfl, by rw [hdrive]; rfl, by rw [hdrive]; rfl, hcause, by rw [htrend]; rfl, hframe⟩

/-- What an entry touches beside the drive leaves the rest of the part alone. -/
theorem EngagedFrom.frame {s₀ : State} (h : EngagedFrom c k s u) (hsense : s.sense = s₀.sense) (hterm : s.terminals = s₀.terminals)
    (htotals : s.totals = s₀.totals) (hclock : s.clock = s₀.clock) (htrend : s.trend = s₀.trend) (hlink : s.link = s₀.link)
    (hparams : s.params = s₀.params) (hout : s.outputs = s₀.outputs) (hp : s.powered = true)
    (hcount : s.choiceCount = s₀.choiceCount + 1) (hpending : s.pending = s₀.pending) :
    u = { u with
      sense := s₀.sense, terminals := s₀.terminals, totals := s₀.totals, clock := s₀.clock, trend := s₀.trend
      link := s₀.link, params := s₀.params, outputs := s₀.outputs, powered := true
      choiceCount := s₀.choiceCount + 1, pending := s₀.pending } := by
  have hst := h.stands
  rw [← hsense, ← hterm, ← htotals, ← hclock, ← htrend, ← hlink, ← hparams, ← hout, ← hcount, ← hpending, ← hp,
    ← hst.sense (by decide), ← hst.inputs (by decide), ← hst.totals (by decide), ← hst.clock, ← hst.trend (by decide), ← hst.link,
    ← hst.params, ← hst.outputs (by decide), ← hst.choiceCount, ← hst.pending, ← hst.powered]

theorem engagedRecord_eq (c : Confirmation) (d : Drive) : engagedRecord c d = { d with
    pto := .engaged, clutch := true, confirmation := some c, lastTries := d.tries, tries := 0
    lifetime := min (d.lifetime + 1) 65535, precheck := none, feedback := none, settle := none
    ramp := none, releasing := none, window := none } := by
  rw [← countUp_eq_min]
  rfl

/-- The two ways to an engagement: the feedback timer's expiry with no PTO_FB assigned, and the settle timer's that finds it
asserted. -/
theorem engagement_course {i : Instr} {shown : Confirmation} {tries : Nat}
    (h : (i = .feedbackTimerExpiry ∧ s.drive.feedback.isSome = true ∧ s.qualified .ptoFb = none ∧ shown = .unconfirmed ∧
      tries = s.drive.tries) ∨
    (i = .driveSettleExpiry ∧ s.drive.settle.isSome = true ∧ s.qualified .ptoFb = some true ∧ shown = .confirmed ∧
      tries = s.drive.tries + 1)) (hp : s.powered = true) :
    ∃ d : Drive, exec i s = .next (finish (enterEngaged shown { s.fresh with drive := d })) ∧ d.kind = s.drive.kind ∧
      s.qualified .ptoFb ≠ some false ∧
      engagedRecord shown d = { s.drive with
        pto := .engaged, clutch := true, confirmation := some shown, lastTries := tries, tries := 0
        lifetime := min (s.drive.lifetime + 1) 65535, precheck := none, feedback := none, settle := none
        ramp := none, releasing := none, window := none } := by
  obtain ⟨rfl, hf, hq, rfl, rfl⟩ | ⟨rfl, hs, hq, rfl, rfl⟩ := h
  · exact ⟨s.drive, exec_leaves hp rfl (expireFeedback_engages (s := s.fresh) hf hq), rfl, by simp [hq],
      engagedRecord_eq ..⟩
  · exact ⟨_, exec_leaves hp rfl (expireDriveSettle_engages (s := s.fresh) hs hq), rfl, by simp [hq],
      (engagedRecord_eq ..).trans rfl⟩

/-- Settles O35. -/
theorem triesAndEngagement : Obligations.TriesAndEngagement := by
  refine ⟨fun s hp hf hq ht => exec_leaves hp rfl (expireFeedback_again (s := s.fresh) hf hq ht),
    fun s hp hf hq ht hpto => ?_, fun s hp hs hq => exec_leaves hp rfl (expireDriveSettle_shifts (s := s.fresh) hs hq),
    fun s i shown tries hp h => ?_⟩
  · obtain ⟨h₁, h₂, h₃, h₄, h₅, h₆, h₇⟩ := driveFault_spent (s := s.fresh) hpto
    exact ⟨driveFault .noFeedback s.fresh, exec_leaves hp rfl (expireFeedback_spent (s := s.fresh) hf hq ht),
      h₁, h₂, h₃, h₄, h₅, h₆, h₇⟩
  obtain ⟨d, hexec, hkind, hfb, hrecord⟩ := engagement_course h hp
  refine ⟨fun k hk hstand => ?_, fun hk hmove => ?_⟩
  · have hu := enterEngaged_stands (c := shown) (k := k) (s := { s.fresh with drive := d }) (hkind.trans hk) hstand
    refine ⟨_, hexec, ?_, hu.ceiling, hu.drive.trans hrecord, hu.pair.1, hu.pair.2, hu.demand, hu.loop.1, hu.loop.2, hu.bound,
      fun h₁ h₂ h₃ => ?_, hu.hot, hu.frame rfl rfl rfl rfl rfl rfl rfl rfl hp rfl rfl⟩
    · rw [hu.mode]
      cases k <;> rfl
    · obtain ⟨g₁, g₂, g₃, g₄, g₅⟩ := hu.feeds h₁ h₂ h₃
      exact ⟨g₁, g₂, g₃, g₄, g₅⟩
  · obtain ⟨htrip, x, hx, hstop⟩ := enterEngaged_trips (c := shown) (s := { s.fresh with drive := d }) (hkind.trans hk) hmove hfb
    have hx' : x.drive = _ := hx.trans hrecord
    refine ⟨_, hexec, htrip.mode, ?_, ?_, ?_, hstop.demand, hstop.rest.state, htrip.alarm⟩
    · rw [hstop.drive, leavingRecord_pto]
      split <;> simp
    · rw [hstop.drive, leavingRecord_release]
    · rw [hstop.drive, leavingRecord, hx']
      split <;> rfl

end Sys2Proof.Machine
end

section
/-! PROOFS. CLEAR_FAULT of the drive and of the dry-run latch (R64, R163), and a changed PTO_FB (R51, R52, R57, R59). -/

namespace Sys2Proof.Machine

variable {s : State}

theorem notShifting_of_fault (h : s.drive.pto = .fault) : NotShifting s := by simp [NotShifting, h]

/-! ### The drive's fault cleared -/

/-- The drive's fault cleared, before the mode follows (R64). -/
def faultCleared (s : State) : State := reviewStop (removeAlarm .ptoFault (s.modDrive driveIdle))

theorem faultCleared_spec (s : State) :
    let x := faultCleared s
    x = { s with drive := driveIdle s.drive, alarm := x.alarm } ∧
    ∀ c : AlarmCause, c ∈ x.alarm.causes ↔
      c ∈ s.alarm.causes ∧ c ≠ .ptoFault ∧ (c ≠ .stop ∨ s.asserted .panelStop = true) := by
  have hcauses := fun c : AlarmCause => mem_reviewStop_iff (c := c) (s := removeAlarm .ptoFault (s.modDrive driveIdle))
    (by rw [removeAlarm_frame]; rfl)
  refine ⟨?_, fun c => (hcauses c).trans ?_⟩
  · obtain ⟨a, ha⟩ := removeAlarm_exists .ptoFault (s.modDrive driveIdle)
    obtain ⟨a', ha'⟩ := reviewStop_exists (removeAlarm .ptoFault (s.modDrive driveIdle))
    unfold faultCleared
    rw [ha', ha]
    rfl
  have hstop : (removeAlarm .ptoFault (s.modDrive driveIdle)).asserted .panelStop = s.asserted .panelStop := by
    rw [removeAlarm_frame]
    rfl
  rw [hstop, mem_removeAlarm, and_assoc]
  exact Iff.rfl

theorem clearDriveFault_calm (h : s.interlock.mode ≠ .motionTrip) :
    let u := clearDriveFault s
    .ptoFault ∉ u.alarm.causes ∧ u.drive = driveIdle s.drive ∧ u = { s with
      drive := u.drive, alarm := u.alarm
      interlock := { s.interlock with conditions := u.interlock.conditions } } := by
  obtain ⟨hx, hcauses⟩ := faultCleared_spec s
  have hact : clearDriveFault s = conditionEvent (modeOnDisengaged (faultCleared s)) := rfl
  generalize faultCleared s = x at *
  have hmode : x.interlock.mode ≠ .motionTrip := by rw [hx]; exact h
  have hidle : NotShifting x := notShifting_of_disengaged (by rw [hx]; rfl)
  dsimp only
  rw [hact, modeOnDisengaged_of_ne hmode, conditionEvent_refresh hidle]
  generalize trueConditions x = l
  refine ⟨fun h => ((hcauses _).1 h).2.1 rfl, by rw [hx], ?_⟩
  generalize x.alarm = a at hx
  rw [hx]

theorem clearDriveFault_trip (h : s.interlock.mode = .motionTrip) :
    let u := clearDriveFault s
    u.drive = driveIdle s.drive ∧
    (∀ a : AlarmCause, a ∈ u.alarm.causes ↔
      a ∈ s.alarm.causes ∧ a ≠ .ptoFault ∧ a ≠ .motion ∧ (a ≠ .stop ∨ s.asserted .panelStop = true)) ∧
    u.governor.demand = 0 ∧ u.governor.shadow = s.governor.shadow ∧
    u = { s with
      drive := u.drive, governor := u.governor, alarm := u.alarm, notices := u.notices, tx := u.tx
      interlock := { s.interlock with
        mode := .road, ceiling := 0, recovery := none, trip := none, conditions := trueConditions u } } := by
  obtain ⟨hx, hcauses⟩ := faultCleared_spec s
  have hact : clearDriveFault s = conditionEvent (modeOnDisengaged (faultCleared s)) := rfl
  generalize faultCleared s = x at *
  have hmode : x.interlock.mode = .motionTrip := by rw [hx]; exact h
  have hgov : x.governor = s.governor := by rw [hx]
  obtain ⟨hv, halarm, hdemand, hshadow⟩ := modeOnDisengaged_trip hmode
  generalize modeOnDisengaged x = v at *
  have hdrive : v.drive = driveIdle s.drive := by rw [hv, hx]
  have hidle : NotShifting v := notShifting_of_disengaged (by rw [hdrive]; rfl)
  dsimp only
  rw [hact, conditionEvent_refresh hidle]
  refine ⟨hdrive, fun a => ?_, hdemand, by rw [← hgov]; exact hshadow, ?_⟩
  · show a ∈ v.alarm.causes ↔ _
    rw [halarm, hcauses]
    exact ⟨fun ⟨⟨h₁, h₂, h₃⟩, h₄⟩ => ⟨h₁, h₂, h₄, h₃⟩, fun ⟨h₁, h₂, h₄, h₃⟩ => ⟨⟨h₁, h₂, h₃⟩, h₄⟩⟩
  · rw [← hdrive] at hx
    rw [hx] at hv
    obtain ⟨d, g, a, n, q, rfl⟩ : ∃ d g a n q, v = { s with
        drive := d, governor := g, alarm := a, notices := n, tx := q
        interlock := { s.interlock with mode := .road, ceiling := 0, recovery := none, trip := none } } :=
      ⟨v.drive, v.governor, v.alarm, v.notices, v.tx, hv⟩
    exact rfl

/-- CLEAR_FAULT of the drive, taken. -/
theorem clearDrive_taken {tag : Byte} (hs : Ready s) (hpto : s.drive.pto = .fault) (hc : s.drive.clutch = false)
    (hfb : s.qualified .ptoFb ≠ some true) (hdrive : (clearDriveFault (holdRequest 21 tag s.fresh)).drive.pto = .disengaged)
    (hlink : (clearDriveFault (holdRequest 21 tag s.fresh)).link = (holdRequest 21 tag s.fresh).link) :
    exec (.clearFault tag 46) s =
      .next (finish (State.answered { clearDriveFault (holdRequest 21 tag s.fresh) with link := s.link } 21 tag .ok [0])) := by
  have hact : act (.clearFault 46) (holdRequest 21 tag s.fresh) =
      ⟨clearDriveFault (holdRequest 21 tag s.fresh), .ok,
        codeByte (clearDriveFault (holdRequest 21 tag s.fresh)).drive.pto.ctorIdx⟩ := if_pos ⟨hpto, hc, hfb⟩
  rw [hdrive] at hact
  exact exec_taken_link (r := .clearFault 46) rfl rfl rfl hs hact hlink

theorem clearDrive_calm {tag : Byte} (hs : Ready s) (hpto : s.drive.pto = .fault) (hc : s.drive.clutch = false)
    (hfb : s.qualified .ptoFb ≠ some true) (hm : s.interlock.mode ≠ .motionTrip) : ∃ u : State,
    exec (.clearFault tag 46) s = .next (finish (u.answered 21 tag .ok [0])) ∧
    u.drive.pto = .disengaged ∧ u.drive.fault = none ∧ u.drive.kind = none ∧ u.drive.tries = 0 ∧
    .ptoFault ∉ u.alarm.causes ∧
    u = { s.fresh with
      drive := u.drive, alarm := u.alarm, interlock := { s.interlock with conditions := u.interlock.conditions } } := by
  obtain ⟨hcause, hdrive, hu⟩ := clearDriveFault_calm (s := holdRequest 21 tag s.fresh) hm
  have hexec := clearDrive_taken (tag := tag) hs hpto hc hfb
  generalize clearDriveFault (holdRequest 21 tag s.fresh) = u at *
  refine ⟨_, hexec (by rw [hdrive]; rfl) (by rw [hu]), congrArg Drive.pto hdrive, congrArg Drive.fault hdrive,
    congrArg Drive.kind hdrive, congrArg Drive.tries hdrive, hcause, ?_⟩
  exact (congrArg (fun x : State => { x with link := s.link }) hu).trans rfl

theorem clearDrive_trip {tag : Byte} (hs : Ready s) (hpto : s.drive.pto = .fault) (hc : s.drive.clutch = false)
    (hfb : s.qualified .ptoFb ≠ some true) (hm : s.interlock.mode = .motionTrip) : ∃ u : State,
    exec (.clearFault tag 46) s = .next (finish (u.answered 21 tag .ok [0])) ∧
    u.drive = disengagedRecord { s.drive with window := u.drive.window } ∧
    (∀ a : AlarmCause, a ∈ u.alarm.causes ↔
      a ∈ s.alarm.causes ∧ a ≠ .ptoFault ∧ a ≠ .motion ∧ (a ≠ .stop ∨ s.asserted .panelStop = true)) ∧
    u.governor.demand = 0 ∧ u.governor.shadow = s.governor.shadow ∧
    u = { s.fresh with
      drive := u.drive, governor := u.governor, alarm := u.alarm, notices := u.notices, tx := u.tx
      interlock := { s.interlock with
        mode := .road, ceiling := 0, recovery := none, trip := none, conditions := trueConditions u } } := by
  obtain ⟨hdrive, hcauses, hdemand, hshadow, hu⟩ := clearDriveFault_trip (s := holdRequest 21 tag s.fresh) hm
  have hexec := clearDrive_taken (tag := tag) hs hpto hc hfb
  generalize clearDriveFault (holdRequest 21 tag s.fresh) = u at *
  refine ⟨_, hexec (by rw [hdrive]; rfl) (by rw [hu]), ?_, hcauses, hdemand, hshadow, ?_⟩
  · show u.drive = disengagedRecord { s.drive with window := u.drive.window }
    rw [hdrive]
    rfl
  · have hsame : trueConditions { u with link := s.link } = trueConditions u := rfl
    rw [hsame]
    generalize trueConditions u = l at *
    exact (congrArg (fun x : State => { x with link := s.link }) hu).trans rfl

theorem clearDrive_refused {tag : Byte} (hs : Ready s)
    (h : s.drive.pto ≠ .fault ∨ s.drive.clutch = true ∨ s.qualified .ptoFb = some true) :
    exec (.clearFault tag 46) s = .next (finish (s.fresh.answered 21 tag .badState [])) := by
  refine exec_of_act_unchanged (r := .clearFault 46) rfl rfl rfl hs (if_neg ?_)
  rintro ⟨hpto, hc, hfb⟩
  obtain h | h | h := h
  · exact h hpto
  · exact absurd (h.symm.trans hc) (by decide)
  · exact hfb h

/-! ### The dry-run latch cleared -/

theorem clearLatch_taken {tag : Byte} (hs : Ready s) (hns : NotShifting s) (hl : s.thermal.latch = true) : ∃ u : State,
    exec (.clearFault tag 47) s =
      .next (finish (u.answered 21 tag .ok (0 :: natBytes 2 (thermalCeiling u)))) ∧
    .dryRun ∉ u.alarm.causes ∧
    u = { s.fresh with
      thermal := { s.thermal with latch := false }, alarm := u.alarm
      interlock := { s.interlock with conditions := u.interlock.conditions } } := by
  let t := holdRequest 21 tag s.fresh
  let x := removeAlarm .dryRun (t.modThermal fun y => { y with latch := false })
  have hx : x = { t with thermal := { t.thermal with latch := false }, alarm := x.alarm } := removeAlarm_frame ..
  have hcause : .dryRun ∉ x.alarm.causes := fun h => ((mem_removeAlarm ..).1 h).2 rfl
  have hclear : clearDryRun t = conditionEvent x := if_pos hl
  have hact : act (.clearFault 47) t = ⟨clearDryRun t, .ok, latchBytes (clearDryRun t)⟩ := if_pos hl
  rw [hclear] at hact
  generalize x = y at *
  rw [conditionEvent_refresh (by rw [hx]; exact hns)] at hact
  generalize trueConditions y = l at hact
  generalize y.alarm = a at *
  subst hx
  exact ⟨{ s.fresh with
    thermal := { s.thermal with latch := false }, alarm := a, interlock := { s.interlock with conditions := l } },
    exec_taken (r := .clearFault 47) rfl rfl rfl hs hact rfl, hcause, rfl⟩

theorem clearLatch_refused {tag : Byte} (hs : Ready s) (hl : s.thermal.latch = false) :
    exec (.clearFault tag 47) s =
      .next (finish (s.fresh.answered 21 tag .badState (0 :: natBytes 2 (thermalCeiling s)))) := by
  refine exec_of_act_unchanged (r := .clearFault 47) rfl rfl rfl hs ?_
  have hact : act (.clearFault 47) (holdRequest 21 tag s.fresh) =
      ⟨holdRequest 21 tag s.fresh, .badState, latchBytes (holdRequest 21 tag s.fresh)⟩ :=
    if_neg (by rw [show (holdRequest 21 tag s.fresh).thermal.latch = false from hl]; decide)
  rw [hact]
  have hbytes : latchBytes (holdRequest 21 tag s.fresh) = flagByte s.thermal.latch ++ natBytes 2 (thermalCeiling s) := rfl
  rw [hbytes, hl]
  rfl

/-! ### A changed PTO_FB -/

/-- The drive found STUCK by its feedback. -/
theorem ptoFeedback_stuck (h : s.drive.pto = .precheck ∨ (s.drive.pto = .disengaged ∧ s.drive.window.isSome = true)) :
    let c : DriveFault := if s.drive.pto = .precheck then .stuck else .stuckAtStart
    ptoFeedbackChange true s = enterDriveFault c s := by
  unfold ptoFeedbackChange
  obtain h | ⟨h, hw⟩ := h
  · rw [h]
    exact driveFault_outside .stuck (by rw [h]; decide)
  · rw [h]
    exact (if_pos hw).trans (driveFault_outside .stuckAtStart (by rw [h]; decide))

theorem ptoFeedback_engages (h : s.drive.pto = .shifting) : ptoFeedbackChange true s = enterEngaged .confirmed s := by
  unfold ptoFeedbackChange
  rw [h]

theorem ptoFeedback_lost (h : s.drive.pto = .engaged) :
    ptoFeedbackChange false s = handExit false (enterDriveFault .lostFeedback s) := by
  unfold ptoFeedbackChange
  rw [h]
  exact if_pos h

theorem ptoFeedback_released (h : s.drive.pto = .releasing) : ptoFeedbackChange false s = endRelease 0 s := by
  unfold ptoFeedbackChange
  rw [h]

theorem ptoFeedback_stands {b : Bool}
    (h : (b = true ∧ s.drive.pto ≠ .precheck ∧ s.drive.pto ≠ .shifting ∧ (s.drive.pto ≠ .disengaged ∨ s.drive.window = none)) ∨
      (b = false ∧ s.drive.pto ≠ .engaged ∧ s.drive.pto ≠ .releasing)) : ptoFeedbackChange b s = s := by
  unfold ptoFeedbackChange
  obtain ⟨rfl, h₁, h₂, h₃⟩ | ⟨rfl, h₁, h₂⟩ := h <;> cases hpto : s.drive.pto <;> simp_all

/-- The mode at an exit depends on the mode, its timers, the terminals and what waits. -/
theorem ModeAtExit.of_eq {sample : Bool} {keys : List Nat} {x u : State} (h : ModeAtExit sample keys x u)
    (hm : x.interlock.mode = s.interlock.mode) (hr : x.interlock.rise = s.interlock.rise)
    (ht : x.interlock.trip = s.interlock.trip) (hp : x.pending = s.pending) (hterm : x.terminals = s.terminals) :
    ModeAtExit sample keys s u := by
  have hwith : TripWithExit sample x ↔ TripWithExit sample s := by
    unfold TripWithExit FallsNow LostAtNextSample
    rw [hm, hr, ht, hp, hterm]
  unfold ModeAtExit at h ⊢
  rw [← hm, ← hwith]
  exact h

/-- PTO_FB lost: FAULT LOST_FEEDBACK, and the exit handed on. -/
theorem ptoFeedback_lost_spec (hpto : s.drive.pto = .engaged) :
    let u := ptoFeedbackChange false s
    u.drive = faultRecord .lostFeedback s.drive ∧ .ptoFault ∈ u.alarm.causes ∧ u.trend.fast = 30 ∧
    u.governor.demand = 0 ∧ u.governor.shadow = .idle ∧ u.governor.active = .idle ∧ u.governor.overrides = [] ∧
    u.supply.state = .idle ∧ u.valves.mainValve.openCmd = false ∧ u.valves.reserveValve.openCmd = false ∧
    ModeAtExit false s.choices s u := by
  obtain ⟨hx, hdrive, hcause, htrend, -⟩ := enterDriveFault_spec .lostFeedback s
  dsimp only
  rw [ptoFeedback_lost hpto]
  generalize enterDriveFault .lostFeedback s = x at *
  have hns : NotShifting x := notShifting_of_fault (by rw [hdrive]; rfl)
  obtain ⟨hshadow, hactive, hover⟩ := handExit_pair false x
  have hrest := handExit_atRest false x
  have hmode := handExit_modeAtExit false hns
  have hfast : (handExit false x).trend.fast = 30 := by
    have htogether : (tripTogether false x).trend.fast = 30 := by
      obtain ⟨h, -⟩ | ⟨h, -⟩ := tripTogether_cases false hns
      · rw [h, htrend]
        rfl
      · exact h.fast
    rw [(moves_leave false x).stands.trend (by decide)]
    exact htogether
  refine ⟨(handExit_drive false hns).trans hdrive, (handExit_cause (by decide) (by decide) false hns).2 hcause, hfast,
    handExit_demand false x, hshadow, hactive, hover, hrest.state, ?_, ?_, ?_⟩
  · exact hrest.mainValve
  · exact hrest.reserveValve
  · have hchoices : x.choices = s.choices := by rw [hx]
    rw [← hchoices]
    refine hmode.of_eq ?_ ?_ ?_ ?_ ?_ <;> rw [hx]

end Sys2Proof.Machine
end

section
/-! PROOFS. CLEAR_FAULT of a valve and a changed feedback (R168 to R170, R173), and O37 from its parts. -/

namespace Sys2Proof.Machine

variable {s t : State} {v : ValveRole}

/-! ### A valve no phase waits for -/

/-- CLOSING_TANK waits while one tank valve closes and the other stands in no FAULT (R112). -/
theorem judgeClosingTank_waits {n : Tank} (h : (t.valve (tankValve (otherTank n))).state = .closing)
    (hn : (t.valve (tankValve n)).state ≠ .fault) : judgeClosingTank t = t := by
  have hno : stuckOpen t.valves.mainValve = false ∧ stuckOpen t.valves.reserveValve = false ∧
      (standsClosed t.valves.mainValve = false ∨ standsClosed t.valves.reserveValve = false) := by
    unfold stuckOpen standsClosed
    cases n
    · have hc : t.valves.reserveValve.state = .closing := h
      exact ⟨by simp [show t.valves.mainValve.state ≠ .fault from hn], by simp [hc], .inr (by simp [hc])⟩
    · have hc : t.valves.mainValve.state = .closing := h
      exact ⟨by simp [hc], by simp [show t.valves.reserveValve.state ≠ .fault from hn], .inl (by simp [hc])⟩
  obtain ⟨h₁, h₂, h₃⟩ := hno
  unfold judgeClosingTank
  rw [h₁, h₂, if_neg (by simp), if_neg]
  obtain h₃ | h₃ := h₃ <;> simp [h₃]

/-- A report of a valve that stands in no FAULT and that no phase waits for changes nothing (R175). -/
theorem reportValve_unwatched (h : Unwatched s v) (hsupply : t.supply = s.supply)
    (hother : ∀ n : Tank, v = tankValve n → t.valve (tankValve (otherTank n)) = s.valve (tankValve (otherTank n)))
    (hstate : (t.valve v).state ≠ .fault) : reportValve v t = t := by
  have hquiet : ∀ n : Tank, v = tankValve n → supplyOnValve n t = t := by
    rintro n rfl
    obtain ⟨hswitch, hprime⟩ := h n rfl
    have hno : noOpenFault (t.valve (tankValve n)) = false := by simp [noOpenFault, hstate]
    rw [← hsupply] at hswitch hprime
    rw [← hother n rfl] at hprime
    unfold supplyOnValve
    dsimp only
    rw [hno]
    cases hst : t.supply.state with
    | switching =>
      have hphase := hswitch hst
      by_cases hn : n = t.supply.selected
      · rw [if_pos hn] at hphase ⊢
        exact (if_neg hphase).trans (if_neg (by simp))
      · rw [if_neg hn] at hphase ⊢
        exact if_neg hphase
    | draftPriming =>
      obtain hphase | hclosing := hprime hst
      · exact if_neg hphase
      · have hjudge := judgeClosingTank_waits hclosing hstate
        exact (congrArg (fun x => if t.supply.phase = some .closingTank then x else t) hjudge).trans (ite_self t)
    | tank => simp
    | _ => rfl
  cases v with
  | mainValve => exact hquiet .main rfl
  | reserveValve => exact hquiet .reserve rfl
  | _ => rfl

/-- The report of a valve set to a record that stands in no FAULT. -/
theorem reportAfter_unwatched {move : State → State} {a : Actuator} {al : Alarm} (h : Unwatched s v)
    (hmove : move s = { s with valves := setValve s.valves v a, alarm := al }) (ha : a.state = .fault → a = s.valve v) :
    reportAfter v move s = { s with valves := setValve s.valves v a, alarm := al } := by
  have hv : (move s).valve v = a := by rw [hmove]; exact valve_setValve ..
  rw [← hmove]
  by_cases hchanged : ((move s).valve v).state = (s.valve v).state ∧ ((move s).valve v).fault = (s.valve v).fault
  · exact if_pos hchanged
  · refine (if_neg hchanged).trans ?_
    refine reportValve_unwatched h (by rw [hmove]) (fun n hn => ?_) fun hf => hchanged ?_
    · rw [hmove]
      exact valve_setValve_ne (hn ▸ tankValve_ne n) s a
    · rw [hv, ha (hv ▸ hf)]
      exact ⟨rfl, rfl⟩

/-! ### A valve's fault cleared -/

theorem travelTime_eq (s : State) (v : ValveRole) : travelTime s v = 1000 * s.paramNat (58 + v.ctorIdx) := by cases v <;> rfl

/-- A valve's record after its fault is cleared (R173). -/
def clearedRecord (s : State) (v : ValveRole) : Actuator :=
  let shown : Bool := (feedback s v).getD (s.valve v).openCmd
  let matched : Bool := shown == (s.valve v).openCmd
  { s.valve v with
    state := if matched then (if shown then .atOpen else .atClosed) else if shown then .closing else .opening
    confirmation := if feedback s v = none then .unconfirmed else .confirmed
    tries := if !matched && !shown then 1 else 0
    retry := none, travel := if matched then none else some ⟨1000 * s.paramNat (58 + v.ctorIdx), 0⟩, fault := none }

theorem clearedRecord_state (s : State) (v : ValveRole) : (clearedRecord s v).state ≠ .fault := by
  unfold clearedRecord
  dsimp only
  split
  · split <;> decide
  · split <;> decide

theorem removeAlarm_eq_with (c : AlarmCause) (h : t.alarm = s.alarm) :
    removeAlarm c t = { t with alarm := (removeAlarm c s).alarm } := by
  unfold removeAlarm
  rw [h]
  split
  · simp only [State.modAlarm, h]
  · rw [← h]

/-- VALVE leaves the alarm with the last FAULT (R173). -/
def clearedAlarm (s : State) (v : ValveRole) : Alarm :=
  if ∀ w ∈ allValves, w ≠ v → (s.valve w).state ≠ .fault then (removeAlarm .valve s).alarm else s.alarm

theorem anyValveFault_setValve {a : Actuator} (ha : a.state ≠ .fault) :
    anyValveFault { s with valves := setValve s.valves v a } = false ↔
      ∀ w ∈ allValves, w ≠ v → (s.valve w).state ≠ .fault := by
  unfold anyValveFault
  rw [List.any_eq_false]
  refine forall₂_congr fun w _ => ?_
  rw [beq_iff_eq]
  obtain rfl | hw := eq_or_ne w v
  · rw [valve_setValve]
    exact ⟨fun _ h => absurd rfl h, fun _ => ha⟩
  · rw [valve_setValve_ne hw]
    exact ⟨fun h _ => h, fun h => h hw⟩

/-- The record set to what is seen, before any travel. -/
theorem fault_removed {r : Actuator} (hr : r.state ≠ .fault) :
    (let x : State := { s with valves := setValve s.valves v r }
    if anyValveFault x then x else removeAlarm .valve x) =
      { s with valves := setValve s.valves v r, alarm := clearedAlarm s v } := by
  have hiff := anyValveFault_setValve (s := s) (v := v) hr
  have halarm : ({ s with valves := setValve s.valves v r } : State).alarm = s.alarm := rfl
  dsimp only
  generalize hx : ({ s with valves := setValve s.valves v r } : State) = x at *
  unfold clearedAlarm
  cases hany : anyValveFault x
  · rw [if_pos (hiff.1 hany), if_neg (by decide), removeAlarm_eq_with .valve halarm, ← hx]
  · rw [if_neg fun h => absurd (hiff.2 h) (by rw [hany]; decide), if_pos rfl, ← hx]

/-- A valve's record as it is seen when its fault is cleared, before any travel. -/
def seenRecord (s : State) (v : ValveRole) : Actuator :=
  { arrived (if (feedback s v).getD (s.valve v).openCmd then .atOpen else .atClosed)
      (if feedback s v = none then .unconfirmed else .confirmed) (s.valve v) with fault := none }

/-- The fault cleared, before any travel. -/
def seenSet (s : State) (v : ValveRole) : State :=
  { s with valves := setValve s.valves v (seenRecord s v), alarm := clearedAlarm s v }

theorem seenSet_modValve (f : Actuator → Actuator) : (seenSet s v).modValve v f =
    { s with valves := setValve s.valves v (f (seenRecord s v)), alarm := clearedAlarm s v } := by
  have hv : (seenSet s v).valve v = seenRecord s v := valve_setValve ..
  rw [modValve_eq, hv]
  show ({ s with valves := setValve (setValve s.valves v _) v _, alarm := clearedAlarm s v } : State) = _
  rw [setValve_setValve]

theorem clearValveFault_travels (v : ValveRole) (s : State) :
    clearValveFault v s =
      if (s.valve v).openCmd = (feedback s v).getD (s.valve v).openCmd then seenSet s v
      else beginTravel v (s.valve v).openCmd (seenSet s v) := by
  have hseen : seenSet s v = _ := (fault_removed (v := v) (r := seenRecord s v) (by unfold seenRecord; dsimp only [arrived]; split <;> decide)).symm
  rw [hseen]
  unfold clearValveFault seenRecord
  cases feedback s v with
  | none => cases (s.valve v).openCmd <;> rfl
  | some b => cases b <;> cases (s.valve v).openCmd <;> rfl

theorem clearValveFault_eq (v : ValveRole) (s : State) :
    clearValveFault v s = { s with valves := setValve s.valves v (clearedRecord s v), alarm := clearedAlarm s v } := by
  have hfeed : feedback (seenSet s v) v = feedback s v := rfl
  have htravel : travelTime (seenSet s v) v = 1000 * s.paramNat (58 + v.ctorIdx) := travelTime_eq s v
  rw [clearValveFault_travels]
  unfold beginTravel enterOpening enterClosing clearedRecord
  rw [hfeed, htravel]
  simp only [seenSet_modValve]
  unfold seenSet seenRecord
  cases feedback s v with
  | none => simp [arrived]
  | some b => cases b <;> cases hcmd : (s.valve v).openCmd <;> simp [arrived, startTimer, hcmd]

theorem valve_setValve_alarm (s : State) (v : ValveRole) (a : Actuator) (al : Alarm) :
    ({ s with valves := setValve s.valves v a, alarm := al } : State).valve v = a := valve_setValve ..

theorem act_clearFault_valve (v : ValveRole) (x : State) :
    act (.clearFault (BitVec.ofNat 8 (34 + v.ctorIdx))) x = clearValve v x := by cases v <;> rfl

theorem valveOfCode_none {b : Byte} (h : b.toNat < 34 ∨ 39 ≤ b.toNat) : valveOfCode b = none := by
  refine List.find?_eq_none.2 fun v _ => ?_
  have hv : v.ctorIdx < 5 := by cases v <;> decide
  simp only [valveCode, beq_iff_eq]
  omega

/-! ### A changed feedback -/

/-- A valve's record after its feedback changed (R168 to R170). -/
def feedbackRecord (s : State) (v : ValveRole) (b : Bool) : Actuator :=
  let a := s.valve v
  if a.state = .opening ∧ b = true then
    { a with state := .atOpen, confirmation := .confirmed, tries := 0, retry := none, travel := none }
  else if a.state = .closing ∧ b = false then
    { a with state := .atClosed, confirmation := .confirmed, tries := 0, retry := none, travel := none }
  else if a.state = .atOpen ∧ b = false then
    { a with
      state := .opening, tries := 1, retry := none, travel := some ⟨1000 * s.paramNat (58 + v.ctorIdx), 0⟩ }
  else if a.state = .atClosed ∧ b = true then
    { a with
      state := .closing, tries := 0, retry := none, travel := some ⟨1000 * s.paramNat (58 + v.ctorIdx), 0⟩ }
  else a

theorem feedbackChange_eq {b : Bool} (h : b = false → feedback s v ≠ some true) :
    feedbackChange v b s = { s with valves := setValve s.valves v (feedbackRecord s v b) } := by
  have hself : ({ s with valves := setValve s.valves v (s.valve v) } : State) = s := by rw [setValve_self]
  unfold feedbackChange feedbackRecord enterOpening enterClosing
  rw [travelTime_eq]
  cases b <;> cases hst : (s.valve v).state <;> simp [hst, hself, h, modValve_eq, arrived, startTimer]

theorem feedbackRecord_fault {b : Bool} (h : (feedbackRecord s v b).state = .fault) : feedbackRecord s v b = s.valve v := by
  unfold feedbackRecord at h ⊢
  dsimp only at h ⊢
  split_ifs at h ⊢ with h₁ h₂ h₃ h₄
  exact rfl

theorem inputChange_feedback {r : Role} {b : Bool} (t : Terminal) (hr : feedbackRole v = some r) :
    inputChange t r b s = valveFeedbackChange v b s := by
  cases v <;> simp only [feedbackRole, Option.some.injEq, reduceCtorEq] at hr <;> subst hr <;> rfl

/-- Settles O37. -/
theorem clearFaultClearsItsTarget : Obligations.ClearFaultClearsItsTarget := by
  refine ⟨fun s tag hs hpto hc hfb hm => clearDrive_calm hs hpto hc hfb hm,
    fun s tag hs hpto hc hfb hm => clearDrive_trip hs hpto hc hfb hm, fun s tag hs h => clearDrive_refused hs h,
    fun s tag hs hns hl => clearLatch_taken hs hns hl, fun s tag hs hl => clearLatch_refused hs hl,
    fun s tag v hs hst => ?_, fun s tag v hs hst hun => ?_, fun s tag target hs hrange h₁ h₂ => ?_, fun s t h => ?_,
    fun s t k hpto hk hstand => ?_, fun s t hpto => ptoFeedback_lost_spec hpto, fun s t hpto => ?_,
    fun s t b h => ptoFeedback_stands h, fun s t r v b hr hfb hun => ?_⟩
  · exact exec_of_act_unchanged (r := .clearFault _) rfl rfl rfl hs ((act_clearFault_valve v _).trans (if_neg hst))
  · have hact := (act_clearFault_valve v (holdRequest 21 tag s.fresh)).trans (if_pos hst)
    have hreport := reportAfter_unwatched (s := holdRequest 21 tag s.fresh) hun (clearValveFault_eq ..)
      fun h => absurd h (clearedRecord_state _ _)
    dsimp only at hact
    have halarm : clearedAlarm (holdRequest 21 tag s.fresh) v = clearedAlarm s v :=
      if_congr Iff.rfl (congrArg State.alarm (removeAlarm_eq_with (s := s) (t := holdRequest 21 tag s.fresh) .valve rfl) :) rfl
    have hrecord : clearedRecord (holdRequest 21 tag s.fresh) v = clearedRecord s v := rfl
    rw [hreport, valve_setValve_alarm, halarm, hrecord] at hact
    exact exec_taken (r := .clearFault _) rfl rfl rfl hs hact rfl
  · refine exec_of_act_unchanged (r := .clearFault target) rfl rfl rfl hs ?_
    show actClearFault target _ = _
    unfold actClearFault
    rw [if_neg (c := target.toNat = 46) fun e => h₁ (BitVec.eq_of_toNat_eq e),
      if_neg (c := target.toNat = 47) fun e => h₂ (BitVec.eq_of_toNat_eq e), valveOfCode_none hrange]
    rfl
  · obtain ⟨hframe, hdrive, hcause, htrend, hnotices⟩ := enterDriveFault_spec (if s.drive.pto = .precheck then .stuck else .stuckAtStart) s
    have hact : inputChange t .ptoFb true s = _ := ptoFeedback_stuck h
    dsimp only
    rw [hact]
    rw [hdrive] at hframe
    exact ⟨hframe, hcause, congrArg Trend.fast htrend, hnotices⟩
  · have hact : inputChange t .ptoFb true s = enterEngaged .confirmed s := ptoFeedback_engages hpto
    have hu := enterEngaged_stands (c := .confirmed) hk hstand
    dsimp only
    rw [hact]
    refine ⟨?_, hu.ceiling, hu.drive.trans (engagedRecord_eq ..), hu.pair.1, hu.pair.2, hu.demand, hu.bound, fun h₁ h₂ h₃ => ?_⟩
    · rw [hu.mode]
      cases k <;> rfl
    · obtain ⟨g₁, g₂, g₃, g₄, g₅⟩ := hu.feeds h₁ h₂ h₃
      exact ⟨g₁, g₂, g₃, g₄, g₅⟩
  · have hact : inputChange t .ptoFb false s = _ := (ptoFeedback_released hpto).trans (endRelease_eq 0 s)
    dsimp only
    rw [hact]
    by_cases hm : s.interlock.mode = .motionTrip
    · obtain ⟨hframe, hdrive, hcauses, -, -⟩ := modeOnDisengaged_ended_trip .disengageDone
        { old := some (.pto .releasing), new := some (.pto .disengaged), value := some 0
          cause := s.drive.release.map .release } hm
      exact ⟨hdrive.trans rfl, fun _ => ⟨by rw [hframe], fun h => ((hcauses _).1 h).2.1 rfl⟩, fun h => absurd hm h⟩
    · obtain ⟨hframe, hdrive, hnotices, -⟩ := driveEnded_spec .disengageDone
        { old := some (.pto .releasing), new := some (.pto .disengaged), value := some 0
          cause := s.drive.release.map .release } s
      rw [modeOnDisengaged_ended hm]
      exact ⟨hdrive.trans rfl, fun h => absurd h hm, fun _ => ⟨hframe, hnotices⟩⟩
  · exact (inputChange_feedback t hr).trans
      (reportAfter_unwatched hun ((feedbackChange_eq hfb).trans rfl) feedbackRecord_fault)

end Sys2Proof.Machine
end

section
/-! PROOFS. The Thermal Monitor: a change of zone (R154 to R158), and the recirculation cause set (R176). -/

namespace Sys2Proof.Machine

variable {s x : State} {z : Zone} {c : ZoneCause}

/-! ### The recirculation cause set -/

theorem openedRecord_openCmd (s : State) (v : ValveRole) : (openedRecord s v).openCmd = true := by
  unfold openedRecord
  split
  · rfl
  · split <;> rfl

theorem closedRecord_openCmd (s : State) (v : ValveRole) : (closedRecord s v).openCmd = false := by
  unfold closedRecord
  split <;> rfl

/-- A cause added (R176). -/
theorem addRecirc_spec (d : RecircCause) (s : State) : ∃ r a,
    addRecirc d s = { s with recirc := r, valves := { s.valves with recircValve := a } } ∧
    (∀ e : RecircCause, e ∈ r ↔ e = d ∨ e ∈ s.recirc) ∧ (s.recirc = [] → a.openCmd = true) ∧
    (s.recirc ≠ [] → a = s.valves.recircValve) := by
  unfold addRecirc
  by_cases hd : d ∈ s.recirc
  · rw [if_pos hd]
    exact ⟨s.recirc, s.valves.recircValve, rfl, fun e => ⟨.inr, fun h => h.elim (· ▸ hd) id⟩,
      fun h => absurd (h ▸ hd) (by simp), fun _ => rfl⟩
  rw [if_neg hd]
  dsimp only
  have hmem : ∀ e : RecircCause, e ∈ insertIn allRecircCauses d s.recirc ↔ e = d ∨ e ∈ s.recirc := fun e => by
    simp [mem_allRecircCauses]
  by_cases hempty : s.recirc = []
  · rw [if_pos hempty, carryOut_opens]
    exact ⟨_, _, rfl, hmem, fun _ => openedRecord_openCmd .., fun h => absurd hempty h⟩
  · rw [if_neg hempty]
    exact ⟨_, s.valves.recircValve, rfl, hmem, fun h => absurd h hempty, fun _ => rfl⟩

/-- A cause removed (R176). -/
theorem removeRecirc_spec (d : RecircCause) (s : State) : ∃ r a,
    removeRecirc d s = { s with recirc := r, valves := { s.valves with recircValve := a } } ∧
    (∀ e : RecircCause, e ∈ r ↔ e ≠ d ∧ e ∈ s.recirc) ∧ (d ∈ s.recirc → r = [] → a.openCmd = false) ∧
    (d ∉ s.recirc ∨ r ≠ [] → a = s.valves.recircValve) := by
  unfold removeRecirc
  by_cases hd : d ∈ s.recirc
  · rw [if_pos hd]
    dsimp only
    have hmem : ∀ e : RecircCause, e ∈ removeFrom d s.recirc ↔ e ≠ d ∧ e ∈ s.recirc := fun e => by
      rw [mem_removeFrom, and_comm]
    have hrecirc : (s.modRecirc (removeFrom d)).recirc = removeFrom d s.recirc := rfl
    rw [hrecirc]
    by_cases hempty : removeFrom d s.recirc = []
    · rw [if_pos hempty, carryOut_closes]
      exact ⟨_, _, rfl, hmem, fun _ _ => closedRecord_openCmd .., fun h => h.elim (absurd hd) (absurd hempty)⟩
    · rw [if_neg hempty]
      exact ⟨_, s.valves.recircValve, rfl, hmem, fun _ h => absurd h hempty, fun _ => rfl⟩
  · rw [if_neg hd]
    exact ⟨s.recirc, s.valves.recircValve, rfl, fun e => ⟨fun h => ⟨fun e' => hd (e' ▸ h), h⟩, And.right⟩,
      fun h => absurd h hd, fun _ => rfl⟩

/-! ### A change of zone -/

/-- The thermal ceiling by the zone (R157). -/
def zoneCeiling (s : State) (z : Zone) (overheat : Bool) : Nat :=
  if s.thermal.latch = true ∨ overheat = true then 0
  else if z = .hot then s.paramNat 55 else if z = .warm then s.paramNat 54 else 1000

theorem thermalCeiling_eq (s : State) : thermalCeiling s = zoneCeiling s s.thermal.zone s.thermal.overheat := by
  unfold thermalCeiling zoneCeiling
  cases hl : s.thermal.latch with
  | true => simp
  | false =>
    cases ho : s.thermal.overheat with
    | true => simp
    | false =>
      cases s.thermal.zone with
      | normal => simp
      | warm => simp [warmCeiling]
      | hot => simp [hotCeiling]

/-- The warning and the recirculation that follow a zone (R156). -/
def zoneWarned (z : Zone) (s : State) : State :=
  if z = .normal then removeAlarm .warm (removeRecirc .thermal s) else addAlarm .warm (addRecirc .thermal s)

theorem member_given {α : Type} [DecidableEq α] {d k : α} {p q : Prop} (hq : q) : (d = k ∨ p) ↔ if d = k then q else p := by
  by_cases h : d = k <;> simp [h, hq]

theorem member_dropped {α : Type} [DecidableEq α] {d k : α} {p q : Prop} (hq : ¬q) : (d ≠ k ∧ p) ↔ if d = k then q else p := by
  by_cases h : d = k <;> simp [h, hq]

theorem zoneWarned_spec (z : Zone) (s : State) : ∃ r a al,
    zoneWarned z s = { s with recirc := r, valves := { s.valves with recircValve := a }, alarm := al } ∧
    (∀ d : RecircCause, d ∈ r ↔ if d = .thermal then z ≠ .normal else d ∈ s.recirc) ∧
    (s.recirc = [] → r ≠ [] → a.openCmd = true) ∧ (s.recirc ≠ [] → r = [] → a.openCmd = false) ∧
    ((s.recirc = [] ↔ r = []) → a = s.valves.recircValve) ∧
    ∀ d : AlarmCause, d ∈ al.causes ↔ if d = .warm then z ≠ .normal else d ∈ s.alarm.causes := by
  unfold zoneWarned
  by_cases hz : z = .normal
  · obtain ⟨r, a, hact, hmem, hclosed, hsame⟩ := removeRecirc_spec .thermal s
    have halarm := removeAlarm_frame .warm { s with recirc := r, valves := { s.valves with recircValve := a } }
    have hcauses := fun d => mem_removeAlarm .warm d { s with recirc := r, valves := { s.valves with recircValve := a } }
    rw [if_pos hz, hact, halarm]
    refine ⟨r, a, _, rfl, fun d => ?_, fun h hr => ?_, fun h hr => ?_, fun h => ?_, fun d => ?_⟩
    · exact (hmem d).trans (member_dropped (not_not.2 hz))
    · obtain ⟨d, hd⟩ := List.exists_mem_of_ne_nil r hr
      exact absurd ((hmem d).1 hd).2 (by simp [h])
    · by_cases ht : .thermal ∈ s.recirc
      · exact hclosed ht hr
      · obtain ⟨d, hd⟩ := List.exists_mem_of_ne_nil _ h
        exact absurd ((hmem d).2 ⟨fun e => ht (e ▸ hd), hd⟩) (by simp [hr])
    · by_cases ht : .thermal ∈ s.recirc
      · exact hsame (.inr fun hr => absurd (h.2 hr ▸ ht) (by simp))
      · exact hsame (.inl ht)
    · exact (hcauses d).trans (and_comm.trans (member_dropped (not_not.2 hz)))
  · obtain ⟨r, a, hact, hmem, hopen, hsame⟩ := addRecirc_spec .thermal s
    have halarm := addAlarm_frame .warm { s with recirc := r, valves := { s.valves with recircValve := a } }
    have hcauses := fun d => mem_addAlarm .warm d { s with recirc := r, valves := { s.valves with recircValve := a } }
    rw [if_neg hz, hact, halarm]
    refine ⟨r, a, _, rfl, fun d => ?_, fun h _ => hopen h, fun _ hr => ?_, fun h => ?_, fun d => ?_⟩
    · exact (hmem d).trans (member_given hz)
    · exact absurd ((hmem .thermal).2 (.inl rfl)) (by simp [hr])
    · refine hsame fun e => ?_
      exact absurd ((hmem .thermal).2 (.inl rfl)) (by simp [h.1 e])
    · exact (hcauses d).trans (member_given hz)

/-- Overheat idle ended where the casing cools (R158). -/
def cooledOff (cooled : Bool) (s : State) : State := if cooled = true then endOverheat s else s

theorem endOverheat_spec (s : State) : ∃ al,
    endOverheat s = { s with thermal := { s.thermal with overheat := false }, alarm := al } ∧
    ∀ d : AlarmCause, d ∈ al.causes ↔ d ∈ s.alarm.causes ∧ ¬(d = .overheat ∧ s.thermal.overheat = true) := by
  unfold endOverheat
  split
  · next h =>
    refine ⟨_, (removeAlarm_frame ..).trans rfl, fun d => (mem_removeAlarm ..).trans ?_⟩
    simp only [h, and_true]
    exact Iff.rfl
  · next h =>
    refine ⟨s.alarm, ?_, fun d => by simp [h]⟩
    rw [← Bool.eq_false_iff.2 h]

theorem cooledOff_spec (cooled : Bool) (s : State) : ∃ al,
    cooledOff cooled s = { s with thermal := { s.thermal with overheat := s.thermal.overheat && !cooled }, alarm := al } ∧
    ∀ d : AlarmCause, d ∈ al.causes ↔
      d ∈ s.alarm.causes ∧ ¬(d = .overheat ∧ s.thermal.overheat = true ∧ cooled = true) := by
  cases cooled with
  | true =>
    obtain ⟨al, h, hmem⟩ := endOverheat_spec s
    exact ⟨al, (h.trans (by simp) : endOverheat s = _), fun d => by simpa using hmem d⟩
  | false => exact ⟨s.alarm, show s = _ by simp, fun d => by simp⟩

theorem setZone_same (c : ZoneCause) (s : State) : setZone s.thermal.zone c s = s := if_pos rfl

/-- The Thermal Monitor's record as a zone is entered (R156, R158). -/
def zoneRecord (z : Zone) (s : State) : Thermal :=
  { s.thermal with
    zone := z, thermalHeld := z != .normal
    hot := if z = .hot ∧ s.drive.pto = .engaged then startTimer 60000 else none }

/-- THERMAL_ZONE's body (R156). -/
def zoneNotice (z : Zone) (c : ZoneCause) (s : State) : NoticeBody :=
  { subject := some (.analog .pumpTemp), old := some (.zone s.thermal.zone), new := some (.zone z)
    value := some (s.published .pumpTemp), cause := some (.zone c) }

theorem setZone_eq (h : z ≠ s.thermal.zone) : setZone z c s =
    cooledOff (s.thermal.zone == .hot && c != .sensorFailed)
      (zoneWarned z (clipDemand { record .thermalZone (zoneNotice z c s) s with thermal := zoneRecord z s })) := by
  have hmod : (record .thermalZone (zoneNotice z c s) s).modThermal (fun x =>
      { x with
        zone := z, thermalHeld := z != .normal
        hot := if z = .hot ∧ (record .thermalZone (zoneNotice z c s) s).drive.pto = .engaged then startTimer 60000 else none }) =
      { record .thermalZone (zoneNotice z c s) s with thermal := zoneRecord z s } := by
    rw [record_eq_with]
    rfl
  unfold setZone cooledOff
  dsimp only
  rw [if_neg (Ne.symm h), ← hmod, record_drive]
  simp only [Bool.and_eq_true, beq_iff_eq, bne_iff_ne]
  rfl

/-- The governor a lowered ceiling leaves (R71). -/
theorem clipDemand_governor (s : State) :
    (s.governor.demand ≤ leastCeiling (ceilings s) → (clipDemand s).governor = s.governor) ∧
    (leastCeiling (ceilings s) < s.governor.demand → (clipDemand s).governor = { s.governor with
      demand := leastCeiling (ceilings s), ceiling := if s.drive.pto = .engaged then leastCeiling (ceilings s) else 0
      binding := (clipDemand s).governor.binding, inputs := (clipDemand s).governor.inputs }) := by
  have hcomposed : composedCeiling (ceilings s) = if s.drive.pto = .engaged then leastCeiling (ceilings s) else 0 := by
    have hdrive : (ceilings s).drive = if s.drive.pto = .engaged then 1000 else 0 := rfl
    unfold composedCeiling
    rw [hdrive]
    by_cases h : s.drive.pto = .engaged <;> simp [h]
  obtain ⟨hle, e⟩ | ⟨hlt, e⟩ := clipDemand_cases s
  · exact ⟨fun _ => by rw [e], fun h => absurd hle (Nat.not_le.2 h)⟩
  · refine ⟨fun h => absurd h (Nat.not_le.2 hlt), fun _ => ?_⟩
    rw [e, ← hcomposed]
    rfl

/-- The least ceiling as a zone is entered, before overheat idle ends. -/
def zoneClip (z : Zone) (s : State) : Nat :=
  min (min (s.paramNat 27) s.interlock.ceiling) (min (supplyCeiling s) (zoneCeiling s z s.thermal.overheat))

/-- A change of zone in full (R156 to R158). -/
theorem setZone_changed (h : z ≠ s.thermal.zone) :
    let u := setZone z c s
    let cooled : Bool := s.thermal.zone == .hot && c != .sensorFailed
    u.notices = (record .thermalZone (zoneNotice z c s) s).notices ∧
    u.thermal = { s.thermal with
      zone := z, thermalHeld := decide (z ≠ .normal), overheat := s.thermal.overheat && !cooled
      hot := if z = .hot ∧ s.drive.pto = .engaged then some ⟨60000, 0⟩ else none } ∧
    thermalCeiling u = zoneCeiling s z u.thermal.overheat ∧
    (s.governor.demand ≤ zoneClip z s → u.governor = s.governor) ∧
    (zoneClip z s < s.governor.demand → u.governor = { s.governor with
      demand := zoneClip z s, ceiling := if s.drive.pto = .engaged then zoneClip z s else 0, binding := u.governor.binding
      inputs := u.governor.inputs }) ∧
    (∀ r : RecircCause, r ∈ u.recirc ↔ if r = .thermal then z ≠ .normal else r ∈ s.recirc) ∧
    (s.recirc = [] → u.recirc ≠ [] → u.valves.recircValve.openCmd = true) ∧
    (s.recirc ≠ [] → u.recirc = [] → u.valves.recircValve.openCmd = false) ∧
    ((s.recirc = [] ↔ u.recirc = []) → u.valves.recircValve = s.valves.recircValve) ∧
    (∀ a : AlarmCause, a ∈ u.alarm.causes ↔ if a = .warm then z ≠ .normal
      else a ∈ s.alarm.causes ∧ ¬(a = .overheat ∧ s.thermal.overheat = true ∧ cooled = true)) ∧
    u = { s with
      thermal := u.thermal, governor := u.governor, alarm := u.alarm, recirc := u.recirc, notices := u.notices
      tx := u.tx, valves := { s.valves with recircValve := u.valves.recircValve } } := by
  dsimp only
  rw [setZone_eq h]
  generalize (s.thermal.zone == .hot && c != .sensorFailed) = cooled
  obtain ⟨n, q, hrecord⟩ := record_exists .thermalZone (zoneNotice z c s) s
  rw [hrecord]
  let y : State := { s with thermal := zoneRecord z s, notices := n, tx := q }
  have hclip : leastCeiling (ceilings y) = zoneClip z s := by
    have hthermal : thermalCeiling y = zoneCeiling s z s.thermal.overheat := thermalCeiling_eq y
    have hleast : leastCeiling (ceilings y) =
        min (min (s.paramNat 27) s.interlock.ceiling) (min (supplyCeiling s) (thermalCeiling y)) := rfl
    rw [hleast, hthermal]
    rfl
  have hgov := clipDemand_governor y
  rw [hclip] at hgov
  have hframe : clipDemand y = { y with governor := (clipDemand y).governor } := clipDemand_eq_with y
  have hy : ({ s with notices := n, tx := q, thermal := zoneRecord z s } : State) = y := rfl
  rw [hy, hframe]
  generalize (clipDemand y).governor = g at hgov ⊢
  obtain ⟨r, a, al, hwarn, hmem, hopen, hclosed, hsame, hcauses⟩ := zoneWarned_spec z { y with governor := g }
  rw [hwarn]
  obtain ⟨al', hcool, hcauses'⟩ := cooledOff_spec cooled
    { y with governor := g, recirc := r, valves := { y.valves with recircValve := a }, alarm := al }
  have hdec : (z != .normal) = decide (z ≠ .normal) := by cases z <;> rfl
  rw [hcool]
  refine ⟨rfl, ?_, thermalCeiling_eq _, hgov.1, hgov.2, hmem, hopen, hclosed, hsame, fun d => ?_, rfl⟩
  · rw [← hdec]
    rfl
  · rw [hcauses' d]
    show d ∈ al.causes ∧ _ ↔ _
    rw [hcauses]
    by_cases hd : d = .warm
    · subst hd
      simp
    · rw [if_neg hd, if_neg hd]
      exact Iff.rfl

end Sys2Proof.Machine
end

section
/-! PROOFS. The Thermal Monitor's timers and the zone at a published set (O46). -/

namespace Sys2Proof.Machine

variable {s : State}

/-! ### The timers -/

theorem clipDemand_zero (h : thermalCeiling s = 0) :
    (clipDemand s).governor.demand = 0 ∧ (clipDemand s).governor.shadow = s.governor.shadow := by
  obtain ⟨g, -, hg, hsame⟩ := clipDemand_frame s
  have hle := (leastCeiling_le (ceilings s)).2.2.2
  have hthermal : (ceilings s).thermal = 0 := h
  refine ⟨by rw [clipDemand_demand]; omega, ?_⟩
  rw [hg, hsame]

/-- Overheat idle entered (R158). -/
theorem raiseOverheat_spec (s : State) :
    let u := raiseOverheat s
    u = { s with
      thermal := { s.thermal with overheat := true, hot := none }, governor := u.governor, alarm := u.alarm
      notices := u.notices, tx := u.tx } ∧
    u.governor.demand = 0 ∧ u.governor.shadow = s.governor.shadow ∧ .overheat ∈ u.alarm.causes ∧
    u.notices = (record .overheatIdle
      { value := some (s.published .pumpTemp)
        cause := some (if overheatRelease s then .overheatRelease else .overheatHold) } s).notices := by
  let x : State := { s with thermal := { s.thermal with overheat := true, hot := none } }
  let n : NoticeBody := { value := some (s.published .pumpTemp)
                          cause := some (if overheatRelease s then .overheatRelease else .overheatHold) }
  have hact : raiseOverheat s = addAlarm .overheat (record .overheatIdle n (clipDemand x)) := rfl
  have hframe : clipDemand x = { x with governor := (clipDemand x).governor } := clipDemand_eq_with x
  obtain ⟨hdemand, hshadow⟩ := clipDemand_zero (s := x) (by simp [x, thermalCeiling])
  dsimp only
  rw [hact, hframe]
  generalize (clipDemand x).governor = g at *
  have hnotices := (record_congr (s := s) (t := { x with governor := g }) .overheatIdle n rfl rfl rfl rfl).1
  obtain ⟨m, q, hrecord⟩ := record_exists .overheatIdle n { x with governor := g }
  rw [hrecord] at hnotices ⊢
  have hcause := (mem_addAlarm .overheat .overheat ({ x with governor := g, notices := m, tx := q } : State)).2 (.inl rfl)
  rw [addAlarm_frame] at hcause ⊢
  exact ⟨rfl, hdemand, hshadow, hcause, hnotices⟩

theorem expireHot_holds (h : s.thermal.hot.isSome = true) (hp : s.param 57 ≠ 1) : expireHot s = raiseOverheat s := by
  unfold expireHot
  rw [ite_isNone, if_pos h]
  exact if_neg (by simpa [overheatRelease] using hp)

theorem expireHot_releases (h : s.thermal.hot.isSome = true) (hp : s.param 57 = 1) :
    expireHot s = disengageOrder .overheatIdle (raiseOverheat s) := by
  unfold expireHot
  rw [ite_isNone, if_pos h]
  exact if_pos (by simpa [overheatRelease] using hp)

/-- Overheat idle with its release. -/
theorem expireHot_stops (h : s.thermal.hot.isSome = true) (hp : s.param 57 = 1) (hpto : s.drive.pto = .engaged)
    (hfb : s.qualified .ptoFb ≠ some false) :
    let u := expireHot s
    u.drive.release = some .overheatIdle ∧ (u.drive.pto = .rampdown ∨ u.drive.pto = .releasing) ∧
    u.governor.demand = 0 ∧ u.supply.state = .idle ∧ u.thermal.overheat = false ∧ u.thermal.hot = none ∧
    ModeAtExit true s.choices s u := by
  obtain ⟨hx, -⟩ := raiseOverheat_spec s
  dsimp only
  rw [expireHot_releases h hp]
  generalize raiseOverheat s = x at *
  have hdrive : x.drive = s.drive := by rw [hx]
  have hterm : x.terminals = s.terminals := by rw [hx]
  have hchoices : x.choices = s.choices := by rw [hx]
  have hxpto : x.drive.pto = .engaged := by rw [hdrive]; exact hpto
  have hxfb : x.qualified .ptoFb ≠ some false := by rw [qualified_congr hterm]; exact hfb
  have hstop := disengageOrder_stopped .overheatIdle hxpto hxfb
  have hthermal : thermalLeft (disengageOrder .overheatIdle x).thermal = (disengageOrder .overheatIdle x).thermal := by
    rw [disengageOrder_engaged .overheatIdle hxpto hxfb]
    exact handExit_thermal ..
  have hmode := disengageOrder_modeAtExit .overheatIdle hxpto hxfb
  rw [hchoices] at hmode
  refine ⟨by rw [hstop.drive, leavingRecord_release], ?_, hstop.demand, hstop.rest.state, ?_, ?_, ?_⟩
  · rw [hstop.drive, leavingRecord_pto]
    split
    · exact .inr rfl
    · exact .inl rfl
  · rw [← hthermal]
    rfl
  · rw [← hthermal]
    rfl
  · refine hmode.of_eq ?_ ?_ ?_ ?_ hterm <;> rw [hx]

theorem expireNoFlow_opens (h : s.thermal.noFlow.isSome = true) :
    let u := expireNoFlow s
    u = { s with
      thermal := { s.thermal with noFlow := none, noFlowHeld := true }, recirc := u.recirc
      valves := { s.valves with recircValve := u.valves.recircValve } } ∧
    (∀ c : RecircCause, c ∈ u.recirc ↔ c = .noFlow ∨ c ∈ s.recirc) ∧
    (s.recirc = [] → u.valves.recircValve.openCmd = true) ∧
    (s.recirc ≠ [] → u.valves.recircValve = s.valves.recircValve) := by
  have hact : expireNoFlow s =
      addRecirc .noFlow { s with thermal := { s.thermal with noFlow := none, noFlowHeld := true } } :=
    (ite_isNone ..).trans (if_pos h)
  obtain ⟨r, a, hr, hmem, hopen, hsame⟩ :=
    addRecirc_spec .noFlow { s with thermal := { s.thermal with noFlow := none, noFlowHeld := true } }
  dsimp only
  rw [hact, hr]
  exact ⟨rfl, hmem, hopen, hsame⟩

theorem expireFlowReturn_closes (h : s.thermal.flowReturn.isSome = true) (hheld : s.thermal.noFlowHeld = true) :
    let u := expireFlowReturn s
    u = { s with
      thermal := { s.thermal with noFlow := none, flowReturn := none, noFlowHeld := false }, recirc := u.recirc
      valves := { s.valves with recircValve := u.valves.recircValve } } ∧
    (∀ c : RecircCause, c ∈ u.recirc ↔ c ≠ .noFlow ∧ c ∈ s.recirc) ∧
    (.noFlow ∈ s.recirc → u.recirc = [] → u.valves.recircValve.openCmd = false) ∧
    (u.recirc ≠ [] → u.valves.recircValve = s.valves.recircValve) := by
  have hact : expireFlowReturn s = removeRecirc .noFlow
      { s with thermal := { s.thermal with noFlow := none, flowReturn := none, noFlowHeld := false } } :=
    ((ite_isNone ..).trans (if_pos h)).trans (if_pos hheld)
  obtain ⟨r, a, hr, hmem, hclosed, hsame⟩ := removeRecirc_spec .noFlow
    { s with thermal := { s.thermal with noFlow := none, flowReturn := none, noFlowHeld := false } }
  dsimp only
  rw [hact, hr]
  exact ⟨rfl, hmem, hclosed, fun hne => hsame (.inr hne)⟩

theorem expireDryRun_latches (h : s.thermal.dry.isSome = true) (hs : NotShifting s) :
    let u := expireDryRun s
    u = { s with
      thermal := { s.thermal with latch := true, dry := none }, governor := u.governor, alarm := u.alarm
      trend := u.trend, notices := u.notices, tx := u.tx
      interlock := { s.interlock with conditions := u.interlock.conditions } } ∧
    u.governor.demand = 0 ∧ u.governor.shadow = s.governor.shadow ∧ .dryRun ∈ u.alarm.causes ∧ u.trend.fast = 30 ∧
    u.notices = (record .dryRun
      { value := some (s.published .dischargeP), second := some (s.flow : Int) } s).notices := by
  let x : State := { s with thermal := { s.thermal with latch := true, dry := none } }
  let n : NoticeBody := { value := some (s.published .dischargeP), second := some (s.flow : Int) }
  have hact : expireDryRun s = conditionEvent (protectiveEvent (addAlarm .dryRun (record .dryRun n (clipDemand x)))) :=
    (ite_isNone ..).trans (if_pos h)
  have hframe : clipDemand x = { x with governor := (clipDemand x).governor } := clipDemand_eq_with x
  obtain ⟨hdemand, hshadow⟩ := clipDemand_zero (s := x) (by simp [x, thermalCeiling])
  dsimp only
  rw [hact, hframe]
  generalize (clipDemand x).governor = g at *
  have hnotices := (record_congr (s := s) (t := { x with governor := g }) .dryRun n rfl rfl rfl rfl).1
  obtain ⟨m, q, hrecord⟩ := record_exists .dryRun n { x with governor := g }
  rw [hrecord] at hnotices ⊢
  have hcause := (mem_addAlarm .dryRun .dryRun ({ x with governor := g, notices := m, tx := q } : State)).2 (.inl rfl)
  rw [addAlarm_frame] at hcause ⊢
  generalize (addAlarm .dryRun ({ x with governor := g, notices := m, tx := q } : State)).alarm = a at *
  rw [conditionEvent_refresh (s := protectiveEvent { x with governor := g, notices := m, tx := q, alarm := a }) hs]
  exact ⟨rfl, hdemand, hshadow, hcause, rfl, hnotices⟩

/-- RECIRC ON or OFF (R164). -/
theorem operatorRecirc_spec (on : Bool) (s : State) :
    let u := operatorRecirc on s
    u = { s with
      thermal := { s.thermal with operator := on }, recirc := u.recirc
      valves := { s.valves with recircValve := u.valves.recircValve } } ∧
    (∀ c : RecircCause, c ∈ u.recirc ↔ (c = .operator ∧ on = true) ∨ (c ≠ .operator ∧ c ∈ s.recirc)) ∧
    (s.recirc = [] → on = true → u.valves.recircValve.openCmd = true) ∧
    (s.recirc ≠ [] → u.recirc = [] → u.valves.recircValve.openCmd = false) := by
  let x : State := { s with thermal := { s.thermal with operator := on } }
  cases hon : on with
  | true =>
    obtain ⟨r, a, hr, hmem, hopen, -⟩ := addRecirc_spec .operator x
    have hact : operatorRecirc true s = addRecirc .operator x := by rw [← hon]; exact if_pos hon
    dsimp only
    rw [hact, hr]
    refine ⟨by simp only [x, hon], fun c => (hmem c).trans ?_, fun h _ => hopen h, fun _ he => ?_⟩
    · by_cases hc : c = .operator <;> simp [hc, x]
    · exact absurd ((hmem .operator).2 (.inl rfl)) (by simp [show r = [] from he])
  | false =>
    obtain ⟨r, a, hr, hmem, hclosed, -⟩ := removeRecirc_spec .operator x
    have hact : operatorRecirc false s = removeRecirc .operator x := by rw [← hon]; exact if_neg (by simp [hon])
    dsimp only
    rw [hact, hr]
    refine ⟨by simp only [x, hon], fun c => (hmem c).trans (by simp [x]), fun _ h => absurd h (by decide), fun hne he => ?_⟩
    obtain ⟨d, hd⟩ := List.exists_mem_of_ne_nil _ hne
    by_cases hop : .operator ∈ s.recirc
    · exact hclosed hop he
    · exact absurd ((hmem d).2 ⟨fun e => hop (e ▸ hd), hd⟩) (by simp [show r = [] from he])

/-! ### The zone at a published set -/

/-- A zone's own band at the published temperature (R154). -/
def ZoneKept (s : State) (z : Zone) : Prop :=
  (z = .normal ∧ s.published .pumpTemp < s.param 52) ∨
  (z = .warm ∧ s.param 52 - 5 ≤ s.published .pumpTemp ∧ s.published .pumpTemp < s.param 53) ∨
  (z = .hot ∧ s.param 53 - 5 ≤ s.published .pumpTemp)

theorem nextZone_kept {z : Zone} (h : ZoneKept s z) : nextZone s z (s.published .pumpTemp) = z := by
  rw [nextZone_eq]
  exact if_pos h

theorem nextZone_enters {z : Zone} (h : ¬ZoneKept s z) : nextZone s z (s.published .pumpTemp) =
    if s.param 53 ≤ s.published .pumpTemp then .hot else if s.param 52 ≤ s.published .pumpTemp then .warm else .normal := by
  rw [nextZone_eq]
  exact if_neg h

theorem publishZone_evaluates
    (h : s.healthOf .pumpTemp = .stale ∨ (s.healthOf .pumpTemp = .ok ∧ s.thermal.unknown = false)) :
    publishZone s = setZone (nextZone s s.thermal.zone (s.published .pumpTemp)) .temperature s := by
  unfold publishZone
  obtain h | ⟨h, hu⟩ := h
  · rw [h]
  · rw [h, hu]
    exact if_neg (by decide)

theorem publishZone_fails (h : s.healthOf .pumpTemp = .failed) :
    publishZone s = setZone .warm .sensorFailed { s with thermal := { s.thermal with unknown := true } } := by
  unfold publishZone
  rw [h]
  rfl

theorem setZone_zone (z : Zone) (c : ZoneCause) (s : State) : (setZone z c s).thermal.zone = z := by
  by_cases h : z = s.thermal.zone
  · rw [h, setZone_same]
  · rw [(setZone_changed h).2.1]

/-- The zone at the channel's recovery (R155, log entry 18). -/
theorem publishZone_recovers (h : s.healthOf .pumpTemp = .ok) (hu : s.thermal.unknown = true) :
    let z := nextZone s .warm (s.published .pumpTemp)
    let u := setZone z .sensorRecovered { s with thermal := { s.thermal with unknown := false } }
    let q := publishZone s
    q = { u with thermal := { u.thermal with overheat := u.thermal.overheat && z == .hot }, alarm := q.alarm } ∧
    ∀ a : AlarmCause, a ∈ q.alarm.causes ↔
      a ∈ u.alarm.causes ∧ ¬(a = .overheat ∧ u.thermal.overheat = true ∧ z ≠ .hot) := by
  have hact : publishZone s =
      if (setZone (nextZone s .warm (s.published .pumpTemp)) .sensorRecovered
          { s with thermal := { s.thermal with unknown := false } }).thermal.zone = .hot then
        setZone (nextZone s .warm (s.published .pumpTemp)) .sensorRecovered
          { s with thermal := { s.thermal with unknown := false } }
      else endOverheat (setZone (nextZone s .warm (s.published .pumpTemp)) .sensorRecovered
          { s with thermal := { s.thermal with unknown := false } }) := by
    unfold publishZone
    rw [h]
    exact if_pos hu
  have hzone := setZone_zone (nextZone s .warm (s.published .pumpTemp)) .sensorRecovered
    { s with thermal := { s.thermal with unknown := false } }
  dsimp only
  rw [hact]
  generalize setZone _ .sensorRecovered _ = u at *
  generalize nextZone s .warm (s.published .pumpTemp) = z at *
  by_cases hz : z = .hot
  · rw [if_pos (hzone.trans hz), hz, show (Zone.hot == Zone.hot) = true from rfl, Bool.and_true]
    exact ⟨rfl, fun a => by simp⟩
  · obtain ⟨al, he, hmem⟩ := endOverheat_spec u
    rw [if_neg fun e => hz (hzone.symm.trans e), he, beq_false_of_ne hz, Bool.and_false]
    exact ⟨rfl, fun a => by rw [hmem a]; simp [hz]⟩

/-! ### The PTO -/

theorem thermalLeaveEngaged_overheat (h : s.thermal.overheat = true) :
    .overheat ∉ (thermalLeaveEngaged s).alarm.causes := by
  have hdrop : ∀ y : State, (dropNoFlow y).thermal.overheat = y.thermal.overheat := fun y => by rw [dropNoFlow_thermal]
  have hend : .overheat ∉ (endOverheat (dropNoFlow (s.modThermal fun x => { x with hot := none, dry := none }))).alarm.causes := by
    obtain ⟨al, he, hmem⟩ := endOverheat_spec (dropNoFlow (s.modThermal fun x => { x with hot := none, dry := none }))
    rw [he]
    exact fun hin => ((hmem _).1 hin).2 ⟨rfl, (hdrop _).trans h⟩
  unfold thermalLeaveEngaged clearDryRun
  split
  · rw [conditionEvent_owned ⟨by decide, by decide⟩, mem_removeAlarm]
    exact fun hin => hend hin.1
  · exact hend

/-- A timer of the Thermal Monitor that does not run has no expiry to act on (log entry 2). -/
theorem thermal_idle_expiry {c : Instr} (hp : s.powered = true)
    (h : (c = .hotTimerExpiry ∧ s.thermal.hot = none) ∨ (c = .noFlowTimerExpiry ∧ s.thermal.noFlow = none) ∨
      (c = .flowReturnExpiry ∧ s.thermal.flowReturn = none) ∨ (c = .dryRunTimerExpiry ∧ s.thermal.dry = none)) :
    exec c s = .next (finish s.fresh) := by
  obtain ⟨rfl, ht⟩ | ⟨rfl, ht⟩ | ⟨rfl, ht⟩ | ⟨rfl, ht⟩ := h
  · exact exec_leaves hp rfl (if_pos (Option.isNone_iff_eq_none.2 ht))
  · exact exec_leaves hp rfl (if_pos (Option.isNone_iff_eq_none.2 ht))
  · exact exec_leaves hp rfl (if_pos (Option.isNone_iff_eq_none.2 ht))
  · exact exec_leaves hp rfl (if_pos (Option.isNone_iff_eq_none.2 ht))

/-- Settles O46. -/
theorem thermalTimersAndRecirculation : Obligations.ThermalTimersAndRecirculation := by
  refine ⟨fun s hp ht h57 => ?_, fun s hp ht h57 hpto hfb => ?_, fun s hp ht => ?_, fun s hp ht hh => ?_,
    fun s hp ht hs => ?_, fun s tag b hs hb => ?_, fun s tag b hs hb => ?_, fun s => ⟨fun h => ⟨fun hk => ?_, fun hk => ?_⟩,
    publishZone_fails, fun h hu => ?_⟩, fun s c => setZone_same c s, fun s z c h => setZone_changed h, fun s => ?_,
    fun s => ⟨thermalLeaveEngaged_thermal s, thermalLeaveEngaged_overheat⟩, fun s c hp h => thermal_idle_expiry hp h⟩
  · have hact := expireHot_holds (s := s.fresh) ht h57
    obtain ⟨hu, hdemand, hshadow, hcause, hnotices⟩ := raiseOverheat_spec s.fresh
    have hoff : overheatRelease s.fresh = false := beq_false_of_ne h57
    rw [hoff] at hnotices
    exact ⟨_, exec_leaves hp rfl hact, hu, hdemand, hshadow, hcause,
      hnotices.trans (record_congr (s := s) (t := s.fresh) _ _ rfl rfl rfl rfl).1⟩
  · exact ⟨_, exec_on (f := expireHot) hp rfl, expireHot_stops (s := s.fresh) ht h57 hpto hfb⟩
  · exact ⟨_, exec_on (f := expireNoFlow) hp rfl, expireNoFlow_opens (s := s.fresh) ht⟩
  · exact ⟨_, exec_on (f := expireFlowReturn) hp rfl, expireFlowReturn_closes (s := s.fresh) ht hh⟩
  · obtain ⟨hu, hdemand, hshadow, hcause, hfast, hnotices⟩ := expireDryRun_latches (s := s.fresh) ht hs
    exact ⟨_, exec_on (f := expireDryRun) hp rfl, hu, hdemand, hshadow, hcause, hfast,
      hnotices.trans (record_congr (s := s) (t := s.fresh) _ _ rfl rfl rfl rfl).1⟩
  · refine exec_of_act_unchanged (r := .recirc b) rfl rfl rfl hs ?_
    show actRecirc b _ = _
    unfold actRecirc
    rw [settingOfCode_none hb]
    rfl
  · have hact : act (.recirc b) (holdRequest 30 tag s.fresh) =
        ⟨operatorRecirc (decide (b = 1)) (holdRequest 30 tag s.fresh), .ok,
          setBytes allRecircCauses (operatorRecirc (decide (b = 1)) (holdRequest 30 tag s.fresh)).recirc⟩ := by
      obtain rfl | rfl := hb <;> rfl
    obtain ⟨hu, hmem, hopen, hclosed⟩ := operatorRecirc_spec (decide (b = 1)) (holdRequest 30 tag s.fresh)
    generalize operatorRecirc (decide (b = 1)) (holdRequest 30 tag s.fresh) = u at *
    refine ⟨_, exec_taken_link (r := .recirc b) rfl rfl rfl hs hact (by rw [hu]), ?_, fun c => (hmem c).trans (by simp; rfl),
      fun h hb1 => hopen h (decide_eq_true hb1), hclosed⟩
    exact (congrArg (fun x : State => { x with link := s.link }) hu).trans rfl
  · rw [publishZone_evaluates h, nextZone_kept hk, setZone_same]
  · rw [publishZone_evaluates h, nextZone_enters hk]
  · exact ⟨_, nextZone_kept, nextZone_enters, publishZone_recovers h hu⟩
  · unfold thermalEnterEngaged
    split
    · rfl
    · rfl

end Sys2Proof.Machine
end

section
/-! PROOFS. The acts on the way to a tank read nothing of a request in hand, as the condition event does not: a priming
abandoned by a request is one abandoned without it (R114). -/

namespace Sys2Proof.Machine

variable {s : State} {f g : State → State}

/-! ### A tank's fill -/

theorem blind_write (f : State → State) (h : ∀ s T l, (f s).terminals = s.terminals ∧ (f s).link = s.link ∧
    f (facing T l s) = facing T l (f s)) : Blind f := fun s T l _ => ⟨⟨(h s T l).1, (h s T l).2.1⟩, (h s T l).2.2⟩

theorem blind_modTank (n : Tank) (f : TankRecord → TankRecord) : Blind fun s => s.modTank n f :=
  blind_write _ fun _ _ _ => ⟨rfl, rfl, rfl⟩

theorem blind_modSupply (f : Supply → Supply) : Blind fun s => s.modSupply f :=
  blind_write _ fun _ _ _ => ⟨rfl, rfl, rfl⟩

theorem Faces.feedback {T : Terminals} {l : Link} (h : Faces T l s) (v : ValveRole) :
    feedback (facing T l s) v = feedback s v := by
  unfold Machine.feedback
  cases feedbackRole v with
  | none => rfl
  | some r => exact h.qualified r

/-- A valve set to a record that its own and its feedback decide. -/
theorem blind_setValve {v : ValveRole} {r : State → Actuator} (hr : ∀ s T l, Faces T l s → r (facing T l s) = r s) :
    Blind fun s => { s with valves := setValve s.valves v (r s) } :=
  Blind.choose (f := fun a s => { s with valves := setValve s.valves v a }) hr fun _ => blind_write _ fun _ _ _ => ⟨rfl, rfl, rfl⟩

theorem blind_carryOut (v : ValveRole) (o : Bool) : Blind (carryOut v o) := by
  cases o
  · rw [show carryOut v false = _ from funext (carryOut_closes v)]
    exact blind_setValve fun _ _ _ _ => rfl
  · rw [show carryOut v true = _ from funext (carryOut_opens v)]
    refine blind_setValve fun s T l h => ?_
    unfold openedRecord
    rw [h.feedback]
    rfl

theorem blind_commandFill (n : Tank) (o : Bool) : Blind (commandFill n o) :=
  Blind.ite (p := fun s => o = true ∧ (s.valve (tankValve n)).openCmd = true) (fun _ _ _ _ => .rfl)
    ((blind_record _ _).comp (blind_modTank n _)) ((blind_carryOut _ _).comp (blind_modTank n _))

theorem blind_recordStage (n : Tank) (old : FillStage) (c : FillCause) : Blind (recordStage n old c) :=
  Blind.choose (v := fun s => s.tank n) (f := fun r s => record .fillStage
    { subject := some (.tank n), old := some (.stage old), new := some (.stage r.stage), value := r.volume.map Int.ofNat
      cause := some (.fill c) } s) (fun _ _ _ _ => rfl) fun _ => blind_record _ _

theorem blind_runBulk (n : Tank) (t : Option SafetyTimer) : Blind (runBulk n t) :=
  (blind_commandFill n true).comp (blind_modTank n _)

theorem blind_runTopoff (n : Tank) (t : Option SafetyTimer) : Blind (runTopoff n t) :=
  (blind_commandFill n true).comp (blind_modTank n _)

theorem blind_closeFill (n : Tank) (st : FillStage) : Blind (closeFill n st) :=
  (blind_commandFill n false).comp (blind_modTank n _)

theorem blind_enterStage (n : Tank) (st : FillStage) : Blind (enterStage n st) := by
  cases st
  case bulk => exact Blind.choose (v := bulkLimit) (f := fun k => runBulk n (some ⟨0, k⟩)) (fun _ _ _ _ => rfl) fun _ => blind_runBulk _ _
  case topoff =>
    exact Blind.choose (v := topoffLimit) (f := fun k => runTopoff n (some ⟨0, k⟩)) (fun _ _ _ _ => rfl) fun _ => blind_runTopoff _ _
  case fullHold => exact blind_closeFill _ _
  all_goals exact blind_id

theorem blind_suspendFill (n : Tank) : Blind (suspendFill n) :=
  Blind.choose (v := fun s => (s.tank n).stage)
    (f := fun old s => recordStage n old .permissionLost (commandFill n false (s.modTank n fun r =>
      { r with stage := .suspended, suspendedFrom := some old, phase := none, cycle := none })))
    (fun _ _ _ _ => rfl) fun _ => (blind_recordStage _ _ _).comp ((blind_commandFill _ _).comp (blind_modTank n _))

/-- The stage a fill resumes in entered with its held timer, or afresh. -/
def resumeIn (n : Tank) (st : FillStage) (t : Option SafetyTimer) (held : Bool) : State → State :=
  match held, st with
  | true, .bulk => runBulk n t
  | true, .topoff => runTopoff n t
  | _, _ => enterStage n st

theorem blind_resumeIn (n : Tank) (st : FillStage) (t : Option SafetyTimer) (held : Bool) : Blind (resumeIn n st t held) := by
  unfold resumeIn
  split
  · exact blind_runBulk _ _
  · exact blind_runTopoff _ _
  · exact blind_enterStage _ _

theorem resumeFill_eq (n : Tank) (s : State) : resumeFill n s = recordStage n .suspended .permissionReturned
    (resumeIn n (resumeStage s n) (s.tank n).safety (decide ((s.tank n).suspendedFrom = some (resumeStage s n))) s) := by
  unfold resumeFill
  dsimp only
  generalize resumeStage s n = st
  by_cases h : (s.tank n).suspendedFrom = some st
  · rw [if_pos h, decide_eq_true h]
    cases st <;> rfl
  · rw [if_neg h, decide_eq_false h]
    cases st <;> rfl

theorem blind_resumeFill (n : Tank) : Blind (resumeFill n) := by
  rw [show resumeFill n = _ from funext (resumeFill_eq n)]
  refine (blind_recordStage n .suspended .permissionReturned).comp ?_
  exact Blind.choose
    (v := fun s => (resumeStage s n, (s.tank n).safety, decide ((s.tank n).suspendedFrom = some (resumeStage s n))))
    (f := fun a => resumeIn n a.1 a.2.1 a.2.2) (fun _ _ _ _ => rfl) fun _ => blind_resumeIn _ _ _ _

/-- A fill reviewed by its stage (R139, R145). -/
def reviewIn (n : Tank) : FillStage → State → State
  | .bulk | .topoff | .fullHold => fun s => if fillPermission s n = true then s else suspendFill n s
  | .suspended => fun s => if fillPermission s n = true then resumeFill n s else s
  | .off | .timeout => id

theorem reviewFill_eq (n : Tank) (s : State) : reviewFill n s = reviewIn n (s.tank n).stage s := by
  unfold reviewFill
  cases (s.tank n).stage <;> rfl

theorem blind_reviewFill (n : Tank) : Blind (reviewFill n) := by
  rw [show reviewFill n = _ from funext (reviewFill_eq n)]
  refine Blind.choose (v := fun s => (s.tank n).stage) (f := reviewIn n) (fun _ _ _ _ => rfl) fun st => ?_
  have hlost : Blind fun s => if fillPermission s n = true then s else suspendFill n s :=
    Blind.ite (fun _ _ _ _ => .rfl) blind_id (blind_suspendFill n)
  cases st
  case suspended => exact Blind.ite (fun _ _ _ _ => .rfl) (blind_resumeFill n) blind_id
  case off | timeout => exact blind_id
  all_goals exact hlost

theorem blind_reviewFills : Blind reviewFills :=
  blind_runInOrder fun f hf => by
    simp only [List.mem_cons, List.not_mem_nil, or_false] at hf
    obtain rfl | rfl := hf <;> exact blind_reviewFill _

/-! ### The supply -/

theorem blind_forceFillClosed (n : Tank) : Blind (forceFillClosed n) :=
  Blind.ite (p := fun s => (s.valve (fillValve n)).openCmd = true) (fun _ _ _ _ => .rfl)
    ((blind_modTank n _).comp (blind_carryOut _ _)) blind_id

theorem blind_commandTankValve (n : Tank) (o : Bool) : Blind (commandTankValve n o) :=
  Blind.ite (p := fun _ => o = true) (fun _ _ _ _ => .rfl)
    (Blind.ite (p := fun s => (s.valve (tankValve (otherTank n))).openCmd = true) (fun _ _ _ _ => .rfl) (blind_record _ _)
      ((blind_reviewFill n).comp ((blind_carryOut _ _).comp (blind_forceFillClosed n))))
    ((blind_reviewFill n).comp (blind_carryOut _ _))

theorem blind_closeTankValves : Blind closeTankValves :=
  (blind_commandTankValve .reserve false).comp (blind_commandTankValve .main false)

theorem blind_setLimit : Blind (setLimit 1000) :=
  blind_clipDemand.comp ((blind_removeAlarm .limiter).comp (blind_modSupply _))

theorem blind_setSupply (st : SupplyState) (ph : Option Phase) : Blind (setSupply st ph) := by
  have hset : Blind fun s => s.modSupply (supplyIn st ph (floorOf s st)) :=
    Blind.choose (v := fun s => floorOf s st) (f := fun k s => s.modSupply (supplyIn st ph k)) (fun s _ _ _ => by cases st <;> rfl)
      fun _ => blind_modSupply _
  have hlimit : Blind fun s => if limiterRuns st = true then s else setLimit 1000 s :=
    Blind.ite (p := fun _ => limiterRuns st = true) (fun _ _ _ _ => .rfl) blind_id blind_setLimit
  have halarm : Blind fun s => if st = .noSupply then s else removeAlarm .exhausted s :=
    Blind.ite (p := fun _ => st = .noSupply) (fun _ _ _ _ => .rfl) blind_id (blind_removeAlarm _)
  have hdry : Blind fun s => if st = .draftPriming then s.modThermal fun x => { x with dry := none } else s :=
    Blind.ite (p := fun _ => st = .draftPriming) (fun _ _ _ _ => .rfl) (blind_write _ fun _ _ _ => ⟨rfl, rfl, rfl⟩) blind_id
  exact blind_reviewFills.comp (blind_conditionEvent.comp (blind_clipDemand.comp
    (hdry.comp (halarm.comp (hlimit.comp hset)))))

theorem blind_reviewLowTank : Blind reviewLowTank :=
  Blind.ite (p := fun s => s.drive.pto = .engaged ∧
      ((s.tank s.supply.selected).state = .low ∨ (s.tank s.supply.selected).state = .empty)) (fun _ _ _ _ => .rfl)
    (blind_addAlarm _) (blind_removeAlarm _)

theorem blind_selectTank (n : Tank) : Blind (selectTank n) :=
  Blind.ite (p := fun s => s.supply.selected = n) (fun _ _ _ _ => .rfl) blind_id
    (blind_reviewLowTank.comp (blind_conditionEvent.comp (blind_modSupply _)))

theorem blind_derivePair : Blind derivePair := blind_write _ fun _ _ _ => ⟨rfl, rfl, rfl⟩

theorem blind_recordOverride (k : OverrideKind) (b : Source) (c : CauseName) : Blind (recordOverride k b c) :=
  Blind.choose (v := fun s => s.governor) (f := fun g s => record .overrideChanged
    { subject := some (.override k), old := some (.source b), new := some (.source g.source)
      value := g.active.value?.map Int.ofNat, cause := some c } s) (fun _ _ _ _ => rfl) fun _ => blind_record _ _

theorem blind_beginOverride (k : OverrideKind) : Blind (beginOverride k) :=
  Blind.ite (p := fun s => s.drive.pto = .engaged ∧ k ∉ s.governor.overrides) (fun _ _ _ _ => .rfl)
    (Blind.choose (v := fun s => s.governor.source) (f := fun b s => recordOverride k b .overrideBegan
      (derivePair (s.modGovernor fun g => { g with overrides := insertIn allOverrides k g.overrides })))
      (fun _ _ _ _ => rfl) fun _ => (blind_recordOverride _ _ _).comp (blind_derivePair.comp
        (blind_write _ fun _ _ _ => ⟨rfl, rfl, rfl⟩))) blind_id

theorem blind_endOverride (k : OverrideKind) : Blind (endOverride k) :=
  Blind.ite (p := fun s => k ∈ s.governor.overrides) (fun _ _ _ _ => .rfl)
    (Blind.choose (v := fun s => s.governor.source) (f := fun b s => recordOverride k b .overrideEnded
      (derivePair (s.modGovernor fun g => { g with
        overrides := removeFrom k g.overrides, captured := if k = .sensorFallback then none else g.captured })))
      (fun _ _ _ _ => rfl) fun _ => (blind_recordOverride _ _ _).comp (blind_derivePair.comp
        (blind_write _ fun _ _ _ => ⟨rfl, rfl, rfl⟩))) blind_id

theorem blind_beginSwitchover : Blind beginSwitchover :=
  Blind.ite (p := fun s => s.supply.switchHeld = true) (fun _ _ _ _ => .rfl) blind_id
    ((blind_beginOverride _).comp (blind_modSupply _))

theorem blind_endSwitchover : Blind endSwitchover :=
  Blind.ite (p := fun s => s.supply.switchHeld = true) (fun _ _ _ _ => .rfl)
    ((blind_endOverride _).comp (blind_modSupply _)) blind_id

theorem blind_enterNoSupply (c : ExhaustCause) : Blind (enterNoSupply c) := by
  have hset : Blind noSupplySet := (blind_setSupply _ _).comp (blind_endSwitchover.comp blind_closeTankValves)
  rw [show enterNoSupply c = _ from funext (enterNoSupply_eq c)]
  refine (blind_addAlarm .exhausted).comp ?_
  refine Blind.choose (v := fun s => s.supply.state) (f := fun st s =>
    record .supplyExhausted (exhaustedBody (noSupplySet s).supply.selected st c) (noSupplySet s)) (fun _ _ _ _ => rfl) fun st => ?_
  exact (Blind.choose (v := fun s => s.supply.selected) (f := fun n => record .supplyExhausted (exhaustedBody n st c))
    (fun _ _ _ _ => rfl) fun _ => blind_record _ _).comp hset

theorem blind_judgeTarget : Blind judgeTarget := by
  rw [show judgeTarget = _ from funext judgeTarget_eq]
  refine Blind.choose (v := fun s => s.valve (tankValve s.supply.selected)) (f := fun a s =>
    if a.state = .fault ∧ a.fault = some .noOpen then enterNoSupply .valveFault s
    else if a.state = .atOpen ∨ a.state = .fault then startSettling (decide (a.state = .fault)) s else s)
    (fun _ _ _ _ => rfl) fun a => ?_
  exact Blind.ite (fun _ _ _ _ => .rfl) (blind_enterNoSupply _)
    (Blind.ite (fun _ _ _ _ => .rfl) (blind_modSupply _) blind_id)

theorem blind_openTarget : Blind openTarget :=
  blind_judgeTarget.comp (Blind.choose (v := fun s => s.supply.selected)
    (f := fun n s => commandTankValve n true (s.modSupply fun x => { x with phase := some .openingTarget }))
    (fun _ _ _ _ => rfl) fun n => (blind_commandTankValve n true).comp (blind_modSupply _))

theorem blind_judgeOther : Blind judgeOther := by
  rw [show judgeOther = _ from funext judgeOther_eq]
  refine Blind.choose (v := fun s => s.valve (tankValve (otherTank s.supply.selected))) (f := fun a s =>
    if a.state = .fault ∧ a.fault = some .stuckOpen then enterNoSupply .valveFault s
    else if a.state = .atClosed ∨ a.state = .fault then openTarget s else s)
    (fun _ _ _ _ => rfl) fun a => ?_
  exact Blind.ite (fun _ _ _ _ => .rfl) (blind_enterNoSupply _) (Blind.ite (fun _ _ _ _ => .rfl) blind_openTarget blind_id)

theorem blind_markSwitching : Blind markSwitching := (blind_setSupply _ _).comp (blind_modSupply _)

theorem blind_beginSwitch : Blind beginSwitch :=
  blind_judgeOther.comp (Blind.choose (v := fun s => s.supply.selected)
    (f := fun n s => commandTankValve (otherTank n) false (markSwitching s)) (fun _ _ _ _ => rfl)
    fun _ => (blind_commandTankValve _ _).comp blind_markSwitching)

theorem blind_emptyTankDecision : Blind emptyTankDecision :=
  Blind.ite (p := fun s => s.supply.selected = .main ∧ autoReserve s = true ∧ s.tanks.reserve.state ≠ .empty)
    (fun _ _ _ _ => .rfl) (blind_beginSwitch.comp (blind_beginSwitchover.comp (blind_selectTank _))) (blind_enterNoSupply _)

theorem blind_enterSwitching : Blind enterSwitching :=
  Blind.ite (p := fun s => selectedEmpty s = true) (fun _ _ _ _ => .rfl) (blind_emptyTankDecision.comp blind_markSwitching)
    blind_beginSwitch

theorem blind_feedFromTank : Blind feedFromTank := by
  have hjudge : ∀ n b, Blind fun t : State =>
      if b = false ∧ (t.valve (tankValve n)).openCmd = true ∧ (t.valve (tankValve n)).state = .fault
          ∧ (t.valve (tankValve n)).fault = some .noOpen then enterNoSupply .valveFault t else t := fun n b =>
    Blind.ite (fun _ _ _ _ => .rfl) (blind_enterNoSupply _) blind_id
  exact Blind.choose (v := fun s => (s.supply.selected, (s.valve (tankValve s.supply.selected)).openCmd))
    (f := fun a s => (fun t : State =>
      if a.2 = false ∧ (t.valve (tankValve a.1)).openCmd = true ∧ (t.valve (tankValve a.1)).state = .fault
          ∧ (t.valve (tankValve a.1)).fault = some .noOpen then enterNoSupply .valveFault t else t)
      (commandTankValve a.1 true s)) (fun _ _ _ _ => rfl) fun a => (hjudge a.1 a.2).comp (blind_commandTankValve _ _)

theorem blind_returnToTank : Blind returnToTank :=
  Blind.ite (p := fun s => selectedEmpty s = true) (fun _ _ _ _ => .rfl) blind_emptyTankDecision
    (Blind.ite (p := fun s => (s.valve (tankValve (otherTank s.supply.selected))).openCmd = false) (fun _ _ _ _ => .rfl)
      (blind_feedFromTank.comp (blind_setSupply _ _)) blind_enterSwitching)

/-! ### A prime abandoned -/

theorem blind_endPriming : Blind endPriming :=
  Blind.ite (p := fun s => s.supply.primeHeld = true) (fun _ _ _ _ => .rfl)
    ((blind_endOverride _).comp (blind_modSupply _)) blind_id

theorem blind_abandonPrime (c : PrimeCause) : Blind (abandonPrime c) :=
  blind_returnToTank.comp (Blind.choose (v := fun s => s.supply.phase)
    (f := fun ph s => recordPrimeFailed c ph (endPriming (setPrimer false (s.modSupply fun x =>
      { x with primerLimit := none, prime := none })))) (fun _ _ _ _ => rfl) fun _ =>
    (blind_record _ _).comp (blind_endPriming.comp (blind_write _ fun _ _ _ => ⟨rfl, rfl, rfl⟩)))

end Sys2Proof.Machine
end

section
/-! PROOFS. The end of a prime (R113, R114, R99), and O40 from its parts. -/

namespace Sys2Proof.Machine

variable {s t x y u : State} {n : Tank} {c : PrimeCause}

/-! ### Requests whose act reads nothing of the line -/

theorem holdRequest_eq (code tag : Byte) (s : State) :
    holdRequest code tag s = { s with link := { s.link with inHand := some ⟨code, tag⟩ } } := rfl

/-- A taken request whose act and whose answer's body read nothing of the line. -/
theorem exec_blind {i : Instr} {tag code : Byte} {r : Request} {f : State → State} {body : State → List Byte} {res : Result}
    (hi : i.request? = some (tag, r)) (hcode : r.code = code) (hr : r.wellFormed = true) (hs : Ready s) (hf : Blind f)
    (hbody : ∀ (x : State) (l : Link), body { x with link := l } = body x)
    (hact : act r (holdRequest code tag s.fresh) =
      ⟨f (holdRequest code tag s.fresh), res, body (f (holdRequest code tag s.fresh))⟩) :
    exec i s = .next (finish ((f s.fresh).answered code tag res (body (f s.fresh)))) := by
  obtain ⟨hlink, hhold⟩ := hf.line s.fresh (holdRequest code tag s.fresh).link rfl
  have hheld : f (holdRequest code tag s.fresh) = { f s.fresh with link := (holdRequest code tag s.fresh).link } := hhold
  rw [hheld, hbody] at hact
  refine exec_taken hi hcode hr hs hact ?_
  unfold State.answered
  rw [hlink]
  rfl

theorem supplyBytes_eq (s : State) : supplyBytes s =
    [BitVec.ofNat 8 s.supply.state.ctorIdx, BitVec.ofNat 8 (32 + s.supply.selected.ctorIdx)] := rfl

/-- A supply request that is taken, its act blind to the line. -/
theorem exec_supplyTaken {i : Instr} {tag code : Byte} {r : Request} {f : State → State}
    (hi : i.request? = some (tag, r)) (hcode : r.code = code) (hr : r.wellFormed = true) (hs : Ready s) (hf : Blind f)
    (hact : act r (holdRequest code tag s.fresh) = supplyTaken (f (holdRequest code tag s.fresh))) :
    exec i s = .next (finish ((f s.fresh).answered code tag .ok
      [BitVec.ofNat 8 (f s.fresh).supply.state.ctorIdx, BitVec.ofNat 8 (32 + (f s.fresh).supply.selected.ctorIdx)])) :=
  exec_blind (body := supplyBytes) hi hcode hr hs hf (fun _ _ => rfl) hact

/-! ### A prime abandoned -/

/-- The primer off, the prime's timers stopped and PRIMING given up. -/
def primeEnded (s : State) : State :=
  endPriming (setPrimer false (s.modSupply fun x => { x with primerLimit := none, prime := none }))

theorem abandonPrime_eq (c : PrimeCause) (s : State) :
    abandonPrime c s = returnToTank (recordPrimeFailed c s.supply.phase (primeEnded s)) := rfl

theorem endOverride_eq_with (k : OverrideKind) (s : State) : endOverride k s =
    { s with governor := (endOverride k s).governor, notices := (endOverride k s).notices, tx := (endOverride k s).tx } := by
  unfold endOverride
  split
  · unfold recordOverride
    rw [record_eq_with]
    rfl
  · rfl

theorem endOverride_shadow (k : OverrideKind) (s : State) : (endOverride k s).governor.shadow = s.governor.shadow :=
  ((moves_override_self k s).2.stands.setpoint (by decide)).1

theorem endPriming_spec (s : State) :
    endPriming s = { s with
      supply := { s.supply with primeHeld := false }, governor := (endPriming s).governor
      notices := (endPriming s).notices, tx := (endPriming s).tx } ∧
    (s.supply.primeHeld = true → .priming ∉ (endPriming s).governor.overrides) ∧
    (endPriming s).governor.shadow = s.governor.shadow := by
  unfold endPriming
  split
  · have hov : .priming ∉ (endOverride .priming (s.modSupply fun x => { x with primeHeld := false })).governor.overrides :=
      fun h => (mem_endOverride.1 h).2 rfl
    exact ⟨(endOverride_eq_with ..).trans rfl, fun _ => hov, endOverride_shadow ..⟩
  · next h =>
    refine ⟨?_, fun hh => absurd hh h, rfl⟩
    rw [← Bool.eq_false_iff.2 h]

theorem primeEnded_spec (s : State) :
    primeEnded s = { s with
      supply := { s.supply with primerLimit := none, prime := none, primeHeld := false }
      outputs := { s.outputs with primer := ⟨false, none⟩ }, governor := (primeEnded s).governor
      notices := (primeEnded s).notices, tx := (primeEnded s).tx } ∧
    (s.supply.primeHeld = true → .priming ∉ (primeEnded s).governor.overrides) ∧
    (primeEnded s).governor.shadow = s.governor.shadow := by
  obtain ⟨h, hov, hshadow⟩ := endPriming_spec (setPrimer false (s.modSupply fun x => { x with primerLimit := none, prime := none }))
  exact ⟨h.trans rfl, hov, hshadow⟩

/-- What the end of a prime touches. -/
theorem moves_endPriming_self (s : State) : Moves [.supply, .governor, .notices] true s (endPriming s) := by
  unfold endPriming
  split
  · exact moves_endOverride (by decide) (by decide) (moves_supply (by decide) rfl rfl id (.refl ..))
  · exact .refl ..

theorem sameFeed_primeEnded (s : State) : SameFeed s (primeEnded s) :=
  SameFeed.trans (x := setPrimer false (s.modSupply fun x => { x with primerLimit := none, prime := none }))
    ⟨⟨fun _ => rfl, rfl, rfl, rfl, rfl⟩, fun _ => rfl⟩ ((moves_endPriming_self _).sameFeed (by decide))

theorem sameFeed_record (k : NoticeKind) (b : NoticeBody) (s : State) : SameFeed s (record k b s) :=
  (moves_record (K := [.notices]) (b := true) (by decide) (.refl ..)).sameFeed (by decide)

/-- A prime abandoned from a state that differs in its governor alone. -/
theorem abandonPrime_abandoned (c : PrimeCause) (s : State) (g : Governor) :
    PrimeAbandoned c s (abandonPrime c { s with governor := g }) := by
  obtain ⟨hx, hov, -⟩ := primeEnded_spec { s with governor := g }
  have hfeed : SameFeed s (recordPrimeFailed c s.supply.phase (primeEnded { s with governor := g })) :=
    SameFeed.trans (x := { s with governor := g }) ⟨⟨fun _ => rfl, rfl, rfl, rfl, rfl⟩, fun _ => rfl⟩
      ((sameFeed_primeEnded _).trans (sameFeed_record ..))
  have hsup : (recordPrimeFailed c s.supply.phase (primeEnded { s with governor := g })).supply =
      { s.supply with primerLimit := none, prime := none, primeHeld := false } :=
    (record_supply ..).trans (congrArg State.supply hx)
  have hsame : SameSupply s (recordPrimeFailed c s.supply.phase (primeEnded { s with governor := g })) :=
    ⟨hfeed, (congrArg Supply.selected hsup :), (congrArg Supply.state hsup :), (congrArg Supply.switchFrom hsup :)⟩
  have hact : abandonPrime c { s with governor := g } =
      returnToTank (recordPrimeFailed c s.supply.phase (primeEnded { s with governor := g })) := rfl
  have hreturn : TankFeedReturned s (abandonPrime c { s with governor := g }) := by
    rw [hact]
    exact returnToTank_returned hsame
  exact ⟨primeEnded { s with governor := g }, rfl, hx, hov, hreturn⟩

/-- What a prime abandoned leaves of the supply, the primer and the governor. -/
structure Unprimed (s u : State) : Prop where
  bound : TankBound u.supply.state
  prime : u.supply.prime = none
  primerLimit : u.supply.primerLimit = none
  primeHeld : u.supply.primeHeld = false
  outputs : u.outputs = { s.outputs with primer := ⟨false, none⟩ }
  override : s.supply.primeHeld = true → .priming ∉ u.governor.overrides
  shadow : u.governor.shadow = s.governor.shadow

theorem abandonPrime_unprimed (c : PrimeCause) (s : State) : Unprimed s (abandonPrime c s) := by
  obtain ⟨hx, hov, hshadow⟩ := primeEnded_spec s
  rw [abandonPrime_eq]
  unfold recordPrimeFailed
  generalize primeEnded s = x at *
  have hframe := record_eq_with .primeFailed { old := s.supply.phase.map .phase, cause := some (.prime c) } x
  generalize record .primeFailed { old := s.supply.phase.map .phase, cause := some (.prime c) } x = y at *
  have hsup : y.supply = { s.supply with primerLimit := none, prime := none, primeHeld := false } := by
    rw [hframe, hx]
  have hgov : y.governor = x.governor := by rw [hframe]
  have hkept : Kept y.supply (returnToTank y).supply := (feedKeeps_kept y.supply).returnToTank (.refl _)
  refine ⟨returnToTank_bound y, hkept.prime (by rw [hsup]), hkept.primerLimit (by rw [hsup]), ?_, ?_, fun h => ?_, ?_⟩
  · rw [hkept.primeHeld, hsup]
  · exact (feedKeeps_outputs _).returnToTank (by rw [hframe, hx])
  · exact ((feedKeeps_override (l := .priming) (by decide) False).returnToTank (by rw [hgov]; exact iff_false_intro (hov h))).1
  · exact (feedKeeps_shadow _).returnToTank (by rw [hgov]; exact hshadow)

/-! ### A prime that succeeds -/

theorem expirePrime_eq (h : s.supply.prime.isSome = true) : expirePrime s =
    record .primeDone { value := some (((s.supply.primerLimit.map (·.elapsed)).getD 0 / 1000 : Nat) : Int) }
      (setSupply .draft none (endPriming (setPrimer false s))) := by
  unfold expirePrime
  rw [ite_isNone, if_pos h]

theorem moves_setSupply_draft (s : State) : Moves handParts true (s.modSupply (supplyIn .draft none (floorOf s .draft))) (setSupply .draft none s) := by
  rw [setSupply_eq]
  exact moves_handSupply (List.Subset.refl _) (by simp) (.refl ..) (.refl ..)

/-- DRAFT entered from PRIMING. -/
theorem draft_entered (hheld : s.supply.primeHeld = true) :
    let x := setSupply .draft none (endPriming (setPrimer false s))
    SameFeed s x ∧ x.supply.state = .draft ∧ x.supply.phase = none ∧ x.supply.floor = s.param 37 ∧ x.supply.prime = none ∧
    x.supply.primerLimit = none ∧ x.supply.primeHeld = false ∧ x.outputs = { s.outputs with primer := ⟨false, none⟩ } ∧
    .priming ∉ x.governor.overrides ∧ x.governor.shadow = s.governor.shadow := by
  obtain ⟨hy, hov, hshadow⟩ := endPriming_spec (setPrimer false s)
  have hfeed : SameFeed s (endPriming (setPrimer false s)) :=
    SameFeed.trans (x := setPrimer false s) ⟨⟨fun _ => rfl, rfl, rfl, rfl, rfl⟩, fun _ => rfl⟩
      ((moves_endPriming_self _).sameFeed (by decide))
  dsimp only
  generalize endPriming (setPrimer false s) = y at *
  have hhand := moves_setSupply_draft y
  have hsup := setSupply_supply .draft none y
  rw [if_pos (by decide)] at hsup
  have hfloor : floorOf y .draft = s.param 37 := hfeed.param 37
  rw [hfloor] at hsup
  refine ⟨hfeed.trans (sameFeed_setSupply ..), by rw [hsup]; rfl, by rw [hsup]; rfl, by rw [hsup]; rfl, by rw [hsup]; rfl,
    by rw [hsup]; rfl, ?_, ?_, ?_, ?_⟩
  · rw [hsup]
    show y.supply.primeHeld = false
    rw [hy]
  · rw [hhand.stands.outputs (by decide)]
    show y.outputs = _
    rw [hy]
    rfl
  · rw [hhand.overrides (by decide)]
    exact hov hheld
  · rw [(hhand.stands.setpoint (by decide)).1]
    exact hshadow

/-! ### A prime that the PTO ends (R99) -/

/-- The clutch stands, no tank may be filled and none is: no fill and no condition is acted on. -/
structure Resting (s : State) : Prop where
  notShifting : NotShifting s
  offLine : OffLine s.supply.state
  fill : ∀ n : Tank, NotFilling (s.tank n)

theorem Resting.of_eq (h : Resting s) (hd : t.drive = s.drive) (hs : OffLine t.supply.state) (ht : t.tanks = s.tanks) :
    Resting t := ⟨by unfold NotShifting; rw [hd]; exact h.notShifting, hs, fun n => by unfold State.tank; rw [ht]; exact h.fill n⟩

theorem Resting.withValves (h : Resting s) (v : PerValve Actuator) : Resting { s with valves := v } :=
  ⟨h.notShifting, h.offLine, h.fill⟩

theorem Resting.record (h : Resting s) (k : NoticeKind) (b : NoticeBody) : Resting (record k b s) := by
  rw [record_eq_with]
  exact ⟨h.notShifting, h.offLine, h.fill⟩

theorem Resting.reviewFill (h : Resting s) (n : Tank) : reviewFill n s = s := by
  obtain ⟨h₁, h₂, h₃⟩ := h.fill n
  rw [reviewFill_eq]
  cases hst : (s.tank n).stage with
  | suspended => exact if_neg (by simp [fillPermission_offLine h.offLine])
  | bulk => exact absurd hst h₁
  | topoff => exact absurd hst h₂
  | fullHold => exact absurd hst h₃
  | _ => rfl

theorem Resting.reviewFills (h : Resting s) : reviewFills s = s.modChoices (·.drop 2) := by
  have hrest : Resting (s.modChoices (·.drop 2)) := h.of_eq rfl h.offLine rfl
  obtain e | e := runInOrder_pair (Machine.reviewFill .main) (Machine.reviewFill .reserve) s <;>
  · refine e.trans ?_
    rw [hrest.reviewFill, hrest.reviewFill]

theorem Resting.closeTankValves (h : Resting s) : ∃ v, closeTankValves s = { s with valves := v } := by
  have hclose : ∀ n y, Resting y → commandTankValve n false y =
      { y with valves := setValve y.valves (tankValve n) (closedRecord y (tankValve n)) } := fun n y hy => by
    have hact : commandTankValve n false y = Machine.reviewFill n (carryOut (tankValve n) false y) := rfl
    rw [hact, carryOut_closes]
    exact (hy.withValves _).reviewFill n
  unfold Machine.closeTankValves
  rw [hclose .main s h]
  exact ⟨_, hclose .reserve _ (h.withValves _)⟩

theorem Resting.selectTank (h : Resting s) (n : Tank) : ∃ x a l, selectTank n s =
    { s with supply := x, alarm := a, interlock := { s.interlock with conditions := l } } ∧ x.state = s.supply.state := by
  unfold Machine.selectTank
  split
  · exact ⟨s.supply, s.alarm, s.interlock.conditions, rfl, rfl⟩
  · have hcalm : NotShifting (s.modSupply fun x => { x with selected := n }) := h.notShifting
    rw [conditionEvent_refresh hcalm]
    generalize trueConditions (s.modSupply fun x => { x with selected := n }) = l
    unfold reviewLowTank
    dsimp only
    split
    · rw [addAlarm_frame]
      exact ⟨_, _, l, rfl, rfl⟩
    · rw [removeAlarm_frame]
      exact ⟨_, _, l, rfl, rfl⟩

/-- The events at rest record nothing. -/
theorem Resting.events (h : Resting s) : (Machine.reviewFills (conditionEvent s)).notices = s.notices := by
  rw [conditionEvent_refresh h.notShifting]
  generalize trueConditions s = l
  have hrest : Resting { s with interlock := { s.interlock with conditions := l } } := ⟨h.notShifting, h.offLine, h.fill⟩
  rw [hrest.reviewFills]
  rfl

theorem tanks_of_stands {K : List Part} (h : Stands K s t)
    (hK : ∀ n : Tank, .tank n ∉ K ∧ .level n ∉ K) : t.tanks = s.tanks := by
  have hm : t.tanks.main = s.tanks.main := h.tank .main (hK .main).1 (hK .main).2
  have hr : t.tanks.reserve = s.tanks.reserve := h.tank .reserve (hK .reserve).1 (hK .reserve).2
  generalize t.tanks = a at *
  cases a
  subst hm hr
  rfl

/-- The supply in IDLE, its ceiling reset, before the events. -/
def idleSet (s : State) : State :=
  clipDemand (removeAlarm .exhausted (setLimit 1000 (s.modSupply (supplyIn .idle none (floorOf s .idle)))))

theorem setSupply_idle_eq (s : State) : setSupply .idle none s = reviewFills (conditionEvent (idleSet s)) := rfl

theorem stands_idleSet (s : State) :
    Stands [.supply, .alarm, .demand] (s.modSupply (supplyIn .idle none (floorOf s .idle))) (idleSet s) := by
  have hlimit := moves_setLimit (K := [.supply, .alarm, .demand]) (b := true) (l := 1000)
    (x := s.modSupply (supplyIn .idle none (floorOf s .idle))) (by decide) (.refl ..)
  have hcalm := hlimit.trans (moves_removeAlarm (c := .exhausted) (by decide) (.refl ..))
  exact (hcalm.trans (.clip true (by decide) (.refl ..))).stands

theorem Resting.idleSet (h : Resting s) : Resting (idleSet s) ∧ (Machine.idleSet s).notices = s.notices := by
  have hst := stands_idleSet s
  have hstate := setSupply_state .idle none s
  rw [setSupply_idle_eq, (moves_reviewFills (K := .event :: fillsParts) (b := true) (by decide)
    (moves_conditionEvent (by decide) (.refl ..))).stands.supply (by decide)] at hstate
  generalize Machine.idleSet s = z at *
  have hdrive : z.drive = s.drive := hst.drive (by decide) (by decide)
  have htanks : z.tanks = s.tanks := (tanks_of_stands (K := [.supply, .alarm, .demand]) hst (by simp) :)
  exact ⟨h.of_eq hdrive (by rw [OffLine, hstate]; exact ⟨by simp, by simp⟩) htanks, (hst.notices (by decide) (by decide)).1⟩

/-- IDLE entered at rest records nothing. -/
theorem Resting.setSupply_idle (h : Resting s) : (setSupply .idle none s).notices = s.notices := by
  rw [setSupply_idle_eq, h.idleSet.1.events]
  exact h.idleSet.2

/-- The exit of a prime with the PTO (R99, R114). -/
theorem supplyLeaveEngaged_primes (h : Resting s) (hst : s.supply.state = .draftPriming) :
    let u := supplyLeaveEngaged s
    u.notices = (recordPrimeFailed (exitPrimeCause s) s.supply.phase s).notices ∧
    u.supply.phase = none ∧ u.supply.prime = none ∧ u.supply.primerLimit = none ∧
    u.outputs = { s.outputs with primer := ⟨false, none⟩ } := by
  let x := recordPrimeFailed (exitPrimeCause s) s.supply.phase s
  have hx : Resting x := h.record ..
  have hout : x.outputs = s.outputs := (stands_record_notices ..).outputs (by decide)
  obtain ⟨v, hv⟩ := hx.closeTankValves
  have hy : Resting (setPrimer false (closeTankValves x)) := by rw [hv]; exact hx.of_eq rfl hx.offLine rfl
  obtain ⟨q, a, l, hsel, hq⟩ := hy.selectTank .main
  let z := (selectTank .main (setPrimer false (closeTankValves x))).modSupply fun r =>
    { r with attempts := 0, lastReason := none, switchHeld := false, primeHeld := false }
  have hact : supplyLeaveEngaged s = setSupply .idle none z := by
    unfold supplyLeaveEngaged
    rw [if_pos hst]
  have hz : Resting z := by
    refine hy.of_eq (by simp only [z, hsel]; rfl) ?_ (by simp only [z, hsel]; rfl)
    simp only [z, hsel]
    show OffLine q.state
    rw [hq]
    exact hy.offLine
  have hsup := setSupply_supply .idle none z
  rw [if_neg (by decide)] at hsup
  have hmoves := (moves_setSupply_idle (K := .leave :: handParts) (b := true) (x := z) (g := id) (by decide) (by decide) (.refl ..)).stands
  dsimp only
  rw [hact]
  refine ⟨?_, by rw [hsup]; rfl, by rw [hsup]; rfl, by rw [hsup]; rfl, ?_⟩
  · have hnotices : z.notices = x.notices := (congrArg State.notices hsel).trans (by rw [hv]; rfl)
    exact hz.setSupply_idle.trans hnotices
  · have houtputs : z.outputs = { x.outputs with primer := ⟨false, none⟩ } := (congrArg State.outputs hsel).trans (by rw [hv]; rfl)
    refine (hmoves.outputs (by decide)).trans ?_
    rw [← hout]
    exact houtputs

/-! ### The requests and the timers -/

theorem act_setSupply_tank (h : s.supply.state = .draftPriming) :
    act (.setSupply 0) s = supplyTaken (abandonPrime .operator s) := by
  show supplyToTank s = _
  unfold supplyToTank
  rw [h]

theorem takeIdle_aborts (h : .priming ∈ s.governor.overrides) (hst : s.supply.state = .draftPriming) :
    takeIdle s = abandonPrime .operatorIdle (derivePair (writeShadow .idle s)) := if_pos ⟨h, hst⟩

/-- IDLE in a priming, carried out. -/
def idleAborts (s : State) : State := abandonPrime .operatorIdle (derivePair (writeShadow .idle s))

theorem blind_idleAborts : Blind idleAborts :=
  (blind_abandonPrime .operatorIdle).comp (blind_derivePair.comp (blind_write _ fun _ _ _ => ⟨rfl, rfl, rfl⟩))

theorem exec_idle_aborts {tag : Byte} (hs : Ready s) (h : .priming ∈ s.governor.overrides)
    (hst : s.supply.state = .draftPriming) :
    exec (.idle tag) s = .next (finish ((idleAborts s.fresh).answered 25 tag .ok (setpointBytes (idleAborts s.fresh)))) := by
  refine exec_blind (r := .idle) (body := setpointBytes) rfl rfl rfl hs blind_idleAborts (fun _ _ => rfl) ?_
  show actIdle _ = _
  unfold actIdle
  rw [takeIdle_aborts (by exact h) (by exact hst)]
  rfl

/-- SET_SUPPLY TANK in a priming. -/
theorem exec_supplyTank_aborts {tag : Byte} (hs : Ready s) (hst : s.supply.state = .draftPriming) :
    exec (.setSupply tag 0) s = .next (finish ((abandonPrime .operator s.fresh).answered 26 tag .ok
      [BitVec.ofNat 8 (abandonPrime .operator s.fresh).supply.state.ctorIdx,
        BitVec.ofNat 8 (32 + (abandonPrime .operator s.fresh).supply.selected.ctorIdx)])) :=
  exec_supplyTaken (r := .setSupply 0) rfl rfl rfl hs (blind_abandonPrime .operator) (act_setSupply_tank (by exact hst))

theorem expirePrimerLimit_abandons (h : s.supply.primerLimit.isSome = true) : expirePrimerLimit s = abandonPrime .timeout s := by
  unfold expirePrimerLimit
  rw [ite_isNone, if_pos h]

/-- Settles O40. -/
theorem primeTimersEndThePriming : Obligations.PrimeTimersEndThePriming := by
  refine ⟨fun s hp ht hh => ?_, fun s hp ht hh => ?_, fun s tag hs hst => ?_, fun s t hst hph hv => ?_,
    fun s hs hst hfill => ?_, fun s c hp h => ?_⟩
  · obtain ⟨hfeed, h₁, h₂, h₃, h₄, h₅, h₆, h₇, h₈, h₉⟩ := draft_entered (s := s.fresh) hh
    have hact := expirePrime_eq (s := s.fresh) ht
    generalize setSupply .draft none (endPriming (setPrimer false s.fresh)) = x at *
    have hframe := record_eq_with .primeDone
      { value := some (((s.fresh.supply.primerLimit.map (·.elapsed)).getD 0 / 1000 : Nat) : Int) } x
    refine ⟨_, exec_leaves hp rfl hact, ?_⟩
    rw [hframe]
    refine ⟨h₁, h₂, h₃, h₄, h₅, h₆, ?_, h₈, h₉, hfeed.valve .main, hfeed.valve .reserve, h₇, x, hframe.symm, hfeed.disabled, hfeed.clock⟩
    show x.outputs.primer = _
    rw [h₇]
  · have hu := abandonPrime_unprimed .timeout s.fresh
    exact ⟨_, exec_leaves hp rfl (expirePrimerLimit_abandons (s := s.fresh) ht), hu.bound, hu.prime, hu.primerLimit,
      hu.primeHeld, hu.outputs, hu.override hh, hu.shadow, abandonPrime_abandoned .timeout s.fresh s.fresh.governor⟩
  · refine ⟨_, idleAborts s.fresh, exec_supplyTank_aborts hs hst, abandonPrime_abandoned .operator s.fresh s.fresh.governor,
      fun h => ⟨exec_idle_aborts hs h hst, ?_⟩⟩
    exact abandonPrime_abandoned .operatorIdle s.fresh (derivePair (writeShadow .idle s.fresh)).governor
  · have hstuck : stuckOpen s.valves.mainValve = true ∨ stuckOpen s.valves.reserveValve = true := by
      obtain ⟨v, rfl | rfl, hf, hc⟩ := hv
      · exact .inl (by simp [stuckOpen, show s.valves.mainValve.state = .fault from hf, show s.valves.mainValve.fault = some .stuckOpen from hc])
      · exact .inr (by simp [stuckOpen, show s.valves.reserveValve.state = .fault from hf, show s.valves.reserveValve.fault = some .stuckOpen from hc])
    have hact : supplyOnValve t s = abandonPrime .valve s := by
      unfold supplyOnValve
      rw [hst]
      exact (if_pos hph).trans (if_pos (by simpa using hstuck))
    rw [hact]
    exact abandonPrime_abandoned .valve s s.governor
  · have hrest : Resting s := ⟨hs, by rw [OffLine, hst]; exact ⟨by simp, by simp⟩, fun n => by
      obtain h | h | h := hfill n <;> simp [NotFilling, h]⟩
    obtain ⟨hn, hph, hpr, hpl, ho⟩ := supplyLeaveEngaged_primes hrest hst
    have hat := supplyLeaveEngaged_atRest s
    exact ⟨hn, hat.state, hph, hpr, hpl, hat.primeHeld, ho, hat.mainValve, hat.reserveValve⟩
  · obtain ⟨rfl, ht⟩ | ⟨rfl, ht⟩ := h
    · exact exec_leaves hp rfl (if_pos (Option.isNone_iff_eq_none.2 ht))
    · exact exec_leaves hp rfl (if_pos (Option.isNone_iff_eq_none.2 ht))

end Sys2Proof.Machine
end

section
/-! PROOFS. The hydrant judged (R108 to R110), and O39 from its parts. -/

namespace Sys2Proof.Machine

variable {s t x y u : State} {w : Window} {r : AttemptReason}

/-! ### The window and the floor -/

theorem attemptFailure_sensor (h : w.failed = true ∨ w.count = 0) : attemptFailure s w = some .sensor := if_pos h

theorem attemptFailure_range (hf : w.failed = false) (hc : w.count ≠ 0) (h : w.least < 100 ∨ 1200 < w.greatest) :
    attemptFailure s w = some .range := by
  unfold attemptFailure
  rw [if_neg (by simp [hf, hc]), if_pos h]

theorem attemptFailure_unsteady (hf : w.failed = false) (hc : w.count ≠ 0) (hl : 100 ≤ w.least) (hg : w.greatest ≤ 1200)
    (h : 20 < w.greatest - w.least) : attemptFailure s w = some .unsteady := by
  unfold attemptFailure
  rw [if_neg (by simp [hf, hc]), if_neg (by omega), if_pos h]

theorem attemptFailure_steady (hf : w.failed = false) (hc : w.count ≠ 0) (hl : 100 ≤ w.least) (hg : w.greatest ≤ 1200)
    (h : w.greatest - w.least ≤ 20) : attemptFailure s w =
      if w.sum.tdiv w.count < qualifiedFloor s (w.sum.tdiv w.count) + 20 then some .weak else none := by
  unfold attemptFailure windowMean
  rw [if_neg (by simp [hf, hc]), if_neg (by omega), if_neg (by omega)]

theorem autoFloor_iff (s : State) : autoFloor s = true ↔ s.param 39 = 1 := beq_iff_eq

theorem qualifiedFloor_fixed (h : s.param 39 ≠ 1) (ps : Int) : qualifiedFloor s ps = s.param 38 :=
  if_neg (mt (autoFloor_iff s).1 h)

theorem qualifiedFloor_auto (h : s.param 39 = 1) (ps : Int) :
    qualifiedFloor s ps = max (s.param 38) (ps - (ps * s.param 40).tdiv 100) / 5 * 5 := if_pos ((autoFloor_iff s).2 h)

theorem stepDown_spec (a : Int) : a / 5 * 5 % 5 = 0 ∧ a / 5 * 5 ≤ a ∧ a < a / 5 * 5 + 5 := by omega

/-! ### The expiry of the attempt timer -/

theorem expireAttempt_qualifies (h : s.supply.attempt.isSome = true) (hw : attemptFailure s s.supply.window = none) :
    expireAttempt s = qualifyHydrant (windowMean s.supply.window) s := by
  unfold expireAttempt
  rw [ite_isNone, if_pos h, hw]

theorem expireAttempt_fails (h : s.supply.attempt.isSome = true) (hw : attemptFailure s s.supply.window = some r) :
    expireAttempt s = failAttempt r s := by
  unfold expireAttempt
  rw [ite_isNone, if_pos h, hw]

/-- A failure before the seventh. -/
theorem failAttempt_again (r : AttemptReason) (h : s.supply.attempts + 1 < 7) : failAttempt r s =
    { s with supply := { s.supply with
      attempts := s.supply.attempts + 1, lastReason := some r, attempt := some ⟨2000, 0⟩, window := ⟨0, 0, 0, 0, false⟩ } } := by
  have hmin : min (s.supply.attempts + 1) 7 = s.supply.attempts + 1 := Nat.min_eq_left (Nat.le_of_lt h)
  unfold failAttempt
  dsimp only [State.modSupply]
  rw [hmin, if_pos h]
  rfl

/-- The seventh failure, the attempt over. -/
def seventhFailed (r : AttemptReason) (s : State) : State :=
  record .supplyRejected { value := some 7, cause := some (.attempt r) }
    { s with supply := { s.supply with attempts := 7, lastReason := some r, attempt := none } }

theorem failAttempt_seventh (r : AttemptReason) (h : 6 ≤ s.supply.attempts) :
    failAttempt r s = returnToTank (seventhFailed r s) := by
  have hmin : min (s.supply.attempts + 1) 7 = 7 := Nat.min_eq_right (by omega)
  unfold failAttempt
  dsimp only [State.modSupply]
  rw [hmin, if_neg (Nat.lt_irrefl 7)]
  rfl

theorem seventhFailed_supply (r : AttemptReason) (s : State) :
    (seventhFailed r s).supply = { s.supply with attempts := 7, lastReason := some r, attempt := none } := record_supply ..

theorem sameSupply_seventhFailed (r : AttemptReason) (s : State) : SameSupply s (seventhFailed r s) := by
  have hsup := seventhFailed_supply r s
  have hfeed : SameFeed s (seventhFailed r s) :=
    SameFeed.trans (x := { s with supply := { s.supply with attempts := 7, lastReason := some r, attempt := none } })
      ⟨⟨fun _ => rfl, rfl, rfl, rfl, rfl⟩, fun _ => rfl⟩ (sameFeed_record ..)
  exact ⟨hfeed, (congrArg Supply.selected hsup :), (congrArg Supply.state hsup :), (congrArg Supply.switchFrom hsup :)⟩

/-- What a rejected hydrant leaves of the supply record. -/
theorem kept_seventhFailed (r : AttemptReason) (s : State) :
    (returnToTank (seventhFailed r s)).supply.attempts = 7 ∧
    (returnToTank (seventhFailed r s)).supply.lastReason = some r ∧
    (returnToTank (seventhFailed r s)).supply.attempt = none := by
  have hkept : Kept (seventhFailed r s).supply (returnToTank (seventhFailed r s)).supply :=
    (feedKeeps_kept _).returnToTank (.refl _)
  rw [seventhFailed_supply] at hkept
  exact ⟨hkept.attempts, hkept.lastReason, hkept.attempt rfl⟩

/-- A hydrant made the supply, before its notice. -/
def hydrantTaken (ps : Int) (s : State) : State :=
  setSupply .hydrant none (closeTankValves
    (s.modSupply fun x => { x with attempt := none, hydrant := some ps, floor := qualifiedFloor s ps }))

theorem qualifyHydrant_eq (ps : Int) (s : State) : qualifyHydrant ps s =
    record .supplyQualified
      { value := some ps, second := some (qualifiedFloor s ps)
        cause := some (.floor (if autoFloor s then .autoFloor else .fixedFloor)) } (hydrantTaken ps s) := rfl

theorem hydrantTaken_supply (ps : Int) (s : State) : (hydrantTaken ps s).supply =
    supplyIn .hydrant none (qualifiedFloor s ps)
      { s.supply with attempt := none, hydrant := some ps, floor := qualifiedFloor s ps } := by
  unfold hydrantTaken
  rw [setSupply_supply, if_pos (by decide), floorOf, closeTankValves_supply]
  rfl

/-- The valves closed, the rig and the setpoints untouched. -/
theorem hydrantTaken_spec (ps : Int) (s : State) :
    SameRig s (hydrantTaken ps s) ∧ (hydrantTaken ps s).valves.mainValve.openCmd = false ∧
    (hydrantTaken ps s).valves.reserveValve.openCmd = false ∧
    (hydrantTaken ps s).governor.shadow = s.governor.shadow ∧ (hydrantTaken ps s).governor.active = s.governor.active := by
  unfold hydrantTaken
  generalize hx : (s.modSupply fun x => { x with attempt := none, hydrant := some ps, floor := qualifiedFloor s ps }) = x
  have hbegin : SameRig s x := hx ▸ ⟨fun _ => rfl, rfl, rfl, rfl, rfl⟩
  have hgov : x.governor = s.governor := hx ▸ rfl
  have hclose : Moves feedParts true x (closeTankValves x) := moves_closeTankValves (List.Subset.refl _) (.refl ..)
  obtain ⟨hmain, hreserve⟩ := closeTankValves_openCmd x
  generalize closeTankValves x = y at *
  have hhand : Moves handParts true (y.modSupply (supplyIn .hydrant none (floorOf y .hydrant))) (setSupply .hydrant none y) := by
    rw [setSupply_eq]
    exact moves_handSupply (List.Subset.refl _) (by simp) (.refl ..) (.refl ..)
  have hpair := (hhand.stands.pair (by decide)).trans rfl
  have hpair' := hclose.stands.pair (by decide)
  refine ⟨hbegin.trans ((hclose.sameRig (by decide)).trans (sameFeed_setSupply ..).toSameRig), ?_, ?_, ?_, ?_⟩
  · rw [show (setSupply .hydrant none y).valves.mainValve = _ from (sameFeed_setSupply ..).valve .main]
    exact hmain
  · rw [show (setSupply .hydrant none y).valves.reserveValve = _ from (sameFeed_setSupply ..).valve .reserve]
    exact hreserve
  · rw [hpair, ← hgov]
    exact (congrArg Governor.shadow hpair' :)
  · rw [hpair, ← hgov]
    exact (congrArg Governor.active hpair' :)

/-- Settles O39. -/
theorem attemptExpiryJudgesTheHydrant : Obligations.AttemptExpiryJudgesTheHydrant := by
  refine ⟨fun s w => ⟨attemptFailure_sensor, attemptFailure_range, attemptFailure_unsteady, attemptFailure_steady⟩,
    fun s ps _ => ⟨fun h => qualifiedFloor_fixed h ps, fun h => ?_⟩, fun s hp ha hw hst => ?_, fun s r hp ha hw hn => ?_,
    fun s r hp ha hw hn => ?_, fun s hp ha => ?_⟩
  · rw [qualifiedFloor_auto h]
    exact stepDown_spec _
  · have hact := (expireAttempt_qualifies (s := s.fresh) ha hw).trans (qualifyHydrant_eq ..)
    have hsup := hydrantTaken_supply (windowMean s.supply.window) s.fresh
    obtain ⟨hrig, hmain, hreserve, hshadow, hactive⟩ := hydrantTaken_spec (windowMean s.supply.window) s.fresh
    rw [show s.fresh.supply = s.supply from rfl] at hact
    generalize hydrantTaken (windowMean s.supply.window) s.fresh = x at *
    refine ⟨_, exec_leaves hp rfl hact, ?_⟩
    have hcause : (if autoFloor s then FloorCause.autoFloor else .fixedFloor) = if s.param 39 = 1 then .autoFloor else .fixedFloor :=
      if_congr (autoFloor_iff s) rfl rfl
    rw [record_supply, record_governor, hsup]
    refine ⟨rfl, rfl, rfl, rfl, rfl, ?_, ?_, hshadow, hactive, x, ?_, hrig.disabled, hrig.clock⟩
    · rw [record_eq_with]
      exact hmain
    · rw [record_eq_with]
      exact hreserve
    · rw [← hcause]
      rfl
  · exact exec_leaves hp rfl ((expireAttempt_fails (s := s.fresh) ha hw).trans (failAttempt_again r hn))
  · obtain ⟨h₁, h₂, h₃⟩ := kept_seventhFailed r s.fresh
    exact ⟨_, exec_leaves hp rfl ((expireAttempt_fails (s := s.fresh) ha hw).trans (failAttempt_seventh r hn)), h₁, h₂, h₃,
      returnToTank_bound _, (returnToTank_returned (sameSupply_seventhFailed r s.fresh) : TankFeedReturned s.fresh _), rfl⟩
  · exact exec_leaves hp rfl (if_pos (Option.isNone_iff_eq_none.2 ha))

end Sys2Proof.Machine
end

section
/-! PROOFS. A switch entered, the fills it suspends, and a fill that is due to open its valve together with it (R119, R139,
R145, log entry 41). -/

namespace Sys2Proof.Machine

variable {s t x y u v : State} {n m : Tank} {st : SupplyState} {switch : State → State}

/-! ### A switch begun, as a relation of its two states -/

theorem Exhausted.closed {old : SupplyState} {c : ExhaustCause} (h : Exhausted n old c s u) (m : Tank) :
    (u.valve (tankValve m)).openCmd = false := by
  obtain ⟨-, -, -, -, -, hmain, hreserve, -⟩ := h
  cases m
  · exact hmain
  · exact hreserve

theorem SwitchBegun.selected (h : SwitchBegun n s u) : u.supply.selected = n := by
  unfold SwitchBegun at h
  dsimp only at h
  split at h
  · exact h.2.1
  split at h
  · exact h.2.1
  split at h <;> exact h.2.1

theorem SwitchBegun.bound (h : SwitchBegun n s u) : u.supply.state = .switching ∨ u.supply.state = .noSupply := by
  unfold SwitchBegun at h
  dsimp only at h
  split at h
  · exact .inr h.1
  split at h
  · exact .inl h.1
  split at h
  · exact .inr h.1
  · exact .inl h.1

theorem SwitchBegun.otherClosed (h : SwitchBegun n s u) : (u.valve (tankValve (otherTank n))).openCmd = false := by
  unfold SwitchBegun at h
  dsimp only at h
  split at h
  · exact Exhausted.closed h _
  split at h
  · obtain ⟨-, -, -, -, -, -, hv⟩ := h
    rw [hv, closedValve_openCmd]
  split at h
  · exact Exhausted.closed h _
  · obtain ⟨-, -, -, -, hv, -⟩ := h
    rw [hv, closedValve_openCmd]

/-- The target's command is decided by the state the switch began in. -/
theorem SwitchBegun.openCmd_eq (h : SwitchBegun n s u) (g : SwitchBegun n s v) :
    (u.valve (tankValve n)).openCmd = (v.valve (tankValve n)).openCmd := by
  unfold SwitchBegun at h g
  dsimp only at h g
  split at h
  · next hc =>
    rw [if_pos hc] at g
    rw [Exhausted.closed h, Exhausted.closed g]
  next hc =>
  rw [if_neg hc] at g
  split at h
  · next hw =>
    rw [if_pos hw] at g
    obtain ⟨-, -, -, -, -, hv, -⟩ := h
    obtain ⟨-, -, -, -, -, gv, -⟩ := g
    rw [hv, gv]
  next hw =>
  rw [if_neg hw] at g
  split at h
  · next ha =>
    rw [if_pos ha] at g
    rw [Exhausted.closed h, Exhausted.closed g]
  · next ha =>
    rw [if_neg ha] at g
    obtain ⟨-, -, -, hv, -⟩ := h
    obtain ⟨-, -, -, gv, -⟩ := g
    rw [hv, gv]

/-- With no valve in FAULT a switch begun is under way. -/
theorem SwitchBegun.goes (h : SwitchBegun n s u) (ha : (s.valve (tankValve n)).state ≠ .fault)
    (hb : (s.valve (tankValve (otherTank n))).state ≠ .fault) :
    u.supply.state = .switching ∧ u.supply.switchFrom = switchedFrom s.supply := by
  unfold SwitchBegun at h
  dsimp only at h
  rw [if_neg fun hc => hb hc.1] at h
  split at h
  · obtain ⟨hst, -, -, -, hfrom, -⟩ := h
    exact ⟨hst, hfrom⟩
  · rw [if_neg fun hc => ha hc.1] at h
    obtain ⟨hst, -, hfrom, -⟩ := h
    exact ⟨hst, hfrom⟩

/-! ### SWITCHING entered -/

theorem emptyTankDecision_after (h : SameFeed s x) (hfrom : switchedFrom x.supply = switchedFrom s.supply) :
    if x.supply.selected = .main ∧ s.param 44 = 1 ∧ s.tanks.reserve.state ≠ .empty then
      SwitchBegun .reserve s (emptyTankDecision x) ∧
        ((emptyTankDecision x).supply.state = .switching → (emptyTankDecision x).supply.switchHeld = true)
    else Exhausted x.supply.selected x.supply.state .tankEmpty s (emptyTankDecision x) := by
  have hallowed : ReserveAllowed x ↔ x.supply.selected = .main ∧ s.param 44 = 1 ∧ s.tanks.reserve.state ≠ .empty := by
    unfold ReserveAllowed
    rw [h.param, show x.tanks.reserve.state = s.tanks.reserve.state from h.level .reserve]
  split
  · next hc => exact emptyTankDecision_reserve h hfrom (hallowed.2 hc)
  · next hc =>
    rw [emptyTankDecision_refused (mt hallowed.1 hc)]
    exact enterNoSupply_exhausted .tankEmpty h.toSameRig

theorem enterSwitching_empty (h : (s.tank s.supply.selected).state = .empty) :
    enterSwitching s = emptyTankDecision (markSwitching s) := if_pos ((selectedEmpty_iff s).2 h)

/-- SWITCHING entered (R102, R119), as a relation of the two states. -/
theorem enterSwitching_after (h : SameFeed s x) (hfrom : switchedFrom x.supply = switchedFrom s.supply) :
    if (s.tank x.supply.selected).state = .empty then
      if x.supply.selected = .main ∧ s.param 44 = 1 ∧ s.tanks.reserve.state ≠ .empty then
        SwitchBegun .reserve s (enterSwitching x) ∧
          ((enterSwitching x).supply.state = .switching → (enterSwitching x).supply.switchHeld = true)
      else Exhausted x.supply.selected .switching .tankEmpty s (enterSwitching x)
    else SwitchBegun x.supply.selected s (enterSwitching x) := by
  have hlevel : (x.tank x.supply.selected).state = (s.tank x.supply.selected).state := h.level _
  split
  · next he =>
    have hmark := emptyTankDecision_after (h.trans (sameFeed_markSwitching x)) (by rw [markSwitching_supply]; exact hfrom)
    rw [markSwitching_supply] at hmark
    rw [enterSwitching_empty (hlevel.trans he)]
    exact hmark
  · next he =>
    rw [enterSwitching_full (by rwa [hlevel])]
    exact beginSwitch_begun h hfrom

theorem enterSwitching_state (s : State) :
    (enterSwitching s).supply.state = .switching ∨ (enterSwitching s).supply.state = .noSupply := by
  by_cases he : (s.tank s.supply.selected).state = .empty
  · rw [enterSwitching_empty he]
    by_cases h : ReserveAllowed (markSwitching s)
    · rw [emptyTankDecision_allowed h]
      exact beginSwitch_state _
    · rw [emptyTankDecision_refused h]
      exact .inr (enterNoSupply_state ..)
  · rw [enterSwitching_full he]
    exact beginSwitch_state s

theorem FeedKeeps.entersSwitching {P : State → Prop} (h : FeedKeeps P) (hs : P (Machine.markSwitching s)) :
    P (Machine.enterSwitching s) := by
  unfold Machine.enterSwitching
  split
  · exact h.emptyTankDecision hs
  · exact h.switchGoes hs

/-- What a switch under way has of the record it began with. -/
theorem enterSwitching_goes (h : (enterSwitching s).supply.state = .switching) :
    (enterSwitching s).supply.floor = s.param 36 ∧ (enterSwitching s).supply.limit = s.supply.limit := by
  by_cases he : (s.tank s.supply.selected).state = .empty
  · rw [enterSwitching_empty he] at h ⊢
    by_cases ha : ReserveAllowed (markSwitching s)
    · rw [emptyTankDecision_allowed ha] at h ⊢
      obtain ⟨ph, k, b, e⟩ := beginSwitch_supply (reserveTaken (markSwitching s)) (by rw [reserveTaken, h]; decide)
      have hparam : (reserveTaken (markSwitching s)).param 36 = s.param 36 :=
        ((sameFeed_markSwitching s).trans (sameFeed_reserveTaken _)).param 36
      rw [reserveTaken_supply, markSwitching_supply, hparam] at e
      unfold reserveTaken at e
      rw [e]
      exact ⟨rfl, rfl⟩
    · rw [emptyTankDecision_refused ha, enterNoSupply_state] at h
      exact absurd h (by decide)
  · rw [enterSwitching_full he] at h ⊢
    obtain ⟨ph, k, b, e⟩ := beginSwitch_supply s (by rw [h]; decide)
    rw [e]
    exact ⟨rfl, rfl⟩

theorem markSwitching_overrides (s : State) : (markSwitching s).governor.overrides = s.governor.overrides := by
  unfold markSwitching
  rw [setSupply_eq]
  exact (moves_handSupply (K := handParts) (b := true) (List.Subset.refl _) (by simp) (.refl ..) (.refl ..)).overrides (by decide)

/-- A switch that turns to no other tank holds the overrides as they were. -/
theorem beginSwitch_overrides (h : (beginSwitch s).supply.state = .switching) :
    (beginSwitch s).supply.switchHeld = s.supply.switchHeld ∧ (beginSwitch s).governor.overrides = s.governor.overrides := by
  have hno : (beginSwitch s).supply.state ≠ .noSupply := by rw [h]; decide
  obtain ⟨ph, k, b, e⟩ := beginSwitch_supply s hno
  refine ⟨by rw [e]; rfl, ?_⟩
  rw [(beginSwitch_goes s hno).governor, markSwitching_overrides]

/-! ### The fills a switch suspends -/

/-- A fill under way. -/
def Running (r : TankRecord) : Prop := r.stage = .bulk ∨ r.stage = .topoff ∨ r.stage = .fullHold

theorem suspendFill_held (h : OffLine s.supply.state) (n : Tank) : FillHeld n (suspendFill n s) := by
  let y := s.modTank n fun r => { r with stage := .suspended, suspendedFrom := some (s.tank n).stage, phase := none, cycle := none }
  have hact : commandFill n false y = carryOut (fillValve n) false (y.modTank n fun r => { r with fillOpen := false }) :=
    if_neg (by simp)
  have hheld : FillHeld n (commandFill n false y) := by
    rw [hact, carryOut_closes]
    refine ⟨h, ?_, ?_, ?_⟩
    · cases n <;> rfl
    · cases n <;> rfl
    · rw [valve_setValve]
      unfold closedRecord
      split <;> rfl
  have hrecord : suspendFill n s = recordStage n (s.tank n).stage .permissionLost (commandFill n false y) := rfl
  rw [hrecord]
  unfold recordStage
  rw [record_eq_with]
  exact hheld.of_eq rfl rfl rfl

theorem reviewFill_running (h : OffLine s.supply.state) (hr : Running (s.tank n)) : FillHeld n (reviewFill n s) := by
  have hlost : (if fillPermission s n = true then s else suspendFill n s) = suspendFill n s :=
    if_neg (by simp [fillPermission_offLine h])
  have hstop : reviewFill n s = suspendFill n s := by
    rw [reviewFill_eq]
    obtain hst | hst | hst := hr <;> rw [hst] <;> exact hlost
  rw [hstop]
  exact suspendFill_held h n

/-- A fill that runs or is held off the line. -/
def FillStops (n : Tank) (s : State) : Prop := (OffLine s.supply.state ∧ Running (s.tank n)) ∨ FillHeld n s

theorem reviewFill_fillStops (m : Tank) (h : FillStops n s) : FillStops n (reviewFill m s) := by
  obtain rfl | hm := eq_or_ne m n
  · obtain ⟨hoff, hr⟩ | hheld := h
    · exact .inr (reviewFill_running hoff hr)
    · exact .inr ((feedKeeps_fillHeld m).fill m hheld)
  · obtain ⟨hoff, hr⟩ | hheld := h
    · have hst := (moves_fill_self m s).1.stands
      have htank : (reviewFill m s).tank n = s.tank n :=
        hst.tank n (by revert hm; cases m <;> cases n <;> decide) (by revert hm; cases m <;> cases n <;> decide)
      refine .inl ⟨?_, ?_⟩
      · rw [hst.supply (by simp [fillParts])]
        exact hoff
      · rw [htank]
        exact hr
    · exact .inr ((feedKeeps_fillHeld n).fill m hheld)

theorem reviewFills_held (h : FillStops n s) : FillHeld n (reviewFills s) := by
  have hmem : ∀ f ∈ [reviewFill .main, reviewFill .reserve], ∃ m, f = reviewFill m := fun f hf => by
    simp only [List.mem_cons, List.not_mem_nil, or_false] at hf
    obtain rfl | rfl := hf
    exacts [⟨.main, rfl⟩, ⟨.reserve, rfl⟩]
  refine runInOrder_reaches (P := FillStops n) (Q := FillHeld n)
    (fun _ _ h => h.imp id fun hheld => hheld.of_eq rfl rfl rfl) (reviewFill n) _ (by cases n <;> simp)
    (fun f hf y hy => ?_) (fun f hf y hy => ?_) (fun y hy => ?_) s h
  · obtain ⟨m, rfl⟩ := hmem f hf
    exact reviewFill_fillStops m hy
  · obtain ⟨m, rfl⟩ := hmem f hf
    exact (feedKeeps_fillHeld n).fill m hy
  · obtain ⟨hoff, hr⟩ | hheld := hy
    · exact reviewFill_running hoff hr
    · exact (feedKeeps_fillHeld n).fill n hheld

/-- A supply state handed on, up to the review of the fills. -/
def handedOn (st : SupplyState) (t : State) : State :=
  let t := if limiterRuns st then t else setLimit 1000 t
  let t := if st = .noSupply then t else removeAlarm .exhausted t
  let t := if st = .draftPriming then t.modThermal fun x => { x with dry := none } else t
  conditionEvent (clipDemand t)

theorem handSupply_eq (st : SupplyState) (t : State) : handSupply st t = reviewFills (handedOn st t) := rfl

/-- What it touches. -/
def handedParts : List Part := [.supply, .demand, .alarm, .event, .thermal]

theorem moves_handedOn (st : SupplyState) (t : State) : Moves handedParts true t (handedOn st t) := by
  refine moves_conditionEvent (by decide) (.clip true (by decide) ?_)
  have hlimit : Moves handedParts false t (if limiterRuns st then t else setLimit 1000 t) := by
    split
    · exact .refl ..
    · exact moves_setLimit (by decide) (.refl ..)
  have halarm : Moves handedParts false t (if st = .noSupply then if limiterRuns st then t else setLimit 1000 t
      else removeAlarm .exhausted (if limiterRuns st then t else setLimit 1000 t)) := by
    split
    · exact hlimit
    · exact moves_removeAlarm (by decide) hlimit
  split
  · exact halarm.trans (.thermal false (by decide) _ _ (by simp))
  · exact halarm

/-- A state off the line entered suspends the fills under way. -/
theorem setSupply_suspends (hst : OffLine st) (ph : Option Phase) (hr : Running (s.tank n)) : FillHeld n (setSupply st ph s) := by
  have hstate := setSupply_state st ph s
  have hmoves := (moves_handedOn st (s.modSupply (supplyIn st ph (floorOf s st)))).stands
  rw [setSupply_eq, handSupply_eq] at hstate ⊢
  generalize handedOn st (s.modSupply (supplyIn st ph (floorOf s st))) = z at *
  have hz : z.supply = (reviewFills z).supply :=
    ((moves_reviewFills (K := fillsParts) (b := true) (List.Subset.refl _) (.refl _ _ z)).stands.supply (by decide)).symm
  refine reviewFills_held (.inl ⟨?_, ?_⟩)
  · rw [hz, hstate]
    exact hst
  · rw [hmoves.tank n (by cases n <;> decide) (by cases n <;> decide)]
    exact hr

theorem markSwitching_suspends (hr : Running (s.tank n)) : FillHeld n (markSwitching s) :=
  setSupply_suspends (s := s.modSupply _) (by simp [OffLine]) _ hr

/-! ### A switch and a fill due together -/

/-- The state a switch acts on: as it stands, or with a due cycle turned. -/
def DueTurned (s x : State) : Prop := x = s ∨ ∃ n, cycleDue s n = true ∧ x = turnCycle n s

theorem turnCycle_tank (n m : Tank) (s : State) : ((turnCycle n s).tank m).stage = (s.tank m).stage ∧
    ((turnCycle n s).tank m).state = (s.tank m).state := by cases n <;> cases m <;> exact ⟨rfl, rfl⟩

theorem DueTurned.sameSupply (h : DueTurned s x) : SameSupply s x := by
  obtain rfl | ⟨n, -, rfl⟩ := h
  · exact ⟨.refl _, rfl, rfl, rfl⟩
  · exact ⟨⟨⟨fun m => (turnCycle_tank n m s).2, rfl, rfl, rfl, rfl⟩, fun _ => rfl⟩, rfl, rfl, rfl⟩

theorem DueTurned.stage (h : DueTurned s x) (m : Tank) : (x.tank m).stage = (s.tank m).stage := by
  obtain rfl | ⟨n, -, rfl⟩ := h
  · rfl
  · exact (turnCycle_tank n m s).1

theorem DueTurned.running (h : DueTurned s x) (hr : Running (s.tank m)) : Running (x.tank m) := by
  rwa [Running, h.stage]

theorem DueTurned.eq_with (h : DueTurned s x) : x = { s with tanks := x.tanks } := by
  obtain rfl | ⟨n, -, rfl⟩ := h <;> rfl

theorem cycleDue_iff (s : State) (n : Tank) : cycleDue s n = true ↔ (s.tank n).stage = .topoff ∧
    (s.tank n).phase = some .closedPhase ∧ isDue (s.tank n).cycle = true ∧ fillPermission s n = true := by
  simp only [cycleDue, Bool.and_eq_true, beq_iff_eq, and_assoc]

theorem fillPermission_parts (h : fillPermission s n = true) (p : PermissionPart) (hp : p ∈ allPermissionParts) :
    permissionPart s n p = true := List.all_eq_true.1 h p hp

theorem fillPermission_closed (h : fillPermission s n = true) : (s.valve (tankValve n)).openCmd = false := by
  simpa [permissionPart] using fillPermission_parts h .tankValveNotOpen (by decide)

theorem fillPermission_onLine (h : fillPermission s n = true) : s.supply.state = .hydrant ∨ s.supply.state = .draft := by
  simpa [permissionPart] using fillPermission_parts h .supplyHydrantOrDraft (by decide)

theorem commandFill_blocked (h : (u.valve (tankValve n)).openCmd = true) : commandFill n true u =
    record .valveInterlock { subject := some (.valve (fillValve n)), cause := some (.blockedBy (tankValve n)) }
      (u.modTank n fun r => { r with fillOpen := false }) := if_pos ⟨rfl, h⟩

/-- What follows the other's command, once it is known which tank opens and whether its cycle is due. -/
def switchIn (n : Option Tank) (due : Tank → Bool) (switch : State → State) (s : State) : State :=
  match n with
  | some t => if due t then openTogether t (turnCycle t) switch (switch s) s else switch s
  | none => switch s

theorem switchWithCycle_eq (switch : State → State) (s : State) :
    switchWithCycle switch s = switchIn (openedTank s (switch s)) (cycleDue s) switch s := rfl

theorem openTogether_cases (n : Tank) (switch : State → State) (s : State) :
    openTogether n (turnCycle n) switch (switch s) s = switch s ∨
    ((switch (turnCycle n s)).valve (tankValve n)).openCmd = true ∧
      openTogether n (turnCycle n) switch (switch s) s = commandFill n true (switch (turnCycle n s)) := by
  unfold openTogether
  dsimp only
  split
  · next h => exact .inr ⟨h.2.2, rfl⟩
  · exact .inl rfl

/-- The Supply Unit's act alone, or the fill's command after it, not carried out. -/
theorem switchWithCycle_cases (switch : State → State) (s : State) : switchWithCycle switch s = switch s ∨
    ∃ n, cycleDue s n = true ∧ ((switch (turnCycle n s)).valve (tankValve n)).openCmd = true ∧
      switchWithCycle switch s = commandFill n true (switch (turnCycle n s)) := by
  rw [switchWithCycle_eq]
  cases openedTank s (switch s) with
  | none => exact .inl rfl
  | some n =>
    unfold switchIn
    dsimp only
    split
    · next hdue =>
      obtain h | ⟨hopen, h⟩ := openTogether_cases n switch s
      · exact .inl h
      · exact .inr ⟨n, hdue, hopen, h⟩
    · exact .inl rfl

/-- The state after it, beside that of the Supply Unit's act: a fill's command not carried out, and its notice. -/
structure Blocked (v u : State) : Prop where
  frame : u = { v with tanks := u.tanks, notices := u.notices, tx := u.tx }
  stage : ∀ m : Tank, (u.tank m).stage = (v.tank m).stage
  fillOpen : ∀ m : Tank, (v.tank m).fillOpen = false → (u.tank m).fillOpen = false
  alone : u = v ∨ ∃ m : Tank, (v.valve (tankValve m)).openCmd = true

theorem Blocked.refl (v : State) : Blocked v v := ⟨rfl, fun _ => rfl, fun _ => id, .inl rfl⟩

theorem commandFill_isBlocked (h : (v.valve (tankValve n)).openCmd = true) : Blocked v (commandFill n true v) := by
  rw [commandFill_blocked h, record_eq_with]
  refine ⟨rfl, fun m => ?_, fun m hm => ?_, .inr ⟨n, h⟩⟩
  · cases n <;> cases m <;> rfl
  · cases n <;> cases m
    case main.main | reserve.reserve => rfl
    all_goals exact hm

theorem switchWithCycle_blocked (switch : State → State) (s : State) :
    ∃ x, DueTurned s x ∧ Blocked (switch x) (switchWithCycle switch s) := by
  obtain h | ⟨n, hdue, hopen, h⟩ := switchWithCycle_cases switch s <;> rw [h]
  · exact ⟨s, .inl rfl, .refl _⟩
  · exact ⟨_, .inr ⟨n, hdue, rfl⟩, commandFill_isBlocked hopen⟩

theorem Blocked.valve (h : Blocked v u) (r : ValveRole) : u.valve r = v.valve r := by
  have hvalves : u.valves = v.valves := (congrArg State.valves h.frame :)
  unfold State.valve
  rw [hvalves]

theorem Blocked.supply (h : Blocked v u) : u.supply = v.supply := (congrArg State.supply h.frame :)

theorem Blocked.exhausted {old : SupplyState} {c : ExhaustCause} (h : Blocked v u) (hv : Exhausted n old c s v) :
    Exhausted n old c s u := by
  obtain rfl | ⟨m, hm⟩ := h.alone
  · exact hv
  · rw [Exhausted.closed hv] at hm
    exact absurd hm (by decide)

theorem Blocked.begun (h : Blocked v u) (hv : SwitchBegun n s v) : SwitchBegun n s u := by
  unfold SwitchBegun at hv ⊢
  dsimp only at hv ⊢
  rw [h.valve, h.valve, h.supply]
  split at hv
  · next hc => rw [if_pos hc]; exact h.exhausted hv
  next hc =>
  rw [if_neg hc]
  split at hv
  · next hw => rwa [if_pos hw]
  next hw =>
  rw [if_neg hw]
  split at hv
  · next ha => rw [if_pos ha]; exact h.exhausted hv
  · next ha => rwa [if_neg ha]

theorem Blocked.held (h : Blocked v u) (hv : FillHeld m v) : FillHeld m u :=
  ⟨by rw [h.supply]; exact hv.offLine, (h.stage m).trans hv.stage, h.fillOpen m hv.fillOpen, by rw [h.valve]; exact hv.valve⟩

/-- A switch whose target's fill is due: the fill stays suspended, and where the tank valve's command is taken first the
fill valve's is refused last of all. -/
theorem switchWithCycle_target (hdue : cycleDue s n = true)
    (hbegun : ∀ x, DueTurned s x → SwitchBegun n s (switch x)) (hheld : ∀ x, DueTurned s x → FillHeld n (switch x)) :
    SwitchBegun n s (switchWithCycle switch s) ∧ FillHeld n (switchWithCycle switch s) ∧
    (freeBit s = true → ((switchWithCycle switch s).valve (tankValve n)).openCmd = true → ∃ x : State,
      switchWithCycle switch s = record .valveInterlock
        { subject := some (.valve (fillValve n)), cause := some (.blockedBy (tankValve n)) } x) := by
  obtain ⟨x, hx, hblocked⟩ := switchWithCycle_blocked switch s
  refine ⟨hblocked.begun (hbegun x hx), hblocked.held (hheld x hx), fun hbit hopen => ?_⟩
  have hclosed := fillPermission_closed ((cycleDue_iff s n).1 hdue).2.2.2
  have hother := (hbegun s (.inl rfl)).otherClosed
  have hturned : ((switch s).valve (tankValve n)).openCmd = true := by
    rw [← (hblocked.begun (hbegun x hx)).openCmd_eq (hbegun s (.inl rfl))]
    exact hopen
  have htank : openedTank s (switch s) = some n := by
    unfold openedTank
    cases n
    · simp [hclosed, hturned]
    · simp [hclosed, hturned, show ((switch s).valve (tankValve .main)).openCmd = false from hother]
  have hboth : openTogether n (turnCycle n) switch (switch s) s = commandFill n true (switch (turnCycle n s)) := by
    refine if_pos ⟨hbit, hclosed, ?_⟩
    rw [(hbegun _ (.inr ⟨n, hdue, rfl⟩)).openCmd_eq (hbegun s (.inl rfl))]
    exact hturned
  have hact : switchWithCycle switch s = commandFill n true (switch (turnCycle n s)) := by
    rw [switchWithCycle_eq, htank]
    exact (if_pos hdue).trans hboth
  refine ⟨_, hact.trans (commandFill_blocked ?_)⟩
  rw [(hbegun _ (.inr ⟨n, hdue, rfl⟩)).openCmd_eq (hbegun s (.inl rfl))]
  exact hturned

/-- A switch with its due fill reads nothing of the line where the switch does not. -/
theorem blind_switchWithCycle (h : Blind switch) : Blind (switchWithCycle switch) := by
  have hvalve : ∀ {f : State → State}, Blind f → ∀ s T l, Faces T l s → ∀ r, (f (facing T l s)).valve r = (f s).valve r :=
    fun hf s T l hs r => by rw [(hf s T l hs).2]; rfl
  have hturn : ∀ n, Blind fun s => switch (turnCycle n s) := fun n => h.comp (blind_modTank n _)
  rw [show switchWithCycle switch = _ from funext (switchWithCycle_eq switch)]
  refine Blind.choose (v := fun s => (openedTank s (switch s), cycleDue s)) (f := fun a => switchIn a.1 a.2 switch)
    (fun s T l hs => ?_) fun a => ?_
  · have hopened : openedTank (facing T l s) (switch (facing T l s)) = openedTank s (switch s) := by
      unfold openedTank
      simp only [hvalve h s T l hs]
      rfl
    rw [hopened]
    rfl
  · obtain ⟨n, due⟩ := a
    cases n with
    | none => exact h
    | some n =>
      refine Blind.ite (p := fun _ => due n = true) (fun _ _ _ _ => .rfl) (Blind.ite (p := fun s => freeBit s = true ∧
        (s.valve (tankValve n)).openCmd = false ∧ ((switch (turnCycle n s)).valve (tankValve n)).openCmd = true)
        (fun s T l hs => ?_) ((blind_commandFill n true).comp (hturn n)) h) h
      rw [hvalve (hturn n) s T l hs]
      exact .rfl

end Sys2Proof.Machine
end

section
/-! PROOFS. A hydrant qualified, a prime begun, and RESERVE chosen (R104 to R107, R112). -/

namespace Sys2Proof.Machine

variable {s t x y u v : State} {n m : Tank}

/-! ### A qualification begun (R107) -/

theorem moves_setSupply_self {st : SupplyState} (hst : st ≠ .draftPriming) (ph : Option Phase) (s : State) :
    Moves handParts true (s.modSupply (supplyIn st ph (floorOf s st))) (setSupply st ph s) := by
  rw [setSupply_eq]
  exact moves_handSupply (List.Subset.refl _) (fun h => absurd h hst) (.refl ..) (.refl ..)

theorem blind_startQualifying : Blind startQualifying := (blind_setSupply _ _).comp (blind_modSupply _)

theorem startQualifying_supply (s : State) : (startQualifying s).supply = supplyIn .hydrantQualifying none (s.param 36)
    { s.supply with attempts := 0, lastReason := none, attempt := some ⟨2000, 0⟩, window := ⟨0, 0, 0, 0, false⟩ } := by
  unfold startQualifying
  rw [setSupply_supply, if_pos (by decide)]
  exact rfl

theorem startQualifying_valve (s : State) (n : Tank) :
    (startQualifying s).valve (tankValve n) = s.valve (tankValve n) := (sameFeed_setSupply ..).valve n

theorem startQualifying_exhausted (s : State) : .exhausted ∉ (startQualifying s).alarm.causes := fun h =>
  absurd (((setSupply_causes ⟨by decide, by decide⟩ ..).1 h).2.2 rfl) (by decide)

/-! ### A prime begun (R112, R113) -/

theorem closeTankValves_valve (n : Tank) (s : State) : (closeTankValves s).valve (tankValve n) = closedValve s n := by
  obtain ⟨hmain, hother⟩ := commandTankValve_closes .main s
  obtain ⟨hreserve, hstays⟩ := commandTankValve_closes .reserve (commandTankValve .main false s)
  unfold closeTankValves
  cases n
  · exact hstays.trans hmain
  · refine hreserve.trans ?_
    rw [closedValve_eq, closedValve_eq]
    exact closedRecord_congr (sameRig_commandTankValve ..) hother

theorem sameRig_closeTankValves (s : State) : SameRig s (closeTankValves s) :=
  (sameRig_commandTankValve .main false s).trans (sameRig_commandTankValve .reserve false _)

/-- CLOSING_TANK entered, both tank valves commanded CLOSED, before they are judged. -/
def draftBegun (s : State) : State := closeTankValves (setSupply .draftPriming (some .closingTank) s)

theorem startDraft_eq (s : State) : startDraft s = judgeClosingTank (draftBegun s) := rfl

/-- The supply record of a prime begun. -/
def draftRecord (x : Supply) : Supply :=
  { supplyIn .draftPriming (some .closingTank) x.floor x with limit := 1000, activity := none }

theorem setSupply_draftPriming_dry (ph : Option Phase) (s : State) : (setSupply .draftPriming ph s).thermal.dry = none := by
  have hlast : ∀ y : State, (reviewFills (conditionEvent (clipDemand y))).thermal = y.thermal := fun y =>
    (moves_reviewFills (K := [.demand, .event] ++ fillsParts) (b := true) (by decide)
      (moves_conditionEvent (by decide) (.clip true (by decide) (.refl ..)))).stands.thermal (by decide)
  rw [setSupply_eq]
  unfold handSupply
  rw [hlast]
  rfl

/-- A prime as it is begun. -/
structure DraftBegun (s y : State) : Prop where
  supply : y.supply = draftRecord s.supply
  rig : SameRig s y
  valve : ∀ n : Tank, y.valve (tankValve n) = closedValve s n
  outputs : y.outputs = s.outputs
  overrides : y.governor.overrides = s.governor.overrides
  shadow : y.governor.shadow = s.governor.shadow
  engaged : y.drive.pto = .engaged ↔ s.drive.pto = .engaged
  dry : y.thermal.dry = none

theorem draftBegun_spec (s : State) : DraftBegun s (draftBegun s) := by
  have hset := sameFeed_setSupply .draftPriming (some .closingTank) s
  have hsupply := setSupply_supply .draftPriming (some .closingTank) s
  have hdry := setSupply_draftPriming_dry (some .closingTank) s
  have hhand : Moves (.thermal :: handParts) true (s.modSupply (supplyIn .draftPriming (some .closingTank) s.supply.floor))
      (setSupply .draftPriming (some .closingTank) s) := by
    rw [setSupply_eq]
    exact moves_handSupply (by decide) (by simp) (.refl ..) (.refl ..)
  rw [if_neg (by decide)] at hsupply
  unfold draftBegun
  generalize setSupply .draftPriming (some .closingTank) s = x at *
  have hclose : Moves feedParts true x (closeTankValves x) := moves_closeTankValves (List.Subset.refl _) (.refl ..)
  refine ⟨(closeTankValves_supply x).trans hsupply, hset.toSameRig.trans (sameRig_closeTankValves x), fun n => ?_, ?_, ?_, ?_, ?_, ?_⟩
  · rw [closeTankValves_valve, hset.closedValve]
  · rw [hclose.stands.outputs (by decide), hhand.stands.outputs (by decide)]
    rfl
  · rw [hclose.overrides (by decide), hhand.overrides (by decide)]
    rfl
  · rw [(hclose.stands.setpoint (by decide)).1, (hhand.stands.setpoint (by decide)).1]
    rfl
  · exact (hclose.engaged (by decide)).trans (hhand.engaged (by decide))
  · rw [hclose.stands.thermal (by decide)]
    exact hdry

theorem stuckOpen_iff (a : Actuator) : stuckOpen a = true ↔ a.state = .fault ∧ a.fault = some .stuckOpen := by
  simp [stuckOpen]

theorem standsClosed_iff (a : Actuator) :
    standsClosed a = true ↔ a.state = .atClosed ∨ (a.state = .fault ∧ a.fault = some .noOpen) := by
  simp [standsClosed]

/-- A tank valve holds the tank on the intake. -/
def HoldsTank (s : State) : Prop := stuckOpen s.valves.mainValve = true ∨ stuckOpen s.valves.reserveValve = true

/-- Both tank valves count as closed. -/
def BothShut (s : State) : Prop := standsClosed s.valves.mainValve = true ∧ standsClosed s.valves.reserveValve = true

theorem judgeClosingTank_fails (h : HoldsTank s) : judgeClosingTank s = abandonPrime .valve s :=
  if_pos (by simpa [HoldsTank] using h)

theorem judgeClosingTank_primes (h : ¬HoldsTank s) (hs : BothShut s) : judgeClosingTank s = startPriming s := by
  unfold judgeClosingTank
  rw [if_neg (by simpa [HoldsTank] using h), if_pos (by simpa [BothShut] using hs)]

theorem judgeClosingTank_stays (h : ¬HoldsTank s) (hs : ¬BothShut s) : judgeClosingTank s = s := by
  unfold judgeClosingTank
  rw [if_neg (by simpa [HoldsTank] using h), if_neg (by simpa [BothShut] using hs)]

/-- The supply record as PRIMING is entered. -/
def primingRecord (s : State) : Supply :=
  { s.supply with phase := some .priming, primerLimit := some ⟨s.paramNat 42 * 1000, 0⟩, primeHeld := true }

theorem mem_beginOverride_self {k : OverrideKind} (he : s.drive.pto = .engaged) :
    k ∈ (beginOverride k s).governor.overrides := by
  by_cases hk : k ∈ s.governor.overrides
  · unfold beginOverride
    rwa [if_neg fun h => h.2 hk]
  · unfold beginOverride recordOverride
    rw [if_pos ⟨he, hk⟩, record_governor, derivePair_overrides]
    exact (mem_insertIn ..).2 ⟨by cases k <;> decide, .inl rfl⟩

theorem startPriming_spec (s : State) :
    (startPriming s).supply = primingRecord s ∧ (startPriming s).outputs = { s.outputs with primer := ⟨true, none⟩ } ∧
    (s.drive.pto = .engaged → .priming ∈ (startPriming s).governor.overrides) ∧
    (∀ r, (startPriming s).valve r = s.valve r) ∧ (startPriming s).thermal = s.thermal ∧
    (startPriming s).governor.shadow = s.governor.shadow := by
  have hmoves := (moves_override_self .priming (setPrimer true (s.modSupply fun _ => primingRecord s))).1.stands
  refine ⟨?_, ?_, fun h => mem_beginOverride_self (by exact h), ?_, ?_, ?_⟩
  · exact hmoves.supply (by decide)
  · exact hmoves.outputs (by decide)
  · exact fun r => hmoves.valve r (by cases r <;> decide)
  · exact hmoves.thermal (by decide)
  · exact (hmoves.setpoint (by decide)).1

theorem blind_startPriming : Blind startPriming :=
  (blind_beginOverride .priming).comp (Blind.choose (v := fun s => primerLimit s) (f := fun k s => setPrimer true (s.modSupply fun x =>
    { x with phase := some .priming, primerLimit := startTimer (k * 1000), primeHeld := true })) (fun _ _ _ _ => rfl)
    fun _ => blind_write _ fun _ _ _ => ⟨rfl, rfl, rfl⟩)

theorem blind_startDraft : Blind startDraft := by
  have hjudge : Blind judgeClosingTank :=
    Blind.ite (p := fun s => (stuckOpen s.valves.mainValve || stuckOpen s.valves.reserveValve) = true) (fun _ _ _ _ => .rfl)
      (blind_abandonPrime .valve)
      (Blind.ite (p := fun s => (standsClosed s.valves.mainValve && standsClosed s.valves.reserveValve) = true)
        (fun _ _ _ _ => .rfl) blind_startPriming blind_id)
  exact hjudge.comp (blind_closeTankValves.comp (blind_setSupply _ _))

/-- A prime abandoned from a state of the same feed. -/
theorem abandonPrime_returned (h : SameSupply s x) (c : PrimeCause) : TankFeedReturned s (abandonPrime c x) := by
  have hended : SameFeed x (recordPrimeFailed c x.supply.phase (primeEnded x)) :=
    (sameFeed_primeEnded x).trans (sameFeed_record ..)
  have hsup : (recordPrimeFailed c x.supply.phase (primeEnded x)).supply =
      { x.supply with primerLimit := none, prime := none, primeHeld := false } :=
    (record_supply ..).trans (congrArg State.supply (primeEnded_spec x).1)
  rw [abandonPrime_eq]
  exact returnToTank_returned ⟨h.toSameFeed.trans hended, (congrArg Supply.selected hsup :).trans h.selected,
    (congrArg Supply.state hsup :).trans h.state, (congrArg Supply.switchFrom hsup :).trans h.switchFrom⟩

/-! ### RESERVE chosen (R104, R105) -/

theorem useReserve_same (h : s.supply.selected = .reserve) : useReserve s = s := if_pos h

theorem useReserve_offTank (h : s.supply.selected = .main) (hst : s.supply.state = .hydrantQualifying ∨ s.supply.state = .hydrant ∨
    s.supply.state = .draftPriming ∨ s.supply.state = .draft) : useReserve s = selectTank .reserve s := by
  unfold useReserve
  rw [if_neg (by rw [h]; decide)]
  obtain hst | hst | hst | hst := hst <;> rw [hst]

theorem useReserve_switches (h : s.supply.selected = .main) (hst : s.supply.state = .tank ∨ s.supply.state = .noSupply ∨
    s.supply.state = .switching) : useReserve s = enterSwitching (selectTank .reserve s) := by
  unfold useReserve
  rw [if_neg (by rw [h]; decide)]
  obtain hst | hst | hst := hst <;> rw [hst]

theorem reviewLowTank_exists (s : State) : ∃ a, reviewLowTank s = { s with alarm := a } ∧ (.lowTank ∈ a.causes ↔
    s.drive.pto = .engaged ∧ ((s.tank s.supply.selected).state = .low ∨ (s.tank s.supply.selected).state = .empty)) := by
  unfold reviewLowTank
  dsimp only
  split
  · next hlow => exact ⟨_, addAlarm_frame .., iff_of_true ((mem_addAlarm ..).2 (.inl rfl)) hlow⟩
  · next hlow => exact ⟨_, removeAlarm_frame .., iff_of_false (fun hin => ((mem_removeAlarm ..).1 hin).2 rfl) hlow⟩

/-- RESERVE selected while the clutch is not being shifted. -/
theorem selectReserve_calm (hs : NotShifting s) (h : s.supply.selected = .main) :
    let u := selectTank .reserve s
    u = { s with
      supply := { s.supply with selected := .reserve }, alarm := u.alarm
      interlock := { s.interlock with conditions := u.interlock.conditions } } ∧
    (.lowTank ∈ u.alarm.causes ↔
      s.drive.pto = .engaged ∧ (s.tanks.reserve.state = .low ∨ s.tanks.reserve.state = .empty)) := by
  have hcalm : NotShifting (s.modSupply fun x => { x with selected := .reserve }) := hs
  have hact : selectTank .reserve s = reviewLowTank (conditionEvent (s.modSupply fun x => { x with selected := .reserve })) :=
    if_neg (by rw [h]; decide)
  rw [conditionEvent_refresh hcalm] at hact
  obtain ⟨a, ha, hlow⟩ := reviewLowTank_exists _
  dsimp only
  rw [hact, ha]
  exact ⟨rfl, hlow⟩

end Sys2Proof.Machine
end

section
/-! PROOFS. The requests on the supply, and O38 from its parts. -/

namespace Sys2Proof.Machine

variable {s t x y u v : State} {n m : Tank} {tag : Byte}

/-! ### Requests that leave the supply as it stands (R106) -/

theorem supplyToTank_stands {res : Result} (h : (s.supply.state = .idle ∧ res = .badState) ∨
    (s.supply.state = .tank ∧ res = .ok) ∨ (s.supply.state = .switching ∧ res = .busy) ∨
    (s.supply.state = .noSupply ∧ (s.tank s.supply.selected).state = .empty ∧ res = .badState)) :
    supplyToTank s = ⟨s, res, supplyBytes s⟩ := by
  unfold supplyToTank
  obtain ⟨hst, rfl⟩ | ⟨hst, rfl⟩ | ⟨hst, rfl⟩ | ⟨hst, he, rfl⟩ := h <;> rw [hst]
  · rfl
  · rfl
  · rfl
  · exact if_pos ((selectedEmpty_iff s).2 he)

theorem supplyToHydrant_stands {res : Result} (h : (s.supply.state = .hydrantQualifying ∧ res = .busy) ∨
    ((s.supply.state = .idle ∨ s.supply.state = .hydrant ∨ s.supply.state = .draftPriming ∨ s.supply.state = .draft ∨
      s.supply.state = .switching) ∧ res = .badState)) : supplyToHydrant s = ⟨s, res, supplyBytes s⟩ := by
  unfold supplyToHydrant
  obtain ⟨hst, rfl⟩ | ⟨hst | hst | hst | hst | hst, rfl⟩ := h <;> rw [hst] <;> rfl

theorem supplyToDraft_stands {res : Result} (h : (s.supply.state = .draftPriming ∧ res = .busy) ∨
    ((s.supply.state = .idle ∨ s.supply.state = .hydrantQualifying ∨ s.supply.state = .hydrant ∨ s.supply.state = .draft ∨
      s.supply.state = .switching ∨ s.supply.state = .noSupply) ∧ res = .badState)) :
    supplyToDraft s = ⟨s, res, supplyBytes s⟩ := by
  unfold supplyToDraft
  obtain ⟨hst, rfl⟩ | ⟨hst | hst | hst | hst | hst | hst, rfl⟩ := h <;> rw [hst] <;> rfl

theorem exec_setSupply_stands {b : Byte} {res : Result} (hs : Ready s)
    (hact : act (.setSupply b) (holdRequest 26 tag s.fresh) = ⟨holdRequest 26 tag s.fresh, res, supplyBytes (holdRequest 26 tag s.fresh)⟩) :
    exec (.setSupply tag b) s = .next (finish (s.fresh.answered 26 tag res
      [BitVec.ofNat 8 s.supply.state.ctorIdx, BitVec.ofNat 8 (32 + s.supply.selected.ctorIdx)])) :=
  exec_of_act_unchanged (r := .setSupply b) rfl rfl rfl hs hact

theorem actSetSupply_badValue {b : Byte} (h : 3 ≤ b.toNat) (s : State) : actSetSupply b s = plain .badValue s := by
  unfold actSetSupply
  split
  · omega
  · omega
  · omega
  · rfl

/-! ### The return to tank feed -/

theorem enterNoSupply_supply (c : ExhaustCause) (s : State) : (enterNoSupply c s).supply = noSupplyRecord s.supply := by
  have halarm : ∀ y : State, (addAlarm .exhausted y).supply = y.supply := fun y =>
    (moves_addAlarm (K := [.alarm]) (b := true) (by decide) (.refl ..)).stands.supply (by decide)
  rw [enterNoSupply_eq, halarm, record_supply, noSupplySet_supply]

theorem entersSwitching_attempt {f : State → State} (h : ∀ P, FeedKeeps P → P (markSwitching s) → P (f s)) :
    (f s).supply.attempt = none := by
  have hattempt : (markSwitching s).supply.attempt = none := by
    rw [markSwitching_supply]
    rfl
  have hkept := h (fun z => Kept (markSwitching s).supply z.supply) (feedKeeps_kept _) (.refl _)
  exact hkept.attempt hattempt

theorem emptyTankDecision_attempt (s : State) : (emptyTankDecision s).supply.attempt = none := by
  by_cases h : ReserveAllowed s
  · rw [emptyTankDecision_allowed h]
    exact entersSwitching_attempt (f := beginSwitch) fun P hP => hP.switchGoes
  · rw [emptyTankDecision_refused h, enterNoSupply_supply]
    rfl

theorem feedFromTank_attempt (h : s.supply.attempt = none) : (feedFromTank s).supply.attempt = none := by
  have hkept : Kept s.supply (feedFromTank s).supply := (feedKeeps_kept _).feedFromTank (.refl _)
  exact hkept.attempt h

/-- No attempt runs once the supply is on its way to a tank. -/
theorem returnToTank_attempt (s : State) : (returnToTank s).supply.attempt = none := by
  unfold returnToTank
  split
  · exact emptyTankDecision_attempt s
  split
  · exact feedFromTank_attempt (by rw [setSupply_tank_supply]; rfl)
  · exact entersSwitching_attempt (f := enterSwitching) fun P hP => hP.entersSwitching

theorem setSupply_exhausted {st : SupplyState} (h : st ≠ .noSupply) (ph : Option Phase) (s : State) :
    .exhausted ∉ (setSupply st ph s).alarm.causes := fun hin =>
  h (((setSupply_causes ⟨by decide, by decide⟩ ..).1 hin).2.2 rfl)

theorem beginSwitch_exhausted (h : (beginSwitch s).supply.state ≠ .noSupply) : .exhausted ∉ (beginSwitch s).alarm.causes := by
  rw [(beginSwitch_goes s h).alarm]
  exact setSupply_exhausted (by decide) _ _

theorem emptyTankDecision_exhausted (h : (emptyTankDecision s).supply.state ≠ .noSupply) :
    .exhausted ∉ (emptyTankDecision s).alarm.causes := by
  by_cases ha : ReserveAllowed s
  · rw [emptyTankDecision_allowed ha] at h ⊢
    exact beginSwitch_exhausted h
  · rw [emptyTankDecision_refused ha] at h
    exact absurd (enterNoSupply_state ..) h

theorem feedFromTank_alarm (h : (feedFromTank s).supply.state ≠ .noSupply) : (feedFromTank s).alarm = s.alarm := by
  unfold feedFromTank at h ⊢
  dsimp only at h ⊢
  split
  · next hc =>
    rw [if_pos hc] at h
    exact absurd (enterNoSupply_state ..) h
  · exact (commandTankValve_goes ..).alarm

/-- EXHAUSTED goes as a tank feeds the pump again (R103). -/
theorem returnToTank_exhausted (h : (returnToTank s).supply.state ≠ .noSupply) : .exhausted ∉ (returnToTank s).alarm.causes := by
  by_cases he : (s.tank s.supply.selected).state = .empty
  · rw [returnToTank_empty he] at h ⊢
    exact emptyTankDecision_exhausted h
  cases ho : (s.valve (tankValve (otherTank s.supply.selected))).openCmd with
  | true =>
    rw [returnToTank_switches he ho] at h ⊢
    exact beginSwitch_exhausted h
  | false =>
    rw [returnToTank_feeds he ho] at h ⊢
    rw [feedFromTank_alarm h]
    exact setSupply_exhausted (by decide) _ _

theorem returned_spec (h : SameSupply s x) (ho : x.outputs = s.outputs) :
    TankFeedReturned s (returnToTank x) ∧ (returnToTank x).supply.attempt = none ∧ (returnToTank x).outputs = s.outputs ∧
    ((returnToTank x).supply.state ≠ .noSupply → .exhausted ∉ (returnToTank x).alarm.causes) :=
  ⟨returnToTank_returned h, returnToTank_attempt x, (feedKeeps_outputs s.outputs).returnToTank ho, returnToTank_exhausted⟩

/-! ### TANK from a hydrant or a draft -/

theorem DueTurned.supply (h : DueTurned s x) : x.supply = s.supply := (congrArg State.supply h.eq_with :)

theorem DueTurned.governor (h : DueTurned s x) : x.governor = s.governor := (congrArg State.governor h.eq_with :)

theorem DueTurned.outputs (h : DueTurned s x) : x.outputs = s.outputs := (congrArg State.outputs h.eq_with :)

theorem DueTurned.begun (h : DueTurned s x) (he : (s.tank s.supply.selected).state ≠ .empty) :
    SwitchBegun s.supply.selected s (enterSwitching x) := by
  have hafter := enterSwitching_after h.sameSupply.toSameFeed h.sameSupply.switchedFrom
  rwa [h.sameSupply.selected, if_neg he] at hafter

theorem DueTurned.begunReserve (h : DueTurned s x) (hsel : s.supply.selected = .main) (hp : s.param 44 = 1)
    (hm : s.tanks.main.state = .empty) (hr : s.tanks.reserve.state ≠ .empty) :
    SwitchBegun .reserve s (enterSwitching x) ∧
      ((enterSwitching x).supply.state = .switching → (enterSwitching x).supply.switchHeld = true) := by
  have hafter := enterSwitching_after h.sameSupply.toSameFeed h.sameSupply.switchedFrom
  rwa [h.sameSupply.selected, hsel, if_pos (by exact hm), if_pos ⟨rfl, hp, hr⟩] at hafter

theorem DueTurned.exhausted (h : DueTurned s x) (he : (s.tank s.supply.selected).state = .empty)
    (hno : s.supply.selected = .reserve ∨ s.param 44 ≠ 1 ∨ s.tanks.reserve.state = .empty) :
    Exhausted s.supply.selected .switching .tankEmpty s (enterSwitching x) := by
  have hafter := enterSwitching_after h.sameSupply.toSameFeed h.sameSupply.switchedFrom
  rwa [h.sameSupply.selected, if_pos he, if_neg fun ⟨h₁, h₂, h₃⟩ => hno.elim (fun h => by simp [h₁] at h)
    (Or.rec (fun h => h h₂) h₃)] at hafter

theorem DueTurned.held (h : DueTurned s x) (hr : Running (s.tank m)) : FillHeld m (enterSwitching x) :=
  (feedKeeps_fillHeld m).entersSwitching (markSwitching_suspends (h.running hr))

/-- What stands and what goes as the line is left for a tank. -/
structure LeftLine (s u : State) : Prop where
  hydrant : u.supply.hydrant = none
  loss : u.supply.loss = none
  lossLatch : u.supply.lossLatch = false
  outputs : u.outputs = s.outputs
  shadow : u.governor.shadow = s.governor.shadow

theorem DueTurned.leftLine (h : DueTurned s x) : LeftLine s (enterSwitching x) := by
  have hkept : Kept (markSwitching x).supply (enterSwitching x).supply := (feedKeeps_kept _).entersSwitching (.refl _)
  rw [markSwitching_supply] at hkept
  exact ⟨hkept.hydrant rfl, hkept.loss rfl, hkept.lossLatch rfl, (feedKeeps_outputs _).enterSwitching h.outputs,
    (feedKeeps_shadow _).enterSwitching (congrArg Governor.shadow h.governor)⟩

theorem DueTurned.goes (h : DueTurned s x) (hst : (enterSwitching x).supply.state = .switching) :
    (enterSwitching x).supply.floor = s.param 36 ∧ (enterSwitching x).supply.limit = s.supply.limit ∧
    ((s.tank s.supply.selected).state ≠ .empty → (enterSwitching x).supply.switchHeld = s.supply.switchHeld ∧
      (enterSwitching x).governor.overrides = s.governor.overrides) := by
  obtain ⟨hfloor, hlimit⟩ := enterSwitching_goes hst
  rw [h.sameSupply.param] at hfloor
  rw [h.supply] at hlimit
  refine ⟨hfloor, hlimit, fun he => ?_⟩
  have hfull : enterSwitching x = beginSwitch x := enterSwitching_full (by rwa [h.sameSupply.selected, h.sameSupply.level])
  rw [hfull] at hst ⊢
  obtain ⟨hheld, hover⟩ := beginSwitch_overrides hst
  exact ⟨hheld.trans (congrArg Supply.switchHeld h.supply), hover.trans (congrArg Governor.overrides h.governor)⟩

theorem Blocked.governor (h : Blocked v u) : u.governor = v.governor := (congrArg State.governor h.frame :)

theorem Blocked.outputs (h : Blocked v u) : u.outputs = v.outputs := (congrArg State.outputs h.frame :)

/-- The switch from a hydrant or a draft, requested. -/
def leaveLine : State → State := switchWithCycle enterSwitching

theorem act_setSupply_onLine (h : s.supply.state = .hydrant ∨ s.supply.state = .draft) :
    act (.setSupply 0) s = supplyTaken (leaveLine s) := by
  show supplyToTank s = _
  unfold supplyToTank
  obtain hst | hst := h <;> rw [hst] <;> rfl

theorem exec_leaveLine (hs : Ready s) (h : s.supply.state = .hydrant ∨ s.supply.state = .draft) :
    exec (.setSupply tag 0) s = .next (finish ((leaveLine s.fresh).answered 26 tag .ok
      [BitVec.ofNat 8 (leaveLine s.fresh).supply.state.ctorIdx,
        BitVec.ofNat 8 (32 + (leaveLine s.fresh).supply.selected.ctorIdx)])) :=
  exec_supplyTaken (r := .setSupply 0) rfl rfl rfl hs (blind_switchWithCycle blind_enterSwitching) (act_setSupply_onLine (by exact h))

/-! ### The other requests taken -/

theorem exec_guardedSupply {i : Instr} {code : Byte} {r : Request} {f : State → State} {k : GuardedKind}
    (hi : i.request? = some (tag, r)) (hcode : r.code = code) (hr : r.wellFormed = true) (hs : Ready s) (hf : Blind f)
    (hj : judge s k = .passed)
    (hact : act r (holdRequest code tag s.fresh) =
      guarded k (holdRequest code tag s.fresh) (supplyTaken (f (holdRequest code tag s.fresh)))) :
    exec i s = .next (finish ((f s.fresh).answered code tag .ok
      [BitVec.ofNat 8 (f s.fresh).supply.state.ctorIdx, BitVec.ofNat 8 (32 + (f s.fresh).supply.selected.ctorIdx)])) :=
  exec_supplyTaken hi hcode hr hs hf (hact.trans (guarded_of_passed _ hj))

theorem act_setSupply_hydrant (h : s.supply.state = .tank ∨ s.supply.state = .noSupply) :
    act (.setSupply 1) s = guarded .supplyHydrant s (supplyTaken (startQualifying s)) := by
  show supplyToHydrant s = _
  unfold supplyToHydrant
  obtain hst | hst := h <;> rw [hst]

theorem act_setSupply_draft (h : s.supply.state = .tank) :
    act (.setSupply 2) s = guarded .supplyDraft s (supplyTaken (startDraft s)) := by
  show supplyToDraft s = _
  unfold supplyToDraft
  rw [h]

theorem exec_startDraft (hs : Ready s) (h : s.supply.state = .tank) (hj : judge s .supplyDraft = .passed) :
    exec (.setSupply tag 2) s = .next (finish ((startDraft s.fresh).answered 26 tag .ok
      [BitVec.ofNat 8 (startDraft s.fresh).supply.state.ctorIdx,
        BitVec.ofNat 8 (32 + (startDraft s.fresh).supply.selected.ctorIdx)])) :=
  exec_guardedSupply (r := .setSupply 2) rfl rfl rfl hs blind_startDraft hj (act_setSupply_draft (by exact h))

theorem useReserve_eq (s : State) : useReserve s = if s.supply.selected = .reserve then s else
    if s.supply.state = .tank ∨ s.supply.state = .noSupply ∨ s.supply.state = .switching then
      enterSwitching (selectTank .reserve s) else selectTank .reserve s := by
  unfold useReserve
  cases hst : s.supply.state <;> simp

theorem blind_useReserve : Blind useReserve := by
  rw [show useReserve = _ from funext useReserve_eq]
  exact Blind.ite (p := fun s => s.supply.selected = .reserve) (fun _ _ _ _ => .rfl) blind_id
    (Blind.ite (p := fun s => s.supply.state = .tank ∨ s.supply.state = .noSupply ∨ s.supply.state = .switching)
      (fun _ _ _ _ => .rfl) (blind_enterSwitching.comp (blind_selectTank _)) (blind_selectTank _))

theorem exec_useReserve (hs : Ready s) (hj : judge s .useReserve = .passed) :
    exec (.useReserve tag) s = .next (finish ((useReserve s.fresh).answered 27 tag .ok
      [BitVec.ofNat 8 (useReserve s.fresh).supply.state.ctorIdx,
        BitVec.ofNat 8 (32 + (useReserve s.fresh).supply.selected.ctorIdx)])) :=
  exec_guardedSupply (r := .useReserve) rfl rfl rfl hs blind_useReserve hj rfl

end Sys2Proof.Machine
end

section
/-! PROOFS. O38 from its parts. -/

namespace Sys2Proof.Machine

variable {s t x y u v : State} {n m : Tank} {tag : Byte}

/-! ### The requests by what they leave -/

theorem switchedFrom_online (h : s.supply.state = .hydrant ∨ s.supply.state = .draft) :
    switchedFrom s.supply = s.supply.state := if_neg (by obtain h | h := h <;> rw [h] <;> decide)

/-- The switch from a hydrant or a draft, with all it leaves. -/
theorem leaveLine_spec (hst : s.supply.state = .hydrant ∨ s.supply.state = .draft) :
    let u := leaveLine s
    let t := s.supply.selected
    (u.supply.state = .switching ∨ u.supply.state = .noSupply) ∧
    ((s.tank t).state ≠ .empty → SwitchBegun t s u ∧
      ((s.valve (tankValve t)).state ≠ .fault → (s.valve (tankValve (otherTank t))).state ≠ .fault →
        u.supply.state = .switching ∧ u.supply.switchFrom = s.supply.state ∧ u.supply.selected = t ∧
        (u.valve (tankValve (otherTank t))).openCmd = false)) ∧
    ((s.tank t).state = .empty → t = .main → s.param 44 = 1 → s.tanks.reserve.state ≠ .empty →
      SwitchBegun .reserve s u ∧ (u.supply.state = .switching → u.supply.switchHeld = true)) ∧
    ((s.tank t).state = .empty → t = .reserve ∨ s.param 44 ≠ 1 ∨ s.tanks.reserve.state = .empty →
      Exhausted t .switching .tankEmpty s u) ∧
    (u.supply.state = .switching → u.supply.floor = s.param 36 ∧ u.supply.limit = s.supply.limit ∧
      ((s.tank t).state ≠ .empty →
        u.supply.switchHeld = s.supply.switchHeld ∧ u.governor.overrides = s.governor.overrides)) ∧
    LeftLine s u ∧ ∀ w, Running (s.tank w) → FillHeld w u := by
  obtain ⟨x, hx, hb⟩ := switchWithCycle_blocked enterSwitching s
  have hsupply := hb.supply
  refine ⟨?_, fun he => ?_, fun he hm hp hr => ?_, fun he hno => hb.exhausted (hx.exhausted he hno), fun hsw => ?_, ?_,
    fun w hw => hb.held (hx.held hw)⟩
  · rw [leaveLine, hsupply]
    exact enterSwitching_state x
  · have hbegun := hb.begun (hx.begun he)
    refine ⟨hbegun, fun ha ho => ?_⟩
    obtain ⟨hgoes, hfrom⟩ := hbegun.goes ha ho
    exact ⟨hgoes, hfrom.trans (switchedFrom_online hst), hbegun.selected, hbegun.otherClosed⟩
  · rw [hm] at he
    obtain ⟨hbegun, hheld⟩ := hx.begunReserve hm hp he hr
    refine ⟨hb.begun hbegun, ?_⟩
    rw [leaveLine, hsupply]
    exact hheld
  · rw [leaveLine, hsupply] at hsw ⊢
    rw [hb.governor]
    exact hx.goes hsw
  · obtain ⟨h₁, h₂, h₃, h₄, h₅⟩ := hx.leftLine
    exact ⟨by rw [leaveLine, hsupply]; exact h₁, by rw [leaveLine, hsupply]; exact h₂, by rw [leaveLine, hsupply]; exact h₃,
      hb.outputs.trans h₄, (congrArg Governor.shadow hb.governor).trans h₅⟩

/-- A due fill of the tank that is turned to. -/
theorem leaveLine_due (hn : (n = s.supply.selected ∧ (s.tank n).state ≠ .empty) ∨ (n = .reserve ∧ s.supply.selected = .main ∧
      s.param 44 = 1 ∧ s.tanks.main.state = .empty ∧ s.tanks.reserve.state ≠ .empty)) (hdue : cycleDue s n = true) :
    SwitchBegun n s (leaveLine s) ∧ FillHeld n (leaveLine s) ∧
    (freeBit s = true → ((leaveLine s).valve (tankValve n)).openCmd = true → ∃ x : State,
      leaveLine s = record .valveInterlock
        { subject := some (.valve (fillValve n)), cause := some (.blockedBy (tankValve n)) } x) := by
  refine switchWithCycle_target hdue (fun x hx => ?_) fun x hx => hx.held (.inr (.inl ((cycleDue_iff s n).1 hdue).1))
  obtain ⟨rfl, he⟩ | ⟨rfl, hsel, hp, hm, hr⟩ := hn
  · exact hx.begun he
  · exact (hx.begunReserve hsel hp hm hr).1

theorem isDue_of_le {p e : Nat} (h : p ≤ e) : isDue (some ⟨p, e⟩) = true := decide_eq_true h

/-- A judged DRAFT, by the two tank valves as they are commanded CLOSED. -/
theorem startDraft_spec (s : State) :
    let u := startDraft s
    let m := closedValve s .main
    let r := closedValve s .reserve
    (stuckOpen m = true ∨ stuckOpen r = true → u.outputs.primer = ⟨false, none⟩ ∧ u.supply.primeHeld = false ∧
      TankFeedReturned
        { s with
          supply := { s.supply with state := .draftPriming }
          valves := { s.valves with mainValve := m, reserveValve := r } } u) ∧
    (¬(stuckOpen m = true ∨ stuckOpen r = true) → standsClosed m = true ∧ standsClosed r = true →
      u.supply = primingRecord (draftBegun s) ∧ u.outputs = { s.outputs with primer := ⟨true, none⟩ } ∧
      u.valves.mainValve = m ∧ u.valves.reserveValve = r ∧ u.thermal.dry = none ∧
      (s.drive.pto = .engaged → .priming ∈ u.governor.overrides)) ∧
    (¬(stuckOpen m = true ∨ stuckOpen r = true) → ¬(standsClosed m = true ∧ standsClosed r = true) →
      u.supply = draftRecord s.supply ∧ u.outputs = s.outputs ∧ u.valves.mainValve = m ∧ u.valves.reserveValve = r ∧
      u.governor.overrides = s.governor.overrides) := by
  have hy := draftBegun_spec s
  dsimp only
  rw [startDraft_eq]
  generalize draftBegun s = y at *
  obtain ⟨hsup, hrig, hvalve, hout, hover, -, heng, hdry⟩ := hy
  have hm : y.valves.mainValve = closedValve s .main := hvalve .main
  have hr : y.valves.reserveValve = closedValve s .reserve := hvalve .reserve
  refine ⟨fun h => ?_, fun h hc => ?_, fun h hc => ?_⟩
  · rw [judgeClosingTank_fails (by rw [HoldsTank, hm, hr]; exact h)]
    have hu := abandonPrime_unprimed .valve y
    have hsame : SameSupply { s with
        supply := { s.supply with state := .draftPriming }
        valves := { s.valves with mainValve := closedValve s .main, reserveValve := closedValve s .reserve } } y := by
      refine ⟨⟨⟨fun n => hrig.level n, hrig.params, hrig.terminals, hrig.disabled, hrig.clock⟩, fun n => ?_⟩, ?_, ?_, ?_⟩
      · cases n
        · exact hm
        · exact hr
      all_goals rw [hsup]; rfl
    exact ⟨by rw [hu.outputs], hu.primeHeld, abandonPrime_returned hsame .valve⟩
  · rw [judgeClosingTank_primes (by rw [HoldsTank, hm, hr]; exact h) (by rw [BothShut, hm, hr]; exact hc)]
    obtain ⟨h₁, h₂, h₃, h₄, h₅, -⟩ := startPriming_spec y
    exact ⟨h₁, by rw [h₂, hout], (h₄ .mainValve).trans hm, (h₄ .reserveValve).trans hr, by rw [h₅]; exact hdry,
      fun he => h₃ (heng.2 he)⟩
  · rw [judgeClosingTank_stays (by rw [HoldsTank, hm, hr]; exact h) (by rw [BothShut, hm, hr]; exact hc)]
    exact ⟨hsup, hout, hm, hr, hover⟩

theorem closedValve_of_closed (h : (s.valve (tankValve n)).openCmd = false) : closedValve s n = s.valve (tankValve n) := by
  unfold closedValve
  dsimp only
  rw [if_pos (.inl h), ← h]

theorem closedValve_of_open (h : (s.valve (tankValve n)).openCmd = true) (ha : (s.valve (tankValve n)).state ≠ .fault) :
    (closedValve s n).state = .closing := by
  unfold closedValve
  dsimp only
  rw [if_neg (by simp [h, ha])]

/-- What a supply unit that turns to RESERVE leaves. -/
theorem reserveSwitch_spec (hsel : s.supply.selected = .main) (hst : s.supply.state = .tank ∨ s.supply.state = .noSupply ∨
    s.supply.state = .switching) :
    let u := useReserve s
    u.supply.selected = .reserve ∧ (u.supply.state = .switching ∨ u.supply.state = .noSupply) ∧
    (s.tanks.reserve.state ≠ .empty → SwitchBegun .reserve s u ∧
      (s.valves.mainValve.state ≠ .fault → s.valves.reserveValve.state ≠ .fault → u.supply.state = .switching) ∧
      (u.supply.state = .switching →
        u.supply.switchHeld = s.supply.switchHeld ∧ u.governor.overrides = s.governor.overrides)) ∧
    (s.tanks.reserve.state = .empty → Exhausted .reserve .switching .tankEmpty s u) := by
  have hfeed := sameFeed_selectTank .reserve s
  have hsup := selectTank_supply .reserve s
  have hover : (selectTank .reserve s).governor.overrides = s.governor.overrides :=
    (moves_selectTank (K := handParts) (b := true) (List.Subset.refl _) (.refl ..)).overrides (by decide)
  dsimp only
  rw [useReserve_switches hsel hst]
  generalize selectTank .reserve s = x at *
  have hxsel : x.supply.selected = .reserve := by rw [hsup]
  have hafter := enterSwitching_after hfeed (by rw [hsup]; rfl)
  have hstate := enterSwitching_state x
  rw [hxsel] at hafter
  by_cases he : s.tanks.reserve.state = .empty
  · rw [if_pos (by exact he), if_neg (by simp)] at hafter
    exact ⟨hafter.2.1, hstate, fun hne => absurd he hne, fun _ => hafter⟩
  · rw [if_neg (by exact he)] at hafter
    refine ⟨hafter.selected, hstate, fun _ => ⟨hafter, fun hm hr => (hafter.goes hr hm).1, fun hsw => ?_⟩, fun he' => absurd he' he⟩
    have hlevel : (x.tank x.supply.selected).state ≠ .empty := by
      rw [hxsel, hfeed.level]
      exact he
    rw [enterSwitching_full hlevel] at hsw ⊢
    obtain ⟨hheld, hov⟩ := beginSwitch_overrides hsw
    exact ⟨hheld.trans (by rw [hsup]), hov.trans hover⟩

theorem feedKeeps_totals (a : Totals) : FeedKeeps fun s => s.totals = a :=
  feedKeeps_of a (fun h => h.stands.totals (by decide)) (fun _ _ => rfl) fun _ _ => rfl

theorem useReserve_keeps {P : State → Prop} (h : FeedKeeps P) (hs : P s) : P (useReserve s) := by
  rw [useReserve_eq]
  split
  · exact hs
  split
  · exact h.enterSwitching (h.selectTank _ hs)
  · exact h.selectTank _ hs

/-- Settles O38. -/
theorem supplyRequestsByState : Obligations.SupplyRequestsByState := by
  refine ⟨fun s tag b hs hb => ?_, fun s tag b res hs h => ?_, fun s tag hs hst hj => ?_, fun s tag hs hst hj he hv ho => ?_,
    fun s tag hs hst hj hc ha hr hro => ?_, fun s tag hs hst hj => ?_, fun s tag hs hst => ?_, fun s tag hs hst => ?_,
    fun s tag n p e hs hn hstage hphase hcycle hle hperm => ?_, fun s tag hs hst => ?_, fun s tag hs hj hsel => ?_,
    fun s tag hs hcalm hj hsel hst => ?_, fun s tag hs hj hsel hst => ?_, fun s tag hs hcalm hj hsel hst he hc ha => ?_⟩
  · exact exec_of_act_unchanged (r := .setSupply b) rfl rfl rfl hs (actSetSupply_badValue hb _)
  · obtain ⟨rfl, h⟩ | ⟨rfl, h⟩ | ⟨rfl, h⟩ | ⟨rfl, h⟩ | ⟨rfl, h⟩ | ⟨rfl, h⟩ | ⟨rfl, h⟩ | ⟨rfl, h⟩ := h
    · exact exec_setSupply_stands hs (supplyToTank_stands (.inl h))
    · exact exec_setSupply_stands hs (supplyToTank_stands (.inr (.inl h)))
    · exact exec_setSupply_stands hs (supplyToTank_stands (.inr (.inr (.inl h))))
    · exact exec_setSupply_stands hs (supplyToTank_stands (.inr (.inr (.inr h))))
    · exact exec_setSupply_stands hs (supplyToHydrant_stands (.inl h))
    · exact exec_setSupply_stands hs (supplyToHydrant_stands (.inr h))
    · exact exec_setSupply_stands hs (supplyToDraft_stands (.inl h))
    · exact exec_setSupply_stands hs (supplyToDraft_stands (.inr h))
  · have hexec := exec_guardedSupply (i := .setSupply tag 1) (r := .setSupply 1) rfl rfl rfl hs blind_startQualifying hj
      (act_setSupply_hydrant (by exact hst))
    have hsup := startQualifying_supply s.fresh
    have hvalve := startQualifying_valve s.fresh
    have hexh := startQualifying_exhausted s.fresh
    generalize startQualifying s.fresh = u at *
    rw [hsup] at hexec
    refine ⟨u, hexec, by rw [hsup]; rfl, by rw [hsup]; rfl, by rw [hsup]; rfl, by rw [hsup]; rfl, by rw [hsup]; rfl,
      by rw [hsup]; rfl, by rw [hsup]; rfl, by rw [hsup]; rfl, fun v hv => ?_, hexh⟩
    obtain rfl | rfl := hv
    · exact hvalve .main
    · exact hvalve .reserve
  · obtain ⟨hmc, hms⟩ := hv .mainValve (.inl rfl)
    obtain ⟨hrc, hrs⟩ := hv .reserveValve (.inr rfl)
    have hm : closedValve s.fresh .main = s.valve .mainValve := closedValve_of_closed (s := s.fresh) hmc
    have hr : closedValve s.fresh .reserve = s.valve .reserveValve := closedValve_of_closed (s := s.fresh) hrc
    obtain ⟨-, hprimes, -⟩ := startDraft_spec s.fresh
    rw [hm, hr] at hprimes
    have hnot : ¬(stuckOpen (s.valve .mainValve) = true ∨ stuckOpen (s.valve .reserveValve) = true) := by
      simp [stuckOpen, hms, hrs]
    obtain ⟨hsup, hout, -, -, hdry, hov⟩ := hprimes hnot (by simp [standsClosed, hms, hrs])
    have hexec := exec_startDraft (tag := tag) hs hst hj
    have hdraft := (draftBegun_spec s.fresh).supply
    have hparam := (draftBegun_spec s.fresh).rig.paramNat 42
    generalize startDraft s.fresh = u at *
    unfold primingRecord at hsup
    rw [hdraft, hparam] at hsup
    rw [hsup] at hexec
    exact ⟨u, hexec, by rw [hsup]; rfl, by rw [hsup], by rw [hsup]; rfl, by rw [hsup]; rfl, by rw [hsup], by rw [hout], hov he, hdry⟩
  · have hmain : (closedValve s.fresh .main).state = .closing := closedValve_of_open (s := s.fresh) hc (by
      rw [show (s.fresh.valve (tankValve .main)).state = .atOpen from ha]; decide)
    have hres : closedValve s.fresh .reserve = s.valves.reserveValve := closedValve_of_closed (s := s.fresh) hro
    obtain ⟨-, -, hstays⟩ := startDraft_spec s.fresh
    rw [hres] at hstays
    obtain ⟨hsup, hout, hm, -, hov⟩ := hstays (by simp [stuckOpen, hmain, hr]) (by simp [standsClosed, hmain])
    have hexec := exec_startDraft (tag := tag) hs hst hj
    generalize startDraft s.fresh = u at *
    rw [hsup] at hexec
    exact ⟨u, hexec, by rw [hsup]; rfl, by rw [hsup]; rfl, by rw [hm]; exact closedValve_openCmd .., by rw [hm]; exact hmain, hout, hov⟩
  · obtain ⟨hfails, hprimes, hstays⟩ := startDraft_spec s.fresh
    have hexec := exec_startDraft (tag := tag) hs hst hj
    have hdraft := (draftBegun_spec s.fresh).supply
    simp only [stuckOpen_iff, standsClosed_iff] at hfails hprimes hstays
    generalize startDraft s.fresh = u at *
    refine ⟨u, hexec, hfails, fun hn => ?_⟩
    by_cases hc : ((closedValve s .main).state = .atClosed ∨ (closedValve s .main).state = .fault ∧ (closedValve s .main).fault = some .noOpen) ∧
        ((closedValve s .reserve).state = .atClosed ∨ (closedValve s .reserve).state = .fault ∧ (closedValve s .reserve).fault = some .noOpen)
    · obtain ⟨hsup, hout, hm, hr, -, -⟩ := hprimes hn hc
      unfold primingRecord at hsup
      rw [hdraft] at hsup
      exact ⟨by rw [hsup]; rfl, by rw [hsup]; rfl, hm, hr, fun _ => ⟨by rw [hsup], by rw [hout]⟩, fun h => absurd hc h⟩
    · obtain ⟨hsup, hout, hm, hr, -⟩ := hstays hn hc
      exact ⟨by rw [hsup]; rfl, by rw [hsup]; rfl, hm, hr, fun h => absurd h hc, fun _ => ⟨by rw [hsup]; rfl, hout⟩⟩
  · obtain ⟨h₁, h₂, h₃, h₄, h₅, ⟨h₆, h₇, h₈, h₉, h₁₀⟩, h₁₁⟩ := leaveLine_spec (s := s.fresh) hst
    exact ⟨_, exec_leaveLine hs hst, h₁, h₂, h₃, h₄, h₅, h₆, h₇, h₈, h₉, h₁₀, fun w hw => ⟨(h₁₁ w hw).stage, (h₁₁ w hw).valve⟩⟩
  · obtain hst | ⟨hst, he⟩ := hst
    · refine ⟨_, exec_supplyTaken (r := .setSupply 0) (f := fun s => returnToTank (s.modSupply fun x => { x with attempt := none }))
        rfl rfl rfl hs (blind_returnToTank.comp (blind_modSupply _)) ?_,
        returned_spec (s := s) ⟨⟨⟨fun _ => rfl, rfl, rfl, rfl, rfl⟩, fun _ => rfl⟩, rfl, rfl, rfl⟩ rfl⟩
      show supplyToTank _ = _
      unfold supplyToTank
      rw [show (holdRequest 26 tag s.fresh).supply.state = .hydrantQualifying from hst]
    · refine ⟨_, exec_supplyTaken (r := .setSupply 0) (f := returnToTank) rfl rfl rfl hs blind_returnToTank ?_,
        returned_spec (s := s) ⟨⟨⟨fun _ => rfl, rfl, rfl, rfl, rfl⟩, fun _ => rfl⟩, rfl, rfl, rfl⟩ rfl⟩
      show supplyToTank _ = _
      unfold supplyToTank
      rw [show (holdRequest 26 tag s.fresh).supply.state = .noSupply from hst]
      exact if_neg (mt (selectedEmpty_iff (holdRequest 26 tag s.fresh)).1 he)
  · have hst := fillPermission_onLine hperm
    have hdue : cycleDue s.fresh n = true :=
      (cycleDue_iff s.fresh n).2 ⟨hstage, hphase, by rw [show (s.fresh.tank n).cycle = _ from hcycle]; exact isDue_of_le hle, hperm⟩
    obtain ⟨hbegun, hheld, hlast⟩ := leaveLine_due (s := s.fresh) hn hdue
    have hexec := exec_leaveLine (tag := tag) hs hst
    rw [hbegun.selected] at hexec
    exact ⟨_, hexec, hheld.stage, hheld.fillOpen, hheld.valve, hlast⟩
  · have hu := abandonPrime_unprimed .operator s.fresh
    refine ⟨_, exec_supplyTank_aborts hs hst, abandonPrime_abandoned .operator s.fresh s.fresh.governor, ?_, ?_, hu.primeHeld,
      by rw [hu.outputs]⟩
    · obtain h | h | h := hu.bound <;> rw [h] <;> decide
    · obtain h | h | h := hu.bound <;> rw [h] <;> decide
  · have hexec := exec_useReserve (tag := tag) hs hj
    rw [useReserve_same (s := s.fresh) hsel, show s.fresh.supply.selected = .reserve from hsel] at hexec
    exact hexec
  · have hact := useReserve_offTank (s := s.fresh) hsel hst
    obtain ⟨hu, hlow⟩ := selectReserve_calm (s := s.fresh) hcalm hsel
    have hexec := exec_useReserve (tag := tag) hs hj
    rw [hact, selectTank_supply] at hexec
    exact ⟨_, hexec, hu, hlow⟩
  · obtain ⟨h₁, h₂, h₃, h₄⟩ := reserveSwitch_spec (s := s.fresh) hsel hst
    have hexec := exec_useReserve (tag := tag) hs hj
    rw [h₁] at hexec
    exact ⟨_, hexec, h₁, h₂, h₃, h₄⟩
  · obtain ⟨h₁, -, h₃, -⟩ := reserveSwitch_spec (s := s.fresh) hsel (.inl hst)
    obtain ⟨hbegun, -, -⟩ := h₃ he
    have hexec := exec_useReserve (tag := tag) hs hj
    have hfault : s.valves.mainValve.state ≠ .fault := by rw [ha]; decide
    have hmain : (closedValve s .main).state = .closing := closedValve_of_open (s := s) hc hfault
    have hout : (useReserve s.fresh).outputs = s.outputs := useReserve_keeps (feedKeeps_outputs _) rfl
    have htot : (useReserve s.fresh).totals = s.totals := useReserve_keeps (feedKeeps_totals _) rfl
    generalize useReserve s.fresh = u at *
    unfold SwitchBegun at hbegun
    dsimp only at hbegun
    rw [if_neg fun h => hfault h.1, if_pos ⟨hfault, by rw [show (closedValve s.fresh (otherTank .reserve)).state = .closing from hmain]; decide⟩] at hbegun
    obtain ⟨hsw, -, hph, -, hfrom, hres, hmv⟩ := hbegun
    rw [h₁, hsw] at hexec
    refine ⟨u, hexec, hsw, h₁, hph, hfrom.trans ?_, ?_, ?_, hres, hout, htot⟩
    · rw [show s.fresh.supply.state = .tank from hst]
      rfl
    · exact (congrArg Actuator.openCmd hmv).trans (closedValve_openCmd ..)
    · exact (congrArg Actuator.state hmv).trans hmain

end Sys2Proof.Machine
end

section
/-! PROOFS. The end of a valve's travel and its report (R168, R169, R172, R175), and O47 from its parts. -/

namespace Sys2Proof.Machine

variable {s t x y u : State} {n m : Tank} {v : ValveRole} {c : ValveFault}

/-! ### The end of a travel -/

/-- The record of a valve whose travel ends as commanded (R168, R169). -/
def travelEnded (s : State) (v : ValveRole) : Actuator :=
  { s.valve v with
    state := if (s.valve v).state = .opening then .atOpen else .atClosed, tries := 0, retry := none, travel := none
    confirmation := if feedback s v = none then .unconfirmed else .confirmed }

theorem travelEnded_state (s : State) (v : ValveRole) : (travelEnded s v).state ≠ .fault := by
  unfold travelEnded
  dsimp only
  split <;> decide

/-- A travel that ends as commanded: nothing is read, or what is read agrees. -/
theorem expireTravel_arrives (ht : (s.valve v).travel.isSome = true)
    (h : ((s.valve v).state = .opening ∧ feedback s v = none) ∨ ((s.valve v).state = .closing ∧ feedback s v ≠ some true)) :
    expireTravel v s = { s with valves := setValve s.valves v (travelEnded s v) } := by
  unfold expireTravel travelEnded
  rw [ite_isNone, if_pos ht]
  obtain ⟨hst, hfb⟩ | ⟨hst, hfb⟩ := h
  · rw [hst, hfb]
    rfl
  · rw [hst]
    cases hread : feedback s v with
    | none => rfl
    | some b =>
      cases b with
      | false => rfl
      | true => exact absurd hread hfb

theorem expireTravel_pauses (ht : (s.valve v).travel.isSome = true) (hst : (s.valve v).state = .opening)
    (hfb : feedback s v ≠ none) (htries : (s.valve v).tries = 1) :
    expireTravel v s = { s with valves := setValve s.valves v { s.valve v with travel := none, retry := some ⟨1000, 0⟩ } } := by
  obtain ⟨b, hb⟩ := Option.ne_none_iff_exists'.1 hfb
  unfold expireTravel
  rw [ite_isNone, if_pos ht, hst, hb]
  exact if_pos htries

/-- A travel that shows it failed, and for what cause. -/
def TravelFails (c : ValveFault) (v : ValveRole) (s : State) : Prop :=
  ((s.valve v).state = .opening ∧ feedback s v ≠ none ∧ (s.valve v).tries ≠ 1 ∧ c = .noOpen) ∨
  ((s.valve v).state = .closing ∧ feedback s v = some true ∧ c = .stuckOpen)

theorem expireTravel_fails (ht : (s.valve v).travel.isSome = true) (h : TravelFails c v s) :
    expireTravel v s = enterValveFault v c s := by
  unfold expireTravel
  rw [ite_isNone, if_pos ht]
  obtain ⟨hst, hfb, htries, rfl⟩ | ⟨hst, hfb, rfl⟩ := h
  · obtain ⟨b, hb⟩ := Option.ne_none_iff_exists'.1 hfb
    rw [hst, hb]
    exact if_neg htries
  · rw [hst, hfb]

/-- The record of a valve as it enters FAULT (R172). -/
def failedRecord (s : State) (v : ValveRole) (c : ValveFault) : Actuator :=
  { s.valve v with state := .fault, tries := 0, retry := none, travel := none, fault := some c }

/-- What FAULT leaves: the valve's record, the alarm and the notice. -/
theorem enterValveFault_spec (v : ValveRole) (c : ValveFault) (s : State) :
    let u := enterValveFault v c s
    u = { s with
      alarm := u.alarm, notices := u.notices, tx := u.tx, valves := setValve s.valves v (failedRecord s v c) } ∧
    .valve ∈ u.alarm.causes ∧
    u.notices = (record .valveFault
      { subject := some (.valve v), old := some (.valve (s.valve v).state), new := some (.valve .fault)
        cause := some (.valveFault c) } s).notices := by
  have hmod : (s.modValve v fun a => { a with state := .fault, tries := 0, retry := none, travel := none, fault := some c }) =
      { s with valves := setValve s.valves v (failedRecord s v c) } := modValve_eq ..
  have hmem : .valve ∈ (enterValveFault v c s).alarm.causes := (mem_addAlarm ..).2 (.inl rfl)
  have hrecord := record_with (s := s) (t := { s with valves := setValve s.valves v (failedRecord s v c) }) .valveFault
    { subject := some (.valve v), old := some (.valve (s.valve v).state), new := some (.valve .fault)
      cause := some (.valveFault c) } rfl rfl rfl rfl
  unfold enterValveFault at hmem ⊢
  rw [hmod, hrecord] at hmem ⊢
  obtain ⟨a, ha⟩ := addAlarm_exists .valve _
  refine ⟨?_, hmem, ?_⟩ <;> rw [ha]

theorem enterValveFault_valve (v : ValveRole) (c : ValveFault) (s : State) :
    (enterValveFault v c s).valve v = failedRecord s v c := by
  rw [(enterValveFault_spec v c s).1]
  exact valve_setValve ..

/-! ### The report (R175) -/

theorem reportAfter_changed {move : State → State} (h : ((move s).valve v).state ≠ (s.valve v).state) :
    reportAfter v move s = reportValve v (move s) := if_neg fun hc => h hc.1

theorem reportAfter_same {move : State → State} (hst : ((move s).valve v).state = (s.valve v).state)
    (hf : ((move s).valve v).fault = (s.valve v).fault) : reportAfter v move s = move s := if_pos ⟨hst, hf⟩

theorem reportValve_tank (n : Tank) (s : State) : reportValve (tankValve n) s = supplyOnValve n s := by cases n <;> rfl

/-- Where the Supply Unit waits for no valve a report has no effect. -/
def NoSupplyReads (v : ValveRole) (s : State) : Prop :=
  (v ≠ .mainValve ∧ v ≠ .reserveValve) ∨ s.supply.state = .idle ∨ s.supply.state = .hydrant ∨ s.supply.state = .draft

theorem reportAfter_unread {move : State → State} (h : NoSupplyReads v (move s)) : reportAfter v move s = move s := by
  have hquiet : ∀ n, v = tankValve n → supplyOnValve n (move s) = move s := by
    rintro n rfl
    have hst : (move s).supply.state = .idle ∨ (move s).supply.state = .hydrant ∨ (move s).supply.state = .draft := by
      obtain ⟨hm, hr⟩ | hst := h
      · cases n
        · exact absurd rfl hm
        · exact absurd rfl hr
      · exact hst
    unfold supplyOnValve
    obtain hst | hst | hst := hst <;> rw [hst]
  have hreport : reportValve v (move s) = move s := by
    cases v with
    | mainValve => exact hquiet .main rfl
    | reserveValve => exact hquiet .reserve rfl
    | _ => rfl
  unfold reportAfter
  dsimp only
  rw [hreport]
  exact ite_self _

/-- A valve that comes to stand in a state other than the one before is reported. -/
theorem reportAfter_tank {move : State → State} {a : Actuator}
    (hmove : move s = { s with valves := setValve s.valves (tankValve n) a }) (ha : a.state ≠ (s.valve (tankValve n)).state) :
    reportAfter (tankValve n) move s = supplyOnValve n { s with valves := setValve s.valves (tankValve n) a } := by
  rw [← hmove, ← reportValve_tank]
  refine reportAfter_changed ?_
  rw [hmove, valve_setValve]
  exact ha

theorem reportAfter_fault (ht : (s.valve (tankValve n)).travel.isSome = true) (h : TravelFails c (tankValve n) s) :
    reportAfter (tankValve n) (expireTravel (tankValve n)) s = supplyOnValve n (enterValveFault (tankValve n) c s) := by
  have hact := expireTravel_fails ht h
  rw [← hact, ← reportValve_tank]
  refine reportAfter_changed ?_
  rw [hact, enterValveFault_valve]
  obtain ⟨hst, -⟩ | ⟨hst, -⟩ := h <;> simp [hst, failedRecord]

/-! ### What a report does in TANK and in SWITCHING -/

theorem supplyOnValve_tank (hst : s.supply.state = .tank) (hf : (s.valve (tankValve s.supply.selected)).state = .fault)
    (hc : (s.valve (tankValve s.supply.selected)).fault = some .noOpen) :
    supplyOnValve s.supply.selected s = enterNoSupply .valveFault s := by
  unfold supplyOnValve
  rw [hst]
  exact if_pos ⟨rfl, by simp [noOpenFault, hf, hc]⟩

theorem supplyOnValve_target (hst : s.supply.state = .switching) (hph : s.supply.phase = some .openingTarget) :
    supplyOnValve s.supply.selected s = judgeTarget s := by
  unfold supplyOnValve
  rw [hst]
  exact (if_pos rfl).trans (if_pos hph)

theorem supplyOnValve_other (hst : s.supply.state = .switching) (hph : s.supply.phase = some .closingOther) :
    supplyOnValve (otherTank s.supply.selected) s = judgeOther s := by
  have hne : otherTank s.supply.selected ≠ s.supply.selected := by cases s.supply.selected <;> decide
  unfold supplyOnValve
  rw [hst]
  exact (if_neg hne).trans (if_pos hph)

theorem judgeOther_closed (h : (s.valve (tankValve (otherTank s.supply.selected))).state = .atClosed) :
    judgeOther s = openTarget s := by
  rw [judgeOther_eq]
  dsimp only
  rw [h, if_neg (by simp), if_pos (.inl rfl)]

/-- OPENING_TARGET entered on a target that can open. -/
theorem openTarget_opens (hsel : s.supply.selected = n) (ho : (s.valve (tankValve (otherTank n))).openCmd = false)
    (hf : ¬((s.valve (tankValve n)).state = .fault ∧ (s.valve (tankValve n)).fault = some .noOpen)) :
    (openTarget s).valve (tankValve n) = openedValve s n ∧
    (openTarget s).valve (tankValve (otherTank n)) = s.valve (tankValve (otherTank n)) ∧
    (openTarget s).supply =
      if (openedValve s n).state = .atOpen ∨ (s.valve (tankValve n)).state = .fault then
        { s.supply with
          phase := some .settling, settle := some ⟨5000, 0⟩, targetStuck := decide ((s.valve (tankValve n)).state = .fault) }
      else { s.supply with phase := some .openingTarget } := by
  subst hsel
  obtain ⟨hz, hzo⟩ := commandTankValve_opens (s := openingTarget s) ho
  have hopened : openedValve (openingTarget s) s.supply.selected = openedValve s s.supply.selected := rfl
  have hsup : (commandTankValve s.supply.selected true (openingTarget s)).supply =
    { s.supply with phase := some .openingTarget } := commandTankValve_supply ..
  rw [hopened] at hz
  obtain ⟨hcause, hfault⟩ := openedValve_fault s s.supply.selected
  rw [openTarget_eq]
  generalize commandTankValve s.supply.selected true (openingTarget s) = z at *
  have hzsel : z.supply.selected = s.supply.selected := (congrArg Supply.selected hsup :)
  rw [judgeTarget_eq, hzsel, hz]
  simp only [hcause, hfault]
  rw [if_neg hf]
  split
  · refine ⟨hz, hzo, ?_⟩
    exact (congrArg (fun r : Supply => { r with
      phase := some .settling, settle := startTimer 5000
      targetStuck := decide ((s.valve (tankValve s.supply.selected)).state = ValveState.fault) }) hsup)
  · exact ⟨hz, hzo, hsup⟩

theorem openedValve_opens (hc : (s.valve (tankValve n)).openCmd = false) (hst : (s.valve (tankValve n)).state ≠ .fault)
    (hfb : feedback s (tankValve n) ≠ some true) : (openedValve s n).state = .opening ∧ (openedValve s n).tries = 1 := by
  rw [openedValve_eq]
  unfold openedRecord
  rw [if_neg (by simp [hc, hst]), if_neg hfb]
  exact ⟨rfl, rfl⟩

/-- Settles O47. -/
theorem valveTravelEnds : Obligations.ValveTravelEnds := by
  refine ⟨fun s v hp ht hno => ⟨fun hst hfb => ?_, fun hst hfb => ?_, fun c hc => ?_⟩, fun s v hp ht hst hfb htries => ?_,
    fun s v hp hr => ?_, fun s hp hst ht hopening htries hfb => ?_, fun s hp hst hph ht hcl hcmd hfb hwst hwcmd hwfb => ?_,
    fun s v c hp h => ?_⟩
  · have hact := expireTravel_arrives (s := s.fresh) ht (.inl ⟨hst, hfb⟩)
    have hunread : NoSupplyReads v (expireTravel v s.fresh) := by rw [hact]; exact hno
    refine exec_leaves hp rfl ((reportAfter_unread hunread).trans (hact.trans ?_))
    rw [travelEnded, if_pos (by exact hst), if_pos (by exact hfb)]
    rfl
  · have hact := expireTravel_arrives (s := s.fresh) ht (.inr ⟨hst, hfb⟩)
    have hunread : NoSupplyReads v (expireTravel v s.fresh) := by rw [hact]; exact hno
    refine exec_leaves hp rfl ((reportAfter_unread hunread).trans (hact.trans ?_))
    rw [travelEnded, if_neg (by rw [show (s.fresh.valve v).state = .closing from hst]; decide)]
    rfl
  · have hact := expireTravel_fails (s := s.fresh) ht hc
    obtain ⟨hframe, hmem, hnotices⟩ := enterValveFault_spec v c s.fresh
    have hunread : NoSupplyReads v (expireTravel v s.fresh) := by rw [hact, hframe]; exact hno
    refine ⟨_, exec_leaves hp rfl ((reportAfter_unread hunread).trans hact), hframe, hmem, ?_,
      hnotices.trans (record_congr (s := s) (t := s.fresh) _ _ rfl rfl rfl rfl).1⟩
    rw [enterValveFault_valve]
    rfl
  · have hact := expireTravel_pauses (s := s.fresh) ht hst hfb htries
    refine exec_leaves hp rfl ((reportAfter_same ?_ ?_).trans hact) <;> rw [hact, valve_setValve]
  · refine exec_leaves hp rfl ?_
    unfold expireRetry
    rw [ite_isNone, if_pos (by exact hr), travelTime_eq]
    rfl
  · have hact := reportAfter_fault (s := s.fresh) (c := .noOpen) ht (.inl ⟨hopening, by rw [show feedback s.fresh _ = _ from hfb]; simp,
      by rw [show (s.fresh.valve _).tries = 2 from htries]; decide, rfl⟩)
    obtain ⟨hframe, -, -⟩ := enterValveFault_spec (tankValve s.supply.selected) .noOpen s.fresh
    have hvalve := enterValveFault_valve (tankValve s.supply.selected) .noOpen s.fresh
    generalize enterValveFault (tankValve s.supply.selected) .noOpen s.fresh = y at *
    have hsup : y.supply = s.supply := (congrArg State.supply hframe :)
    rw [← hsup] at hvalve hst
    rw [← hsup, supplyOnValve_tank hst (by rw [hvalve]; rfl) (by rw [hvalve]; rfl)] at hact
    have hex := enterNoSupply_exhausted .valveFault (.refl y)
    refine ⟨_, exec_leaves hp rfl (by rw [← hsup]; exact hact), hex.1, ?_, ?_, Exhausted.closed hex _⟩
    · obtain ⟨-, -, -, -, -, -, -, -, hmem, -⟩ := hex
      exact hmem
    · obtain ⟨-, -, -, -, -, -, -, hdem, -⟩ := hex
      exact hdem
  · have hne : tankValve s.supply.selected ≠ tankValve (otherTank s.supply.selected) := (tankValve_ne _).symm
    have hmove := expireTravel_arrives (s := s.fresh) (v := tankValve (otherTank s.supply.selected)) ht (.inr ⟨hcl, hfb⟩)
    have hended : (travelEnded s.fresh (tankValve (otherTank s.supply.selected))).state = .atClosed := by
      unfold travelEnded
      rw [if_neg (by rw [show (s.fresh.valve _).state = .closing from hcl]; decide)]
    have hcmd' : (travelEnded s.fresh (tankValve (otherTank s.supply.selected))).openCmd = false := hcmd
    have hact := reportAfter_tank (s := s.fresh) (n := otherTank s.supply.selected) hmove
      (by rw [hended, show (s.fresh.valve _).state = .closing from hcl]; decide)
    generalize travelEnded s.fresh (tankValve (otherTank s.supply.selected)) = a at *
    have hv := valve_setValve s.fresh (tankValve (otherTank s.supply.selected)) a
    have hw := valve_setValve_ne hne s.fresh a
    have hfw : feedback { s.fresh with valves := setValve s.fresh.valves (tankValve (otherTank s.supply.selected)) a }
        (tankValve s.supply.selected) = feedback s (tankValve s.supply.selected) := rfl
    generalize hy : ({ s.fresh with valves := setValve s.fresh.valves (tankValve (otherTank s.supply.selected)) a } : State) = y at *
    have hsup : y.supply = s.supply := by rw [← hy]; rfl
    have hw' : y.valve (tankValve s.supply.selected) = s.valve (tankValve s.supply.selected) := hw
    rw [← hsup] at hact hv hw' hst hph hwst hwcmd hwfb hfw
    rw [supplyOnValve_other hst hph, judgeOther_closed (by rw [hv]; exact hended)] at hact
    obtain ⟨h₁, h₂, h₃⟩ := openTarget_opens (s := y) rfl (by rw [hv]; exact hcmd') (by rw [hw', hwst]; simp)
    obtain ⟨hop, htr⟩ := openedValve_opens (s := y) (n := y.supply.selected) (by rw [hw']; exact hwcmd) (by rw [hw', hwst]; decide)
      (by rw [hfw]; exact hwfb)
    rw [if_neg (by rw [hop, hw', hwst]; decide)] at h₃
    rw [← hsup]
    refine ⟨_, exec_leaves hp rfl hact, ?_, ?_, ?_, ?_, ?_, ?_⟩
    · rw [h₂, hv]
      exact hended
    · rw [h₃]
      exact hst
    · rw [h₃]
    · rw [h₁]
      exact openedValve_openCmd ..
    · rw [h₁]
      exact hop
    · rw [h₁]
      exact htr
  · obtain ⟨rfl, ht⟩ | ⟨rfl, ht⟩ := h
    · have hact : expireTravel v s.fresh = s.fresh := if_pos (Option.isNone_iff_eq_none.2 ht)
      exact exec_leaves hp rfl ((reportAfter_same (by rw [hact]) (by rw [hact])).trans hact)
    · exact exec_leaves hp rfl (if_pos (Option.isNone_iff_eq_none.2 ht))

end Sys2Proof.Machine
end

section
/-! PROOFS. The supply's timers and the valves it waits for (R112, R116 to R121), and O41 from its parts. -/

namespace Sys2Proof.Machine

variable {s t x y u v : State} {n m : Tank} {a : Actuator}

/-! ### The switch settled (R120) -/

/-- TANK entered as a switch settles, before its notice. -/
def switchSettled (s : State) : State := endSwitchover (setSupply .tank none s)

theorem expireSettle_eq (h : s.supply.settle.isSome = true) : expireSettle s =
    record .switchoverDone
      { subject := some (.tank s.supply.selected), old := some (.supply s.supply.switchFrom), new := some (.supply .tank)
        cause := some (.confirmation (switchCause s)) } (switchSettled s) := by
  unfold expireSettle
  rw [ite_isNone, if_pos h]
  rfl

theorem switchSettled_supply (s : State) :
    (switchSettled s).supply = { feedRecord (s.param 36) s.supply with switchHeld := false } := by
  unfold switchSettled
  rw [endSwitchover_supply, setSupply_tank_supply]

theorem sameFeed_switchSettled (s : State) : SameFeed s (switchSettled s) :=
  (sameFeed_setSupply ..).trans ((moves_endSwitchover_over _).sameFeed (by decide))

theorem endSwitchover_ended (h : s.supply.switchHeld = true) : .switchover ∉ (endSwitchover s).governor.overrides := by
  unfold endSwitchover
  rw [if_pos h]
  exact fun hin => (mem_endOverride.1 hin).2 rfl

theorem switchCause_eq (s : State) : switchCause s =
    if s.supply.targetStuck = true ∨ (s.valve (tankValve s.supply.selected)).state = .fault then .unconfirmed
    else (s.valve (tankValve s.supply.selected)).confirmation := rfl

/-! ### A supply lost (R117, R118) -/

/-- A loss taken: the latch set, the notice recorded and fast capture begun, before the outcome is carried out. -/
def lossTaken (s : State) : State :=
  protectiveEvent (record .supplyLost
    { old := some (.supply s.supply.state), value := some (s.published .intakeP), cause := some (.loss (lossOutcome s)) }
    { s with supply := { s.supply with loss := none, lossLatch := true } })

theorem takeLoss_eq (h : s.supply.loss.isSome = true) : takeLoss s = actOnLoss (lossOutcome s) (lossTaken s) := by
  unfold takeLoss
  rw [ite_isNone, if_pos h]
  rfl

theorem lossTaken_eq (s : State) :
    let lost := record .supplyLost
      { old := some (.supply s.supply.state), value := some (s.published .intakeP), cause := some (.loss (lossOutcome s)) } s
    lossTaken s = { s with
      supply := { s.supply with loss := none, lossLatch := true }
      trend := { s.trend with fast := 30, sample := if s.trend.fast = 0 then ⟨1000, 0⟩ else s.trend.sample }
      notices := lost.notices, tx := lost.tx } := by
  have hrecord := record_with (s := s) (t := { s with supply := { s.supply with loss := none, lossLatch := true } }) .supplyLost
    { old := some (.supply s.supply.state), value := some (s.published .intakeP), cause := some (.loss (lossOutcome s)) }
    rfl rfl rfl rfl
  unfold lossTaken
  rw [hrecord]
  exact rfl

theorem sameSupply_lossTaken (s : State) : SameSupply s (lossTaken s) := by
  have hdisabled := (stands_record_notices .supplyLost
    { old := some (.supply s.supply.state), value := some (s.published .intakeP), cause := some (.loss (lossOutcome s)) } s).disabled
  rw [lossTaken_eq]
  exact ⟨⟨⟨fun _ => rfl, rfl, rfl, hdisabled, rfl⟩, fun _ => rfl⟩, rfl, rfl, rfl⟩

theorem autoSwitchover_iff (s : State) : autoSwitchover s = true ↔ s.param 43 = 1 := beq_iff_eq

theorem autoReserve_iff (s : State) : autoReserve s = true ↔ s.param 44 = 1 := beq_iff_eq

theorem lossOutcome_none (h : s.param 43 ≠ 1 ∨ ((s.tank s.supply.selected).state = .empty ∧
      (s.supply.selected = .reserve ∨ s.param 44 ≠ 1 ∨ s.tanks.reserve.state = .empty))) : lossOutcome s = .none := by
  unfold lossOutcome
  simp only [autoSwitchover_iff, autoReserve_iff, Bool.eq_false_iff, ne_eq, selectedEmpty_iff]
  obtain h | ⟨he, h⟩ := h
  · rw [if_neg fun hc => h hc.1, if_neg fun hc => h hc.1]
  · rw [if_neg fun hc => hc.2 he, if_neg]
    rintro ⟨-, hm, hp, hr⟩
    obtain h | h | h := h
    · rw [hm] at h
      exact absurd h (by decide)
    · exact h hp
    · exact hr h

theorem lossOutcome_switchover (hp : s.param 43 = 1) (he : (s.tank s.supply.selected).state ≠ .empty) :
    lossOutcome s = .switchover :=
  if_pos ⟨(autoSwitchover_iff s).2 hp, Bool.eq_false_iff.2 (mt (selectedEmpty_iff s).1 he)⟩

theorem lossOutcome_reserve (hp : s.param 43 = 1) (hq : s.param 44 = 1) (hsel : s.supply.selected = .main)
    (he : s.tanks.main.state = .empty) (hr : s.tanks.reserve.state ≠ .empty) : lossOutcome s = .reserve := by
  have hempty : selectedEmpty s = true := (selectedEmpty_iff s).2 (by rw [hsel]; exact he)
  unfold lossOutcome
  rw [if_neg (by simp [hempty]), if_pos ⟨(autoSwitchover_iff s).2 hp, hsel, (autoReserve_iff s).2 hq, hr⟩]

/-- The state from which a loss turns to a tank. -/
def lossTurned (n : Tank) (s : State) : State := beginSwitchover (selectTank n (lossTaken s))

theorem lossTurned_supply (n : Tank) (s : State) : (lossTurned n s).supply =
    { s.supply with loss := none, lossLatch := true, selected := n, switchHeld := true } := by
  unfold lossTurned
  rw [beginSwitchover_supply, selectTank_supply, lossTaken_eq]

theorem sameFeed_lossTurned (n : Tank) (s : State) : SameFeed s (lossTurned n s) :=
  (sameSupply_lossTaken s).toSameFeed.trans ((sameFeed_selectTank n _).trans (sameFeed_beginSwitchover _))

theorem selectTank_self (h : s.supply.selected = n) : selectTank n s = s := if_pos h

theorem takeLoss_switchover (h : s.supply.loss.isSome = true) (ho : lossOutcome s = .switchover) :
    takeLoss s = enterSwitching (lossTurned s.supply.selected s) := by
  have hsel : (lossTaken s).supply.selected = s.supply.selected := (sameSupply_lossTaken s).selected
  rw [takeLoss_eq h, ho, lossTurned, selectTank_self hsel]
  rfl

theorem takeLoss_reserve (h : s.supply.loss.isSome = true) (ho : lossOutcome s = .reserve) :
    takeLoss s = enterSwitching (lossTurned .reserve s) := by
  rw [takeLoss_eq h, ho]
  rfl

/-- What selecting a tank and beginning SWITCHOVER touch. -/
theorem moves_selectTank_self (n : Tank) (s : State) : Moves [.supply, .alarm, .event] true s (selectTank n s) := by
  unfold selectTank
  split
  · exact .refl ..
  · exact moves_reviewLowTank (by decide) (moves_conditionEvent (by decide) (moves_supply (by decide) rfl rfl id (.refl ..)))

theorem lossTurned_stage (n m : Tank) (s : State) : ((lossTurned n s).tank m).stage = (s.tank m).stage := by
  have hturn : (lossTurned n s).tank m = (lossTaken s).tank m := by
    unfold lossTurned
    rw [(moves_beginSwitchover_over _).stands.tank m (by simp [overrideParts]) (by simp [overrideParts]),
      (moves_selectTank_self n _).stands.tank m (by simp) (by simp)]
  rw [hturn, lossTaken_eq]
  rfl

theorem beginSwitchover_begun (h : s.supply.switchHeld = false) (he : s.drive.pto = .engaged) :
    .switchover ∈ (beginSwitchover s).governor.overrides := by
  unfold beginSwitchover
  rw [if_neg (by rw [h]; decide)]
  exact mem_beginOverride_self (by exact he)

theorem lossTurned_override (hh : s.supply.switchHeld = false) (he : s.drive.pto = .engaged) (n : Tank) :
    .switchover ∈ (lossTurned n s).governor.overrides := by
  have hsup : (selectTank n (lossTaken s)).supply.switchHeld = false := by
    rw [selectTank_supply, lossTaken_eq]
    exact hh
  refine beginSwitchover_begun hsup (((moves_selectTank_self n _).engaged (by decide)).2 ?_)
  rw [lossTaken_eq]
  exact he

/-- A tank that a loss turns to: not EMPTY, selected or RESERVE where the settings allow it. -/
def LossTarget (n : Tank) (s : State) : Prop :=
  (n = s.supply.selected ∧ (s.tank n).state ≠ .empty) ∨ (n = .reserve ∧ s.supply.selected = .main ∧
    s.param 44 = 1 ∧ s.tanks.main.state = .empty ∧ s.tanks.reserve.state ≠ .empty)

theorem takeLoss_turns (h : s.supply.loss.isSome = true) (hp : s.param 43 = 1) (hn : LossTarget n s) :
    takeLoss s = beginSwitch (lossTurned n s) := by
  have hlevel : (s.tank n).state ≠ .empty → enterSwitching (lossTurned n s) = beginSwitch (lossTurned n s) := fun he =>
    enterSwitching_full (by rwa [lossTurned_supply, (sameFeed_lossTurned n s).level])
  obtain ⟨rfl, he⟩ | ⟨rfl, hsel, hq, hm, hr⟩ := hn
  · rw [takeLoss_switchover h (lossOutcome_switchover hp he), hlevel he]
  · rw [takeLoss_reserve h (lossOutcome_reserve hp hq hsel hm hr), hlevel hr]

theorem takeLoss_begun (h : s.supply.loss.isSome = true) (hp : s.param 43 = 1) (hn : LossTarget n s) :
    SwitchBegun n s (takeLoss s) := by
  have hsup := lossTurned_supply n s
  have hbegun := beginSwitch_begun (sameFeed_lossTurned n s) (by rw [hsup]; rfl)
  rw [hsup] at hbegun
  rw [takeLoss_turns h hp hn]
  exact hbegun

theorem takeLoss_held (h : s.supply.loss.isSome = true) (hp : s.param 43 = 1) (hn : LossTarget n s) (hr : Running (s.tank m)) :
    FillHeld m (takeLoss s) := by
  rw [takeLoss_turns h hp hn]
  exact (feedKeeps_fillHeld m).switchGoes (markSwitching_suspends (by rwa [Running, lossTurned_stage]))

theorem feedKeeps_fast (k : Nat) : FeedKeeps fun s => s.trend.fast = k :=
  feedKeeps_of k (fun h => by rw [h.stands.trend (by decide)]) (fun _ _ => rfl) fun _ _ => rfl

theorem takeLoss_goes (h : s.supply.loss.isSome = true) (hp : s.param 43 = 1) (hn : LossTarget n s)
    (hh : s.supply.switchHeld = false) (he : s.drive.pto = .engaged) :
    (takeLoss s).trend.fast = 30 ∧
    ((takeLoss s).supply.state = .switching ∧ (takeLoss s).supply.switchHeld = true ∧
        .switchover ∈ (takeLoss s).governor.overrides ∨ (takeLoss s).supply.state = .noSupply) := by
  have hfast : (lossTurned n s).trend.fast = 30 := by
    unfold lossTurned
    rw [(moves_beginSwitchover_over _).stands.trend (by decide), (moves_selectTank_self n _).stands.trend (by decide), lossTaken_eq]
  rw [takeLoss_turns h hp hn]
  refine ⟨(feedKeeps_fast 30).beginSwitch hfast, ?_⟩
  obtain hst | hst := beginSwitch_state (lossTurned n s)
  · obtain ⟨hheld, hover⟩ := beginSwitch_overrides hst
    rw [hheld, hover]
    exact .inl ⟨hst, by rw [lossTurned_supply], lossTurned_override hh he n⟩
  · exact .inr hst

/-! ### A loss and a due cycle -/

theorem DueTurned.lossTarget (h : DueTurned s x) (hn : LossTarget n s) : LossTarget n x := by
  unfold LossTarget
  rw [h.supply, h.sameSupply.level, h.sameSupply.param, show x.tanks.main.state = s.tanks.main.state from h.sameSupply.level .main,
    show x.tanks.reserve.state = s.tanks.reserve.state from h.sameSupply.level .reserve]
  exact hn

/-- A loss relates its two states whether or not a due cycle was turned first. -/
theorem SwitchBegun.of_turned (hx : DueTurned s x) (h : SwitchBegun n x u) : SwitchBegun n s u := by
  have hfeed := hx.sameSupply.toSameFeed
  have hrig : ∀ {old : SupplyState} {c : ExhaustCause}, Exhausted n old c x u → Exhausted n old c s u := fun h => by
    obtain ⟨h₁, h₂, h₃, h₄, h₅, h₆, h₇, h₈, h₉, h₁₀, y, h₁₁, h₁₂, h₁₃⟩ := h
    exact ⟨h₁, h₂, h₃, h₄, h₅, h₆, h₇, h₈, h₉, h₁₀, y, h₁₁, h₁₂.trans hfeed.disabled, h₁₃.trans hfeed.clock⟩
  unfold SwitchBegun at h ⊢
  dsimp only at h ⊢
  rw [hfeed.valve, hfeed.valve, hfeed.closedValve, hfeed.openedValve, hx.supply] at h
  split at h
  · next hc => rw [if_pos hc]; exact hrig h
  next hc =>
  rw [if_neg hc]
  split at h
  · next hw => rwa [if_pos hw]
  next hw =>
  rw [if_neg hw]
  split at h
  · next ha => rw [if_pos ha]; exact hrig h
  · next ha => rwa [if_neg ha]

theorem takeLoss_turned (h : s.supply.loss.isSome = true) (hp : s.param 43 = 1) (hn : LossTarget n s) (hx : DueTurned s x) :
    SwitchBegun n s (takeLoss x) :=
  (takeLoss_begun (by rwa [hx.supply]) (by rwa [hx.sameSupply.param]) (hx.lossTarget hn)).of_turned hx

theorem expireLoss_turns (h : s.supply.loss.isSome = true) (hp : s.param 43 = 1) (hn : LossTarget n s)
    (hh : s.supply.switchHeld = false) (he : s.drive.pto = .engaged) :
    (expireLoss s).trend.fast = 30 ∧ SwitchBegun n s (expireLoss s) ∧
    ((expireLoss s).supply.state = .switching ∧ (expireLoss s).supply.switchHeld = true ∧
        .switchover ∈ (expireLoss s).governor.overrides ∨ (expireLoss s).supply.state = .noSupply) := by
  obtain ⟨x, hx, hb⟩ := switchWithCycle_blocked takeLoss s
  have hdrive : x.drive.pto = .engaged := by rw [hx.eq_with]; exact he
  obtain ⟨hfast, hgoes⟩ := takeLoss_goes (by rwa [hx.supply]) (by rwa [hx.sameSupply.param]) (hx.lossTarget hn)
    (by rwa [hx.supply]) hdrive
  refine ⟨?_, hb.begun (takeLoss_turned h hp hn hx), ?_⟩
  · have htrend : (expireLoss s).trend = (takeLoss x).trend := (congrArg State.trend hb.frame :)
    rw [htrend]
    exact hfast
  · rw [show (expireLoss s).supply = _ from hb.supply, show (expireLoss s).governor = _ from hb.governor]
    exact hgoes

theorem expireLoss_stays (h : s.supply.loss.isSome = true) (ho : lossOutcome s = .none) : expireLoss s = lossTaken s := by
  have hact : takeLoss s = lossTaken s := by
    rw [takeLoss_eq h, ho]
    rfl
  have hopened : openedTank s (takeLoss s) = none := by
    have hvalve : ∀ n, (takeLoss s).valve (tankValve n) = s.valve (tankValve n) := fun n => by
      rw [hact]
      exact (sameSupply_lossTaken s).valve n
    unfold openedTank
    simp [hvalve]
  unfold expireLoss
  rw [switchWithCycle_eq, hopened]
  exact hact

theorem expireLoss_none (h : s.supply.loss = none) : expireLoss s = s := by
  have hact : takeLoss s = s := if_pos (Option.isNone_iff_eq_none.2 h)
  have hopened : openedTank s (takeLoss s) = none := by
    unfold openedTank
    simp [hact]
  unfold expireLoss
  rw [switchWithCycle_eq, hopened]
  exact hact

end Sys2Proof.Machine
end

section
/-! PROOFS. The tank valves the supply waits for (R112, R119, R121), and O41 from its parts. -/

namespace Sys2Proof.Machine

variable {s t x y u v : State} {n m : Tank} {a : Actuator} {b : Bool} {r : Role}

/-! ### A tank valve that arrives -/

/-- A tank valve's record replaced. -/
def withTankValve (n : Tank) (a : Actuator) (s : State) : State := { s with valves := setValve s.valves (tankValve n) a }

theorem withTankValve_valve (n : Tank) (a : Actuator) (s : State) : (withTankValve n a s).valve (tankValve n) = a :=
  valve_setValve ..

theorem withTankValve_other (n : Tank) (a : Actuator) (s : State) :
    (withTankValve n a s).valve (tankValve (otherTank n)) = s.valve (tankValve (otherTank n)) :=
  valve_setValve_ne (tankValve_ne n) s a

/-- A feedback that ends a travel as it was commanded. -/
def Confirms (b : Bool) (a : Actuator) : Prop := (a.state = .opening ∧ b = true) ∨ (a.state = .closing ∧ b = false)

/-- The record of a valve that its feedback shows arrived. -/
def confirmedRecord (b : Bool) (a : Actuator) : Actuator := arrived (if b then .atOpen else .atClosed) .confirmed a

theorem feedbackChange_confirms (h : Confirms b (s.valve (tankValve n))) :
    feedbackChange (tankValve n) b s = withTankValve n (confirmedRecord b (s.valve (tankValve n))) s := by
  unfold feedbackChange
  obtain ⟨hst, rfl⟩ | ⟨hst, rfl⟩ := h <;> rw [hst] <;> rfl

theorem confirmedRecord_state (h : Confirms b a) : (confirmedRecord b a).state ≠ a.state := by
  obtain ⟨hst, rfl⟩ | ⟨hst, rfl⟩ := h <;> simp [hst, confirmedRecord, arrived]

/-- The valve's feedback, handed on, reports the valve that arrives. -/
theorem inputChange_arrives (w : Terminal) (hr : feedbackRole (tankValve n) = some r) (h : Confirms b (s.valve (tankValve n))) :
    inputChange w r b s = supplyOnValve n (withTankValve n (confirmedRecord b (s.valve (tankValve n))) s) :=
  (inputChange_feedback w hr).trans (reportAfter_tank (feedbackChange_confirms h) (confirmedRecord_state h))

/-- The end of a travel reports the valve that arrives. -/
theorem expireTravel_reports (ht : (s.valve (tankValve n)).travel.isSome = true)
    (h : ((s.valve (tankValve n)).state = .opening ∧ feedback s (tankValve n) = none) ∨
      ((s.valve (tankValve n)).state = .closing ∧ feedback s (tankValve n) ≠ some true)) :
    reportAfter (tankValve n) (expireTravel (tankValve n)) s =
      supplyOnValve n (withTankValve n (travelEnded s (tankValve n)) s) := by
  refine reportAfter_tank (expireTravel_arrives ht h) ?_
  obtain ⟨hst, -⟩ | ⟨hst, -⟩ := h <;> simp [hst, travelEnded]

theorem travelEnded_opened (h : (s.valve (tankValve n)).state = .opening) : (travelEnded s (tankValve n)).state = .atOpen :=
  if_pos h

theorem travelEnded_closed (h : (s.valve (tankValve n)).state = .closing) : (travelEnded s (tankValve n)).state = .atClosed :=
  if_neg (by rw [h]; decide)

/-! ### The target that opens (R119, R121) -/

theorem supplyOnValve_settles (hst : s.supply.state = .switching) (hph : s.supply.phase = some .openingTarget)
    (ha : a.state = .atOpen) :
    let u := supplyOnValve s.supply.selected (withTankValve s.supply.selected a s)
    (u.valve (tankValve s.supply.selected)).state = .atOpen ∧ u = { s with
      supply := { s.supply with phase := some .settling, settle := some ⟨5000, 0⟩, targetStuck := false }
      valves := setValve s.valves (tankValve s.supply.selected) (u.valve (tankValve s.supply.selected))
      choices := u.choices, choiceCount := u.choiceCount } := by
  have hv := withTankValve_valve s.supply.selected a s
  have hact := supplyOnValve_target (s := withTankValve s.supply.selected a s) hst hph
  rw [judgeTarget_eq] at hact
  dsimp only at hact
  rw [show (withTankValve s.supply.selected a s).supply.selected = s.supply.selected from rfl, hv, ha, if_neg (by simp),
    if_pos (.inl rfl)] at hact
  dsimp only
  rw [hact, show (startSettling _ (withTankValve s.supply.selected a s)).valve (tankValve s.supply.selected) = a from hv]
  exact ⟨ha, rfl⟩

/-! ### The other tank's valve that closes (R119, R121) -/

theorem supplyOnValve_opensTarget (hst : s.supply.state = .switching) (hph : s.supply.phase = some .closingOther)
    (ha : a.state = .atClosed) :
    supplyOnValve (otherTank s.supply.selected) (withTankValve (otherTank s.supply.selected) a s) =
      openTarget (withTankValve (otherTank s.supply.selected) a s) := by
  have hact := supplyOnValve_other (s := withTankValve (otherTank s.supply.selected) a s) hst hph
  have hclosed : ((withTankValve (otherTank s.supply.selected) a s).valve (tankValve (otherTank s.supply.selected))).state = .atClosed := by
    rw [withTankValve_valve]
    exact ha
  exact hact.trans (judgeOther_closed hclosed)

/-! ### CLOSING_TANK (R112 to R114) -/

theorem supplyOnValve_closingTank (hst : s.supply.state = .draftPriming) (hph : s.supply.phase = some .closingTank) (n : Tank) :
    supplyOnValve n s = judgeClosingTank s := by
  unfold supplyOnValve
  rw [hst]
  exact if_pos hph

theorem bothShut_of (n : Tank) (h : standsClosed (s.valve (tankValve n)) = true)
    (ho : standsClosed (s.valve (tankValve (otherTank n))) = true) : BothShut s := by
  cases n
  · exact ⟨h, ho⟩
  · exact ⟨ho, h⟩

theorem not_holdsTank_of (h : BothShut s) : ¬HoldsTank s := by
  have hno : ∀ a, standsClosed a = true → stuckOpen a ≠ true := fun a hc hs => by
    obtain ⟨hf, hsc⟩ := (stuckOpen_iff a).1 hs
    obtain hcl | ⟨-, hoc⟩ := (standsClosed_iff a).1 hc
    · rw [hf] at hcl
      exact absurd hcl (by decide)
    · rw [hsc] at hoc
      exact absurd hoc (by decide)
  rintro (hm | hr)
  · exact hno _ h.1 hm
  · exact hno _ h.2 hr

theorem holdsTank_of (n : Tank) (h : stuckOpen (s.valve (tankValve n)) = true) : HoldsTank s := by
  cases n
  · exact .inl h
  · exact .inr h

/-- A prime as its last tank valve arrives. -/
structure Primed (n : Tank) (s u : State) : Prop where
  valve : (u.valve (tankValve n)).state = .atClosed
  supply : u.supply = primingRecord s
  outputs : u.outputs = { s.outputs with primer := ⟨true, none⟩ }
  override : s.drive.pto = .engaged → .priming ∈ u.governor.overrides
  shadow : u.governor.shadow = s.governor.shadow

theorem supplyOnValve_primes (hst : s.supply.state = .draftPriming) (hph : s.supply.phase = some .closingTank)
    (ha : a.state = .atClosed)
    (ho : (s.valve (tankValve (otherTank n))).state = .atClosed ∨ ((s.valve (tankValve (otherTank n))).state = .fault ∧
      (s.valve (tankValve (otherTank n))).fault = some .noOpen)) :
    Primed n s (supplyOnValve n (withTankValve n a s)) := by
  have hshut : BothShut (withTankValve n a s) := by
    refine bothShut_of n ?_ ?_
    · rw [withTankValve_valve]
      exact (standsClosed_iff a).2 (.inl ha)
    · rw [withTankValve_other]
      exact (standsClosed_iff _).2 ho
  obtain ⟨h₁, h₂, h₃, h₄, -, h₆⟩ := startPriming_spec (withTankValve n a s)
  rw [supplyOnValve_closingTank (by exact hst) (by exact hph), judgeClosingTank_primes (not_holdsTank_of hshut) hshut]
  refine ⟨?_, h₁, h₂, h₃, h₆⟩
  rw [h₄, withTankValve_valve]
  exact ha

theorem feedKeeps_valveCause : FeedKeeps fun s => .valve ∈ s.alarm.causes where
  moves h hs := (h.stands.cause .valve (by decide) (by decide) (by decide)).2 hs
  fill n hs := ((moves_fill_self n _).1.stands.cause .valve (by decide) (by simp [fillParts]) (by simp [fillParts])).2 hs
  force n hs := ((moves_fill_self n _).2.stands.cause .valve (by decide) (by simp [fillParts]) (by simp [fillParts])).2 hs
  valve _ _ _ hs := hs
  supply _ hs := hs
  begins hs := ((moves_override_self .switchover _).1.stands.cause .valve (by decide) (by decide) (by decide)).2 hs
  ends hs := ((moves_override_self .switchover _).2.stands.cause .valve (by decide) (by decide) (by decide)).2 hs

/-- A prime abandoned keeps what the way to a tank keeps. -/
theorem FeedKeeps.abandons {P : State → Prop} (h : FeedKeeps P) (c : PrimeCause)
    (hs : P (recordPrimeFailed c s.supply.phase (primeEnded s))) : P (abandonPrime c s) := by
  rw [abandonPrime_eq]
  exact h.returnToTank hs

/-- A prime that a valve STUCK_OPEN fails. -/
theorem supplyOnValve_fails (hst : s.supply.state = .draftPriming) (hph : s.supply.phase = some .closingTank)
    (hf : (s.valve (tankValve n)).state = .fault) (hc : (s.valve (tankValve n)).fault = some .stuckOpen)
    (ha : .valve ∈ s.alarm.causes) :
    let u := supplyOnValve n s
    (u.valve (tankValve n)).state = .fault ∧ (u.valve (tankValve n)).fault = some .stuckOpen ∧ .valve ∈ u.alarm.causes ∧
    u.supply.state ≠ .draftPriming ∧ u.supply.state ≠ .idle ∧ u.outputs.primer = ⟨false, none⟩ ∧ u.supply.primeHeld = false := by
  have hheld : HoldsTank s := holdsTank_of n ((stuckOpen_iff _).2 ⟨hf, hc⟩)
  have hu := abandonPrime_unprimed .valve s
  have hended : SameFeed s (recordPrimeFailed .valve s.supply.phase (primeEnded s)) :=
    (sameFeed_primeEnded s).trans (sameFeed_record ..)
  have halarm : (recordPrimeFailed .valve s.supply.phase (primeEnded s)).alarm = s.alarm :=
    (record_causes ..).trans (congrArg State.alarm (primeEnded_spec s).1 :)
  have hvalve := (feedKeeps_fault n .stuckOpen).abandons (s := s) .valve (by rw [hended.valve]; exact ⟨hf, hc⟩)
  have hcause := feedKeeps_valveCause.abandons (s := s) .valve (by rw [halarm]; exact ha)
  dsimp only
  rw [supplyOnValve_closingTank hst hph, judgeClosingTank_fails hheld]
  refine ⟨hvalve.1, hvalve.2, hcause, ?_, ?_, by rw [hu.outputs], hu.primeHeld⟩
  · obtain h | h | h := hu.bound <;> rw [h] <;> decide
  · obtain h | h | h := hu.bound <;> rw [h] <;> decide

/-! ### The activity timer (R116) -/

theorem expireActivity_spec (h : s.supply.activity.isSome = true) :
    let u := expireActivity s
    .limiter ∈ u.alarm.causes ∧
    u = { s with supply := { s.supply with activity := none }, alarm := u.alarm, notices := u.notices, tx := u.tx } ∧
    u.notices = (record .limiterActive
      { value := some s.supply.floor, cause := some (.supplyState s.supply.state) } s).notices := by
  have hact : expireActivity s = addAlarm .limiter (record .limiterActive
      { value := some s.supply.floor, cause := some (.supplyState s.supply.state) }
      { s with supply := { s.supply with activity := none } }) := by
    unfold expireActivity
    rw [ite_isNone, if_pos h]
    rfl
  have hmem : .limiter ∈ (expireActivity s).alarm.causes := by
    rw [hact]
    exact (mem_addAlarm ..).2 (.inl rfl)
  have hrecord := record_with (s := s) (t := { s with supply := { s.supply with activity := none } }) .limiterActive
    { value := some s.supply.floor, cause := some (.supplyState s.supply.state) } rfl rfl rfl rfl
  rw [hrecord] at hact
  obtain ⟨a, ha⟩ := addAlarm_exists .limiter _
  dsimp only
  refine ⟨hmem, ?_, ?_⟩ <;> rw [hact, ha]

/-- Settles O41. -/
theorem supplyTimersAct : Obligations.SupplyTimersAct := by
  refine ⟨fun s hp ht => ?_, fun s hp ht hno => ?_, fun s hp ht hq he hh heng => ?_, fun s hp ht hq hr hsel hm hres hh heng => ?_,
    fun s n p e ht hq hn hstage hphase hcycle hle hperm => ?_, fun s hp ht => ?_, fun s c hp h => ?_,
    fun s v hp ht hun h => ?_, fun s hp hst hph hop => ?_, fun s hst hph hcl hcmd hacmd w r hr => ⟨fun hac hfb => ?_, fun haf hac => ?_⟩,
    fun s n hp hst hph hcl => ⟨fun ho heng hno => ?_, fun ht hfb => ?_⟩⟩
  · have hact := expireSettle_eq (s := s.fresh) ht
    have hsup := switchSettled_supply s.fresh
    have hfeed := sameFeed_switchSettled s.fresh
    have hended : s.supply.switchHeld = true → .switchover ∉ (switchSettled s.fresh).governor.overrides := fun h =>
      endSwitchover_ended (by rw [setSupply_tank_supply]; exact h)
    generalize switchSettled s.fresh = x at *
    have hvalve : ∀ n, (record .switchoverDone
        { subject := some (.tank s.fresh.supply.selected), old := some (.supply s.fresh.supply.switchFrom), new := some (.supply .tank)
          cause := some (.confirmation (switchCause s.fresh)) } x).valve (tankValve n) = s.valve (tankValve n) := fun n =>
      ((sameFeed_record ..).valve n).trans (hfeed.valve n)
    refine ⟨_, x, exec_leaves hp rfl hact, by rw [switchCause_eq]; rfl, hfeed.disabled, hfeed.clock, ?_⟩
    rw [record_supply, record_governor, hsup]
    refine ⟨rfl, rfl, rfl, rfl, rfl, rfl, hended, fun v hv => ?_⟩
    obtain rfl | rfl := hv
    · exact hvalve .main
    · exact hvalve .reserve
  · have ho := lossOutcome_none (s := s.fresh) hno
    have hact := (expireLoss_stays (s := s.fresh) ht ho).trans (lossTaken_eq s.fresh)
    dsimp only at hact
    rw [ho] at hact
    obtain ⟨hn, hx⟩ := record_congr (s := s) (t := s.fresh) .supplyLost
      { old := some (.supply s.supply.state), value := some (s.published .intakeP), cause := some (.loss .none) } rfl rfl rfl rfl
    refine exec_leaves hp rfl (hact.trans ?_)
    dsimp only
    rw [← hn, ← hx]
    rfl
  · obtain ⟨hfast, hbegun, hgoes⟩ := expireLoss_turns (s := s.fresh) ht hq (.inl ⟨rfl, he⟩) hh heng
    exact ⟨_, exec_on hp rfl, hfast, hgoes, hbegun.selected, hbegun⟩
  · obtain ⟨hfast, hbegun, hgoes⟩ := expireLoss_turns (s := s.fresh) ht hq (.inr ⟨rfl, hsel, hr, hm, hres⟩) hh heng
    exact ⟨_, exec_on hp rfl, hfast, hbegun.selected, hbegun, hgoes⟩
  · have hdue : cycleDue s n = true := (cycleDue_iff s n).2 ⟨hstage, hphase, by rw [hcycle]; exact isDue_of_le hle, hperm⟩
    obtain ⟨-, hheld, hlast⟩ := switchWithCycle_target (switch := takeLoss) hdue (fun x hx => takeLoss_turned ht hq hn hx)
      fun x hx => takeLoss_held (by rwa [hx.supply]) (by rwa [hx.sameSupply.param]) (hx.lossTarget hn) (hx.running (.inr (.inl hstage)))
    exact ⟨fun hp => exec_on hp rfl, hheld.stage, hheld.fillOpen, hheld.valve, hlast⟩
  · obtain ⟨hmem, hframe, hnotices⟩ := expireActivity_spec (s := s.fresh) ht
    exact ⟨_, exec_on hp rfl, hmem, hframe, hnotices.trans (record_congr (s := s) (t := s.fresh) _ _ rfl rfl rfl rfl).1⟩
  · obtain ⟨rfl, ht⟩ | ⟨rfl, ht⟩ | ⟨rfl, ht⟩ := h
    · exact exec_leaves hp rfl (if_pos (Option.isNone_iff_eq_none.2 ht))
    · exact exec_leaves hp rfl (expireLoss_none (s := s.fresh) ht)
    · exact exec_leaves hp rfl (if_pos (Option.isNone_iff_eq_none.2 ht))
  · exact exec_leaves hp rfl (reportAfter_unwatched (s := s.fresh) (al := s.alarm) hun (expireTravel_arrives (s := s.fresh) ht h)
      fun hf => absurd hf (travelEnded_state s.fresh v))
  · dsimp only
    refine ⟨fun w r hr => ?_, fun ht hfb => ?_, fun ht hfb htries => ?_⟩
    · rw [inputChange_arrives w hr (.inl ⟨hop, rfl⟩)]
      exact supplyOnValve_settles hst hph rfl
    · exact ⟨_, exec_leaves hp rfl (expireTravel_reports (s := s.fresh) ht (.inl ⟨hop, hfb⟩)),
        supplyOnValve_settles (s := s.fresh) hst hph (travelEnded_opened (s := s.fresh) hop)⟩
    · have hact := reportAfter_fault (s := s.fresh) (c := .noOpen) ht (.inl ⟨hop, by rw [show feedback s.fresh _ = _ from hfb]; simp,
        by rw [show (s.fresh.valve _).tries = 2 from htries]; decide, rfl⟩)
      obtain ⟨hframe, -, -⟩ := enterValveFault_spec (tankValve s.supply.selected) .noOpen s.fresh
      have hvalve := enterValveFault_valve (tankValve s.supply.selected) .noOpen s.fresh
      generalize enterValveFault (tankValve s.supply.selected) .noOpen s.fresh = y at *
      have hsup : y.supply = s.supply := (congrArg State.supply hframe :)
      rw [← hsup] at hvalve hst hph
      rw [← hsup, supplyOnValve_target hst hph, judgeTarget_eq] at hact
      dsimp only at hact
      rw [hvalve, if_pos ⟨rfl, rfl⟩] at hact
      have hex := enterNoSupply_exhausted .valveFault (.refl y)
      have hclosed := Exhausted.closed hex y.supply.selected
      obtain ⟨h₁, -, -, -, -, -, -, h₈, h₉, -⟩ := hex
      exact ⟨_, exec_leaves hp rfl (by rw [← hsup]; exact hact), h₁, h₉, by rw [← hsup]; exact hclosed, h₈⟩
  · have hact := (inputChange_arrives w hr (.inr ⟨hcl, rfl⟩)).trans (supplyOnValve_opensTarget hst hph rfl)
    have hv := withTankValve_valve (otherTank s.supply.selected) (confirmedRecord false (s.valve (tankValve (otherTank s.supply.selected)))) s
    have hw := withTankValve_other (otherTank s.supply.selected) (confirmedRecord false (s.valve (tankValve (otherTank s.supply.selected)))) s
    rw [otherTank_otherTank] at hw
    dsimp only
    rw [hact]
    generalize hy : withTankValve (otherTank s.supply.selected) _ s = y at *
    have hysup : y.supply = s.supply := by rw [← hy]; rfl
    have hyfb : feedback y (tankValve s.supply.selected) = feedback s (tankValve s.supply.selected) := by rw [← hy]; rfl
    obtain ⟨h₁, h₂, h₃⟩ := openTarget_opens (s := y) (n := s.supply.selected) (by rw [hysup]) (by rw [hv]; exact hcmd)
      (by rw [hw, hac]; simp)
    obtain ⟨hopens, -⟩ := openedValve_opens (s := y) (n := s.supply.selected) (by rw [hw]; exact hacmd) (by rw [hw, hac]; decide)
      (by rw [hyfb]; exact hfb)
    rw [if_neg (by rw [hopens, hw, hac]; decide), hysup] at h₃
    refine ⟨?_, h₃, ?_, ?_⟩
    · rw [h₂, hv]
      rfl
    · rw [h₁]
      exact openedValve_openCmd ..
    · rw [h₁]
      exact hopens
  · have hact := (inputChange_arrives w hr (.inr ⟨hcl, rfl⟩)).trans (supplyOnValve_opensTarget hst hph rfl)
    have hv := withTankValve_valve (otherTank s.supply.selected) (confirmedRecord false (s.valve (tankValve (otherTank s.supply.selected)))) s
    have hw := withTankValve_other (otherTank s.supply.selected) (confirmedRecord false (s.valve (tankValve (otherTank s.supply.selected)))) s
    rw [otherTank_otherTank] at hw
    dsimp only
    rw [hact]
    generalize hy : withTankValve (otherTank s.supply.selected) _ s = y at *
    have hysup : y.supply = s.supply := by rw [← hy]; rfl
    obtain ⟨h₁, h₂, h₃⟩ := openTarget_opens (s := y) (n := s.supply.selected) (by rw [hysup]) (by rw [hv]; exact hcmd)
      (by rw [hw, hac]; simp)
    rw [if_pos (.inr (by rw [hw]; exact haf)), hysup, hw, decide_eq_true haf] at h₃
    refine ⟨?_, ?_, h₃⟩
    · rw [h₂, hv]
      rfl
    · rw [h₁]
      exact openedValve_openCmd ..
  · dsimp only
    refine ⟨fun w r hr => ?_, fun ht hfb => ?_⟩
    · have hu := supplyOnValve_primes (a := confirmedRecord false (s.valve (tankValve n))) hst hph rfl ho
      rw [inputChange_arrives w hr (.inr ⟨hcl, rfl⟩)]
      exact ⟨hu.valve, hu.supply, hu.outputs, hu.override heng, hu.shadow⟩
    · have hu := supplyOnValve_primes (s := s.fresh) hst hph (travelEnded_closed (s := s.fresh) hcl) ho
      exact ⟨_, exec_leaves hp rfl (expireTravel_reports (s := s.fresh) ht (.inr ⟨hcl, hfb⟩)), hu.valve, hu.supply, hu.outputs,
        hu.override heng, hu.shadow⟩
  · have hact := reportAfter_fault (s := s.fresh) (c := .stuckOpen) ht (.inr ⟨hcl, hfb, rfl⟩)
    obtain ⟨hframe, hmem, -⟩ := enterValveFault_spec (tankValve n) .stuckOpen s.fresh
    have hvalve := enterValveFault_valve (tankValve n) .stuckOpen s.fresh
    generalize enterValveFault (tankValve n) .stuckOpen s.fresh = y at *
    have hsup : y.supply = s.supply := (congrArg State.supply hframe :)
    exact ⟨_, exec_leaves hp rfl hact, supplyOnValve_fails (by rw [hsup]; exact hst) (by rw [hsup]; exact hph) (by rw [hvalve]; rfl)
      (by rw [hvalve]; rfl) hmem⟩

end Sys2Proof.Machine
end

section
/-! PROOFS. O25 from its parts (R82, R83). -/

namespace Sys2Proof.Machine

variable {s t : State} {x : Setting} {K : List Part} {b : Bool}

/-! ### The pair in IDLE -/

theorem feedKeeps_pairIdle : FeedKeeps PairIdle where
  moves h hs := h.pairIdle (by decide) hs
  fill n hs := (moves_fill_self n _).1.pairIdle (by simp [fillParts]) hs
  force n hs := (moves_fill_self n _).2.pairIdle (by simp [fillParts]) hs
  valve _ _ _ hs := hs
  supply _ hs := hs
  begins hs := (moves_override_self .switchover _).1.pairIdle (by decide) hs
  ends hs := (moves_override_self .switchover _).2.pairIdle (by decide) hs

/-- A derivation with the shadow in IDLE (R83, R94). -/
theorem derivePair_writeIdle (s : State) :
    let u := derivePair (writeShadow .idle s)
    u = { s with governor := u.governor } ∧ PairIdle u ∧ u.governor.source = .shadow ∧
    u.governor.overrides = s.governor.overrides ∧ u.governor.demand = s.governor.demand ∧ u.governor.frozen = false := by
  have hsource : governingSource (writeShadow .idle s).governor = .shadow := governingSource_shadow (.inl rfl)
  have hactive := derivePair_active (writeShadow .idle s)
  rw [derivedPair_shadow _ hsource] at hactive
  obtain ⟨frozen, reseed, h⟩ := derivePair_frame (writeShadow .idle s)
  refine ⟨?_, ⟨derivePair_shadow _, hactive⟩, (derivePair_source _).trans hsource, derivePair_overrides _, ?_, ?_⟩
  · rw [h]
    rfl
  · rw [h]
    rfl
  · cases hf : s.governor.frozen with
    | false => exact deriveFreeze_unfrozen hf
    | true =>
      obtain ⟨-, -, -, -, -, hfreeze⟩ := activePairFollowsTheOverrides (writeShadow .idle s)
      refine (hfreeze hf).trans ?_
      rw [hactive]
      rfl

theorem takeIdle_derives (h : ¬(.priming ∈ s.governor.overrides ∧ s.supply.state = .draftPriming)) :
    takeIdle s = derivePair (writeShadow .idle s) := if_neg h

theorem abandonPrime_pairIdle (c : PrimeCause) (h : PairIdle s) : PairIdle (abandonPrime c s) := by
  refine feedKeeps_pairIdle.abandons c ?_
  have hended : PairIdle (primeEnded s) :=
    (moves_endPriming_self (setPrimer false (s.modSupply fun x => { x with primerLimit := none, prime := none }))).pairIdle
      (by decide) (by exact h)
  exact (moves_record (K := [.notices]) (b := true) (by decide) (.refl ..)).pairIdle (by decide) hended

theorem not_fallsBack (h : x.isPressure = false ∨ s.drive.pto ≠ .engaged ∨ s.healthOf .dischargeP ≠ .failed) : ¬FallsBack x s := by
  rintro ⟨hp, he, hf⟩
  obtain h | h | h := h
  · rw [hp] at h
    exact absurd h (by decide)
  · exact h he
  · exact h hf

/-- A shadow write that begins no fallback records nothing. -/
theorem takeShadow_quiet (h : ¬FallsBack x s) : (takeShadow x s).notices = s.notices ∧ (takeShadow x s).tx = s.tx := by
  obtain ⟨_, _, hderive⟩ := derivePair_frame (writeShadow x s)
  rw [takeShadow_idle (.inl h), hderive]
  exact ⟨rfl, rfl⟩

/-- Settles O25. -/
theorem stepAndIdleRequests : Obligations.StepAndIdleRequests := by
  refine ⟨fun s tag d hs hd => ?_, fun s tag hs hsh => ?_, fun s tag d x kept hs ho hnot hj hx => ?_,
    fun s tag d x kept hs hx hraise hj => ?_, fun s tag d x kept hs hx htaken => ?_, fun s n x kept hx hn => not_isRaise_stepDown hx hn,
    fun s tag hs hno => ?_, fun s tag hs hpri hst => ?_⟩
  · refine exec_of_act_unchanged (r := .step d) rfl rfl rfl hs ?_
    show actStep d _ = _
    unfold actStep
    split
    · omega
    · omega
    · rfl
  · refine exec_of_act_unchanged (r := .step 1) rfl rfl rfl hs ?_
    show stepDown _ = _
    unfold stepDown
    rw [show (holdRequest 24 tag s.fresh).governor.shadow = .idle from hsh]
    rfl
  · obtain ⟨u, hexec, hframe, hg, hn, htx⟩ := exec_shadow (i := .step tag d) (r := .step d) (code := 24) rfl rfl rfl hs
      (actStep_eq (by exact hx)) (.inr hj) (stepsTo_ne_idle hx)
    have hfree : ¬FallsBack x (holdRequest 24 tag s.fresh) := not_fallsBack hnot
    obtain ⟨hov, hactive, hsource⟩ := takeShadow_free hfree (by exact ho)
    obtain ⟨hquiet, hquiet'⟩ := takeShadow_quiet hfree
    obtain ⟨g, n, y, hkept, -, htake⟩ := takeShadow_frame x (holdRequest 24 tag s.fresh)
    have hgov : u.governor = g := hg.trans (congrArg State.governor htake)
    rw [show u.governor.overrides = [] from (congrArg Governor.overrides hg).trans hov, if_neg (by simp)] at hexec
    refine ⟨u, ?_, ?_, ?_, (congrArg Governor.active hg).trans hactive, (congrArg Governor.source hg).trans hsource, ?_⟩
    · cases kept <;> exact hexec
    · have hnotices : u.notices = s.notices := hn.trans hquiet
      have hsent : u.tx = s.tx := htx.trans hquiet'
      rw [hnotices, hsent] at hframe
      exact hframe
    · rw [hgov, hkept]
    · rw [hgov, hkept]
      rfl
  · refine exec_refused (i := .step tag d) (r := .step d) (code := 24) rfl rfl rfl hs ?_ hj
    have hact : act (.step d) (holdRequest 24 tag s.fresh) = _ := actStep_eq (by exact hx)
    rw [hact]
    exact guardedBy_writeSetting _ hraise
  · obtain ⟨u, hexec, hframe, hg, -, -⟩ := exec_shadow (i := .step tag d) (r := .step d) (code := 24) rfl rfl rfl hs
      (actStep_eq (by exact hx)) htaken (stepsTo_ne_idle hx)
    obtain ⟨g, n, y, hkept, -, htake⟩ := takeShadow_frame x (holdRequest 24 tag s.fresh)
    have hgov : u.governor = g := hg.trans (congrArg State.governor htake)
    refine ⟨u, ?_, hframe, ?_, ?_, ?_, fun k => ?_, fun k hk hsrc hmin => ?_⟩
    · cases kept <;> exact hexec
    · rw [hgov, hkept]
    · rw [hgov, hkept]
      rfl
    · rw [hgov, hkept]
      rfl
    · rw [hg]
      exact takeShadow_overrides x (holdRequest 24 tag s.fresh) k
    · rw [hg] at hk hmin ⊢
      exact takeShadow_kept (stepsTo_ne_idle hx) hk hsrc hmin
  · have hact := takeIdle_derives (s := holdRequest 25 tag s.fresh) hno
    obtain ⟨hframe, hpair, hsource, hov, hdem, hfr⟩ := derivePair_writeIdle s.fresh
    refine ⟨_, exec_blind (r := .idle) (f := fun s => derivePair (writeShadow .idle s)) (body := setpointBytes) rfl rfl rfl hs
      (blind_derivePair.comp (blind_write _ fun _ _ _ => ⟨rfl, rfl, rfl⟩)) (fun _ _ => rfl) ?_, hframe, hpair.1, hpair.2, hsource, hov, hdem, hfr⟩
    show actIdle _ = _
    unfold actIdle
    rw [hact]
  · have hexec := exec_idle_aborts (tag := tag) hs hpri hst
    have hu := abandonPrime_unprimed .operatorIdle (derivePair (writeShadow .idle s.fresh))
    obtain ⟨-, hpair, -, -, -, -⟩ := derivePair_writeIdle s.fresh
    obtain ⟨hsh, hact⟩ := abandonPrime_pairIdle .operatorIdle hpair
    unfold idleAborts at hexec
    refine ⟨_, hexec, hsh, hact, by rw [hu.outputs], hu.primeHeld, hu.prime, hu.primerLimit, ?_, ?_⟩
    · obtain h | h | h := hu.bound <;> rw [h] <;> decide
    · obtain h | h | h := hu.bound <;> rw [h] <;> decide

end Sys2Proof.Machine
end

section
/-! PROOFS. An estimate moved by a gate and ended by its settle timer (R134, R136 to R138). -/

namespace Sys2Proof.Machine

variable {s t : State} {n m : Tank} {inc : Nat} {f : Option Tank}

/-! ### The end of an estimate (R137, R138) -/

/-- A tank's record as its estimate ends (R137). -/
def estimateEnded (s : State) (n : Tank) (r : TankRecord) : TankRecord :=
  { r with
    headKnown := true, recon := (endingRecord s n).orElse fun _ => r.recon, estimating := none, frozen := none
    estimate := none, settle := none, volume := some (measuredVolume s n) }

/-- The state with a tank's estimate ended, its level evaluated and its permission reviewed. -/
def settledTank (n : Tank) (s : State) : State := reviewFill n (evaluateLevel n (s.modTank n (estimateEnded s n)))

theorem expireTankSettle_settles (h : (s.tank n).settle.isSome = true) :
    expireTankSettle n s = recordReconciled n (endingRecord s n) (settledTank n s) :=
  if_neg (by simpa [Option.isSome_iff_ne_none] using h)

theorem expireTankSettle_none (h : (s.tank n).settle = none) : expireTankSettle n s = s :=
  if_pos (Option.isNone_iff_eq_none.2 h)

theorem stands_settledTank (n : Tank) (s : State) :
    Stands (.enter :: levelParts n) (s.modTank n (estimateEnded s n)) (settledTank n s) :=
  (moves_reviewFill (b := false) (by cases n <;> decide)
    (moves_evaluateLevel (List.subset_cons_self ..) (.inl List.mem_cons_self) (.refl ..))).stands

theorem nextLevel_ne_unknown {v : Nat} (h : (s.tank n).volume = some v) : nextLevel s n ≠ .unknown := by
  rw [Ne, ← nextLevel_eq_unknown, h]
  simp

theorem settledTank_tank (n : Tank) (s : State) :
    ((settledTank n s).tank n).volume = some (measuredVolume s n) ∧ ((settledTank n s).tank n).state ≠ .unknown ∧
    ((settledTank n s).tank n).table = (s.tank n).table ∧
    ((settledTank n s).tank n).readings = (estimateEnded s n (s.tank n)).readings := by
  have hreview := (moves_reviewFill (b := false) (t := n) (List.Subset.refl _)
    (.refl _ _ (evaluateLevel n (s.modTank n (estimateEnded s n))))).stands
  obtain ⟨hst, hv, htab, hread⟩ := setLevel_level n (nextLevel (s.modTank n (estimateEnded s n)) n)
    (s.modTank n (estimateEnded s n))
  obtain ⟨hvolume, hstate⟩ := hreview.level n (by cases n <;> decide)
  have htank : (s.modTank n (estimateEnded s n)).tank n = estimateEnded s n (s.tank n) := tank_modTank_same ..
  refine ⟨hvolume.trans (hv.trans (congrArg TankRecord.volume htank)), ?_,
    (hreview.tables n (by cases n <;> decide)).trans (htab.trans (congrArg TankRecord.table htank :)),
    (hreview.readings n (by cases n <;> decide)).trans (hread.trans (congrArg TankRecord.readings htank))⟩
  exact fun h => nextLevel_ne_unknown (congrArg TankRecord.volume htank) (hst.symm.trans (hstate.symm.trans h))

theorem endingRecord_some {c : EstimateCause} {e : Nat} (hc : (s.tank n).estimating = some c)
    (he : (s.tank n).estimate = some e) : endingRecord s n = some (reconcile s n e (measuredVolume s n) c) := by
  rw [endingRecord, hc, he]

theorem endingRecord_none (he : (s.tank n).estimate = none) : endingRecord s n = none := by
  rw [endingRecord, he]

/-! ### A gate on an estimate (R134, R136) -/

/-- An estimate after a gate. -/
def gateLeft (f : Option Tank) (inc : Nat) (n : Tank) (e : Nat) : Nat := if f = some n then e - inc else e

theorem gateTank_none (h : (s.tank n).estimating = none ∨ (s.tank n).estimate = none) : gateTank f inc n s = s := by
  obtain h | h := h
  · exact if_pos (Option.isNone_iff_eq_none.2 h)
  · unfold gateTank
    rw [h]
    exact ite_self s

theorem gateTank_some {e : Nat} (hest : (s.tank n).estimating.isSome = true) (he : (s.tank n).estimate = some e) :
    gateTank f inc n s = evaluateLevel n (s.modTank n fun r =>
      { r with estimate := some (gateLeft f inc n e), volume := some (gateLeft f inc n e / 1000) }) := by
  unfold gateTank
  rw [he]
  exact if_neg (by simpa [Option.isSome_iff_ne_none] using hest)

/-- What a gate reads of a tank, and leaves in the tanks it does not estimate. -/
def SameLevel (n : Tank) (s t : State) : Prop :=
  (t.tank n).volume = (s.tank n).volume ∧ (t.tank n).state = (s.tank n).state ∧ (t.tank n).table = (s.tank n).table ∧
  (t.tank n).readings = (s.tank n).readings ∧ t.params = s.params

theorem SameLevel.trans {u : State} (h : SameLevel n s t) (g : SameLevel n t u) : SameLevel n s u := by
  obtain ⟨hv, hs, ht, hr, hp⟩ := h
  obtain ⟨gv, gs, gt, gr, gp⟩ := g
  exact ⟨gv.trans hv, gs.trans hs, gt.trans ht, gr.trans hr, gp.trans hp⟩

theorem sameLevel_addTotal (k : Totaliser) (inc : Nat) (s : State) : SameLevel n s (addTotal k inc s) := by
  have hst := (moves_addTotal (K := [.totals, .notices]) (b := false) (k := k) (inc := inc) (by simp) (by simp)
    (.refl _ _ s)).stands
  obtain ⟨hv, hs⟩ := hst.level n (by simp)
  exact ⟨hv, hs, hst.tables n (by simp), hst.readings n (by simp), hst.params⟩

theorem sameLevel_gateTank_other (h : m ≠ n) (s : State) : SameLevel n s (gateTank f inc m s) := by
  have hkey : ∀ g : TankRecord → TankRecord, SameLevel n s (evaluateLevel m (s.modTank m g)) := by
    intro g
    have hst := stands_evaluateLevel m (s.modTank m g)
    have htank : (s.modTank m g).tank n = s.tank n := (tank_modTank ..).trans (if_neg (Ne.symm h))
    obtain ⟨hv, hs⟩ := hst.level n (by revert h; cases n <;> cases m <;> decide)
    have htab := hst.tables n (by cases m <;> decide)
    have hread := hst.readings n (by cases m <;> decide)
    rw [htank] at hv hs htab hread
    exact ⟨hv, hs, htab, hread, hst.params⟩
  unfold gateTank
  dsimp only
  split
  · exact ⟨rfl, rfl, rfl, rfl, rfl⟩
  · split
    · exact ⟨rfl, rfl, rfl, rfl, rfl⟩
    · exact hkey _

theorem sameLevel_gateAct {d : Totaliser ⊕ Tank} (h : d ≠ .inr n) (s : State) : SameLevel n s (gateAct f inc d s) := by
  cases d with
  | inl k => exact sameLevel_addTotal k inc s
  | inr m => exact sameLevel_gateTank_other (fun hm => h (congrArg Sum.inr hm)) s

theorem sameLevel_foldl_gateAct (l : List (Totaliser ⊕ Tank)) (h : .inr n ∉ l) (s : State) :
    SameLevel n s (l.foldl (fun x d => gateAct f inc d x) s) := by
  induction l generalizing s with
  | nil => exact ⟨rfl, rfl, rfl, rfl, rfl⟩
  | cons d l ih =>
    obtain ⟨hd, hl⟩ := not_or.1 (mt List.mem_cons.2 h)
    exact (sameLevel_gateAct (Ne.symm hd) s).trans (ih hl _)

/-- Of a gate's parts one acts on a tank, and acts once, whatever the order. -/
theorem takeIncrement_tank (inc : Nat) (n : Tank) (s : State) : ∃ x, SameLevel n s x ∧
    SameLevel n (gateTank (feedingTank s) inc n x) (takeIncrement inc s) := by
  have hperm := arrange_perm s.choices gateKeys
  have hnodup : (arrange s.choices gateKeys).Nodup := hperm.nodup_iff.2 (by decide)
  have hin : .inr n ∈ arrange s.choices gateKeys := hperm.mem_iff.2 (by cases n <;> simp [gateKeys])
  obtain ⟨before, after, hsplit⟩ := List.append_of_mem hin
  rw [hsplit, List.nodup_middle, List.nodup_cons, List.mem_append, not_or] at hnodup
  obtain ⟨⟨hbefore, hafter⟩, -⟩ := hnodup
  rw [takeIncrement_eq, hsplit, List.foldl_append, List.foldl_cons]
  exact ⟨_, sameLevel_foldl_gateAct before hbefore (s.modChoices (·.drop 4)), sameLevel_foldl_gateAct after hafter _⟩

/-- A tank with no estimate, or none that a gate moves, keeps its volume, state and estimate through a gate. -/
theorem takeIncrement_unestimated (h : (s.tank n).estimating = none ∨ (s.tank n).estimate = none) :
    SameLevel n s (takeIncrement inc s) := by
  obtain ⟨x, hx, hlast⟩ := takeIncrement_tank inc n s
  have hread : (x.tank n).readings = (s.tank n).readings := hx.2.2.2.1
  simp only [TankRecord.readings, Prod.mk.injEq] at hread
  obtain ⟨-, -, hest, -, he, -⟩ := hread
  rw [gateTank_none (by rwa [hest, he])] at hlast
  exact hx.trans hlast

/-- A gate takes its volume off the estimate of the tank that feeds, and evaluates the tank at what is left. -/
theorem takeIncrement_estimate {e : Nat} (hest : (s.tank n).estimating.isSome = true) (he : (s.tank n).estimate = some e) :
    ((takeIncrement inc s).tank n).estimate = some (gateLeft (feedingTank s) inc n e) ∧
    ((takeIncrement inc s).tank n).volume = some (gateLeft (feedingTank s) inc n e / 1000) ∧
    ((takeIncrement inc s).tank n).estimating = (s.tank n).estimating ∧
    ((takeIncrement inc s).tank n).state =
      nextLevel (s.modTank n fun r => { r with volume := some (gateLeft (feedingTank s) inc n e / 1000) }) n := by
  obtain ⟨x, ⟨-, hstx, htabx, hreadx, hparams⟩, hlast⟩ := takeIncrement_tank inc n s
  simp only [TankRecord.readings, Prod.mk.injEq] at hreadx
  obtain ⟨-, -, hestx, -, hex, -⟩ := hreadx
  rw [gateTank_some (hestx ▸ hest) (hex.trans he)] at hlast
  generalize gateLeft (feedingTank s) inc n e = left at hlast ⊢
  obtain ⟨hv, hst, -, hread, -⟩ := hlast
  obtain ⟨hst', hv', -, hread'⟩ := setLevel_level n (nextLevel (x.modTank n fun r =>
    { r with estimate := some left, volume := some (left / 1000) }) n) (x.modTank n fun r =>
    { r with estimate := some left, volume := some (left / 1000) })
  replace hread := hread.trans hread'
  replace hv := hv.trans hv'
  rw [tank_modTank_same] at hread hv
  simp only [TankRecord.readings, Prod.mk.injEq] at hread
  obtain ⟨-, -, hestu, -, heu, -⟩ := hread
  refine ⟨heu, hv, hestu.trans hestx, (hst.trans hst').trans (nextLevel_congr hparams ?_ ?_ ?_)⟩
  · rw [tank_modTank_same, tank_modTank_same]
    exact htabx
  · rw [tank_modTank_same, tank_modTank_same]
  · rw [tank_modTank_same, tank_modTank_same]
    exact hstx

theorem feedingTank_eq_some : feedingTank s = some n ↔ s.supply.selected = n ∧ (s.supply.state = .tank ∨
    (s.supply.state = .switching ∧ (s.supply.phase = some .openingTarget ∨ s.supply.phase = some .settling))) := by
  unfold feedingTank
  split
  · next h => simp [h]
  · next h hp => simp [h, hp]
  · next h hp => simp [h, hp]
  · next htank hopening hsettling =>
    refine iff_of_false (by simp) ?_
    rintro ⟨-, h | ⟨h, hp | hp⟩⟩
    · exact htank h
    · exact hopening h hp
    · exact hsettling h hp

theorem gateLeft_feedingTank (inc e : Nat) (n : Tank) (s : State) : gateLeft (feedingTank s) inc n e =
    if s.supply.selected = n ∧ (s.supply.state = .tank ∨ (s.supply.state = .switching ∧
      (s.supply.phase = some .openingTarget ∨ s.supply.phase = some .settling))) then e - inc else e :=
  if_congr feedingTank_eq_some rfl rfl

/-! ### The obligation -/

/-- What the end of an estimate leaves of the rest of the part. -/
theorem settledTank_eq_with (n : Tank) (s : State) (k : NoticeKind) (b : NoticeBody) :
    record k b (settledTank n s) = { record k b (settledTank n s) with
      sense := s.sense, terminals := s.terminals, totals := s.totals, clock := s.clock, link := s.link
      params := s.params, powered := s.powered, choiceCount := s.choiceCount, pending := s.pending } := by
  have h := (stands_settledTank n s).trans (stands_record (by cases n <;> decide) k b _)
  have hsense : _ = s.sense := h.sense (by cases n <;> decide)
  have hterm : _ = s.terminals := h.inputs (by cases n <;> decide)
  have htotals : _ = s.totals := h.totals (by cases n <;> decide)
  have hclock : _ = s.clock := h.clock
  have hlink : _ = s.link := h.link
  have hparams : _ = s.params := h.params
  have hpow : _ = s.powered := h.powered
  have hcount : _ = s.choiceCount := h.choiceCount
  have hpending : _ = s.pending := h.pending
  rw [← hsense, ← hterm, ← htotals, ← hclock, ← hlink, ← hparams, ← hpow, ← hcount, ← hpending]

/-- Settles O45: an evaluation of the level leaves the tank's readings alone, and of a gate's parts one acts on a tank. -/
theorem settledTankIsReconciled : Obligations.SettledTankIsReconciled := by
  refine ⟨fun s n c e hp hs hc he => ?_, fun s n hp hs he => ?_, fun s n hp hs => ?_, fun s hp hK => ?_⟩
  · have hrun : expireTankSettle n s.fresh =
        recordReconciled n (some (reconcile s n e (measuredVolume s n) c)) (settledTank n s.fresh) := by
      rw [expireTankSettle_settles (s := s.fresh) hs, endingRecord_some (s := s.fresh) hc he]
      rfl
    obtain ⟨hv, hst, htab, hread⟩ := settledTank_tank n s.fresh
    have hclock := (stands_settledTank n s.fresh).clock
    have hdisabled := (stands_settledTank n s.fresh).disabled
    refine ⟨_, settledTank n s.fresh, exec_leaves hp rfl hrun, ?_⟩
    have hwith := settledTank_eq_with n s.fresh .reconciled
      { subject := some (.tank n), value := some (reconcile s n e (measuredVolume s n) c).difference
        cause := some (if (reconcile s n e (measuredVolume s n) c).large then .reconLarge else .reconWithin) }
    simp only [TankRecord.readings, estimateEnded, Prod.mk.injEq] at hread
    obtain ⟨hlevel, hhead, hest, hfrozen, he', hsettle, hrecon⟩ := hread
    rw [endingRecord_some (s := s.fresh) hc he] at hrecon
    dsimp only [recordReconciled]
    simp only [record_tank]
    rw [show s.fresh.powered = true from hp] at hwith
    exact ⟨hv, hest, hfrozen, he', hsettle, hhead, hrecon, rfl, hdisabled, hclock, hst, hlevel, htab, hwith⟩
  · have hrun : expireTankSettle n s.fresh = settledTank n s.fresh := by
      rw [expireTankSettle_settles (s := s.fresh) hs, endingRecord_none (s := s.fresh) he]
      rfl
    obtain ⟨hv, -, -, hread⟩ := settledTank_tank n s.fresh
    simp only [TankRecord.readings, estimateEnded, Prod.mk.injEq] at hread
    obtain ⟨-, hhead, hest, -, -, -, hrecon⟩ := hread
    rw [endingRecord_none (s := s.fresh) he] at hrecon
    exact ⟨_, exec_leaves hp rfl hrun, hv, hest, hhead, hrecon⟩
  · exact exec_leaves hp rfl (expireTankSettle_none (s := s.fresh) hs)
  · have hst := stands_takeIncrement (gateVolume s.sense / flowConstant s) (s.fresh.modSense (senseAfterGate s.fresh))
    have hsense : (completeGates s.fresh).sense = senseAfterGate s s.sense := hst.sense (by decide)
    refine ⟨completeGates s.fresh, gateVolume s.sense / flowConstant s, exec_on hp rfl, ?_⟩
    rw [hsense]
    refine ⟨Nat.div_add_mod' _ _, Nat.mod_lt _ hK, fun n => ⟨fun h => ?_, fun e hest he => ?_⟩⟩
    · obtain ⟨hv, hs, -, hread, -⟩ := takeIncrement_unestimated (inc := gateVolume s.sense / flowConstant s)
        (s := s.fresh.modSense (senseAfterGate s.fresh)) (n := n) h
      simp only [TankRecord.readings, Prod.mk.injEq] at hread
      obtain ⟨-, -, -, -, he, -⟩ := hread
      exact ⟨hv, he, hs⟩
    · obtain ⟨h1, h2, h3, h4⟩ := takeIncrement_estimate (inc := gateVolume s.sense / flowConstant s)
        (s := s.fresh.modSense (senseAfterGate s.fresh)) (n := n) hest he
      rw [gateLeft_feedingTank] at h1 h2 h4
      exact ⟨h1, h2, h3, h4⟩

end Sys2Proof.Machine
end

section
/-! PROOFS. What a fill's acts make of the tank's record, its valve and the notices (R141 to R145), and the volume that moves
them. -/

namespace Sys2Proof.Machine

variable {s m u w : State} {n : Tank} {r r' : TankRecord} {o p : Bool} {v : Nat} {st : FillStage}

/-! ### A fill's act as a whole -/

theorem fillOnly_trans (h : FillOnly n s u) (g : FillOnly n u w) : FillOnly n s w := by
  obtain ⟨heq, hother, hvalve⟩ := h
  obtain ⟨geq, gother, gvalve⟩ := g
  exact ⟨geq.trans (congrArg (fun x : State => { x with tanks := w.tanks, valves := w.valves, notices := w.notices, tx := w.tx }) heq),
    gother.trans hother, fun v hv => (gvalve v hv).trans (hvalve v hv)⟩

theorem fillOnly_record (k : NoticeKind) (b : NoticeBody) (s : State) : FillOnly n s (record k b s) := by
  refine ⟨?_, record_tank .., fun v _ => ?_⟩
  · rw [record_eq_with]
  · rw [record_eq_with]
    rfl

/-- An act on a tank's fill: the tank's record and its valve's command after it, and the notices of m. -/
structure Takes (n : Tank) (r : TankRecord) (o : Bool) (m s u : State) : Prop where
  tank : u.tank n = r
  command : (u.valve (fillValve n)).openCmd = o
  only : FillOnly n s u
  notices : u.notices = m.notices
  tx : u.tx = m.tx
  clock : u.clock = m.clock
  link : u.link = m.link

theorem Takes.next (h : Takes n r o m s u) (g : Takes n r' p u u w) : Takes n r' p m s w :=
  ⟨g.tank, g.command, fillOnly_trans h.only g.only, g.notices.trans h.notices, g.tx.trans h.tx, g.clock.trans h.clock,
    g.link.trans h.link⟩

theorem Takes.record (h : Takes n r o m s u) (k : NoticeKind) (b : NoticeBody) :
    Takes n r o (Machine.record k b m) s (Machine.record k b u) := by
  obtain ⟨hn, hx⟩ := record_congr (s := m) (t := u) k b h.notices h.tx (by rw [h.clock]) (by rw [h.link])
  have hm := stands_record_notices k b m
  have hu := stands_record_notices k b u
  exact ⟨(record_tank ..).trans h.tank, by rw [hu.valve _ (by simp)]; exact h.command,
    fillOnly_trans h.only (fillOnly_record ..), hn, hx, by rw [hu.clock, hm.clock, h.clock], by rw [hu.link, hm.link, h.link]⟩

theorem Takes.recordStage (h : Takes n r o m s u) (old : FillStage) (c : FillCause) :
    Takes n r o (Machine.record .fillStage
      { subject := some (.tank n), old := some (.stage old), new := some (.stage r.stage)
        value := r.volume.map Int.ofNat, cause := some (.fill c) } m) s (Machine.recordStage n old c u) := by
  unfold Machine.recordStage
  rw [h.tank]
  exact h.record ..

theorem carryOut_frame (v : ValveRole) (o : Bool) (s : State) :
    ∃ a, a.openCmd = o ∧ carryOut v o s = { s with valves := setValve s.valves v a } := by
  cases o
  · exact ⟨_, closedRecord_openCmd s v, carryOut_closes v s⟩
  · exact ⟨_, openedRecord_openCmd s v, carryOut_opens v s⟩

/-- A command to a fill valve that no open tank valve blocks. -/
theorem takes_commandFill (g : TankRecord → TankRecord) (h : o = true → (s.valve (tankValve n)).openCmd = false) :
    Takes n { g (s.tank n) with fillOpen := o } o s s (commandFill n o (s.modTank n g)) := by
  have hact : commandFill n o (s.modTank n g) =
      carryOut (fillValve n) o ((s.modTank n g).modTank n fun r => { r with fillOpen := o }) := by
    refine if_neg fun hc => ?_
    have hclosed : ((s.modTank n g).valve (tankValve n)).openCmd = false := h hc.1
    rw [hclosed] at hc
    exact absurd hc.2 (by decide)
  obtain ⟨a, ha, hcarry⟩ := carryOut_frame (fillValve n) o ((s.modTank n g).modTank n fun r => { r with fillOpen := o })
  rw [hact, hcarry]
  refine ⟨?_, ?_, ⟨rfl, ?_, fun v hv => valve_setValve_ne hv ..⟩, rfl, rfl, rfl, rfl⟩
  · cases n <;> rfl
  · rw [valve_setValve]
    exact ha
  · cases n <;> rfl

/-! ### The stages -/

theorem takes_runBulk (safety : Option SafetyTimer) (h : (s.valve (tankValve n)).openCmd = false) :
    Takes n (fillingIn .bulk safety (s.tank n)) true s s (runBulk n safety s) :=
  takes_commandFill (o := true) (fun r => { r with
    stage := .bulk, suspendedFrom := none, safety := safety, phase := none, cycle := none }) fun _ => h

theorem takes_runTopoff (safety : Option SafetyTimer) (h : (s.valve (tankValve n)).openCmd = false) :
    Takes n (fillingIn .topoff safety (s.tank n)) true s s (runTopoff n safety s) :=
  takes_commandFill (o := true) (fun r => { r with
    stage := .topoff, suspendedFrom := none, safety := safety, phase := some .openPhase, cycle := startTimer 2000 }) fun _ => h

theorem takes_enterFullHold (n : Tank) (s : State) :
    Takes n (fillingIn .fullHold none (s.tank n)) false s s (enterFullHold n s) :=
  takes_commandFill (o := false) (fun r => { r with
    stage := .fullHold, suspendedFrom := none, safety := none, phase := none, cycle := none }) (by simp)

/-- The safety timer of a stage entered afresh (R144). -/
def freshSafety (s : State) (st : FillStage) : Option SafetyTimer :=
  if st = .bulk then some ⟨0, s.paramNat 50 * 60000⟩ else if st = .topoff then some ⟨0, s.paramNat 51 * 60000⟩ else none

/-- A stage in which a fill is under way. -/
def RunningStage (st : FillStage) : Prop := st = .bulk ∨ st = .topoff ∨ st = .fullHold

theorem takes_enterStage (hst : RunningStage st) (h : (s.valve (tankValve n)).openCmd = false) :
    Takes n (fillingIn st (freshSafety s st) (s.tank n)) (decide (st ≠ .fullHold)) s s (enterStage n st s) := by
  obtain rfl | rfl | rfl := hst
  · exact takes_runBulk _ h
  · exact takes_runTopoff _ h
  · exact takes_enterFullHold n s

theorem stageByVolume_running (s : State) (n : Tank) : RunningStage (stageByVolume s n) := by
  unfold stageByVolume RunningStage
  dsimp only
  split
  · exact .inl rfl
  · split
    · exact .inr (.inl rfl)
    · exact .inr (.inr rfl)

/-- The safety timer of a resumed stage: held where the stage is the one it left (R145). -/
def resumedSafety (s : State) (n : Tank) (st : FillStage) : Option SafetyTimer :=
  if st = .fullHold then none
  else if (s.tank n).suspendedFrom = some st then (s.tank n).safety
  else if st = .bulk then some ⟨0, s.paramNat 50 * 60000⟩ else some ⟨0, s.paramNat 51 * 60000⟩

theorem takes_resumeIn (hst : RunningStage st) (h : (s.valve (tankValve n)).openCmd = false) :
    Takes n (fillingIn st (resumedSafety s n st) (s.tank n)) (decide (st ≠ .fullHold)) s s
      (resumeIn n st (s.tank n).safety (decide ((s.tank n).suspendedFrom = some st)) s) := by
  unfold resumedSafety
  by_cases hfrom : (s.tank n).suspendedFrom = some st
  · rw [decide_eq_true hfrom, if_pos hfrom]
    obtain rfl | rfl | rfl := hst
    · exact takes_runBulk _ h
    · exact takes_runTopoff _ h
    · exact takes_enterFullHold n s
  · rw [decide_eq_false hfrom, if_neg hfrom]
    obtain rfl | rfl | rfl := hst
    · exact takes_runBulk _ h
    · exact takes_runTopoff _ h
    · exact takes_enterFullHold n s

/-! ### The permission reviewed (R145) -/

/-- A tank's record as its fill is suspended. -/
def suspendedRecord (r : TankRecord) : TankRecord :=
  { r with stage := .suspended, suspendedFrom := some r.stage, phase := none, cycle := none, fillOpen := false }

theorem takes_suspendFill (n : Tank) (s : State) :
    Takes n (suspendedRecord (s.tank n)) false (record .fillStage
      { subject := some (.tank n), old := some (.stage (s.tank n).stage), new := some (.stage .suspended)
        value := (s.tank n).volume.map Int.ofNat, cause := some (.fill .permissionLost) } s) s (suspendFill n s) :=
  (takes_commandFill (o := false) (fun r => { r with
    stage := .suspended, suspendedFrom := some (s.tank n).stage, phase := none, cycle := none }) (by simp)).recordStage ..

theorem reviewFill_lost (hst : RunningStage (s.tank n).stage) (h : fillPermission s n = false) :
    reviewFill n s = suspendFill n s := by
  have hlost : (if fillPermission s n = true then s else suspendFill n s) = suspendFill n s := if_neg (by simp [h])
  rw [reviewFill_eq]
  obtain hst | hst | hst := hst <;> rw [hst] <;> exact hlost

theorem reviewFill_same (h : (s.tank n).stage = .off ∨ (s.tank n).stage = .timeout ∨
    ((s.tank n).stage = .suspended ∧ fillPermission s n = false) ∨
    ((s.tank n).stage ≠ .suspended ∧ fillPermission s n = true)) : reviewFill n s = s := by
  rw [reviewFill_eq]
  obtain h | h | ⟨h, hp⟩ | ⟨h, hp⟩ := h
  · rw [h]
    rfl
  · rw [h]
    rfl
  · rw [h]
    exact if_neg (by simp [hp])
  · cases hst : (s.tank n).stage with
    | suspended => exact absurd hst h
    | off | timeout => rfl
    | bulk | topoff | fullHold => exact if_pos hp

theorem resumeStage_running (s : State) (n : Tank) : RunningStage (resumeStage s n) := by
  unfold resumeStage
  split
  · exact .inr (.inr rfl)
  · exact stageByVolume_running s n

theorem reviewFill_returned (hst : (s.tank n).stage = .suspended) (h : fillPermission s n = true) :
    Takes n (fillingIn (resumeStage s n) (resumedSafety s n (resumeStage s n)) (s.tank n))
      (decide (resumeStage s n ≠ .fullHold)) (record .fillStage
        { subject := some (.tank n), old := some (.stage .suspended), new := some (.stage (resumeStage s n))
          value := (s.tank n).volume.map Int.ofNat, cause := some (.fill .permissionReturned) } s) s (reviewFill n s) := by
  have hact : reviewFill n s = resumeFill n s := by
    rw [reviewFill_eq, hst]
    exact if_pos h
  rw [hact, resumeFill_eq]
  exact (takes_resumeIn (resumeStage_running s n) (fillPermission_closed h)).recordStage ..

/-! ### An evaluation of the volume (R141 to R143) -/

/-- FILL_STAGE of a stage that the volume ends. -/
def volumeRecord (n : Tank) (v : Nat) (before after : FillStage) : State → State :=
  record .fillStage
    { subject := some (.tank n), old := some (.stage before), new := some (.stage after), value := some (v : Int)
      cause := some (.fill .volume) }

theorem fullAt_fillOnly (h : FillOnly n s u) (htab : (u.tank n).table = (s.tank n).table) : fullAt u n = fullAt s n := by
  have hparams : u.params = s.params := (congrArg State.params h.1 :)
  unfold fullAt
  rw [percentOf_congr htab, paramNat_congr hparams]

theorem evaluateFill_bulk (hst : (s.tank n).stage = .bulk) (hv : (s.tank n).volume = some v) : evaluateFill n s =
    if topoffAt s n ≤ v then evaluateTopoff n (recordStage n .bulk .volume (enterTopoff n s)) else s := by
  unfold evaluateFill
  rw [hst, hv]

theorem evaluateFill_topoff (hst : (s.tank n).stage = .topoff) (hv : (s.tank n).volume = some v) :
    evaluateFill n s = evaluateTopoff n s := by
  unfold evaluateFill
  rw [hst, hv]

theorem evaluateFill_fullHold (hst : (s.tank n).stage = .fullHold) (hv : (s.tank n).volume = some v) : evaluateFill n s =
    if v < refillAt s n then recordStage n .fullHold .volume (enterBulk n s) else s := by
  unfold evaluateFill
  rw [hst, hv]

theorem evaluateFill_still (h : ¬RunningStage (s.tank n).stage) : evaluateFill n s = s := by
  unfold evaluateFill
  split
  · next hst _ => exact absurd (.inl hst) h
  · next hst _ => exact absurd (.inr (.inl hst)) h
  · next hst _ => exact absurd (.inr (.inr hst)) h
  · rfl

theorem evaluateTopoff_eq (hv : (s.tank n).volume = some v) : evaluateTopoff n s =
    if fullAt s n ≤ v then recordStage n .topoff .volume (enterFullHold n s) else s := by
  unfold evaluateTopoff
  rw [hv]
  rfl

/-- TOPOFF ends in FULL_HOLD at a full tank. -/
theorem takes_topoffEnds (hv : (s.tank n).volume = some v) :
    Takes n (fillingIn .fullHold none (s.tank n)) false (volumeRecord n v .topoff .fullHold s) s
      (recordStage n .topoff .volume (enterFullHold n s)) := by
  have h := (takes_enterFullHold n s).recordStage .topoff .volume
  rw [show (fillingIn .fullHold none (s.tank n)).volume = some v from hv] at h
  exact h

/-- BULK ends in TOPOFF. -/
theorem takes_bulkEnds (hv : (s.tank n).volume = some v) (h : (s.valve (tankValve n)).openCmd = false) :
    Takes n (fillingIn .topoff (some ⟨0, s.paramNat 51 * 60000⟩) (s.tank n)) true (volumeRecord n v .bulk .topoff s) s
      (recordStage n .bulk .volume (enterTopoff n s)) := by
  have h := (takes_runTopoff (some ⟨0, topoffLimit s⟩) h).recordStage .bulk .volume
  rw [show (fillingIn .topoff (some ⟨0, topoffLimit s⟩) (s.tank n)).volume = some v from hv] at h
  exact h

/-- FULL_HOLD turns to BULK. -/
theorem takes_refill (hv : (s.tank n).volume = some v) (h : (s.valve (tankValve n)).openCmd = false) :
    Takes n (fillingIn .bulk (some ⟨0, s.paramNat 50 * 60000⟩) (s.tank n)) true (volumeRecord n v .fullHold .bulk s) s
      (recordStage n .fullHold .volume (enterBulk n s)) := by
  have h := (takes_runBulk (some ⟨0, bulkLimit s⟩) h).recordStage .fullHold .volume
  rw [show (fillingIn .bulk (some ⟨0, bulkLimit s⟩) (s.tank n)).volume = some v from hv] at h
  exact h

/-- BULK ends in TOPOFF, and that in FULL_HOLD. -/
theorem takes_bulkFills (hv : (s.tank n).volume = some v) (h : (s.valve (tankValve n)).openCmd = false) :
    Takes n (fillingIn .fullHold none (s.tank n)) false
      (volumeRecord n v .topoff .fullHold (volumeRecord n v .bulk .topoff s)) s
      (recordStage n .topoff .volume (enterFullHold n (recordStage n .bulk .volume (enterTopoff n s)))) := by
  have hends := takes_bulkEnds hv h
  have hfull := (hends.next (takes_enterFullHold n _)).recordStage .topoff .volume
  rw [hends.tank, show (fillingIn .fullHold none (fillingIn .topoff (some ⟨0, s.paramNat 51 * 60000⟩) (s.tank n))).volume =
    some v from hv] at hfull
  exact hfull

/-- The stage a volume leads to. -/
def stageAt (s : State) (n : Tank) (v : Nat) : FillStage → FillStage
  | .bulk => if v < topoffAt s n then .bulk else if v < fullAt s n then .topoff else .fullHold
  | .topoff => if v < fullAt s n then .topoff else .fullHold
  | .fullHold => if v < refillAt s n then .bulk else .fullHold
  | .off => .off
  | .suspended => .suspended
  | .timeout => .timeout

/-- The notices of a change of stage by the volume: BULK reaches FULL_HOLD through TOPOFF. -/
def stageNotices (n : Tank) (v : Nat) (before after : FillStage) (s : State) : State :=
  if before = .bulk ∧ after = .fullHold then volumeRecord n v .topoff .fullHold (volumeRecord n v .bulk .topoff s)
  else volumeRecord n v before after s

theorem evaluateFill_spec (hv : (s.tank n).volume = some v) (h : (s.valve (tankValve n)).openCmd = false) :
    (stageAt s n v (s.tank n).stage = (s.tank n).stage → evaluateFill n s = s) ∧
    (stageAt s n v (s.tank n).stage ≠ (s.tank n).stage →
      Takes n (fillingIn (stageAt s n v (s.tank n).stage) (freshSafety s (stageAt s n v (s.tank n).stage)) (s.tank n))
        (decide (stageAt s n v (s.tank n).stage ≠ .fullHold))
        (stageNotices n v (s.tank n).stage (stageAt s n v (s.tank n).stage) s) s (evaluateFill n s)) := by
  cases hst : (s.tank n).stage with
  | off | suspended | timeout =>
    exact ⟨fun _ => evaluateFill_still (by simp [RunningStage, hst]), fun hne => absurd rfl hne⟩
  | fullHold =>
    rw [evaluateFill_fullHold hst hv]
    by_cases hlow : v < refillAt s n
    · rw [show stageAt s n v .fullHold = .bulk from if_pos hlow, if_pos hlow]
      exact ⟨fun hc => absurd hc (by decide), fun _ => takes_refill hv h⟩
    · rw [show stageAt s n v .fullHold = .fullHold from if_neg hlow, if_neg hlow]
      exact ⟨fun _ => rfl, fun hne => absurd rfl hne⟩
  | topoff =>
    rw [evaluateFill_topoff hst hv, evaluateTopoff_eq hv]
    by_cases hfull : v < fullAt s n
    · rw [show stageAt s n v .topoff = .topoff from if_pos hfull, if_neg (Nat.not_le.2 hfull)]
      exact ⟨fun _ => rfl, fun hne => absurd rfl hne⟩
    · rw [show stageAt s n v .topoff = .fullHold from if_neg hfull, if_pos (Nat.not_lt.1 hfull)]
      exact ⟨fun hc => absurd hc (by decide), fun _ => takes_topoffEnds hv⟩
  | bulk =>
    rw [evaluateFill_bulk hst hv]
    by_cases htop : v < topoffAt s n
    · rw [show stageAt s n v .bulk = .bulk from if_pos htop, if_neg (Nat.not_le.2 htop)]
      exact ⟨fun _ => rfl, fun hne => absurd rfl hne⟩
    · have hends := takes_bulkEnds hv h
      have hvolume : ((recordStage n .bulk .volume (enterTopoff n s)).tank n).volume = some v := by rw [hends.tank, ← hv]
      have hstage : stageAt s n v .bulk = if v < fullAt s n then .topoff else .fullHold := if_neg htop
      rw [hstage, if_pos (Nat.not_lt.1 htop), evaluateTopoff_eq hvolume, fullAt_fillOnly hends.only (by rw [hends.tank])]
      by_cases hfull : v < fullAt s n
      · rw [if_pos hfull, if_neg (Nat.not_le.2 hfull)]
        exact ⟨fun hc => absurd hc (by decide), fun _ => hends⟩
      · rw [if_neg hfull, if_pos (Nat.not_lt.1 hfull)]
        exact ⟨fun hc => absurd hc (by decide), fun _ => takes_bulkFills hv h⟩

end Sys2Proof.Machine
end

section
/-! PROOFS. Fill requests and fill timers, a fill that returns to BULK as a supply loss opens its tank (R140 to R146), and O44
from its parts. -/

namespace Sys2Proof.Machine

variable {s t x y u : State} {n m : Tank} {r : TankRecord} {o : Bool} {v : Nat} {st : SupplyState}

/-! ### Requests and timers of a fill (R140, R142, R144, R146) -/

/-- A tank's record as its fill is closed in a stage that runs no timer. -/
def closedRecordIn (st : FillStage) (r : TankRecord) : TankRecord :=
  { r with stage := st, suspendedFrom := none, safety := none, phase := none, cycle := none, fillOpen := false }

theorem takes_closeFill (n : Tank) (st : FillStage) (s : State) :
    Takes n (closedRecordIn st (s.tank n)) false s s (closeFill n st s) :=
  takes_commandFill (o := false) (fun r => { r with
    stage := st, suspendedFrom := none, safety := none, phase := none, cycle := none }) (by simp)

theorem Takes.silent (h : Takes n r o s s u) : u = { s with tanks := u.tanks, valves := u.valves } := by
  have hnotices : u.notices = s.notices := h.notices
  have htx : u.tx = s.tx := h.tx
  have heq := h.only.1
  rwa [hnotices, htx] at heq

theorem expireCycle_some {ph : CyclePhase} (hc : (s.tank n).cycle.isSome = true) (hp : (s.tank n).phase = some ph)
    (h : (s.valve (tankValve n)).openCmd = false) :
    Takes n (if ph = .openPhase then
        { s.tank n with phase := some .closedPhase, cycle := some ⟨3000, 0⟩, fillOpen := false }
      else { s.tank n with phase := some .openPhase, cycle := some ⟨2000, 0⟩, fillOpen := true })
      (decide (ph = .closedPhase)) s s (expireCycle n s) := by
  unfold expireCycle
  rw [ite_isNone, if_pos hc, hp]
  cases ph with
  | openPhase =>
    exact takes_commandFill (o := false) (fun r => { r with phase := some .closedPhase, cycle := startTimer 3000 }) (by simp)
  | closedPhase =>
    exact takes_commandFill (o := true) (fun r => { r with phase := some .openPhase, cycle := startTimer 2000 }) fun _ => h

theorem expireCycle_none (h : (s.tank n).cycle = none) : expireCycle n s = s := if_pos (Option.isNone_iff_eq_none.2 h)

theorem expireSafety_running (h : (s.tank n).stage = .bulk ∨ (s.tank n).stage = .topoff) :
    Takes n (closedRecordIn .timeout (s.tank n)) false (record .fillTimeout
      { subject := some (.tank n), old := some (.stage (s.tank n).stage), new := some (.stage .timeout)
        value := (s.tank n).volume.map Int.ofNat } s) s (expireSafety n s) := by
  have hact : expireSafety n s = record .fillTimeout
      { subject := some (.tank n), old := some (.stage (s.tank n).stage), new := some (.stage .timeout)
        value := (s.tank n).volume.map Int.ofNat } (closeFill n .timeout s) := by
    unfold expireSafety
    obtain h | h := h <;> rw [h]
  rw [hact]
  exact (takes_closeFill n .timeout s).record ..

theorem expireSafety_still (h : (s.tank n).stage ≠ .bulk) (h' : (s.tank n).stage ≠ .topoff) : expireSafety n s = s := by
  unfold expireSafety
  split
  · next hst => exact absurd hst h
  · next hst => exact absurd hst h'
  all_goals rfl

theorem stopFill_off (h : (s.tank n).stage = .off) : stopFill n s = s := if_pos h

theorem stopFill_takes (h : (s.tank n).stage ≠ .off) : ∃ m : State,
    Takes n (closedRecordIn .off (s.tank n)) false m s (stopFill n s) := by
  have hact : stopFill n s = recordStage n (s.tank n).stage .stop (closeFill n .off s) := if_neg h
  exact ⟨_, hact ▸ (takes_closeFill n .off s).recordStage (s.tank n).stage .stop⟩

theorem stageByVolume_some (hv : (s.tank n).volume = some v) : stageByVolume s n =
    if v < topoffAt s n then .bulk else if v < fullAt s n then .topoff else .fullHold := by
  unfold stageByVolume
  rw [hv]
  rfl

/-- A fill started in the stage its volume chooses. -/
theorem startFill_takes (h : (s.valve (tankValve n)).openCmd = false) : ∃ m : State,
    Takes n (fillingIn (stageByVolume s n) (freshSafety s (stageByVolume s n)) (s.tank n))
      (decide (stageByVolume s n ≠ .fullHold)) m s (startFill n s) :=
  ⟨_, (takes_enterStage (stageByVolume_running s n) h).recordStage (s.tank n).stage .request⟩

theorem fillAnswer_busy (h : (s.tank n).stage ≠ .off) (h' : (s.tank n).stage ≠ .timeout) :
    fillAnswer n s = ⟨s, .busy, [BitVec.ofNat 8 (s.tank n).stage.ctorIdx]⟩ := by
  unfold fillAnswer
  split
  case h_5 hst => exact absurd hst h
  case h_6 hst => exact absurd hst h'
  all_goals rfl

theorem fillAnswer_idle (h : (s.tank n).stage = .off ∨ (s.tank n).stage = .timeout) : fillAnswer n s =
    if fillPermission s n then ⟨startFill n s, .ok, stageByte (startFill n s) n⟩
    else ⟨s, .badState, setBytes allPermissionParts (failingParts s n) ++ stageByte s n⟩ := by
  unfold fillAnswer
  obtain h | h := h <;> rw [h]

theorem blind_startFill (n : Tank) : Blind (startFill n) := by
  unfold startFill
  exact Blind.choose (v := fun s => ((s.tank n).stage, stageByVolume s n))
    (f := fun p s => recordStage n p.1 .request (enterStage n p.2 s)) (fun _ _ _ _ => rfl)
    fun p => (blind_recordStage n p.1 .request).comp (blind_enterStage n p.2)

theorem blind_stopFill (n : Tank) : Blind (stopFill n) := by
  unfold stopFill
  exact Blind.choose (v := fun s => (s.tank n).stage)
    (f := fun p s => if p = .off then s else recordStage n p .stop (closeFill n .off s)) (fun _ _ _ _ => rfl)
    fun p => Blind.ite (p := fun _ => p = .off) (fun _ _ _ _ => .rfl) blind_id
      ((blind_recordStage n p .stop).comp (blind_closeFill n .off))

/-! ### A return to BULK with a supply loss (R145) -/

theorem evaluateStage_alone (h : bulkWithLoss s n = false ∨ freeBit s = false) : evaluateStage n s = evaluateFill n s := by
  unfold evaluateStage
  obtain h | h := h
  · rw [h]
    exact if_neg (by simp)
  · split
    · exact if_neg fun hc => by simp [h] at hc
    · rfl

theorem bulkWithLoss_iff (hv : (s.tank n).volume = some v) : bulkWithLoss s n = true ↔ (s.tank n).stage = .fullHold ∧
    v < refillAt s n ∧ fillPermission s n = true ∧ isDue s.supply.loss = true := by
  simp [bulkWithLoss, hv, and_assoc]

theorem evaluateStage_unread (h : (s.tank n).volume = none) : evaluateStage n s = s := by
  have hloss : bulkWithLoss s n = false := by simp [bulkWithLoss, h]
  rw [evaluateStage_alone (.inl hloss)]
  unfold evaluateFill
  rw [h]
  cases (s.tank n).stage <;> rfl

theorem lossOutcome_cases (s : State) : lossOutcome s = .none ∨ (s.param 43 = 1 ∧ ∃ m, LossTarget m s) := by
  unfold lossOutcome
  split
  · next h =>
    obtain ⟨hp, he⟩ := h
    refine .inr ⟨(autoSwitchover_iff s).1 hp, _, .inl ⟨rfl, fun hc => ?_⟩⟩
    rw [(selectedEmpty_iff s).2 hc] at he
    exact absurd he (by decide)
  · next hsel =>
    split
    · next h =>
      obtain ⟨hp, hm, hq, hr⟩ := h
      refine .inr ⟨(autoSwitchover_iff s).1 hp, .reserve, .inr ⟨rfl, hm, (autoReserve_iff s).1 hq, ?_, hr⟩⟩
      have he : selectedEmpty s = true := by
        cases he : selectedEmpty s
        · exact absurd ⟨hp, he⟩ hsel
        · rfl
      rw [selectedEmpty_iff, hm] at he
      exact he
    · exact .inl rfl

/-- A switch begun that opens its target's valve is under way. -/
theorem SwitchBegun.switching (h : SwitchBegun n s u) (ho : (u.valve (tankValve n)).openCmd = true) :
    u.supply.state = .switching := by
  have hclosed : ∀ {old : SupplyState} {c : ExhaustCause}, ¬Exhausted n old c s u := fun hx => by
    rw [Exhausted.closed hx] at ho
    exact absurd ho (by decide)
  unfold SwitchBegun at h
  dsimp only at h
  split at h
  · exact absurd h hclosed
  split at h
  · exact h.1
  split at h
  · exact absurd h hclosed
  · exact h.1

/-- With the other tank's valve closed, a switch begun opens its target's. -/
theorem SwitchBegun.opens (h : SwitchBegun n s u) (hb : (s.valve (tankValve (otherTank n))).openCmd = false)
    (hat : (s.valve (tankValve (otherTank n))).state = .atClosed) (ha : (s.valve (tankValve n)).state ≠ .fault) :
    (u.valve (tankValve n)).openCmd = true := by
  have hother : (closedValve s (otherTank n)).state = .atClosed := by
    unfold closedValve
    dsimp only
    rw [if_pos (.inl hb)]
    exact hat
  unfold SwitchBegun at h
  dsimp only at h
  rw [if_neg (by simp [hat]), if_neg (by simp [hother]), if_neg fun hc => ha hc.1] at h
  obtain ⟨-, -, -, hv, -⟩ := h
  rw [hv]
  exact openedValve_openCmd s n

/-- Off the line, a fill in BULK or suspended from it. -/
def FromBulk (n : Tank) (s : State) : Prop := OffLine s.supply.state ∧
  ((s.tank n).stage = .bulk ∨ ((s.tank n).stage = .suspended ∧ (s.tank n).suspendedFrom = some .bulk))

theorem FromBulk.of_eq (h : FromBulk n s) (hsupply : OffLine t.supply.state) (hst : (t.tank n).stage = (s.tank n).stage)
    (hfrom : (t.tank n).suspendedFrom = (s.tank n).suspendedFrom) : FromBulk n t := by
  unfold FromBulk
  rw [hst, hfrom]
  exact ⟨hsupply, h.2⟩

theorem Moves.fromBulk {K : List Part} {b : Bool} (h : Moves K b s t) (hs : FromBulk n s)
    (hK : ∀ p ∈ [.supply, .tank n, .level n], p ∉ K) : FromBulk n t := by
  have htank := h.stands.tank n (hK _ (by simp)) (hK _ (by simp))
  exact hs.of_eq (by rw [h.stands.supply (hK _ (by simp))]; exact hs.1) (by rw [htank]) (by rw [htank])

theorem reviewFill_fromBulk (h : FromBulk n s) : FromBulk n (reviewFill n s) := by
  have hp := fillPermission_offLine h.1 n
  obtain ⟨hoff, hst | ⟨hst, hfrom⟩⟩ := h
  · have htakes := takes_suspendFill n s
    rw [reviewFill_lost (.inl hst) hp]
    refine ⟨?_, .inr ⟨by rw [htakes.tank]; rfl, ?_⟩⟩
    · rw [(congrArg State.supply htakes.only.1 :)]
      exact hoff
    · rw [htakes.tank]
      exact congrArg some hst
  · rw [reviewFill_same (.inr (.inr (.inl ⟨hst, hp⟩)))]
    exact ⟨hoff, .inr ⟨hst, hfrom⟩⟩

theorem forceFillClosed_fromBulk (h : FromBulk n s) : FromBulk n (forceFillClosed n s) := by
  unfold forceFillClosed
  split
  · rw [carryOut_closes]
    exact h.of_eq h.1 (by cases n <;> rfl) (by cases n <;> rfl)
  · exact h

theorem feedKeeps_fromBulk (n : Tank) : FeedKeeps (FromBulk n) where
  moves h hs := h.fromBulk hs (by cases n <;> decide)
  fill m hs := by
    obtain rfl | hm := eq_or_ne m n
    · exact reviewFill_fromBulk hs
    · exact (moves_fill_self m _).1.fromBulk hs (by revert hm; cases m <;> cases n <;> decide)
  force m hs := by
    obtain rfl | hm := eq_or_ne m n
    · exact forceFillClosed_fromBulk hs
    · exact (moves_fill_self m _).2.fromBulk hs (by revert hm; cases m <;> cases n <;> decide)
  valve m a _ hs := hs.of_eq hs.1 rfl rfl
  supply hf hs := hs.of_eq ((hf _).2.elim (fun e => (by rw [OffLine]; exact e ▸ hs.1)) id) rfl rfl
  begins hs := (moves_override_self .switchover _).1.fromBulk hs (by cases n <;> decide)
  ends hs := (moves_override_self .switchover _).2.fromBulk hs (by cases n <;> decide)

theorem setSupply_fromBulk (hst : OffLine st) (ph : Option Phase) (hr : (s.tank n).stage = .bulk) :
    FromBulk n (setSupply st ph s) := by
  have hmoves := (moves_handedOn st (s.modSupply (supplyIn st ph (floorOf s st)))).stands
  have hstate := setSupply_state st ph s
  rw [setSupply_eq, handSupply_eq] at hstate ⊢
  generalize handedOn st (s.modSupply (supplyIn st ph (floorOf s st))) = z at *
  have hz : z.supply = (reviewFills z).supply :=
    ((moves_reviewFills (K := fillsParts) (b := true) (List.Subset.refl _) (.refl _ _ z)).stands.supply (by decide)).symm
  refine (feedKeeps_fromBulk n).fills ⟨?_, .inl ?_⟩
  · rw [hz, hstate]
    exact hst
  · rw [hmoves.tank n (by cases n <;> decide) (by cases n <;> decide)]
    exact hr

theorem takeLoss_fromBulk (h : s.supply.loss.isSome = true) (hp : s.param 43 = 1) (hm : LossTarget m s)
    (hr : (s.tank n).stage = .bulk) : FromBulk n (takeLoss s) := by
  rw [takeLoss_turns h hp hm]
  refine (feedKeeps_fromBulk n).switchGoes (setSupply_fromBulk (s := (lossTurned m s).modSupply _) (by simp [OffLine]) _ ?_)
  exact (lossTurned_stage m n s).trans hr

theorem turnToBulk_eq (n : Tank) (s : State) : ∃ r k x, turnToBulk n s =
    { s with tanks := setTank s.tanks n r, notices := k, tx := x } ∧ r.stage = .bulk ∧ r.state = (s.tank n).state := by
  unfold turnToBulk recordStage
  rw [record_eq_with]
  exact ⟨_, _, _, rfl, rfl, rfl⟩

theorem turnToBulk_levels (n m : Tank) (s : State) : ((turnToBulk n s).tank m).state = (s.tank m).state := by
  obtain ⟨r, k, x, h, -, hst⟩ := turnToBulk_eq n s
  rw [h]
  cases n <;> cases m
  case main.main | reserve.reserve => exact hst
  all_goals rfl

theorem turnToBulk_stage (n : Tank) (s : State) : ((turnToBulk n s).tank n).stage = .bulk := by
  obtain ⟨r, k, x, h, hst, -⟩ := turnToBulk_eq n s
  rw [h]
  cases n <;> exact hst

theorem turnToBulk_valves (n : Tank) (s : State) : (turnToBulk n s).valves = s.valves ∧
    (turnToBulk n s).supply = s.supply ∧ (turnToBulk n s).params = s.params := by
  obtain ⟨r, k, x, h, -, -⟩ := turnToBulk_eq n s
  rw [h]
  exact ⟨rfl, rfl, rfl⟩

/-- FULL_HOLD's return to BULK that falls with a loss: the act of the loss first, its tank valve then blocking the fill's. -/
theorem evaluateStage_blocked (hb : bulkWithLoss s n = true) (hf : freeBit s = true)
    (hc : (s.valve (tankValve n)).openCmd = false)
    (ho : ((takeLoss (turnToBulk n s)).valve (tankValve n)).openCmd = true) :
    evaluateStage n s = record .valveInterlock
      { subject := some (.valve (fillValve n)), cause := some (.blockedBy (tankValve n)) }
      ((takeLoss (turnToBulk n s)).modTank n fun r => { r with fillOpen := false }) := by
  unfold evaluateStage openTogether
  dsimp only
  rw [if_pos hb, if_pos ⟨hf, hc, ho⟩, commandFill_blocked ho]

theorem evaluateStage_unblocked (ho : ((takeLoss (turnToBulk n s)).valve (tankValve n)).openCmd = false) :
    evaluateStage n s = evaluateFill n s := by
  unfold evaluateStage openTogether
  dsimp only
  split
  · exact if_neg fun hc => by simp [ho] at hc
  · rfl

/-- What a loss makes of a tank whose valve it opens. -/
theorem takeLoss_opened (h : s.supply.loss.isSome = true) (hc : (s.valve (tankValve n)).openCmd = false)
    (hr : (s.tank n).stage = .bulk) (ho : ((takeLoss s).valve (tankValve n)).openCmd = true) :
    FillHeld n (takeLoss s) ∧ FromBulk n (takeLoss s) ∧ (takeLoss s).supply.state = .switching ∧
    (takeLoss s).supply.selected = n := by
  obtain hnone | ⟨hp, m, hm⟩ := lossOutcome_cases s
  · have hstays : takeLoss s = lossTaken s := by
      rw [takeLoss_eq h, hnone]
      rfl
    rw [hstays, (sameSupply_lossTaken s).valve, hc] at ho
    exact absurd ho (by decide)
  · have hbegun := takeLoss_begun h hp hm
    obtain rfl : m = n := by
      by_contra hne
      have hother := hbegun.otherClosed
      rw [show otherTank m = n by revert hne; cases m <;> cases n <;> decide, ho] at hother
      exact absurd hother (by decide)
    exact ⟨takeLoss_held h hp hm (.inl hr), takeLoss_fromBulk h hp hm hr, hbegun.switching ho, hbegun.selected⟩

/-- The return to BULK that falls with a loss, of the two orders the one with the tank valve first. -/
theorem evaluateStage_together (hv : (s.tank n).volume = some v) (hst : (s.tank n).stage = .fullHold)
    (hlow : v < refillAt s n) (hp : fillPermission s n = true) (hdue : isDue s.supply.loss = true) (hf : freeBit s = true) :
    let u := evaluateStage n s
    ((u.valve (tankValve n)).openCmd = true →
      (u.tank n).stage = .suspended ∧ (u.tank n).suspendedFrom = some .bulk ∧ (u.tank n).fillOpen = false ∧
      (u.valve (fillValve n)).openCmd = false ∧ u.supply.state = .switching ∧ u.supply.selected = n ∧
      ∃ x : State, u = record .valveInterlock
        { subject := some (.valve (fillValve n)), cause := some (.blockedBy (tankValve n)) } x) ∧
    ((u.valve (tankValve n)).openCmd = false →
      (u.tank n).stage = .bulk ∧ (u.valve (fillValve n)).openCmd = true ∧ u.supply = s.supply) ∧
    (s.param 43 = 1 → n = s.supply.selected → (s.tank n).state ≠ .empty →
      (s.valve (tankValve (otherTank n))).openCmd = false → (s.valve (tankValve (otherTank n))).state = .atClosed →
      (s.valve (tankValve n)).state ≠ .fault → (u.valve (tankValve n)).openCmd = true) := by
  dsimp only
  have hb : bulkWithLoss s n = true := (bulkWithLoss_iff hv).2 ⟨hst, hlow, hp, hdue⟩
  have hc := fillPermission_closed hp
  obtain ⟨hvalves, hsupply, hparams⟩ := turnToBulk_valves n s
  have hloss : (turnToBulk n s).supply.loss.isSome = true := by
    rw [hsupply]
    cases hl : s.supply.loss with
    | none =>
      rw [hl] at hdue
      exact absurd hdue (by decide)
    | some x => rfl
  have hvalve : ∀ w, (turnToBulk n s).valve w = s.valve w := fun w => congrArg (getValve · w) hvalves
  cases ho : ((takeLoss (turnToBulk n s)).valve (tankValve n)).openCmd with
  | true =>
    obtain ⟨hheld, hfrom, hsw, hsel⟩ := takeLoss_opened hloss (by rw [hvalve]; exact hc) (turnToBulk_stage n s) ho
    rw [evaluateStage_blocked hb hf hc ho]
    have hframe := stands_record_notices .valveInterlock
      { subject := some (.valve (fillValve n)), cause := some (.blockedBy (tankValve n)) }
      ((takeLoss (turnToBulk n s)).modTank n fun r => { r with fillOpen := false })
    rw [record_tank, tank_modTank_same, hframe.valve _ (by simp), hframe.valve _ (by simp), hframe.supply (by simp)]
    refine ⟨fun _ => ⟨hheld.stage, ?_, rfl, hheld.valve, hsw, hsel, _, rfl⟩, fun hno => ?_, fun _ _ _ _ _ _ => ho⟩
    · obtain hbulk | ⟨-, hfrom⟩ := hfrom.2
      · rw [hheld.stage] at hbulk
        exact absurd hbulk (by decide)
      · exact hfrom
    · exact absurd (hno.symm.trans ho) (by decide)
  | false =>
    have htakes := takes_refill hv hc
    have hact : evaluateStage n s = recordStage n .fullHold .volume (enterBulk n s) := by
      rw [evaluateStage_unblocked ho, evaluateFill_fullHold hst hv, if_pos hlow]
    rw [hact]
    have htank := htakes.only.2.2 (tankValve n) (by cases n <;> decide)
    refine ⟨fun hyes => ?_, fun _ => ⟨by rw [htakes.tank], htakes.command, (congrArg State.supply htakes.only.1 :)⟩,
      fun hq hsel he hother hat ha => ?_⟩
    · rw [htank, hc] at hyes
      exact absurd hyes (by decide)
    · have htarget : LossTarget n (turnToBulk n s) := .inl ⟨by rw [hsupply]; exact hsel, by rw [turnToBulk_levels]; exact he⟩
      have hq' : (turnToBulk n s).param 43 = 1 := by
        unfold State.param
        rw [hparams]
        exact hq
      have hopen := (takeLoss_begun hloss hq' htarget).opens (by rw [hvalve]; exact hother) (by rw [hvalve]; exact hat)
        (by rw [hvalve]; exact ha)
      exact absurd (ho.symm.trans hopen) (by decide)

theorem evaluateStage_calm (hv : (s.tank n).volume = some v)
    (h : s.supply.loss = none ∨ (∃ x : Timer, s.supply.loss = some x ∧ x.elapsed < x.period) ∨ freeBit s = false ∨
      fillPermission s n = false ∨ (s.tank n).stage ≠ .fullHold) : evaluateStage n s = evaluateFill n s := by
  refine evaluateStage_alone (or_iff_not_imp_right.2 fun hf => Bool.eq_false_iff.2 fun hb => ?_)
  obtain ⟨hst, -, hp, hdue⟩ := (bulkWithLoss_iff hv).1 hb
  obtain h | ⟨x, h, hx⟩ | h | h | h := h
  · rw [h] at hdue
    exact absurd hdue (by decide)
  · rw [h] at hdue
    exact Nat.not_le.2 hx (of_decide_eq_true hdue)
  · exact hf h
  · rw [h] at hp
    exact absurd hp (by decide)
  · exact h hst

/-! ### Requests taken -/

theorem act_fillStart (tag : Byte) (n : Tank) (hj : judge s .fillStart = .passed) :
    act (.fillStart (BitVec.ofNat 8 (32 + n.ctorIdx))) (holdRequest 28 tag s.fresh) =
      fillAnswer n (holdRequest 28 tag s.fresh) := by
  show actFillStart _ _ = _
  rw [actFillStart, tankOfCode_tankCode]
  exact guarded_of_passed _ hj

theorem exec_fillStart_takes (tag : Byte) (hs : Ready s) (hj : judge s .fillStart = .passed)
    (hst : (s.tank n).stage = .off ∨ (s.tank n).stage = .timeout) (hp : fillPermission s n = true) :
    exec (.fillStart tag (BitVec.ofNat 8 (32 + n.ctorIdx))) s = .next (finish
      ((startFill n s.fresh).answered 28 tag .ok [BitVec.ofNat 8 ((startFill n s.fresh).tank n).stage.ctorIdx])) := by
  refine exec_blind (r := .fillStart _) (f := startFill n) (body := fun x => stageByte x n) rfl rfl rfl hs (blind_startFill n)
    (fun _ _ => rfl) ?_
  rw [act_fillStart tag n hj, fillAnswer_idle (s := holdRequest 28 tag s.fresh) hst]
  exact if_pos hp

theorem exec_fillStop (tag : Byte) (n : Tank) (hs : Ready s) : exec (.fillStop tag (BitVec.ofNat 8 (32 + n.ctorIdx))) s =
    .next (finish ((stopFill n s.fresh).answered 29 tag .ok [])) := by
  refine exec_blind (r := .fillStop _) (f := stopFill n) (body := fun _ => []) rfl rfl rfl hs (blind_stopFill n)
    (fun _ _ => rfl) ?_
  show actFillStop _ _ = _
  rw [actFillStop, tankOfCode_tankCode]
  rfl

theorem fillOnly_refl (n : Tank) (s : State) : FillOnly n s s := ⟨rfl, rfl, fun _ _ => rfl⟩

/-- A tank's record as a fill starts by its volume. -/
theorem fillingIn_byVolume (hv : (s.tank n).volume = some v) :
    fillingIn (stageByVolume s n) (freshSafety s (stageByVolume s n)) (s.tank n) = { s.tank n with
      stage := if v < topoffAt s n then .bulk else if v < fullAt s n then .topoff else .fullHold
      suspendedFrom := none
      safety := if v < topoffAt s n then some ⟨0, s.paramNat 50 * 60000⟩
        else if v < fullAt s n then some ⟨0, s.paramNat 51 * 60000⟩ else none
      phase := if v < topoffAt s n then none else if v < fullAt s n then some .openPhase else none
      cycle := if v < topoffAt s n then none else if v < fullAt s n then some ⟨2000, 0⟩ else none
      fillOpen := decide (v < topoffAt s n ∨ v < fullAt s n) } ∧
    decide (stageByVolume s n ≠ .fullHold) = decide (v < topoffAt s n ∨ v < fullAt s n) := by
  rw [stageByVolume_some hv]
  by_cases htop : v < topoffAt s n
  · simp only [htop, if_true, true_or, decide_true]
    exact ⟨rfl, rfl⟩
  · by_cases hfull : v < fullAt s n
    · simp only [htop, hfull, if_true, if_false, or_true, decide_true]
      exact ⟨rfl, rfl⟩
    · simp only [htop, hfull, if_false, or_self, decide_false]
      exact ⟨rfl, rfl⟩

/-! ### The obligation -/

/-- Settles O44: every act on a fill is a command to its valve and, but for a timer of the cycle, a notice. -/
theorem fillRequestsAndTimers : Obligations.FillRequestsAndTimers := by
  refine ⟨fun s tag b i code hs hb hb' hi => ?_, fun s tag n hs hj hoff htime => ?_, fun s tag n hs hj hst hp => ?_,
    fun s tag n v hs hj hst hp hv => ?_, fun s tag n hs => ?_, fun s n ph hp hc hph ho => ?_, fun s n hp hst => ?_,
    fun s n c hp hc => ?_, fun s n hv => evaluateStage_unread hv, fun s n v hv ho hcalm => ?_,
    fun s n v p e hv hst hlow hp hloss hdue hf => ?_, fun s n hst => reviewFill_same hst, fun s n hst hp => ?_,
    fun s n v hst hp hv => ?_⟩
  · obtain ⟨rfl, rfl⟩ | ⟨rfl, rfl⟩ := hi
    · refine exec_of_act_unchanged (r := .fillStart b) rfl rfl rfl hs ?_
      show actFillStart b _ = _
      rw [actFillStart, tankOfCode_none hb hb', plain]
    · refine exec_of_act_unchanged (r := .fillStop b) rfl rfl rfl hs ?_
      show actFillStop b _ = _
      rw [actFillStop, tankOfCode_none hb hb', plain]
  · refine exec_of_act_unchanged (r := .fillStart _) rfl rfl rfl hs ?_
    rw [act_fillStart tag n hj, fillAnswer_busy (s := holdRequest 28 tag s.fresh) hoff htime]
    rfl
  · refine exec_of_act_unchanged (r := .fillStart _) rfl rfl rfl hs ?_
    rw [act_fillStart tag n hj, fillAnswer_idle (s := holdRequest 28 tag s.fresh) hst]
    exact if_neg (by rw [show fillPermission (holdRequest 28 tag s.fresh) n = false from hp]; decide)
  · obtain ⟨m, h⟩ := startFill_takes (s := s.fresh) (n := n) (fillPermission_closed hp)
    obtain ⟨hrecord, hcommand⟩ := fillingIn_byVolume (s := s.fresh) hv
    rw [hrecord, hcommand] at h
    exact ⟨_, exec_fillStart_takes tag hs hj hst hp, h.tank, h.command, h.only.1, h.only.2.1, h.only.2.2⟩
  · refine ⟨_, exec_fillStop tag n hs, ?_⟩
    by_cases hoff : (s.tank n).stage = .off
    · rw [stopFill_off (s := s.fresh) hoff]
      exact ⟨hoff, fun _ => rfl, fun hne => absurd hoff hne, fillOnly_refl n s.fresh⟩
    · obtain ⟨m, h⟩ := stopFill_takes (s := s.fresh) hoff
      exact ⟨by rw [h.tank]; rfl, fun ho => absurd ho hoff, fun _ => ⟨h.tank, h.command⟩, h.only⟩
  · have h := expireCycle_some (s := s.fresh) hc hph ho
    exact ⟨_, exec_on hp rfl, h.tank, h.command, h.silent, h.only.2.1, h.only.2.2⟩
  · have h := expireSafety_running (s := s.fresh) hst
    exact ⟨_, exec_on hp rfl, h.tank, h.command, h.only.1, h.only.2.1, h.only.2.2,
      h.notices.trans (record_congr (s := s) (t := s.fresh) _ _ rfl rfl rfl rfl).1⟩
  · obtain ⟨rfl, hc⟩ | ⟨rfl, hb, ht⟩ := hc
    · exact exec_leaves hp rfl (expireCycle_none (s := s.fresh) hc)
    · exact exec_leaves hp rfl (expireSafety_still (s := s.fresh) hb ht)
  · obtain ⟨hsame, hmoved⟩ := evaluateFill_spec hv ho
    dsimp only
    rw [evaluateStage_calm hv hcalm]
    refine ⟨hsame, fun hne => ?_⟩
    have h := hmoved hne
    exact ⟨h.tank, h.command, h.only, h.notices, h.tx⟩
  · exact evaluateStage_together hv hst hlow hp (by rw [hloss]; exact decide_eq_true hdue) hf
  · have h := takes_suspendFill n s
    rw [← reviewFill_lost hst hp] at h
    exact ⟨h.tank, h.command, h.only, h.notices, h.tx⟩
  · have h := reviewFill_returned hst hp
    have hstage : resumeStage s n = if (s.tank n).suspendedFrom = some .fullHold ∧ refillAt s n ≤ v then .fullHold
        else if v < topoffAt s n then .bulk else if v < fullAt s n then .topoff else .fullHold := by
      rw [resumeStage, stageByVolume_some hv, hv]
      rfl
    rw [hv, hstage] at h
    exact ⟨h.tank, h.command, h.only, h.notices, h.tx⟩

end Sys2Proof.Machine
end

section
/-! PROOFS. What brings a tank's volume to its level state, and what a changed level state does to the supply (R101 to R103,
R111, R121, R130 to R133), and O43 from its parts. -/

namespace Sys2Proof.Machine

variable {s t x y u : State} {n m : Tank} {v : Nat} {old : LevelState}

/-! ### The bands (R132) -/

/-- A volume inside the band of the tank's present state. -/
def Held (s : State) (n : Tank) (v : Nat) : Prop :=
  ((s.tank n).state = .empty ∧ v ≤ emptyAt s n + hysteresis s n) ∨
  ((s.tank n).state = .low ∧ emptyAt s n < v ∧ v ≤ lowAt s n + hysteresis s n) ∨
  ((s.tank n).state = .normal ∧ lowAt s n < v ∧ v < fullAt s n) ∨
  ((s.tank n).state = .full ∧ fullAt s n - hysteresis s n ≤ v)

theorem levelKept_iff (s : State) (n : Tank) (v : Nat) : levelKept s n v (s.tank n).state = true ↔ Held s n v := by
  unfold Held
  cases (s.tank n).state <;> simp [levelKept]

theorem nextLevel_some (hv : (s.tank n).volume = some v) : nextLevel s n =
    if levelKept s n v (s.tank n).state then (s.tank n).state else entryLevel s n v := by
  unfold nextLevel
  rw [hv]

theorem nextLevel_held (hv : (s.tank n).volume = some v) (h : Held s n v) : nextLevel s n = (s.tank n).state := by
  rw [nextLevel_some hv, if_pos ((levelKept_iff s n v).2 h)]

theorem nextLevel_entered (hv : (s.tank n).volume = some v) (h : ¬Held s n v) : nextLevel s n = entryLevel s n v := by
  rw [nextLevel_some hv, if_neg (mt (levelKept_iff s n v).1 h)]

/-! ### What comes to an evaluation (R130, R137) -/

theorem modTank_congr {f g : TankRecord → TankRecord} (h : f (s.tank n) = g (s.tank n)) : s.modTank n f = s.modTank n g := by
  show { s with tanks := setTank s.tanks n (f (s.tank n)) } = { s with tanks := setTank s.tanks n (g (s.tank n)) }
  rw [h]

/-- A published level of a healthy channel, of a tank that does not estimate. -/
theorem publishTank_measured (hest : (s.tank n).estimating = none) (hok : s.healthOf (headChannel n) = .ok) :
    publishTank n s = evaluateLevel n (s.modTank n fun r => { r with
      level := s.published (headChannel n), headKnown := true
      volume := some (tableVolume r.table (s.published (headChannel n)).toNat) }) := by
  have hreads : readsHead s n = true := by simp [readsHead, hest, hok]
  have htaken : takeLevel n s = evaluateLevel n (s.modTank n fun r => { r with
      level := s.published (headChannel n), headKnown := true
      volume := some (tableVolume r.table (s.published (headChannel n)).toNat) }) := by
    rw [takeLevel_eq, if_pos hreads]
    refine congrArg (evaluateLevel n) (modTank_congr ?_)
    simp [headRead, volumeTaken, hreads, hok]
  have hread := (setLevel_level n (nextLevel (s.modTank n fun r => { r with
      level := s.published (headChannel n), headKnown := true
      volume := some (tableVolume r.table (s.published (headChannel n)).toNat) }) n) (s.modTank n fun r => { r with
      level := s.published (headChannel n), headKnown := true
      volume := some (tableVolume r.table (s.published (headChannel n)).toNat) })).2.2.2
  rw [publishTank_eq, setTaken, if_neg (by simp [hok]), htaken]
  refine if_neg ?_
  rw [tank_modTank_same] at hread
  simp only [TankRecord.readings, Prod.mk.injEq] at hread
  obtain ⟨-, -, hest', -⟩ := hread
  rw [show ((evaluateLevel n _).tank n).estimating = _ from hest', hest]
  decide

/-! ### What an evaluation leads to (R133) -/

theorem evaluateLevel_same (h : nextLevel s n = (s.tank n).state) : evaluateLevel n s = evaluateStage n s := if_pos h.symm

theorem evaluateLevel_changed (h : nextLevel s n ≠ (s.tank n).state) : evaluateLevel n s =
    reviewLowTank (runInOrder (levelReceivers n (s.tank n).state) (levelTaken n (nextLevel s n) s)) :=
  (if_neg (Ne.symm h)).trans (changeLevel_eq ..)

theorem reviewLowTank_alarm (c : AlarmCause) (s : State) : c ∈ (reviewLowTank s).alarm.causes ↔
    if c = .lowTank then s.drive.pto = .engaged ∧
      ((s.tank s.supply.selected).state = .low ∨ (s.tank s.supply.selected).state = .empty) else c ∈ s.alarm.causes := by
  unfold reviewLowTank
  dsimp only
  split
  · next hlow =>
    split
    · next hc => exact iff_of_true ((mem_addAlarm ..).2 (.inl hc)) hlow
    · next hc => exact (mem_addAlarm ..).trans (or_iff_right hc)
  · next hlow =>
    split
    · next hc => exact iff_of_false (fun hin => ((mem_removeAlarm ..).1 hin).2 hc) hlow
    · next hc => exact (mem_removeAlarm ..).trans (and_iff_left hc)

theorem reviewLowTank_frame (s : State) : reviewLowTank s = { s with alarm := (reviewLowTank s).alarm } := by
  obtain ⟨a, h, -⟩ := reviewLowTank_exists s
  rw [h]

/-! ### The supply at a change of the level state (R101 to R103, R111, R121) -/

theorem selectedEmpty_eq_false : selectedEmpty s = false ↔ (s.tank s.supply.selected).state ≠ .empty := by
  rw [Bool.eq_false_iff, Ne, selectedEmpty_iff]

theorem supplyOnLevel_unmoved (h : n ≠ s.supply.selected ∨ s.supply.state = .idle ∨ s.supply.state = .hydrant ∨
      s.supply.state = .draftPriming ∨ s.supply.state = .draft ∨
      (s.supply.state ≠ .noSupply ∧ (s.tank n).state ≠ .empty) ∨
      (s.supply.state = .noSupply ∧ (old ≠ .empty ∨ (s.tank n).state = .empty))) : supplyOnLevel n old s = s := by
  by_cases hn : n = s.supply.selected
  · subst hn
    unfold supplyOnLevel
    rw [if_neg (by simp)]
    obtain h | h | h | h | h | ⟨hst, he⟩ | ⟨hst, he⟩ := h
    · exact absurd rfl h
    · rw [h]
    · rw [h]
    · rw [h]
    · rw [h]
    · have hfull := selectedEmpty_eq_false.2 he
      split
      case h_4 hno => exact absurd hno hst
      all_goals simp [hfull]
    · rw [hst]
      refine if_neg fun hc => ?_
      obtain he | he := he
      · exact he hc.1
      · exact selectedEmpty_eq_false.1 hc.2 he
  · exact if_pos hn

theorem supplyOnLevel_empties (hst : s.supply.state = .tank ∨ s.supply.state = .switching)
    (he : (s.tank s.supply.selected).state = .empty) : supplyOnLevel s.supply.selected old s = emptyTankDecision s := by
  have hempty := (selectedEmpty_iff s).2 he
  unfold supplyOnLevel
  rw [if_neg (by simp)]
  obtain hst | hst := hst <;> rw [hst] <;> exact if_pos hempty

theorem supplyOnLevel_qualifying (hst : s.supply.state = .hydrantQualifying)
    (he : (s.tank s.supply.selected).state = .empty) : supplyOnLevel s.supply.selected old s = closeTankValves s := by
  unfold supplyOnLevel
  rw [if_neg (by simp), hst]
  exact if_pos ((selectedEmpty_iff s).2 he)

theorem supplyOnLevel_returns (hst : s.supply.state = .noSupply) (he : (s.tank s.supply.selected).state ≠ .empty) :
    supplyOnLevel s.supply.selected .empty s = returnToTank s := by
  unfold supplyOnLevel
  rw [if_neg (by simp), hst]
  exact if_pos ⟨rfl, selectedEmpty_eq_false.2 he⟩

/-- From s to u nothing changes but the tanks, the valves and the notices recorded. -/
def RigOnly (s u : State) : Prop := u = { s with tanks := u.tanks, valves := u.valves, notices := u.notices, tx := u.tx }

theorem RigOnly.trans (h : RigOnly s x) (g : RigOnly x u) : RigOnly s u :=
  Eq.trans g (congrArg (fun z : State => { z with tanks := u.tanks, valves := u.valves, notices := u.notices, tx := u.tx }) h)

theorem fillOnly_reviewFill (n : Tank) (s : State) : FillOnly n s (reviewFill n s) := by
  by_cases hst : RunningStage (s.tank n).stage
  · cases hp : fillPermission s n with
    | false =>
      rw [reviewFill_lost hst hp]
      exact (takes_suspendFill n s).only
    | true =>
      rw [reviewFill_same (.inr (.inr (.inr ⟨fun hc => by simp [RunningStage, hc] at hst, hp⟩)))]
      exact fillOnly_refl n s
  · by_cases hret : (s.tank n).stage = .suspended ∧ fillPermission s n = true
    · exact (reviewFill_returned hret.1 hret.2).only
    · have hsame : reviewFill n s = s := by
        refine reviewFill_same ?_
        cases hs : (s.tank n).stage with
        | off => exact .inl rfl
        | timeout => exact .inr (.inl rfl)
        | suspended => exact .inr (.inr (.inl ⟨rfl, Bool.eq_false_iff.2 fun hp => hret ⟨hs, hp⟩⟩))
        | bulk | topoff | fullHold => exact absurd (by simp [RunningStage, hs]) hst
      rw [hsame]
      exact fillOnly_refl n s

theorem rigOnly_closesValve (n : Tank) (s : State) : RigOnly s (commandTankValve n false s) := by
  have hact : commandTankValve n false s = reviewFill n (carryOut (tankValve n) false s) := rfl
  rw [hact]
  refine RigOnly.trans ?_ (fillOnly_reviewFill n _).1
  rw [carryOut_closes]
  exact rfl

theorem rigOnly_closeTankValves (s : State) : RigOnly s (closeTankValves s) :=
  (rigOnly_closesValve .main s).trans (rigOnly_closesValve .reserve _)

/-- The supply's override given up as NO_SUPPLY is entered. -/
theorem enterNoSupply_ends (c : ExhaustCause) (h : s.supply.switchHeld = true) :
    .switchover ∉ (enterNoSupply c s).governor.overrides := by
  have hclose : (closeTankValves s).supply = s.supply := (commandTankValve_supply ..).trans (commandTankValve_supply ..)
  have hended := endSwitchover_ended (s := closeTankValves s) (by rw [hclose]; exact h)
  have hset : (noSupplySet s).governor.overrides = (endSwitchover (closeTankValves s)).governor.overrides := by
    unfold noSupplySet
    rw [setSupply_eq]
    exact (moves_handSupply (K := handParts) (b := true) (List.Subset.refl _) (by simp) (.refl ..) (.refl ..)).overrides (by decide)
  have halarm : (enterNoSupply c s).governor.overrides = (noSupplySet s).governor.overrides := by
    rw [enterNoSupply_eq]
    exact (moves_addAlarm (K := [.alarm, .notices]) (b := true) (by decide)
      (moves_record (by decide) (.refl ..))).overrides (by decide)
  rwa [halarm, hset]

/-- An EMPTY tank that gives way to none exhausts the supply. -/
theorem emptyTankDecision_exhausts (h : ¬ReserveAllowed s) : let u := emptyTankDecision s
    Exhausted s.supply.selected s.supply.state .tankEmpty s u ∧ u.supply.settle = none ∧
    (s.supply.switchHeld = true → .switchover ∉ u.governor.overrides) ∧ u.governor.shadow = s.governor.shadow := by
  dsimp only
  rw [emptyTankDecision_refused h]
  refine ⟨enterNoSupply_exhausted .tankEmpty (.refl s), ?_, enterNoSupply_ends .tankEmpty,
    (feedKeeps_shadow s.governor.shadow).enterNoSupply .tankEmpty rfl⟩
  rw [enterNoSupply_supply]
  rfl

/-- MAIN EMPTY gives way to RESERVE: its valve is closed first. -/
theorem emptyTankDecision_turns (h : ReserveAllowed s) (he : s.drive.pto = .engaged)
    (ho : s.valves.mainValve.openCmd = true) (hat : s.valves.mainValve.state = .atOpen) : let u := emptyTankDecision s
    u.supply.state = .switching ∧ u.supply.phase = some .closingOther ∧ u.supply.switchHeld = true ∧
    (s.supply.switchHeld = false → .switchover ∈ u.governor.overrides) ∧
    u.valves.mainValve.openCmd = false ∧ u.valves.mainValve.state = .closing ∧
    u.valves.reserveValve = s.valves.reserveValve ∧ u.supply.switchFrom = switchedFrom s.supply := by
  dsimp only
  obtain ⟨hbegun, hheld⟩ := emptyTankDecision_reserve (.refl s) rfl h
  have hmain : s.valve (tankValve (otherTank .reserve)) = s.valves.mainValve := rfl
  have hclosing : (closedValve s (otherTank .reserve)).state = .closing :=
    closedValve_of_open (by rw [hmain]; exact ho) (by rw [hmain, hat]; decide)
  unfold SwitchBegun at hbegun
  dsimp only at hbegun
  rw [hmain, if_neg (by simp [hat]), if_pos ⟨by simp [hat], by rw [hclosing]; decide⟩] at hbegun
  obtain ⟨hst, -, hphase, -, hfrom, hreserve, hv⟩ := hbegun
  have hvalve : (emptyTankDecision s).valves.mainValve = closedValve s .main := hv
  refine ⟨hst, hphase, hheld hst, fun hno => ?_, by rw [hvalve]; exact closedValve_openCmd s .main, by rw [hvalve]; exact hclosing,
    hreserve, hfrom⟩
  rw [emptyTankDecision_allowed h] at hst ⊢
  rw [(beginSwitch_overrides hst).2]
  refine beginSwitchover_begun ?_ (((moves_selectTank_self .reserve s).engaged (by decide)).2 he)
  rw [selectTank_supply]
  exact hno

theorem TankFeedReturned.selected (h : TankFeedReturned s u) (he : (s.tank s.supply.selected).state ≠ .empty) :
    u.supply.selected = s.supply.selected := by
  unfold TankFeedReturned at h
  dsimp only at h
  rw [if_neg he] at h
  split at h
  · exact h.selected
  split at h
  · exact h.2.1
  · exact h.2.1

/-- NO_SUPPLY left as the selected tank is EMPTY no more: it feeds at once with the other tank's valve closed. -/
theorem returnToTank_feedsAtOnce (he : (s.tank s.supply.selected).state ≠ .empty)
    (hc : (s.valve (tankValve (otherTank s.supply.selected))).openCmd = false)
    (ha : (s.valve (tankValve s.supply.selected)).state ≠ .fault) :
    (returnToTank s).supply.state = .tank ∧ ((returnToTank s).valve (tankValve s.supply.selected)).openCmd = true ∧
    .exhausted ∉ (returnToTank s).alarm.causes := by
  have h := returnToTank_returned (s := s) (x := s) ⟨.refl s, rfl, rfl, rfl⟩
  unfold TankFeedReturned at h
  dsimp only at h
  rw [if_neg he, if_neg (by simp [hc]), if_neg fun h => ha h.2.1] at h
  obtain ⟨hst, -, -, -, hv, -⟩ := h
  exact ⟨hst, by rw [hv]; exact openedValve_openCmd s _, returnToTank_exhausted (by rw [hst]; decide)⟩

/-! ### The obligation -/

/-- Settles O43: a change of level state is one set of receivers, of which the Supply Unit acts on the selected tank alone. -/
theorem levelStateHasItsBands : Obligations.LevelStateHasItsBands := by
  refine ⟨fun s n => ⟨fun hv => (nextLevel_eq_unknown ..).1 hv, fun v hv => ⟨nextLevel_held hv, nextLevel_entered hv⟩,
      (evaluateLevel_level n s).1, (evaluateLevel_level n s).2.1⟩, fun s n hest hok => publishTank_measured hest hok,
    fun s n f inc e hest he => gateTank_some hest he, fun s hp => ?_, fun s n hp hs => ?_,
    fun s n h => evaluateLevel_same h, fun s n h => ?_, fun s => ⟨reviewLowTank_frame s, fun c => reviewLowTank_alarm c s⟩,
    fun s n old h => supplyOnLevel_unmoved h, fun s n old hst hn he => ?_, fun s n old hst hn he hr => ?_,
    fun s old hst hsel he hq hr hpto => ?_, fun s n hst hn he => ?_⟩
  · refine ⟨_, arrange_perm s.fresh.choices _, (exec_on hp rfl).trans ?_⟩
    rfl
  · refine ⟨endingRecord s.fresh n, (endingRecord s.fresh n).orElse fun _ => (s.tank n).recon, ?_⟩
    refine exec_leaves hp rfl ((expireTankSettle_settles (s := s.fresh) hs).trans ?_)
    refine congrArg (fun z => recordReconciled n (endingRecord s.fresh n) (reviewFill n (evaluateLevel n z))) (modTank_congr ?_)
    rfl
  · refine ⟨_, arrange_perm s.choices _, ?_⟩
    rw [evaluateLevel_changed h, levelTaken, record_eq_with]
    rfl
  · subst hn
    dsimp only
    rw [supplyOnLevel_qualifying hst he]
    exact ⟨(congrArg Actuator.openCmd (closeTankValves_valve .main s)).trans (closedValve_openCmd s .main),
      (congrArg Actuator.openCmd (closeTankValves_valve .reserve s)).trans (closedValve_openCmd s .reserve),
      rigOnly_closeTankValves s⟩
  · subst hn
    dsimp only
    rw [supplyOnLevel_empties hst he]
    have hno : ¬ReserveAllowed s := by
      rintro ⟨hm, hq, hnot⟩
      obtain hr | hr | hr := hr
      · rw [hm] at hr
        exact absurd hr (by decide)
      · exact hr hq
      · exact hnot hr
    obtain ⟨⟨h₁, h₂, h₃, h₄, h₅, h₆, h₇, h₈, h₉, h₁₀, h₁₁⟩, hsettle, hend, hshadow⟩ := emptyTankDecision_exhausts hno
    exact ⟨h₁, h₃, h₂, h₄, hsettle, h₅, hend, h₈, hshadow, h₆, h₇, h₉, h₁₀, h₁₁⟩
  · have hallowed : ReserveAllowed s := ⟨hsel, hq, hr⟩
    have hempty := supplyOnLevel_empties (old := old) hst (by rw [hsel]; exact he)
    rw [hsel] at hempty
    dsimp only
    rw [hempty]
    have hbegun := (emptyTankDecision_reserve (.refl s) rfl hallowed).1
    exact ⟨hbegun.selected, hbegun.bound, hbegun, fun ho hat => emptyTankDecision_turns hallowed hpto ho hat⟩
  · subst hn
    dsimp only
    rw [supplyOnLevel_returns hst he]
    have hreturned := returnToTank_returned (s := s) (x := s) ⟨.refl s, rfl, rfl, rfl⟩
    exact ⟨returnToTank_bound s, TankFeedReturned.selected hreturned he, hreturned, returnToTank_feedsAtOnce he⟩

end Sys2Proof.Machine
end
